-- ==== Sys2Proof/Word.lean ====
section
/-! DEFINITION. The machine words of the part (spec/00 "Notation and units": little-endian throughout,
bit 0 least significant) and their plainest arithmetic. -/

namespace Sys2Proof

/-- A byte of any memory of the part. -/
abbrev Byte := BitVec 8

/-- An F32 value by its bits (R126: IEEE 754 binary32). -/
abbrev F32 := BitVec 32

/-- A 64-bit word: a scalar register, an instruction word, a register of the register space. -/
abbrev Word64 := BitVec 64

end Sys2Proof
end

