-- ==== Sys2Proof/Descriptors.lean ====
section
/-! DEFINITION. The operands of the commands: instruction fields, descriptors, datagrams and images, laid
out field by field as the manual's tables give them. A descriptor is an operand of the command that reads it
(log entry 9: DESIGN CHOICE, safe); its field `resv` says that some field marked zero was not zero. -/

namespace Sys2Proof

/-! ### Operands of the control core's instructions (spec/03 "Instruction words")

A kernel instruction command carries the number `c` of the core that fetched the word, then the fields of the
word in their order; `zero` is the word's field marked zero. -/

/-- A scalar register, vector register or mask register number. -/
abbrev Reg5 := BitVec 5
abbrev Reg3 := BitVec 3

/-- Source B of a scalar operation: a register (class 0x0) or IMM (class 0x1). -/
inductive Src where
  | reg (sb : Reg5) (zero : BitVec 39)
  | imm (imm : BitVec 44)
deriving DecidableEq, Repr

/-! ### Register accesses (spec/00 "Register tables", spec/19 "Register space") -/

/-- A software write of the register space (R463): block index, byte offset in the block, width of the access
in bits, value, and whether tenant software sends it (R12). -/
structure RegWrite where
  block : Nat
  offset : Nat
  width : Nat
  value : Nat
  tenant : Bool
deriving DecidableEq, Repr

/-! ### Command descriptors (spec/03 "Command descriptors") -/

/-- Table "Operand and output entry (16 bytes)". -/
structure Entry where
  va : Nat
  kind : Nat
  length : Nat
deriving DecidableEq, Repr

/-- Table "Command descriptor (128 bytes)" with its operand, output and predecessor lists. -/
structure CmdDesc where
  format : Nat
  external : Bool
  repro : Bool
  roundNe : Bool
  service : Bool
  tid : Nat
  cmdId : Nat
  reqHandle : Nat
  codeVa : Nat
  codeLen : Nat
  opnds : List Entry
  outs : List Entry
  preds : List Nat
  facetUnits : Nat
  srSeed : BitVec 64
  sampleSeed : BitVec 64
  samplePos : BitVec 64
  args : List (BitVec 64)
  resv : Bool
deriving DecidableEq, Repr

/-! ### Tier operations (spec/07 "Tier operations" and "Shared objects") -/

/-- Table "Shared object descriptor (64 bytes)", as an operation names it. -/
structure ObjDesc where
  objId : Nat
  altPlain : Bool
  keySlot : Nat
  pages : Nat
  altTimeout : Nat
  altAddr : Nat
  altKey : Nat
  resv : Bool
deriving DecidableEq, Repr

/-- Table "Tier operation descriptor (64 bytes)". `obj` is the descriptor that ARG names in an object
operation. -/
structure TierOp where
  cls : Nat
  home : Nat
  encHome : Bool
  writable : Bool
  tid : Nat
  service : Bool
  va : Nat
  pages : Nat
  arg : Nat
  opId : Nat
  completion : Nat
  obj : ObjDesc
  resv : Bool
deriving DecidableEq, Repr

/-- A control entry of an operation ring (R386): the block whose ring it is in, the OP_ID it names in ARG, whether the entry of
that OP_ID is a long operation, and its own OP_ID and completion address. -/
structure OpControl where
  block : Nat
  arg : Nat
  long : Bool
  opId : Nat
  completion : Nat
  resv : Bool
deriving DecidableEq, Repr

/-! ### Geode (spec/08) -/

/-- A cartridge's member record: whether it names this tier, the bay it belongs to and the GEN at which it last joined. -/
structure MemberRec where
  own : Bool
  bay : Nat
  gen : Nat
deriving DecidableEq, Repr

/-- A cartridge: its serial number, rated writes in TB and member record. -/
structure Cartridge where
  serial : Nat
  ratedTb : Nat
  member : Option MemberRec
deriving DecidableEq, Repr

/-- What the part finds in an inserted cartridge: the 256 bytes of its identity block, whether its certificate passes (R208), its member
record, and what its label area and spare blocks say: bytes programmed, mean erase count in per mille, and spare blocks left in
per cent. -/
structure CartInfo where
  identity : List (BitVec 8)
  certOk : Bool
  member : Option MemberRec
  bytes : Nat
  worn : Nat
  spare : Nat
deriving DecidableEq, Repr

/-- What a flash operation is for. -/
inductive FlashWork where
  /-- A bring-up of a page, by its key. -/
  | bringUp (page : Nat)
  /-- A read of another unit of the stripe of a unit that is being reconstructed: the unit's stripe and slot. -/
  | reconstruct (stripe slot : Nat)
  /-- A journal stripe. -/
  | journal (stripe : Nat)
  /-- A Geode program of a queue item, with its operation's number. -/
  | program (item ext : Nat)
  /-- A unit that a scan or a fetch of a query reads. -/
  | scan
  | fetch (query : Nat)
  | prefetch (page : Nat)
  | writeBack (page : Nat)
  /-- The item copies and passage records of an update, by its handle; the groups that a fold of an index writes. -/
  | update (handle : Nat)
  | fold (index : Nat)
  | patrol
  | rebuild
  | collect
  | relocate
deriving DecidableEq, Repr

/-- A flash operation: what it does (2 read, 3 program, 4 erase), what for, the slot of a stripe that it is on, and the time at which it
started. -/
structure FlashOp where
  kind : Nat
  work : FlashWork
  stripe : Nat
  slot : Nat
  started : Nat
deriving DecidableEq, Repr

/-- How the decoding of a unit went (R213, R214): the most bits corrected in a codeword, the codewords that needed soft re-reads, and
the result (0 decoded, 1 reconstructed from its stripe, 2 not to be reconstructed). -/
structure ReadResult where
  corrected : Nat
  soft : Nat
  result : Nat
deriving DecidableEq, Repr

/-! ### Keator and ports (spec/15) -/

/-- A received Keator datagram of TYPE DATA (table "Keator header (48 bytes)"): `resv` says that its header holds a reserved
encoding. -/
structure KHead where
  node : Nat
  epoch : Nat
  tc : Nat
  seq : Nat
  addr : Nat
  len : Nat
  key : Nat
  opId : Nat
  order : Bool
  last : Bool
  resv : Bool
deriving DecidableEq, Repr

/-- What a received operation does. -/
inductive KBody where
  | load
  | store (bytes : List Byte)
  | put (bytes : List Byte)
  | fadd (v : BitVec 64)
  | swap (v : BitVec 64)
  | cas (compare new : BitVec 64)
deriving DecidableEq, Repr

/-- What the target of a NACK was doing it for (R397): an operation of a unit, a bring-up or write-back of the tier manager, or an
alternate fetch of an object. -/
inductive Nacked where
  | op (id : Nat)
  | bringUp (key : Nat)
  | writeBack (key : Nat)
  | alternate (obj : Nat)
deriving DecidableEq, Repr

/-- A frame that waits at a port: its traffic class, the context it is of, its bytes on the wire, and the port time at which it came
to the port. -/
structure Frame where
  tc : Nat
  ctx : Nat
  bytes : Nat
  since : Nat
deriving DecidableEq, Repr

/-- A received frame: its bytes, whether it is protected by MACsec or an EAPOL frame of key agreement, whether it passes its integrity
check and the replay window, the context of the exported window that its datagram reaches, its IP datagram's bytes and DSCP, and the fill of
the port's ingress buffer in per cent. -/
structure RxFrame where
  bytes : Nat
  secured : Bool
  eapol : Bool
  intact : Bool
  ctx : Option Nat
  ipBytes : Nat
  dscp : Nat
  fill : Nat
deriving DecidableEq, Repr

/-! ### Feature tables (spec/11) -/

/-- Table "Gather descriptor (64 bytes)". -/
structure GatherDesc where
  format : Nat
  table : Nat
  outFmt : Nat
  outMode : Nat
  cmdId : Nat
  reqHandle : Nat
  idxVa : Nat
  count : Nat
  outVa : Nat
  outLen : Nat
  preds : List Nat
  resv : Bool
deriving DecidableEq, Repr

/-- Table "Table descriptor (128 bytes)"; `heapVa` and `slots` by w = 0 to 3. -/
structure FtbDesc where
  format : Nat
  table : Nat
  tid : Nat
  shared : Bool
  defaultWidth : Nat
  round : Nat
  autoMig : Bool
  dim : Nat
  rows : Nat
  dirVa : Nat
  seed : BitVec 64
  heapVa : List Nat
  slots : List Nat
  promoteHits : Nat
  demoteHits : Nat
  decayMs : Nat
  resv : Bool
deriving DecidableEq, Repr

/-- A table operation (section "Table operations"); `arg` is the row number of FTB_MIGRATE, `desc` the table
descriptor that ARG names in FTB_CREATE. -/
structure FtbOp where
  table : Nat
  width : Nat
  arg : Nat
  desc : FtbDesc
  opId : Nat
  completion : Nat
  resv : Bool
deriving DecidableEq, Repr

/-! ### The token unit (spec/12) -/

/-- Table "Pack descriptor (64 bytes)". -/
structure PackDesc where
  format : Nat
  bestLast : Bool
  truncate : Bool
  maxPassages : Nat
  budget : Nat
  headVa : Nat
  midVa : Nat
  tailVa : Nat
  preVa : Nat
  postVa : Nat
  headN : Nat
  midN : Nat
  tailN : Nat
  preN : Nat
  postN : Nat
  resv : Bool
deriving DecidableEq, Repr

/-- Table "TXU job descriptor (64 bytes)"; `pack` is the pack descriptor that IN_VA names in a PACK. -/
structure TxuJob where
  format : Nat
  op : Nat
  last : Bool
  byteFallback : Bool
  stream : Nat
  dictId : Nat
  cmdId : Nat
  reqHandle : Nat
  inVa : Nat
  inLen : Nat
  outVa : Nat
  outLen : Nat
  preds : List Nat
  pack : PackDesc
  resv : Bool
deriving DecidableEq, Repr

/-- Table "Stop set (576 bytes)". -/
structure StopSet where
  include_ : Bool
  strings : List (List Byte)
  resv : Bool
deriving DecidableEq, Repr

/-- A TXU operation (section "TXU operations"). -/
structure TxuOp where
  shared : Bool
  tid : Nat
  id : Nat
  arg : Nat
  opId : Nat
  completion : Nat
  resv : Bool
deriving DecidableEq, Repr

/-! ### Searches (spec/10) -/

/-- Table "Filter node (16 bytes)". -/
structure FilterNode where
  op : Nat
  attr : Nat
  cmp : Nat
  value : Nat
  resv : Bool
deriving DecidableEq, Repr

/-- Table "Search block (128 bytes)" with its filter nodes; `tableA` and `tableB` are the values at TABLE_A_VA and
TABLE_B_VA, none for a zero address. `aligned`: every address of the block is aligned as the table requires. -/
structure SearchBlock where
  index : Nat
  prog : Nat
  widen : Bool
  qvecGiven : Bool
  qvecB16 : Bool
  nprobe : Nat
  maxProbes : Nat
  cand : Nat
  rescoreKeep : Nat
  filter : List FilterNode
  qvecVa : Nat
  tableAVa : Nat
  tableBVa : Nat
  resultAddr : Nat
  boostMask : BitVec 64
  q : List F32
  aligned : Bool
  resv : Bool
deriving DecidableEq, Repr

/-- A channel that a scan reads a unit from: SOURCE is its number, channel index c mod 8 of bay c div 8 (R484). -/
abbrev Channel := Nat

/-! ### Search indices (spec/09) -/

/-- Table "Update entry (64 bytes, then payload)". -/
structure UpdEntry where
  item : Nat
  op : Nat
  bitmap : BitVec 64
  nums : List Nat
  textBytes : Nat
  tokens : Nat
  entryBytes : Nat
  vec : List Byte
  text : List Byte
  toks : List Nat
  resv : Bool
deriving DecidableEq, Repr

/-- Table "Index descriptor (128 bytes)"; `load` is the batch at LOAD_VA. -/
structure IdxDesc where
  index : Nat
  tid : Nat
  binary : Bool
  ranges : Bool
  codeBytes : Nat
  vecP8 : Bool
  centB16 : Bool
  metric : Nat
  dim : Nat
  numTypes : List Nat
  sideLog2 : Nat
  partitions : Nat
  borderEps : F32
  idLimit : Nat
  autoFoldPct : Nat
  dictId : Nat
  regionVa : Nat
  centVa : Nat
  bookVa : Nat
  memberExt : Nat
  itemExt : Nat
  passageExt : Nat
  memberVa : Nat
  itemVa : Nat
  passageVa : Nat
  load : List UpdEntry
  resv : Bool
deriving DecidableEq, Repr

/-- An index operation (section "Index operations"); `desc` is the descriptor that ARG names in IDX_CREATE. -/
structure IdxOp where
  index : Nat
  desc : IdxDesc
  opId : Nat
  completion : Nat
  resv : Bool
deriving DecidableEq, Repr

/-! ### Generation (spec/13) -/

/-- Table "Model image header (64 bytes)". -/
structure ModelHdr where
  format : Nat
  encoder : Bool
  layers : Nat
  vocab : Nat
  maxContext : Nat
  kvTokenBytes : Nat
  endToken : Nat
  sites : Nat
  imageId : Nat
  resv : Bool
deriving DecidableEq, Repr

/-- Table "Instance descriptor (64 bytes)". -/
structure InstDesc where
  imageVa : Nat
  imageLen : Nat
  kvPoolVa : Nat
  kvPoolPages : Nat
  dictId : Nat
  siteVa : Nat
  srKey : BitVec 64
  passRows : Nat
  chunkMin : Nat
  chunkRepro : Nat
  passes : Nat
  resv : Bool
deriving DecidableEq, Repr

/-- A generation operation (section "Model instances"): `desc` is the instance descriptor at ADDR and `hdr` the
header of the image that it names. -/
structure GenOp where
  inst : Nat
  tid : Nat
  desc : InstDesc
  hdr : ModelHdr
  opId : Nat
  completion : Nat
  resv : Bool
deriving DecidableEq, Repr

/-- Table "Generation block (64 bytes)". -/
structure GenBlock where
  inst : Nat
  draftInst : Nat
  draftMode : Nat
  draftMax : Nat
  repro : Bool
  maxNew : Nat
  temperature : F32
  topP : F32
  minP : F32
  topK : Nat
  streamTokens : Bool
  ignoreEnd : Bool
  grammar : Nat
  grammarEn : Bool
  seed : BitVec 64
  stopVa : Nat
  shipAddr : Nat
  shipKey : Nat
  resv : Bool
deriving DecidableEq, Repr

/-- Table "Ship record (64 bytes)". -/
structure ShipRec where
  kind : Nat
  inst : Nat
  tid : Nat
  count : Nat
  shipId : Nat
  reply : Nat
  offsets : List Nat
  resv : Bool
deriving DecidableEq, Repr

/-- A ship record without its offsets. -/
structure ShipHead where
  kind : Nat
  inst : Nat
  tid : Nat
  count : Nat
  shipId : Nat
  reply : Nat
  resv : Bool
deriving DecidableEq, Repr

/-- The ship record of these fields and offsets. -/
def ShipHead.record (h : ShipHead) (offsets : List Nat) : ShipRec :=
  ⟨h.kind, h.inst, h.tid, h.count, h.shipId, h.reply, offsets, h.resv⟩

/-- The fields of a ship record before its offsets. -/
def ShipRec.head (r : ShipRec) : ShipHead := ⟨r.kind, r.inst, r.tid, r.count, r.shipId, r.reply, r.resv⟩

/-- Table "Manifest". -/
structure Manifest where
  format : Nat
  repro : Bool
  tid : Nat
  kvLen : Nat
  pages : List Nat
  firstToken : Nat
  imageId : Nat
  grammarState : Nat
  bytesOut : Nat
  held : List Byte
  gen : GenBlock
  stop : StopSet
  sites : List Byte
deriving DecidableEq, Repr

/-- What the commands of a pass give a member: the logits of each sampled row, and, from the last pass of a re-rank stage, the
order of its passages with their scores. The tenant's model images compute them. -/
structure MemberOut where
  logits : List (List F32)
  ranks : List (Nat × F32)
deriving DecidableEq, Repr

/-! ### Measured runs (spec/14 "Loupe", spec/03 "CORE_ registers") -/

/-- What the part measures of one run of a command on a core: the dispatcher time at which the core is free, busy
beats, beats stalled by the classes HBM, FACET, NOC and TIER, beats an instruction was held by the reasons of
CORE_HOLD, the facet port's bytes and waiting beats, array beats waiting for a tile, and bytes moved by stack. -/
structure Sample where
  free : Nat
  busy : Nat
  stalls : List Nat
  holds : List Nat
  portBytes : Nat
  portWait : Nat
  tileWait : Nat
  hbm : List Nat
deriving DecidableEq, Repr

/-! ### Queue entries (spec/14 "Command queues") -/

/-- What a queue entry names: TYPE 1 command, 2 gather, 3 TXU job; others reserved. -/
inductive Job where
  | command (d : CmdDesc)
  | gather (d : GatherDesc)
  | txu (d : TxuJob)
  | reserved
deriving DecidableEq, Repr

/-- Table "Queue entry (32 bytes)" with the descriptor it names. -/
structure QEntry where
  job : Job
  chargeTid : Nat
  svcCharge : Bool
  reqHandle : Nat
  soloRatio : Nat
  resv : Bool
deriving DecidableEq, Repr

/-- A step that the request sequencer does for a request: its handle, and the commands that it queues where the step begins (R76, R486; log
entry 60: DESIGN CHOICE, safe). -/
structure SeqCall where
  handle : Nat
  items : List QEntry
deriving DecidableEq, Repr

/-! ### Brixux descriptors (spec/14 "Tenant rings") -/

/-- Table "Request descriptor (256 bytes)" with the blocks that it names: search block, generation block, stop
set, pack descriptor and update batch. `batchBytes` is the length of the batch. -/
structure ReqDesc where
  format : Nat
  kind : Nat
  retrieve : Bool
  rerank : Bool
  generate : Bool
  inline_ : Bool
  questionLen : Nat
  tag : Nat
  questionVa : Nat
  embedInst : Nat
  rerankInst : Nat
  target : Nat
  streamAddr : Nat
  streamKey : Nat
  streamLog2 : Nat
  index : Nat
  message : List Byte
  question : List Byte
  search : SearchBlock
  gen : GenBlock
  stop : StopSet
  pack : PackDesc
  batch : List UpdEntry
  resv : Bool
deriving DecidableEq, Repr

/-- A descriptor read from a tenant ring: the ring, its dispatcher time in 10 ns units, and the descriptor. -/
structure RingRead where
  tid : Nat
  ring : Nat
  time : Nat
  d : ReqDesc
deriving DecidableEq, Repr

/-- An update's descriptor as it is read, and the commands of the update (R76, R234; log entry 60: DESIGN CHOICE, safe). -/
structure UpdateRead where
  read : RingRead
  items : List QEntry
deriving DecidableEq, Repr

/-- A held descriptor as it is admitted: its handle, its blocks as they are read then (R258, R380), and the commands of an update. -/
structure HeldRead where
  handle : Nat
  d : ReqDesc
  items : List QEntry
deriving DecidableEq, Repr

/-! ### Power, errors, start-up and Onyx (spec/16 to spec/19) -/

/-- What the supervisor measures: input voltage in mV, input current in units of 10 mA over the average that the event names, input
power in W, and the TJ of C0, C1 and H in °C. -/
structure Meas where
  vin : Nat
  iin : Nat
  power : Nat
  tj0 : Nat
  tj1 : Nat
  tjh : Nat
deriving DecidableEq, Repr

/-- What the scrubber reads next, and finds there: nothing wrong (0), a correctable (1) or an uncorrectable error (2); and the run that an
uncorrectable error of a running core ends. `demand`: a read of a command or a unit has met a correctable error of a RAS source, of a stack
where it is HBM, and the part corrects it as the scrubber does (R167, R174, R433; log entry 87: DESIGN CHOICE, safe). -/
inductive ScrubRead where
  | demand (source stack : Nat)
  | hbm (found : Nat)
  | sram (found : Nat) (m : Sample)
deriving DecidableEq, Repr

/-- What Onyx finds of a boot image in the NOR (R451): whether its header holds no reserved value, its ROOT, whether PUBKEY has the
fused digest and SIGNATURE verifies, its SVN, whether the body has the digest, and header bytes 0x00 to 0x7F. -/
structure Image where
  fields : Bool
  root : Nat
  pubkey : Bool
  signature : Bool
  svn : Nat
  body : Bool
  header : List (BitVec 8)
deriving DecidableEq, Repr

/-- What start-up finds: Onyx's self-tests and sealed store, the images, stacks that fail training, cores, facets, stacks and bays with a
failed checker, the cartridges, ports that fail training, die-to-die links that fail, and the digest of Onyx firmware. -/
structure Boot where
  onyx : Bool
  store : Bool
  imageA : Option Image
  imageB : Option Image
  badStacks : List Nat
  badCores : List Nat
  badFacets : List Nat
  badDecoders : List Nat
  badBays : List Nat
  carts : List (Nat × CartInfo)
  badPorts : List Nat
  badLinks : List Nat
  firmware : List (BitVec 8)
  /-- Journal stripes, by number, that were programmed whole and not acknowledged when power went, and whose CRCs all match (R194). -/
  found : List Nat
deriving DecidableEq, Repr

/-- A signed envelope (R449): officer index, COUNTER, and whether the signature verifies under that officer's key over the digest of
this command. -/
structure Envelope where
  officer : Nat
  counter : Nat
  verifies : Bool
deriving DecidableEq, Repr

/-- An Onyx command (64 bytes): SLOT, REG, ARG, OP_ID, COMPLETION, and whether some bit marked zero is not. -/
structure OnxOp where
  slot : Nat
  reg : Nat
  arg : Nat
  opId : Nat
  completion : Nat
  resv : Bool
deriving DecidableEq, Repr

/-- What writes of MGT_NOR_XFER and of MGT_NOR_CTL with GO set ask for: NOR_ADDR, LENGTH and BUF; whether the range of the image that does
not run holds an image that Onyx would accept (R466), and whether the device reports an error. -/
structure NorOp where
  addr : Nat
  length : Nat
  buf : Nat
  other : Bool
  broken : Bool
deriving DecidableEq, Repr

end Sys2Proof
end

