-- ==== Sys2Proof/Syntax.lean ====
section
/-! DEFINITION. The commands: one constructor per row of spec/opcode_table.json. -/

namespace Sys2Proof

/-- The commands of the part, in the order of the table of operations and events. -/
inductive Instr where
  /-- A software write to a register field that has no row of its own (R14). -/
  | regWrite (w : RegWrite)
  -- Scalar operations (table "Scalar operations", R64, R65)
  | add (c : Nat) (sd sa : Reg5) (b : Src)
  | sub (c : Nat) (sd sa : Reg5) (b : Src)
  | mul (c : Nat) (sd sa : Reg5) (b : Src)
  | mulhu (c : Nat) (sd sa : Reg5) (b : Src)
  | and (c : Nat) (sd sa : Reg5) (b : Src)
  | or (c : Nat) (sd sa : Reg5) (b : Src)
  | xor (c : Nat) (sd sa : Reg5) (b : Src)
  | sll (c : Nat) (sd sa : Reg5) (b : Src)
  | srl (c : Nat) (sd sa : Reg5) (b : Src)
  | sra (c : Nat) (sd sa : Reg5) (b : Src)
  | slt (c : Nat) (sd sa : Reg5) (b : Src)
  | sltu (c : Nat) (sd sa : Reg5) (b : Src)
  | min (c : Nat) (sd sa : Reg5) (b : Src)
  | max (c : Nat) (sd sa : Reg5) (b : Src)
  | fadd (c : Nat) (sd sa : Reg5) (b : Src)
  | fsub (c : Nat) (sd sa : Reg5) (b : Src)
  | fmul (c : Nat) (sd sa : Reg5) (b : Src)
  | fmin (c : Nat) (sd sa : Reg5) (b : Src)
  | fmax (c : Nat) (sd sa : Reg5) (b : Src)
  | fcvtF32I64 (c : Nat) (sd sa : Reg5) (b : Src)
  | fcvtI64F32 (c : Nat) (sd sa : Reg5) (b : Src)
  | li (c : Nat) (sd sa : Reg5) (b : Src)
  | lih (c : Nat) (sd sa : Reg5) (b : Src)
  -- Branches (class 0x2, R67)
  | br (c : Nat) (sa sb : Reg5) (cond : BitVec 3) (zero : BitVec 17) (off : BitVec 24)
  | jl (c : Nat) (sa sb : Reg5) (cond : BitVec 3) (zero : BitVec 17) (off : BitVec 24)
  | jr (c : Nat) (sa sb : Reg5) (cond : BitVec 3) (zero : BitVec 17) (off : BitVec 24)
  -- Scalar loads and stores (class 0x3, R68)
  | ld8 (c : Nat) (sd sa : Reg5) (zero : BitVec 20) (off : BitVec 24)
  | ld16 (c : Nat) (sd sa : Reg5) (zero : BitVec 20) (off : BitVec 24)
  | ld32 (c : Nat) (sd sa : Reg5) (zero : BitVec 20) (off : BitVec 24)
  | ld64 (c : Nat) (sd sa : Reg5) (zero : BitVec 20) (off : BitVec 24)
  | st8 (c : Nat) (ss sa : Reg5) (zero : BitVec 20) (off : BitVec 24)
  | st16 (c : Nat) (ss sa : Reg5) (zero : BitVec 20) (off : BitVec 24)
  | st32 (c : Nat) (ss sa : Reg5) (zero : BitVec 20) (off : BitVec 24)
  | st64 (c : Nat) (ss sa : Reg5) (zero : BitVec 20) (off : BitVec 24)
  -- Stager and control (classes 0x4 and 0x8)
  | stage (c : Nat) (sa : Reg5) (zero : BitVec 49)
  | nop (c : Nat) (zero : BitVec 54)
  | fence (c : Nat) (zero : BitVec 52) (scope : BitVec 2)
  | commit (c : Nat) (zero : BitVec 54)
  | abort (c : Nat) (zero : BitVec 38) (code : BitVec 16)
  -- Matrix (class 0x5)
  | mloadW (c : Nat) (sa sf : Reg5) (pairing : BitVec 4) (cscale : BitVec 1) (zero : BitVec 39)
  | mrun (c : Nat) (sa sm sr sf : Reg5) (rscale : BitVec 2) (accum swap : BitVec 1) (colsel : BitVec 2)
      (pairing : BitVec 4) (zero : BitVec 24)
  | mdrain (c : Nat) (sd sm sr : Reg5) (clear : BitVec 1) (zero : BitVec 38)
  | mtov (c : Nat) (vd sr : Reg5) (clear : BitVec 1) (zero : BitVec 43)
  -- Vector (class 0x6)
  | vld (c : Nat) (vd sa : Reg5) (elem : BitVec 8) (widen : BitVec 1) (zero : BitVec 35)
  | vst (c : Nat) (vs sa : Reg5) (elem : BitVec 8) (vm : Reg3) (zero : BitVec 33)
  | vbcast (c : Nat) (vd sa : Reg5) (zero : BitVec 44)
  | vchain (c : Nat) (sa : Reg5) (zero : BitVec 49)
  | vred (c : Nat) (sd va : Reg5) (vm : Reg3) (op : BitVec 3) (zero : BitVec 38)
  | vderiv (c : Nat) (vd ve sa sb : Reg5) (zero : BitVec 34)
  | vmset (c : Nat) (md : Reg3) (sa : Reg5) (zero : BitVec 46)
  | vmld (c : Nat) (md : Reg3) (sa : Reg5) (zero : BitVec 46)
  | vmst (c : Nat) (ms : Reg3) (sa : Reg5) (zero : BitVec 46)
  -- Select (class 0x7)
  | selk (c : Nat) (sa : Reg5) (zero : BitVec 49)
  | selt (c : Nat) (sa : Reg5) (zero : BitVec 49)
  -- External (class 0x9)
  | kput (c : Nat) (sa : Reg5) (zero : BitVec 49)
  | geoProgram (c : Nat) (sa : Reg5) (zero : BitVec 49)
  -- Dispatcher and cores (spec/03, spec/14)
  | commandDispatch (item core time : Nat)
  | commandEnd (core : Nat) (m : Sample)
  | coreFault (core kind source detail : Nat) (m : Sample)
  | externalOverrunTimeout (core time : Nat) (m : Sample)
  | coreRetire (core v : Nat)
  | coreOffline (core v : Nat)
  | facetDrain (facet v : Nat)
  | placement (time : Nat)
  | sliceEnd (core time : Nat)
  | graceWindowEnd (core time : Nat) (m : Sample)
  | periodBoundary (time : Nat)
  | loupeWindowEnd (time : Nat)
  | brxDoorbell (tid ring tail time : Nat)
  | hostRecordWrite (key : Nat)
  | hostHeadPoll (key head time : Nat)
  | tenantEnable (tid v : Nat)
  | dspPostTail (tail : Nat) (entries : List QEntry)
  | opSuspend (e : OpControl)
  | opResume (e : OpControl)
  | opCancel (e : OpControl)
  -- The tier manager (spec/07)
  | reservationGrant (item time : Nat)
  | pageBringUpDone (key time : Nat)
  | writeBack (key time : Nat)
  | writeBackDone (key : Nat) (ok : Bool) (time : Nat)
  | pageEvict (key time : Nat)
  | hbmUeLine (stack line time : Nat)
  | journalGroupFlush (time : Nat)
  | journalStripeAck (stripe time : Nat)
  | checkpoint (time : Nat)
  | objPageRecovery (obj : Nat) (pages : List (Nat × Nat)) (time : Nat)
  | altFetchTimeout (obj time : Nat)
  | map (o : TierOp)
  | unmap (o : TierOp)
  | setHome (o : TierOp) (n : Nat)
  | prefetch (o : TierOp) (n : Nat)
  | evict (o : TierOp) (n : Nat)
  | pin (o : TierOp)
  | unpin (o : TierOp)
  | mapShared (o : TierOp)
  | objRegister (o : TierOp)
  | objSetAlt (o : TierOp)
  | objSeal (o : TierOp)
  | objRewrite (o : TierOp)
  | objRetire (o : TierOp)
  | hbmRetire (stack v : Nat)
  | stackFail (stack time : Nat)
  -- Feature tables (spec/11)
  | ftbCreate (o : FtbOp)
  | ftbDrop (o : FtbOp)
  | ftbMigrate (o : FtbOp)
  | gather (item time : Nat)
  | scatterAddApply (table time : Nat)
  | decayTick (table time : Nat)
  | migrationStart (table row : Nat)
  | migrationSwitch (table row : Nat)
  | migrationFree (table row : Nat)
  -- The token unit (spec/12)
  | open_ (item time : Nat)
  | feed (item time : Nat)
  | pack (item time : Nat)
  | contextEvict (handle stream time : Nat)
  | dictLoad (o : TxuOp)
  | dictUnload (o : TxuOp)
  | gramLoad (o : TxuOp) (n : Nat)
  | gramUnload (o : TxuOp)
  -- Search indices (spec/09)
  | idxCreate (o : IdxOp)
  | idxDrop (o : IdxOp)
  | idxFold (o : IdxOp)
  | idxRepair (o : IdxOp)
  | itemCopyWrite (index handle item : Nat)
  | foldPublish (index n : Nat)
  | foldReclaim (index : Nat)
  | idxCtlWrite (v : Nat)
  -- Searches (spec/10)
  | probeOrder (call : SeqCall) (emb : Nat)
  | probeDispatch (call : SeqCall)
  | scanUnitScore (handle part group channel : Nat)
  | sideListSearch (call : SeqCall)
  | mergeStart (handle : Nat)
  | candidateFetch (handle : Nat)
  | rescore (call : SeqCall)
  | passageFetch (handle : Nat)
  | csuProgLoad (slot addr : Nat)
  -- Generation and the request path (spec/13, spec/12, spec/01)
  | genModelLoad (o : GenOp)
  | genModelUnload (o : GenOp)
  | formPass (inst : Nat) (items : List (QEntry × Option Nat)) (time : Nat)
  | passCommit (inst pass : Nat) (outs : List MemberOut) (time : Nat)
  | detokenise (handle time : Nat)
  | grammarAdvance (handle cmdId recVa time : Nat)
  | draftWalk (handle : Nat) (drafts : List Nat) (cmdId recVa time : Nat)
  | stageAdvance (handle : Nat) (items : List QEntry) (time : Nat)
  -- Shipping (spec/13 "Shipping KV between parts")
  | shipClaim (r : ShipRec) (time : Nat)
  | shipGrant (h : ShipHead) (offsets : List Nat) (time : Nat)
  | shipChunk (handle time : Nat)
  | shipManifest (r : ShipRec) (m : Manifest) (d : ReqDesc) (time : Nat)
  | shipAck (r : ShipRec) (time : Nat)
  | shipNack (r : ShipRec) (time : Nat)
  | shipAbort (r : ShipRec) (time : Nat)
  | orphanMsExpiry (tid shipId time : Nat)
  -- Brixux descriptors (spec/14 "Tenant rings", spec/01)
  | request (x : RingRead)
  | indexUpdate (x : UpdateRead)
  | cancel (x : RingRead)
  | suspend (x : RingRead)
  | resume (x : RingRead)
  | service (x : RingRead)
  | heldRequestAdmit (h : HeldRead) (time : Nat)
  -- Geode (spec/08)
  | flashOpStart (channel : Nat) (done : Bool) (waiting : List FlashOp) (time : Nat)
  | flashUnitRead (channel : Nat) (r : ReadResult) (time : Nat)
  | geoProgramAck (item ext time : Nat)
  | garbageCollect (stripes : List Nat) (fold : Bool) (worn : List (Nat × Nat × Nat)) (time : Nat)
  | patrolRead (r : ReadResult) (time : Nat)
  | patrolPeriodEnd (time : Nat)
  | cartridgeInsert (bay : Nat) (c : CartInfo) (time : Nat)
  | cartridgeRemoved (bay time : Nat)
  | channelUnanswered (channel time : Nat)
  | bayEject (bay v : Nat)
  | bayReadyToPull (bay time : Nat)
  | bayAdmit (bay v : Nat)
  | rebuildStripe (bay time : Nat)
  -- Keator and ports (spec/15)
  | load (h : KHead) (time : Nat)
  | store (h : KHead) (bytes : List Byte) (time : Nat)
  | put (h : KHead) (bytes : List Byte) (time : Nat)
  | fadd64 (h : KHead) (v : BitVec 64) (time : Nat)
  | swap64 (h : KHead) (v : BitVec 64) (time : Nat)
  | cas64 (h : KHead) (compare new : BitVec 64) (time : Nat)
  | ktrAck (node tc ack rtt epoch : Nat) (ce : Bool) (time : Nat)
  | ktrResp (id epoch time : Nat)
  | ktrNack (a : Nacked) (reason time : Nat)
  | rtoExpiry (node tc seq time : Nat)
  | unreachTimeout (node time : Nat)
  | linkDrop (port : Nat) (shed : Bool) (time : Nat)
  | ktrWinSync (v : Nat)
  | frameSend (port ns : Nat) (waiting : List Frame) (lastPn : Bool)
  | frameReceive (port ns : Nat) (f : RxFrame)
  | gateGo (port v ns : Nat)
  | gateSwitch (port ns : Nat)
  | gateEntryEnd (port ns : Nat)
  | ptpLock (port ns offset path : Nat)
  | ptpMasterLost (port ns : Nat)
  | queueSample (port ns : Nat) (queues : List (Nat × Nat))
  -- Clocked edges and power (spec/02, spec/16)
  | refOscFault (time : Nat)
  | refOscReturn (time : Nat)
  | islandClockStop (i idle time : Nat)
  | islandWake (i latency time : Nat)
  | islandReset (i v : Nat) (inFlight : List Nat) (time : Nat)
  | islandResetExit (i time : Nat)
  | linkUp (port time : Nat)
  | targetWrite (v time : Nat)
  | rampDone (time : Nat)
  | surgeEnter (m : Meas) (time : Nat)
  | surgeLeave (reason : Nat) (m : Meas) (time : Nat)
  | inputOver44V (m : Meas) (time : Nat)
  | inputOver48V (m : Meas) (time : Nat)
  | psmFault (psm : Nat) (m : Meas) (time : Nat)
  | inputCurrentHigh (m : Meas) (time : Nat)
  | dutyStep (m : Meas) (time : Nat)
  | tjHot (m : Meas) (time : Nat)
  | thermalStep (m : Meas) (time : Nat)
  | tjTrip (m : Meas) (time : Nat)
  | shedStepEnter (step : Nat) (m : Meas) (time : Nat)
  | shedStepLeave (step : Nat) (m : Meas) (boot : Boot) (time : Nat)
  | flushComplete (time : Nat)
  | inputBelow18V (m : Meas) (time : Nat)
  -- Errors and scrubbing (spec/17)
  | facetStoreUe (facet unit time : Nat)
  | d2dLinkFail (link time : Nat)
  | d2dRetrain (link retries : Nat) (retrains failed : Bool) (time : Nat)
  | scrubRead (r : ScrubRead) (time : Nat)
  | scrubPeriodEnd (hbm : Bool) (time : Nat)
  | rasInjectWrite (v : Nat) (m : Sample) (time : Nat)
  | rasRetireClr (v : Nat)
  -- Onyx (spec/18)
  | report (o : OnxOp)
  | keyImport (o : OnxOp) (unwrapped : Option Nat) (env : Option Envelope)
  | keyGenerate (o : OnxOp) (env : Option Envelope)
  | keyDestroy (o : OnxOp) (env : Option Envelope)
  | extend (o : OnxOp)
  | kemRotate (o : OnxOp)
  | rollbackCommit (o : OnxOp) (env : Option Envelope)
  | officerEnroll (o : OnxOp) (index : Nat) (key : List Byte) (env : Option Envelope)
  | rootRevoke (o : OnxOp) (root : Nat) (env : Option Envelope)
  | zeroise (o : OnxOp) (env : Option Envelope) (boot : Boot)
  | debugUnlock (o : OnxOp) (env : Option Envelope) (boot : Boot)
  | tamperTrigger (cause : Nat) (boot : Boot) (time : Nat)
  | sakRotate (port : Nat)
  -- Start-up, management and the event recorder (spec/19)
  | powerOnReset (boot : Boot)
  | warmRestart (cause v : Nat) (boot : Boot) (time : Nat)
  | pldmColdRestart (boot : Boot)
  | readyWrite (v : Nat)
  | partSvcDone (v : Nat)
  | norErase (r : NorOp)
  | norProgram (r : NorOp) (data : List Byte)
  | norRead (r : NorOp)
  | pldmSensorUpdate (time : Nat)
  | pldmReadEventLog
  | evrRelease (seq : Nat)
  | evrRecRead (w n : Nat)
  | evrFreezeWrite (v time : Nat)
  | freezeTimeout (time : Nat)
  | evrMirror (time : Nat)
  | opSecondsSave (time : Nat)
  -- A word that is no instruction (R66)
  | reservedInstructionWord (c : Nat) (w : Word64)
deriving DecidableEq, Repr

end Sys2Proof
end

