-- ==== Sys2Proof/Decode.lean ====
section
/-! DEFINITION. The words of kernel instructions (spec/03 "Instruction words", spec/04 table "Matrix operations (class 0x5)", spec/06 tables
"Vector operations (class 0x6)" and "Select operations (class 0x7)"), and the words of the opcode table, which gives none. -/

namespace Sys2Proof

/-- The opcode table gives no row any bits: no word spells a command. -/
def decodeTableWord (_nbits _w : Nat) : Option Instr := none

/-- Bits `lo` to `lo + n - 1` of a word. -/
def slice (w : Word64) (lo n : Nat) : BitVec n := w.extractLsb' lo n

/-- The scalar operation of an OP (table "Scalar operations (classes 0x0 and 0x1)"). -/
def scalarOf (c : Nat) (sd sa : Reg5) (b : Src) : Nat → Option Instr
  | 0x00 => some (.add c sd sa b)
  | 0x01 => some (.sub c sd sa b)
  | 0x02 => some (.mul c sd sa b)
  | 0x03 => some (.mulhu c sd sa b)
  | 0x04 => some (.and c sd sa b)
  | 0x05 => some (.or c sd sa b)
  | 0x06 => some (.xor c sd sa b)
  | 0x07 => some (.sll c sd sa b)
  | 0x08 => some (.srl c sd sa b)
  | 0x09 => some (.sra c sd sa b)
  | 0x0A => some (.slt c sd sa b)
  | 0x0B => some (.sltu c sd sa b)
  | 0x0C => some (.min c sd sa b)
  | 0x0D => some (.max c sd sa b)
  | 0x10 => some (.fadd c sd sa b)
  | 0x11 => some (.fsub c sd sa b)
  | 0x12 => some (.fmul c sd sa b)
  | 0x13 => some (.fmin c sd sa b)
  | 0x14 => some (.fmax c sd sa b)
  | 0x15 => some (.fcvtF32I64 c sd sa b)
  | 0x16 => some (.fcvtI64F32 c sd sa b)
  | 0x20 => some (.li c sd sa b)
  | 0x21 => some (.lih c sd sa b)
  | _ => none

/-- The branch of an OP (table "Branch conditions (class 0x2)"). -/
def branchOf (c : Nat) (w : Word64) : Nat → Option Instr
  | 0x00 => some (.br c (slice w 49 5) (slice w 44 5) (slice w 41 3) (slice w 24 17) (slice w 0 24))
  | 0x01 => some (.jl c (slice w 49 5) (slice w 44 5) (slice w 41 3) (slice w 24 17) (slice w 0 24))
  | 0x02 => some (.jr c (slice w 49 5) (slice w 44 5) (slice w 41 3) (slice w 24 17) (slice w 0 24))
  | _ => none

/-- The scalar load or store of an OP (class 0x3). -/
def accessOf (c : Nat) (w : Word64) : Nat → Option Instr
  | 0x00 => some (.ld8 c (slice w 49 5) (slice w 44 5) (slice w 24 20) (slice w 0 24))
  | 0x01 => some (.ld16 c (slice w 49 5) (slice w 44 5) (slice w 24 20) (slice w 0 24))
  | 0x02 => some (.ld32 c (slice w 49 5) (slice w 44 5) (slice w 24 20) (slice w 0 24))
  | 0x03 => some (.ld64 c (slice w 49 5) (slice w 44 5) (slice w 24 20) (slice w 0 24))
  | 0x08 => some (.st8 c (slice w 49 5) (slice w 44 5) (slice w 24 20) (slice w 0 24))
  | 0x09 => some (.st16 c (slice w 49 5) (slice w 44 5) (slice w 24 20) (slice w 0 24))
  | 0x0A => some (.st32 c (slice w 49 5) (slice w 44 5) (slice w 24 20) (slice w 0 24))
  | 0x0B => some (.st64 c (slice w 49 5) (slice w 44 5) (slice w 24 20) (slice w 0 24))
  | _ => none

/-- The matrix operation of an OP (class 0x5). -/
def matrixOf (c : Nat) (w : Word64) : Nat → Option Instr
  | 0x00 => some (.mloadW c (slice w 49 5) (slice w 44 5) (slice w 40 4) (slice w 39 1) (slice w 0 39))
  | 0x01 => some (.mrun c (slice w 49 5) (slice w 44 5) (slice w 39 5) (slice w 34 5) (slice w 32 2) (slice w 31 1) (slice w 30 1) (slice w 28 2)
      (slice w 24 4) (slice w 0 24))
  | 0x02 => some (.mdrain c (slice w 49 5) (slice w 44 5) (slice w 39 5) (slice w 38 1) (slice w 0 38))
  | 0x03 => some (.mtov c (slice w 49 5) (slice w 44 5) (slice w 43 1) (slice w 0 43))
  | _ => none

/-- The vector operation of an OP (class 0x6). -/
def vectorOf (c : Nat) (w : Word64) : Nat → Option Instr
  | 0x00 => some (.vld c (slice w 49 5) (slice w 44 5) (slice w 36 8) (slice w 35 1) (slice w 0 35))
  | 0x01 => some (.vst c (slice w 49 5) (slice w 44 5) (slice w 36 8) (slice w 33 3) (slice w 0 33))
  | 0x02 => some (.vbcast c (slice w 49 5) (slice w 44 5) (slice w 0 44))
  | 0x03 => some (.vchain c (slice w 49 5) (slice w 0 49))
  | 0x04 => some (.vred c (slice w 49 5) (slice w 44 5) (slice w 41 3) (slice w 38 3) (slice w 0 38))
  | 0x05 => some (.vderiv c (slice w 49 5) (slice w 44 5) (slice w 39 5) (slice w 34 5) (slice w 0 34))
  | 0x06 => some (.vmset c (slice w 51 3) (slice w 46 5) (slice w 0 46))
  | 0x07 => some (.vmld c (slice w 51 3) (slice w 46 5) (slice w 0 46))
  | 0x08 => some (.vmst c (slice w 51 3) (slice w 46 5) (slice w 0 46))
  | _ => none

/-- The control operation of an OP (class 0x8). -/
def controlOf (c : Nat) (w : Word64) : Nat → Option Instr
  | 0x00 => some (.nop c (slice w 0 54))
  | 0x01 => some (.fence c (slice w 2 52) (slice w 0 2))
  | 0x02 => some (.commit c (slice w 0 54))
  | 0x03 => some (.abort c (slice w 16 38) (slice w 0 16))
  | _ => none

/-- The instruction of a word on core `c`; none where the class or the operation is reserved (R66). Both external operations have the same
word: the descriptor that it addresses names the work. -/
def decodeWord (c : Nat) (w : Word64) : Option Instr :=
  let op := (slice w 54 6).toNat
  match (slice w 60 4).toNat with
  | 0x0 => scalarOf c (slice w 49 5) (slice w 44 5) (.reg (slice w 39 5) (slice w 0 39)) op
  | 0x1 => scalarOf c (slice w 49 5) (slice w 44 5) (.imm (slice w 0 44)) op
  | 0x2 => branchOf c w op
  | 0x3 => accessOf c w op
  | 0x4 => if op = 0 then some (.stage c (slice w 49 5) (slice w 0 49)) else none
  | 0x5 => matrixOf c w op
  | 0x6 => vectorOf c w op
  | 0x7 => match op with
    | 0x00 => some (.selk c (slice w 49 5) (slice w 0 49))
    | 0x01 => some (.selt c (slice w 49 5) (slice w 0 49))
    | _ => none
  | 0x8 => controlOf c w op
  | 0x9 => if op = 0 then some (.kput c (slice w 49 5) (slice w 0 49)) else none
  | _ => none

/-- A word of a class and an operation with the 54 bits that follow them. -/
def wordOf (cls : BitVec 4) (op : BitVec 6) (rest : BitVec 54) : Word64 := cls ++ op ++ rest

/-- A scalar word: class 0x0 with a register, class 0x1 with an immediate. -/
def scalarEnc (op : BitVec 6) (sd sa : Reg5) : Src → Word64
  | .reg sb zero => wordOf 0 op (sd ++ sa ++ sb ++ zero)
  | .imm imm => wordOf 1 op (sd ++ sa ++ imm)

/-- The word of a kernel instruction. -/
def encode : Instr → Option Word64
  | .add _ sd sa b => some (scalarEnc 0x00 sd sa b)
  | .sub _ sd sa b => some (scalarEnc 0x01 sd sa b)
  | .mul _ sd sa b => some (scalarEnc 0x02 sd sa b)
  | .mulhu _ sd sa b => some (scalarEnc 0x03 sd sa b)
  | .and _ sd sa b => some (scalarEnc 0x04 sd sa b)
  | .or _ sd sa b => some (scalarEnc 0x05 sd sa b)
  | .xor _ sd sa b => some (scalarEnc 0x06 sd sa b)
  | .sll _ sd sa b => some (scalarEnc 0x07 sd sa b)
  | .srl _ sd sa b => some (scalarEnc 0x08 sd sa b)
  | .sra _ sd sa b => some (scalarEnc 0x09 sd sa b)
  | .slt _ sd sa b => some (scalarEnc 0x0A sd sa b)
  | .sltu _ sd sa b => some (scalarEnc 0x0B sd sa b)
  | .min _ sd sa b => some (scalarEnc 0x0C sd sa b)
  | .max _ sd sa b => some (scalarEnc 0x0D sd sa b)
  | .fadd _ sd sa b => some (scalarEnc 0x10 sd sa b)
  | .fsub _ sd sa b => some (scalarEnc 0x11 sd sa b)
  | .fmul _ sd sa b => some (scalarEnc 0x12 sd sa b)
  | .fmin _ sd sa b => some (scalarEnc 0x13 sd sa b)
  | .fmax _ sd sa b => some (scalarEnc 0x14 sd sa b)
  | .fcvtF32I64 _ sd sa b => some (scalarEnc 0x15 sd sa b)
  | .fcvtI64F32 _ sd sa b => some (scalarEnc 0x16 sd sa b)
  | .li _ sd sa b => some (scalarEnc 0x20 sd sa b)
  | .lih _ sd sa b => some (scalarEnc 0x21 sd sa b)
  | .br _ sa sb cond zero off => some (wordOf 2 0x00 (sa ++ sb ++ cond ++ zero ++ off))
  | .jl _ sa sb cond zero off => some (wordOf 2 0x01 (sa ++ sb ++ cond ++ zero ++ off))
  | .jr _ sa sb cond zero off => some (wordOf 2 0x02 (sa ++ sb ++ cond ++ zero ++ off))
  | .ld8 _ sd sa zero off => some (wordOf 3 0x00 (sd ++ sa ++ zero ++ off))
  | .ld16 _ sd sa zero off => some (wordOf 3 0x01 (sd ++ sa ++ zero ++ off))
  | .ld32 _ sd sa zero off => some (wordOf 3 0x02 (sd ++ sa ++ zero ++ off))
  | .ld64 _ sd sa zero off => some (wordOf 3 0x03 (sd ++ sa ++ zero ++ off))
  | .st8 _ ss sa zero off => some (wordOf 3 0x08 (ss ++ sa ++ zero ++ off))
  | .st16 _ ss sa zero off => some (wordOf 3 0x09 (ss ++ sa ++ zero ++ off))
  | .st32 _ ss sa zero off => some (wordOf 3 0x0A (ss ++ sa ++ zero ++ off))
  | .st64 _ ss sa zero off => some (wordOf 3 0x0B (ss ++ sa ++ zero ++ off))
  | .stage _ sa zero => some (wordOf 4 0 (sa ++ zero))
  | .nop _ zero => some (wordOf 8 0x00 zero)
  | .fence _ zero scope => some (wordOf 8 0x01 (zero ++ scope))
  | .commit _ zero => some (wordOf 8 0x02 zero)
  | .abort _ zero code => some (wordOf 8 0x03 (zero ++ code))
  | .mloadW _ sa sf pairing cscale zero => some (wordOf 5 0x00 (sa ++ sf ++ pairing ++ cscale ++ zero))
  | .mrun _ sa sm sr sf rscale accum swap colsel pairing zero =>
      some (wordOf 5 0x01 (sa ++ sm ++ sr ++ sf ++ rscale ++ accum ++ swap ++ colsel ++ pairing ++ zero))
  | .mdrain _ sd sm sr clear zero => some (wordOf 5 0x02 (sd ++ sm ++ sr ++ clear ++ zero))
  | .mtov _ vd sr clear zero => some (wordOf 5 0x03 (vd ++ sr ++ clear ++ zero))
  | .vld _ vd sa elem widen zero => some (wordOf 6 0x00 (vd ++ sa ++ elem ++ widen ++ zero))
  | .vst _ vs sa elem vm zero => some (wordOf 6 0x01 (vs ++ sa ++ elem ++ vm ++ zero))
  | .vbcast _ vd sa zero => some (wordOf 6 0x02 (vd ++ sa ++ zero))
  | .vchain _ sa zero => some (wordOf 6 0x03 (sa ++ zero))
  | .vred _ sd va vm op zero => some (wordOf 6 0x04 (sd ++ va ++ vm ++ op ++ zero))
  | .vderiv _ vd ve sa sb zero => some (wordOf 6 0x05 (vd ++ ve ++ sa ++ sb ++ zero))
  | .vmset _ md sa zero => some (wordOf 6 0x06 (md ++ sa ++ zero))
  | .vmld _ md sa zero => some (wordOf 6 0x07 (md ++ sa ++ zero))
  | .vmst _ ms sa zero => some (wordOf 6 0x08 (ms ++ sa ++ zero))
  | .selk _ sa zero => some (wordOf 7 0x00 (sa ++ zero))
  | .selt _ sa zero => some (wordOf 7 0x01 (sa ++ zero))
  | .kput _ sa zero => some (wordOf 9 0 (sa ++ zero))
  | .geoProgram _ sa zero => some (wordOf 9 0 (sa ++ zero))
  | _ => none

end Sys2Proof
end

