-- ==== Sys2Proof/Config.lean ====
section
/-! DEFINITION. What the manual leaves open: free values, constants with no body, so that no statement
can rest on one (log entries 3 to 5: DESIGN CHOICE, safe), and the uninterpreted cryptographic functions (log entry 7: DESIGN CHOICE, safe). -/

namespace Sys2Proof.Config

/-- A fresh open value: the model's counter `State.free` says which one is drawn next (log entry 3: DESIGN CHOICE, safe). -/
opaque freeValue : Nat → BitVec 64

/-- The payload of a NaN that a scalar F32 operation returns: R64 says that results follow IEEE 754 and
states no payload. Arguments: the operation's number and the two operands (log entry 4: DESIGN CHOICE, safe). -/
opaque scalarNaN : Nat → F32 → F32 → BitVec 32

/-- Whether scalar FMIN and FMAX return the number or a NaN when one operand is a NaN: R64 names no
IEEE 754 operation (log entry 4: DESIGN CHOICE, safe). -/
opaque scalarMinKeepsNumber : Nat → F32 → F32 → Bool

/-- A byte that a read of a staged ACT_SKEW or WEIGHT_TILE region returns (R111: unpredictable).
Arguments: the model's counter of free values and the address read (log entry 5: DESIGN CHOICE, safe). -/
opaque layoutByte : Nat → Nat → Byte

/-- The byte of the staged contents that the byte at an offset of a layout region lands on (R111: not
defined). Arguments: the layout, the element format, the rows and the offset (log entry 5: DESIGN CHOICE, safe). -/
opaque layoutLands : Nat → Nat → Nat → Nat → Nat

/-- The code byte that an overwritten byte of a layout region stands for (R111: unpredictable, and fixed by
the bytes written and the region's earlier contents). Arguments: the offset, the byte written and the staged
byte it lands on (log entry 5: DESIGN CHOICE, safe). -/
opaque layoutCode : Nat → Byte → Byte → Byte

/-- The bytes of the 512-bit key in a key slot, by slot, key check value and byte (log entry 7: DESIGN CHOICE, safe). -/
opaque slotKey : Nat → Nat → Nat → Byte

/-- The bytes of the service key, by EPOCH and byte (log entry 7: DESIGN CHOICE, safe). -/
opaque serviceKey : Nat → Nat → Byte

/-- The key check value of a key that Onyx generates, by the model's counter of free values: R455 gives its cryptography, and the key is
drawn inside Onyx (log entry 7: DESIGN CHOICE, safe). -/
opaque keyCheckValue : Nat → BitVec 64

/-- The identity public key of the part, by byte (log entry 7: DESIGN CHOICE, safe). -/
opaque identityKey : Nat → Byte

/-- The transport key's encapsulation key, by generation and byte (log entry 7: DESIGN CHOICE, safe). -/
opaque transportKey : Nat → Nat → Byte

/-- The SLH-DSA signature of an attestation report, by the signed bytes and byte (log entry 7: DESIGN CHOICE, safe). -/
opaque reportSignature : List Byte → Nat → Byte

/-- How many beats per millisecond a facet completes above the least rate, by facet and millisecond: R43 bounds the rate from below alone (log
entry 88: DESIGN CHOICE, safe). -/
opaque fasterBeats : Nat → Nat → Nat

/-- Where the generation sequencer keeps the site records of a request in reproducible mode, by handle, in units of 64 bytes: R141 says that
it keeps them, not where in the tenant's range (log entry 89: DESIGN CHOICE, safe). -/
opaque siteRecords : Nat → Nat

/-- The first congestion window of a flow, in bytes (R401 states how it changes, not where it starts; log entry 28: DESIGN CHOICE, unsafe). -/
opaque firstWindow : Nat

/-- The offset in the ship window of a page of an instance's KV pool: the manual gives the window's ring, not where it reaches the
pools (log entry 29: DESIGN CHOICE, safe). -/
opaque shipOffset : Nat → Nat → Nat

/-- The access key of a reply window, by hall address: no ship record carries it (log entry 29: DESIGN CHOICE, safe). -/
opaque replyKey : Nat → Nat

/-- Logical pages that the Geode tier has for pages: the manual gives the capacity of the variants, not of a tier's cartridges after the
journal ring and the map checkpoint (log entry 27: DESIGN CHOICE, unsafe). -/
opaque geoUsable : Nat

/-- The 64 bytes of a group's trailer, whose fields' places the spec does not give (spec/09 table "Attribute area of a group"): FORMAT,
INDEX, partition, COUNT, generation, lowest and highest VERSION, and the CRC of the columns. Log entry 92: DESIGN CHOICE, safe. -/
opaque groupTrailer : List Nat → Nat → Byte

/-- The 64 bytes of a passage record's header, whose fields' places the spec does not give (spec/09 "Item store and passage store"):
ITEM_ID, VERSION, TEXT_BYTES, TOKENS and DICT_ID. Log entry 92: DESIGN CHOICE, safe. -/
opaque passageHeader : List Nat → Nat → Byte

end Sys2Proof.Config
end

