-- ==== Sys2Proof/Machine/F32.lean ====
section
/-! DEFINITION. Binary32 arithmetic as the part does it (R64, R113, R151, R152): every operation exact,
then one rounding. -/

namespace Sys2Proof.Fp

/-- The canonical NaN of R113, R127 and R151. -/
def canonNaN : F32 := 0x7FC00000#32
def posInf : F32 := 0x7F800000#32
def negInf : F32 := 0xFF800000#32
def posZero : F32 := 0#32
def negZero : F32 := 0x80000000#32
def one : F32 := 0x3F800000#32

def sign (v : F32) : Bool := v.getLsbD 31
def expField (v : F32) : Nat := (v.toNat / 2 ^ 23) % 256
def fracField (v : F32) : Nat := v.toNat % 2 ^ 23
def isNaN (v : F32) : Bool := expField v = 255 && fracField v ≠ 0
def isInf (v : F32) : Bool := expField v = 255 && fracField v = 0
def isZero (v : F32) : Bool := v.toNat % 2 ^ 31 = 0
def abs (v : F32) : F32 := v &&& 0x7FFFFFFF#32
def neg (v : F32) : F32 := v ^^^ 0x80000000#32

/-- The integer significand of a finite value: its value is `mant v * 2 ^ expo v`, signed. -/
def mant (v : F32) : Nat := if expField v = 0 then fracField v else fracField v + 2 ^ 23
def expo (v : F32) : Int := if expField v = 0 then -149 else (expField v : Int) - 150

/-- Rounding directions used by the part: to nearest-even, and toward +∞ (R135). -/
inductive Mode | nearest | up
deriving DecidableEq, Repr

/-- One bit string of a magnitude, with its sign. -/
def withSign (s : Bool) (bits : Nat) : F32 := BitVec.ofNat 32 (bits + if s then 2 ^ 31 else 0)

/-- Rounds the magnitude `m * 2 ^ e` (plus less than one unit of it when `sticky`) into F32. -/
def round (mode : Mode) (s : Bool) (m : Nat) (e : Int) (sticky : Bool) : F32 :=
  if m = 0 && !sticky then withSign s 0 else
  let len : Int := if m = 0 then 0 else (Nat.log2 m : Int) + 1
  let q : Int := max (e + len - 24) (-149)
  let bits : Nat :=
    if q ≤ e then (q + 149).toNat * 2 ^ 23 + m * 2 ^ (e - q).toNat +
        (if sticky && mode = .up && !s then 1 else 0)
    else
      let sh := (q - e).toNat
      let k := m / 2 ^ sh
      let r := m % 2 ^ sh
      let half := 2 ^ (sh - 1)
      let inc : Bool := match mode with
        | .nearest => (decide (half < r)) || (r == half && (sticky || k % 2 == 1))
        | .up => (decide (0 < r) || sticky) && !s
      (q + 149).toNat * 2 ^ 23 + k + if inc then 1 else 0
  withSign s (if bits ≥ 0x7F800000 then
    (if mode = .up && s then 0x7F7FFFFF else 0x7F800000) else bits)

/-- The exact signed significand of `v` scaled to exponent `e ≤ expo v`. -/
def scaled (v : F32) (e : Int) : Int :=
  let n : Int := (mant v * 2 ^ (expo v - e).toNat : Nat)
  if sign v then -n else n

def roundInt (mode : Mode) (zeroSign : Bool) (n : Int) (e : Int) : F32 :=
  if n = 0 then withSign zeroSign 0 else round mode (n < 0) n.natAbs e false

def addM (mode : Mode) (a b : F32) : F32 :=
  if isNaN a || isNaN b then canonNaN
  else if isInf a then (if isInf b && sign a != sign b then canonNaN else a)
  else if isInf b then b
  else
    let e := min (expo a) (expo b)
    roundInt mode (sign a && sign b) (scaled a e + scaled b e) e

def add (a b : F32) : F32 := addM .nearest a b

/-- round_ne(0.5 · a + 0.5 · b), one rounding (R135). -/
def halfSum (a b : F32) : F32 :=
  if isNaN a || isNaN b || isInf a || isInf b then add a b
  else
    let e := min (expo a) (expo b)
    roundInt .nearest (sign a && sign b) (scaled a e + scaled b e) (e - 1)

def sub (a b : F32) : F32 := if isNaN b then canonNaN else add a (neg b)
def subUp (a b : F32) : F32 := if isNaN b then canonNaN else addM .up a (neg b)

def mul (a b : F32) : F32 :=
  let s := sign a != sign b
  if isNaN a || isNaN b then canonNaN
  else if isInf a || isInf b then
    (if isZero a || isZero b then canonNaN else withSign s 0x7F800000)
  else round .nearest s (mant a * mant b) (expo a + expo b) false

/-- A × B + C with one rounding. -/
def fma (a b c : F32) : F32 :=
  let s := sign a != sign b
  if isNaN a || isNaN b || isNaN c then canonNaN
  else if isInf a || isInf b then
    if isZero a || isZero b then canonNaN
    else if isInf c && sign c != s then canonNaN
    else withSign s 0x7F800000
  else if isInf c then c
  else
    let ep := expo a + expo b
    let e := min ep (expo c)
    let p : Int := (mant a * mant b * 2 ^ (ep - e).toNat : Nat)
    roundInt .nearest (s && sign c) ((if s then -p else p) + scaled c e) e

def divM (mode : Mode) (a b : F32) : F32 :=
  let s := sign a != sign b
  if isNaN a || isNaN b then canonNaN
  else if isInf a then (if isInf b then canonNaN else withSign s 0x7F800000)
  else if isInf b then withSign s 0
  else if isZero b then (if isZero a then canonNaN else withSign s 0x7F800000)
  else
    let n := mant a * 2 ^ 60
    round mode s (n / mant b) (expo a - expo b - 60) (n % mant b ≠ 0)

def div (a b : F32) : F32 := divM .nearest a b
def divUp (a b : F32) : F32 := divM .up a b
def rcp (a : F32) : F32 := div one a

/-- The floor of a square root, one result bit for each unit of `fuel`. -/
def isqrt (n : Nat) : Nat → Nat → Nat
  | 0, acc => acc
  | fuel + 1, acc =>
    let t := acc + 2 ^ fuel
    isqrt n fuel (if t * t ≤ n then t else acc)

def sqrt (a : F32) : F32 :=
  if isNaN a then canonNaN
  else if isZero a then a
  else if sign a then canonNaN
  else if isInf a then a
  else
    -- an even exponent below the last place that the rounding needs
    let e := expo a
    let sh : Nat := if e % 2 = 0 then 60 else 61
    let n := mant a * 2 ^ sh
    let r := isqrt n 48 0
    round .nearest false r ((e - sh) / 2) (r * r ≠ n)

/-- The correctly rounded reciprocal square root (R152; special values of IEEE 754-2019 rSqrt). -/
def rsqrt (a : F32) : F32 :=
  if isNaN a then canonNaN
  else if isZero a then withSign (sign a) 0x7F800000
  else if sign a then canonNaN
  else if isInf a then posZero
  else
    let e := expo a
    let k : Nat := if e % 2 = 0 then 120 else 121
    let m := mant a
    let r := isqrt (2 ^ k / m) 64 0
    round .nearest false r (-(e + k) / 2) (r * r * m ≠ 2 ^ k)

/-- Fixed-point precision of the two transcendental functions (log entry 8: UNVERIFIED, unsafe). -/
def prec : Nat := 192

/-- ln 2 in units of 2 ^ -prec, from the series of 1 / (k 2^k). -/
def ln2Loop : Nat → Nat → Nat
  | 0, acc => acc
  | k + 1, acc => ln2Loop k (acc + 2 ^ (prec + 32) / ((k + 1) * 2 ^ (k + 1)))

def ln2 : Nat := ln2Loop 230 0 / 2 ^ 32

/-- The exponential series of `x * 2 ^ -prec` for x below 2 ^ prec. -/
def expLoop (x : Nat) : Nat → Nat → Nat → Nat → Nat
  | 0, _, _, acc => acc
  | fuel + 1, k, term, acc =>
    let t := term * x / 2 ^ prec / k
    expLoop x fuel (k + 1) t (acc + t)

/-- 2^A, correctly rounded (R152). -/
def exp2 (a : F32) : F32 :=
  if isNaN a then canonNaN
  else if isInf a then (if sign a then posZero else posInf)
  else
    let e := expo a
    -- the value in units of 2 ^ -prec, rounded toward -∞, and whether bits were lost
    let m := mant a
    let low := e + prec
    let x : Int := if low ≥ 0 then
        (let n : Int := (m * 2 ^ (min low 400).toNat : Nat); if sign a then -n else n)
      else
        (let d := 2 ^ (-low).toNat
         if sign a then -(((m + d - 1) / d : Nat) : Int) else ((m / d : Nat) : Int))
    let n := Int.fdiv x (2 ^ prec : Nat)
    let f := (Int.fmod x (2 ^ prec : Nat)).toNat
    let exact := f = 0 && low ≥ 0
    if n ≥ 128 then posInf
    else if n < -151 then posZero
    else
      let y := expLoop (f * ln2 / 2 ^ prec) 60 1 (2 ^ prec) (2 ^ prec)
      if exact then round .nearest false 1 n false
      else round .nearest false y (n - prec) true

/-- The series of atanh(z * 2 ^ -prec), `zz` being z squared in the same units. -/
def atanhLoop (zz : Nat) : Nat → Nat → Nat → Nat → Nat
  | 0, _, _, acc => acc
  | fuel + 1, k, pow, acc =>
    atanhLoop zz fuel (k + 2) (pow * zz / 2 ^ prec) (acc + pow / k)

/-- log2 A, correctly rounded (R152; special values of IEEE 754-2019 log2). -/
def log2 (a : F32) : F32 :=
  if isNaN a then canonNaN
  else if isZero a then negInf
  else if sign a then canonNaN
  else if isInf a then a
  else
    let m := mant a
    let l := Nat.log2 m
    let n : Int := expo a + l
    -- m = 2 ^ l * t with 1 ≤ t < 2
    if m = 2 ^ l then roundInt .nearest false n 0
    else
      let num := (m - 2 ^ l) * 2 ^ prec
      let z := num / (m + 2 ^ l)
      let at2 := 2 * atanhLoop (z * z / 2 ^ prec) 100 1 z 0
      let lg := at2 * 2 ^ prec / ln2
      let v : Int := n * (2 ^ prec : Nat) + lg
      -- irrational: the truncated tail lies above v
      if v ≥ 0 then round .nearest false v.natAbs (-(prec : Int)) true
      else round .nearest true (v.natAbs - 1) (-(prec : Int)) true

/-- A total order of the non-NaN values, −0 below +0 (used by MIN and MAX, R151). -/
def ordKey (v : F32) : Nat := if sign v then 2 ^ 32 - 1 - v.toNat else v.toNat + 2 ^ 31

/-- Comparison of numbers with −0 = +0; false when either is a NaN (R151). -/
def eq (a b : F32) : Bool := !isNaN a && !isNaN b && (a == b || (isZero a && isZero b))
def lt (a b : F32) : Bool :=
  !isNaN a && !isNaN b && !(isZero a && isZero b) && decide (ordKey a < ordKey b)
def le (a b : F32) : Bool := lt a b || eq a b

/-- minimumNumber and maximumNumber of IEEE 754-2019 (R151). -/
def minNum (a b : F32) : F32 :=
  if isNaN a then (if isNaN b then canonNaN else b)
  else if isNaN b then a
  else if ordKey a ≤ ordKey b then a else b

def maxNum (a b : F32) : F32 :=
  if isNaN a then (if isNaN b then canonNaN else b)
  else if isNaN b then a
  else if ordKey a ≤ ordKey b then b else a

/-- ABS, NEG and MAXABS turn a NaN operand into the canonical NaN (R151). -/
def absA (a : F32) : F32 := if isNaN a then canonNaN else abs a
def negA (a : F32) : F32 := if isNaN a then canonNaN else neg a
def maxAbs (a b : F32) : F32 :=
  if isNaN a || isNaN b then canonNaN else maxNum (abs a) (abs b)

/-- A signed integer as F32, to nearest-even. -/
def ofInt (n : Int) : F32 := roundInt .nearest false n 0

/-- F32 to a signed 64-bit integer: toward zero, saturating, NaN gives 0 (R65). -/
def toInt64 (v : F32) : BitVec 64 :=
  if isNaN v then 0#64
  else
    let mag : Nat := if isInf v then 2 ^ 64
      else if expo v ≥ 0 then mant v * 2 ^ (min (expo v) 64).toNat
      else mant v / 2 ^ (-(expo v)).toNat
    if sign v then (if mag ≥ 2 ^ 63 then BitVec.ofNat 64 (2 ^ 63) else BitVec.ofInt 64 (-(mag : Int)))
    else (if mag ≥ 2 ^ 63 then BitVec.ofNat 64 (2 ^ 63 - 1) else BitVec.ofNat 64 mag)

/-- Fixed pairwise sum over a list, level by level, an odd element paired with +0. -/
def pairLevel (f : F32 → F32 → F32) (pad : F32) : List F32 → List F32
  | [] => []
  | [a] => [f a pad]
  | a :: b :: r => f a b :: pairLevel f pad r

/-- `n` levels of `pairLevel`, then the first element. -/
def pairTree (f : F32 → F32 → F32) (pad : F32) : Nat → List F32 → F32
  | 0, l => l.headD pad
  | n + 1, l => pairTree f pad n (pairLevel f pad l)

end Sys2Proof.Fp
end

