-- ==== Sys2Proof/Machine/Formats.lean ====
section
/-! DEFINITION. The element formats of spec/05: codes, exact widening (R121 to R127), block scales (R128),
narrowing with saturation and stochastic rounding (R129 to R133), scale derivation (R135). -/

namespace Sys2Proof.Fmt

open Sys2Proof.Fp

/-- Codes of the table "Element format codes". -/
def raw : Nat := 0
def p4 : Nat := 1
def p8 : Nat := 2
def i8 : Nat := 3
def b16 : Nat := 4
def f32 : Nat := 5
def s8 : Nat := 6

/-- Bits per element; reserved codes have none (R121). -/
def bits : Nat → Nat
  | 0 => 8 | 1 => 4 | 2 => 8 | 3 => 8 | 4 => 16 | 5 => 32 | 6 => 8 | _ => 0

def reserved (fmt : Nat) : Bool := decide (fmt > 6)

/-- P4, P8, I8 or B16: what the matrix layouts and CVT, WIDEN accept (R121, R144). -/
def narrowFmt (fmt : Nat) : Bool := fmt == p4 || fmt == p8 || fmt == i8 || fmt == b16

/-- The F32 value of a P4 code (R123). -/
def widenP4 (c : Nat) : F32 :=
  let s := decide (c / 8 % 2 = 1)
  let e := c / 2 % 4
  let m := c % 2
  round .nearest s (if e = 0 then m else m + 2) (if e = 0 then -1 else (e : Int) - 2) false

/-- The F32 value of a P8 code (R124). -/
def widenP8 (c : Nat) : F32 :=
  let s := decide (c / 128 % 2 = 1)
  let e := c / 8 % 16
  let m := c % 8
  if c % 128 = 127 then canonNaN
  else round .nearest s (if e = 0 then m else m + 8) (if e = 0 then -9 else (e : Int) - 10) false

/-- The value of an I8 code; 0x80 reads as −127 (R125). -/
def valueI8 (c : Nat) : Int :=
  if c % 256 = 128 then -127 else if c % 256 > 128 then ((c % 256 : Nat) : Int) - 256 else (c % 256 : Nat)

/-- The F32 value of a B16 code (R126, R127). -/
def widenB16 (c : Nat) : F32 :=
  let v : F32 := BitVec.ofNat 32 (c % 65536 * 65536)
  if isNaN v then canonNaN else v

/-- Exact widening of a code to F32 (R127); RAW and S8 codes stay bytes. -/
def widen (fmt code : Nat) : F32 :=
  match fmt with
  | 1 => widenP4 code
  | 2 => widenP8 code
  | 3 => ofInt (valueI8 code)
  | 4 => widenB16 code
  | _ => BitVec.ofNat 32 code

/-- The factor of an S8 code below 0xFF (R128). -/
def scaleS8 (s : Nat) : F32 := round .nearest false 1 ((s : Int) - 127) false

/-- The largest code value L of a format as F32 (table "Target limits and last place"). -/
def limit (fmt : Nat) : F32 :=
  match fmt with
  | 1 => 0x40C00000#32
  | 2 => 0x43E00000#32
  | 3 => 0x42FE0000#32
  | _ => 0x7F7F0000#32

/-- The largest finite code of a format, without its sign. -/
def limitCode (fmt : Nat) : Nat :=
  match fmt with
  | 1 => 7 | 2 => 0x7E | 3 => 127 | _ => 0x7F7F

/-- Mantissa bits and the exponent of the first last place (table "Target limits and last place"). -/
def mantBits : Nat → Nat
  | 1 => 1 | 2 => 3 | 3 => 0 | _ => 7
def firstPlace : Nat → Int
  | 1 => -1 | 2 => -9 | 3 => 0 | _ => -133

/-- Exponent of the last place q at a magnitude m * 2 ^ e (m > 0). -/
def lastPlace (fmt m : Nat) (e : Int) : Int :=
  if fmt = 3 then 0 else max ((Nat.log2 m : Int) + e - mantBits fmt) (firstPlace fmt)

/-- Puts the sign on a magnitude code: two's complement for I8, a sign bit else (R131). -/
def signCode (fmt : Nat) (s : Bool) (code : Nat) : Nat :=
  match fmt with
  | 1 => if s then code + 8 else code
  | 2 => if s then code + 128 else code
  | 3 => if s then (256 - code) % 256 else code
  | _ => if s then code + 32768 else code

/-- The result of a narrowing: the code, and whether it saturated or met a NaN. -/
structure Narrowed where
  code : Nat
  sat : Bool
  nan : Bool
deriving DecidableEq, Repr

/-- `narrow` of R129. `draw` is `some d` under stochastic rounding, d being draw16 of the lane. -/
def narrow (y : F32) (fmt : Nat) (draw : Option Nat) : Narrowed :=
  if isNaN y then ⟨if fmt = 4 then 0x7FC0 else 0, false, true⟩
  else if decide (ordKey (abs y) > ordKey (limit fmt)) then ⟨signCode fmt (sign y) (limitCode fmt), true, false⟩
  else if isZero y then ⟨signCode fmt (sign y) 0, false, false⟩
  else
    let m := mant y
    let e := expo y
    let q := lastPlace fmt m e
    let sh : Nat := (q - e).toNat
    -- |y| = (m * 2^up) / 2^sh in units of 2^q
    let mm := m * 2 ^ (e - q).toNat
    let k := mm / 2 ^ sh
    let r := mm % 2 ^ sh
    let up : Bool := match draw with
      | some d => decide (d < r * 65536 / 2 ^ sh)
      | none => decide (2 * r > 2 ^ sh) || (2 * r == 2 ^ sh && k % 2 == 1)
    let code := (q - firstPlace fmt).toNat * 2 ^ mantBits fmt + k + if up then 1 else 0
    ⟨signCode fmt (sign y) code, false, false⟩

/-- One mixing round of draw16 (R133). -/
def mix (key x : BitVec 64) : BitVec 64 :=
  let x := x ^^^ (x >>> 31)
  let x := x * 0x9E3779B97F4A7C15#64
  let x := x ^^^ (x >>> 29)
  x + key

/-- The 64-bit value that draw16 computes before its final line (R133, R351). -/
def draw64 (key ctr : BitVec 64) : BitVec 64 :=
  mix key (mix key (mix key (mix key (ctr ^^^ key))))

/-- `draw16` of R133. -/
def draw16 (key ctr : BitVec 64) : Nat := (draw64 key ctr).toNat / 2 ^ 48

/-- Conversion with an activation scale (R134): symmetric, or affine with an offset. -/
def scaleIn (x scale offset : F32) (affine : Bool) : F32 :=
  div (if affine then sub x offset else x) scale

/-- 2^−126, the least scale (R134). -/
def minScale : F32 := 0x00800000#32

/-- max(div_up(a, L), 2^−126) of R135. -/
def scaleUp (a : F32) (fmt : Nat) : F32 := maxNum (divUp a (limit fmt)) minScale

/-- An extreme over the filled slots (R135); `d` where no slot is filled. -/
def extreme (f : F32 → F32 → F32) (d : F32) : List F32 → F32
  | [] => d
  | a :: r => r.foldl f a

/-- `derive` of R135 for one channel in symmetric mode: the scale, and whether it is degenerate. -/
def deriveSym (fmt : Nat) (amax : List F32) : F32 × Bool :=
  let a := extreme maxNum posZero amax
  if isZero a then (one, true) else (scaleUp a fmt, false)

/-- `derive` of R135 for one channel in affine mode: scale, offset, degenerate. -/
def deriveAff (fmt : Nat) (mins maxs : List F32) : F32 × F32 × Bool :=
  let lo := extreme minNum posInf mins
  let hi := extreme maxNum negInf maxs
  if eq lo hi then (minScale, lo, true)
  else
    let off := halfSum hi lo
    let h := maxNum (subUp hi off) (subUp off lo)
    (scaleUp h fmt, off, false)

end Sys2Proof.Fmt
end

