-- ==== Sys2Proof/Machine/Sparse.lean ====
section
/-! DEFINITION. Sparse tables: a list of (key, value) pairs with strictly rising keys and no entry equal to
what an unlisted key reads as. Memories, register files and every numbered set of the part are held so. -/

namespace Sys2Proof.Sparse

variable {α : Type}

/-- The value at a key; unlisted keys read as `d`. -/
def get (d : α) : List (Nat × α) → Nat → α
  | [], _ => d
  | (k', v) :: r, k => if k' = k then v else get d r k

/-- The listed value at a key. -/
def find : List (Nat × α) → Nat → Option α
  | [], _ => none
  | (k', v) :: r, k => if k' = k then some v else find r k

def below (l : List (Nat × α)) (k : Nat) : List (Nat × α) := l.filter (fun c => decide (c.1 < k))
def above (l : List (Nat × α)) (k : Nat) : List (Nat × α) := l.filter (fun c => decide (k ≤ c.1))

/-- The listed entries of `n` keys from `lo`, with keys counted from `lo`. -/
def slice (l : List (Nat × α)) (lo n : Nat) : List (Nat × α) :=
  (l.filter (fun c => decide (lo ≤ c.1) && decide (c.1 < lo + n))).map (fun c => (c.1 - lo, c.2))

/-- Replaces the `n` keys from `lo` by `cells`, whose keys count from 0. -/
def splice (l : List (Nat × α)) (lo n : Nat) (cells : List (Nat × α)) : List (Nat × α) :=
  below l lo ++ (cells.map (fun c => (c.1 + lo, c.2)) ++ above l (lo + n))

/-- Lists `v` at `k`. -/
def put (l : List (Nat × α)) (k : Nat) (v : α) : List (Nat × α) := splice l k 1 [(0, v)]

/-- Unlists `k`. -/
def erase (l : List (Nat × α)) (k : Nat) : List (Nat × α) := splice l k 1 []

/-- Writes `v` at `k`, keeping the canonical form of a table whose unlisted keys read as `d`. -/
def set [DecidableEq α] (d : α) (l : List (Nat × α)) (k : Nat) (v : α) : List (Nat × α) :=
  if v = d then erase l k else put l k v

/-- The cells of a list of values from key `i` on, leaving out those equal to `d`. -/
def cells [DecidableEq α] (d : α) : Nat → List α → List (Nat × α)
  | _, [] => []
  | i, v :: r => if v = d then cells d (i + 1) r else (i, v) :: cells d (i + 1) r

/-- Writes a list of values from key `lo` on. -/
def write [DecidableEq α] (d : α) (l : List (Nat × α)) (lo : Nat) (vs : List α) : List (Nat × α) :=
  splice l lo vs.length (cells d 0 vs)

/-- The `n` values from key `i` on of a list of cells whose keys rise. -/
def fill (d : α) : Nat → Nat → List (Nat × α) → List α
  | 0, _, _ => []
  | n + 1, i, [] => d :: fill d n (i + 1) []
  | n + 1, i, (k, v) :: r => if k = i then v :: fill d n (i + 1) r else d :: fill d n (i + 1) ((k, v) :: r)

/-- Reads `n` values from key `lo` on. -/
def read (d : α) (l : List (Nat × α)) (lo n : Nat) : List α := fill d n 0 (slice l lo n)

/-- Copies `n` keys from `src` at `s` to `dst` at `t`. -/
def copy (src : List (Nat × α)) (s n : Nat) (dst : List (Nat × α)) (t : Nat) : List (Nat × α) :=
  splice dst t n (slice src s n)

/-- Keys strictly rising from `k` on, none of them holding `d`. -/
def wfFrom [DecidableEq α] (d : α) : Nat → List (Nat × α) → Bool
  | _, [] => true
  | k, (k', v) :: r => decide (k ≤ k') && !decide (v = d) && wfFrom d (k' + 1) r

/-- The canonical form. -/
def wf [DecidableEq α] (d : α) (l : List (Nat × α)) : Bool := wfFrom d 0 l

end Sys2Proof.Sparse
end

