-- ==== Sys2Proof/Machine/Regs.lean ====
section
/-! DEFINITION. The register space (spec/19 "Register space" and the register tables of every chapter):
one handle per field, and one table per block that a software write is looked up in. Written out from the
spec's register tables. A field's value stands in `State.regs` as its difference (exclusive or) from its
reset value, so that an unlisted field reads its reset value. Reset values are those of PNV-9600; fields whose
reset the spec leaves to fuses, NOR, the store, the mirror, replay or the die set reset to 0 (log entry 2: DESIGN CHOICE, unsafe). -/

namespace Sys2Proof.Machine

/-- The handle of one register field: its number (register address times 64 plus its lowest bit, with the
selected instance above bit 31), its width and its reset value. A register that repeats inside its block has as many numbers as the
table gives it; a number beyond them names one of those. -/
structure RF where
  id : Nat
  w : Nat
  rst : Nat
deriving DecidableEq, Repr

/-- Table "Access codes" (spec/00). -/
inductive Acc where
  | rw | ro | wo | w1c | rc | rwl
deriving DecidableEq, Repr

/-- Table "Takes-effect classes" (spec/00), the boundary of a Staged field told apart. -/
inductive Takes where
  | none | live | locked | commit | idle | period | slice | switch
deriving DecidableEq, Repr

/-- One row of a register table. -/
structure FieldDesc where
  hi : Nat
  lo : Nat
  acc : Acc
  te : Takes
  /-- Reset value, by the register's two indices. -/
  rst : Nat → Nat → Nat

/-- One register table: offset in its block, two strides with their counts, width, whether tenants read it,
the selector that chooses its instance (0: none), its fields without the reserved ones. -/
structure RegDesc where
  off : Nat
  stride : Nat
  count : Nat
  stride2 : Nat
  count2 : Nat
  width : Nat
  tenant : Bool
  sel : Nat
  fields : List FieldDesc

/-- The AF map of SHP_DSCP_COLOUR: drop precedence 1 green, 2 yellow, 3 red (R406). -/
def afColourLow : Nat := 0x2100210021000000
def afColourHigh : Nat := 0x2100

namespace F

def PART_CAPS_EC_LAYOUT : RF := ⟨(8) * 64 + 21, 2, 1⟩
def PART_CAPS_SURGE : RF := ⟨(8) * 64 + 20, 1, 1⟩
def PART_CAPS_SELT : RF := ⟨(8) * 64 + 19, 1, 1⟩
def PART_CAPS_TXU : RF := ⟨(8) * 64 + 18, 1, 1⟩
def PART_CAPS_GEODE_BAYS : RF := ⟨(8) * 64 + 14, 4, 8⟩
def PART_CAPS_HBM_STACKS : RF := ⟨(8) * 64 + 9, 5, 16⟩
def PART_CAPS_ARRAYS_PER_CORE : RF := ⟨(8) * 64 + 6, 3, 4⟩
def PART_CAPS_CORES : RF := ⟨(8) * 64 + 0, 6, 32⟩
def PART_ID_DEVICE : RF := ⟨(0) * 64 + 16, 16, 0x9600⟩
def PART_ID_STEPPING : RF := ⟨(0) * 64 + 8, 8, 0⟩
def PART_ID_VENDOR : RF := ⟨(0) * 64 + 0, 8, 0x4E⟩
def PART_SERIAL_SERIAL : RF := ⟨(16) * 64 + 0, 64, 0⟩
def PART_STAT_READY : RF := ⟨(24) * 64 + 31, 1, 0⟩
def PART_STAT_STAGE : RF := ⟨(24) * 64 + 0, 4, 1⟩
def PART_SVC_IN_SIZE : RF := ⟨(32) * 64 + 56, 8, 0⟩
def PART_SVC_IN_BASE : RF := ⟨(32) * 64 + 0, 48, 0⟩
def PART_SVC_IN_PTR_TAIL : RF := ⟨(40) * 64 + 32, 32, 0⟩
def PART_SVC_IN_PTR_HEAD : RF := ⟨(40) * 64 + 0, 32, 0⟩
def PART_SVC_DONE_H_REQ_HANDLE : RF := ⟨(48) * 64 + 0, 64, 0⟩
def PART_SVC_DONE_GO : RF := ⟨(56) * 64 + 31, 1, 0⟩
def PART_SVC_DONE_STATUS : RF := ⟨(56) * 64 + 16, 8, 0⟩
def PART_SVC_DONE_DETAIL : RF := ⟨(56) * 64 + 0, 16, 0⟩
def DSP_CTL_ADMIT_EN : RF := ⟨(1048576) * 64 + 31, 1, 1⟩
def DSP_CTL_IDLE_FILL : RF := ⟨(1048576) * 64 + 30, 1, 1⟩
def DSP_TIME_NOW : RF := ⟨(1048584) * 64 + 0, 64, 0⟩
def DSP_SLICE_SLICE_US : RF := ⟨(1048592) * 64 + 16, 16, 2000⟩
def DSP_SLICE_GRACE_US : RF := ⟨(1048592) * 64 + 0, 16, 100⟩
def DSP_PERIOD_SVC_WEIGHT : RF := ⟨(1048600) * 64 + 32, 8, 16⟩
def DSP_PERIOD_PERIOD_US : RF := ⟨(1048600) * 64 + 8, 24, 10000⟩
def DSP_PERIOD_WSHARE : RF := ⟨(1048600) * 64 + 0, 8, 50⟩
def DSP_POST_RING_SIZE : RF := ⟨(1048616) * 64 + 56, 8, 0⟩
def DSP_POST_RING_BASE : RF := ⟨(1048616) * 64 + 0, 48, 0⟩
def DSP_POST_TAIL_TAIL : RF := ⟨(1048624) * 64 + 0, 16, 0⟩
def DSP_ACCT_RING_SIZE : RF := ⟨(1048632) * 64 + 56, 8, 0⟩
def DSP_ACCT_RING_BASE : RF := ⟨(1048632) * 64 + 0, 48, 0⟩
def DSP_ACCT_PTR_TAIL : RF := ⟨(1048640) * 64 + 32, 32, 0⟩
def DSP_ACCT_PTR_HEAD : RF := ⟨(1048640) * 64 + 0, 32, 0⟩
def DSP_TNT_SEL_RING : RF := ⟨(1048648) * 64 + 16, 2, 0⟩
def DSP_TNT_SEL_TID : RF := ⟨(1048648) * 64 + 0, 10, 0⟩
def DSP_TNT_CFG_ENABLED (t : Nat) : RF := ⟨(1048656 + 33554432 * t) * 64 + 31, 1, 0⟩
def DSP_TNT_CFG_CLASS (t : Nat) : RF := ⟨(1048656 + 33554432 * t) * 64 + 30, 1, 0⟩
def DSP_TNT_CFG_ACCT (t : Nat) : RF := ⟨(1048656 + 33554432 * t) * 64 + 29, 1, 0⟩
def DSP_TNT_CFG_OVER_REFUSE (t : Nat) : RF := ⟨(1048656 + 33554432 * t) * 64 + 28, 1, 0⟩
def DSP_TNT_CFG_WEIGHT (t : Nat) : RF := ⟨(1048656 + 33554432 * t) * 64 + 0, 8, 1⟩
def DSP_TNT_CORES_ALLOWED (t : Nat) : RF := ⟨(1048664 + 33554432 * t) * 64 + 0, 32, 0xFFFFFFFF⟩
def DSP_TNT_BUDGET_CAP (t : Nat) : RF := ⟨(1048672 + 33554432 * t) * 64 + 32, 32, 20000⟩
def DSP_TNT_BUDGET_REFILL (t : Nat) : RF := ⟨(1048672 + 33554432 * t) * 64 + 0, 32, 10000⟩
def DSP_TNT_STAT_CREDITS (t : Nat) : RF := ⟨(1048680 + 33554432 * t) * 64 + 32, 32, 0⟩
def DSP_TNT_STAT_DEBT_US (t : Nat) : RF := ⟨(1048680 + 33554432 * t) * 64 + 16, 16, 0⟩
def DSP_TNT_STAT_CLASS_ACTIVE (t : Nat) : RF := ⟨(1048680 + 33554432 * t) * 64 + 15, 1, 0⟩
def DSP_TNT_STAT_HELD (t : Nat) : RF := ⟨(1048680 + 33554432 * t) * 64 + 0, 13, 0⟩
def DSP_TNT_QUEUE_QUEUED (t : Nat) : RF := ⟨(1048688 + 33554432 * t) * 64 + 32, 32, 0⟩
def DSP_TNT_QUEUE_READY (t : Nat) : RF := ⟨(1048688 + 33554432 * t) * 64 + 0, 32, 0⟩
def DSP_RING_WIN_SIZE (r : Nat) : RF := ⟨(1048696 + 33554432 * r) * 64 + 56, 8, 0⟩
def DSP_RING_WIN_OFFSET (r : Nat) : RF := ⟨(1048696 + 33554432 * r) * 64 + 0, 44, 0⟩
def DSP_RING_COMPL_ADDR (r : Nat) : RF := ⟨(1048704 + 33554432 * r) * 64 + 0, 64, 0⟩
def DSP_RING_CKEY_LOG2 (r : Nat) : RF := ⟨(1048712 + 33554432 * r) * 64 + 56, 8, 0⟩
def DSP_RING_CKEY_KEY (r : Nat) : RF := ⟨(1048712 + 33554432 * r) * 64 + 0, 32, 0⟩
def DSP_RING_PTR_TAIL (r : Nat) : RF := ⟨(1048720 + 33554432 * r) * 64 + 32, 32, 0⟩
def DSP_RING_PTR_HEAD (r : Nat) : RF := ⟨(1048720 + 33554432 * r) * 64 + 0, 32, 0⟩
def DSP_EVENTS_ACCT_LOST : RF := ⟨(1048744) * 64 + 48, 16, 0⟩
def DSP_EVENTS_DEBT_EVENTS : RF := ⟨(1048744) * 64 + 32, 16, 0⟩
def DSP_EVENTS_PREEMPTIONS : RF := ⟨(1048744) * 64 + 0, 32, 0⟩
def CORE_ID_DIE (c : Nat) : RF := ⟨(2097152 + 4096 * (c % 32)) * 64 + 12, 1, c / 16⟩
def CORE_ID_FACET (c : Nat) : RF := ⟨(2097152 + 4096 * (c % 32)) * 64 + 8, 3, c / 4⟩
def CORE_ID_CORE (c : Nat) : RF := ⟨(2097152 + 4096 * (c % 32)) * 64 + 0, 5, c⟩
def CORE_CTL_RETIRE (c : Nat) : RF := ⟨(2097160 + 4096 * (c % 32)) * 64 + 31, 1, 0⟩
def CORE_CTL_OFFLINE (c : Nat) : RF := ⟨(2097160 + 4096 * (c % 32)) * 64 + 30, 1, 0⟩
def CORE_STAT_STATE (c : Nat) : RF := ⟨(2097168 + 4096 * (c % 32)) * 64 + 29, 3, 1⟩
def CORE_STAT_YIELD_PENDING (c : Nat) : RF := ⟨(2097168 + 4096 * (c % 32)) * 64 + 28, 1, 0⟩
def CORE_STAT_EXTERNAL (c : Nat) : RF := ⟨(2097168 + 4096 * (c % 32)) * 64 + 27, 1, 0⟩
def CORE_STAT_SERVICE (c : Nat) : RF := ⟨(2097168 + 4096 * (c % 32)) * 64 + 26, 1, 0⟩
def CORE_STAT_TID (c : Nat) : RF := ⟨(2097168 + 4096 * (c % 32)) * 64 + 16, 10, 0⟩
def CORE_CMD_CMD_ID (c : Nat) : RF := ⟨(2097176 + 4096 * (c % 32)) * 64 + 32, 32, 0⟩
def CORE_CMD_REQ_LOW (c : Nat) : RF := ⟨(2097176 + 4096 * (c % 32)) * 64 + 0, 32, 0⟩
def CORE_FAULT_VALID (c : Nat) : RF := ⟨(2097184 + 4096 * (c % 32)) * 64 + 63, 1, 0⟩
def CORE_FAULT_KIND (c : Nat) : RF := ⟨(2097184 + 4096 * (c % 32)) * 64 + 48, 8, 0⟩
def CORE_FAULT_DETAIL (c : Nat) : RF := ⟨(2097184 + 4096 * (c % 32)) * 64 + 0, 25, 0⟩
def CORE_CMD_COUNT_COMMITS (c : Nat) : RF := ⟨(2097192 + 4096 * (c % 32)) * 64 + 0, 64, 0⟩
def CORE_KILL_COUNT_FAULT_KILLS (c : Nat) : RF := ⟨(2097200 + 4096 * (c % 32)) * 64 + 16, 16, 0⟩
def CORE_KILL_COUNT_YIELD_KILLS (c : Nat) : RF := ⟨(2097200 + 4096 * (c % 32)) * 64 + 0, 16, 0⟩
def CORE_HOLD_BEATS (c : Nat) (n : Nat) : RF := ⟨(2097216 + 4096 * (c % 32) + 8 * (n % 3)) * 64 + 0, 64, 0⟩
def FCT_CTL_DRAIN (f : Nat) : RF := ⟨(3145728 + 4096 * (f % 8)) * 64 + 0, 1, 0⟩
def FCT_STAT_DRAINED (f : Nat) : RF := ⟨(3145736 + 4096 * (f % 8)) * 64 + 31, 1, 0⟩
def FCT_STAT_USED_UNITS (f : Nat) : RF := ⟨(3145736 + 4096 * (f % 8)) * 64 + 16, 10, 0⟩
def FCT_STAT_CORES_BUSY (f : Nat) : RF := ⟨(3145736 + 4096 * (f % 8)) * 64 + 0, 4, 0⟩
def FCT_PORT_BYTES_BYTES (f : Nat) : RF := ⟨(3145744 + 4096 * (f % 8)) * 64 + 0, 64, 0⟩
def FCT_PORT_WAIT_BEATS (f : Nat) : RF := ⟨(3145752 + 4096 * (f % 8)) * 64 + 0, 64, 0⟩
def MX_CTL_COLCHK_EN (c : Nat) : RF := ⟨(4194304 + 4096 * (c % 32)) * 64 + 0, 1, 1⟩
def MX_STAT_ACC_SPECIAL (c : Nat) : RF := ⟨(4194312 + 4096 * (c % 32)) * 64 + 31, 1, 0⟩
def MX_STAT_SHADOW_FULL (c : Nat) : RF := ⟨(4194312 + 4096 * (c % 32)) * 64 + 9, 1, 0⟩
def MX_STAT_LOADING (c : Nat) : RF := ⟨(4194312 + 4096 * (c % 32)) * 64 + 8, 1, 0⟩
def MX_STAT_SHADOW_PAIRING (c : Nat) : RF := ⟨(4194312 + 4096 * (c % 32)) * 64 + 4, 4, 0⟩
def MX_STAT_ACTIVE_PAIRING (c : Nat) : RF := ⟨(4194312 + 4096 * (c % 32)) * 64 + 0, 4, 0⟩
def MX_TILES_LOADS (c : Nat) : RF := ⟨(4194320 + 4096 * (c % 32)) * 64 + 0, 64, 0⟩
def MX_TILES_DISCARDED_LOADS (c : Nat) : RF := ⟨(4194328 + 4096 * (c % 32)) * 64 + 0, 64, 0⟩
def MX_ROWS_ROWS (c : Nat) : RF := ⟨(4194336 + 4096 * (c % 32)) * 64 + 0, 64, 0⟩
def MX_TILE_WAIT_ARRAY_BEATS (c : Nat) : RF := ⟨(4194344 + 4096 * (c % 32)) * 64 + 0, 64, 0⟩
def MX_DRAIN_ROWS (c : Nat) : RF := ⟨(4194352 + 4096 * (c % 32)) * 64 + 0, 64, 0⟩
def MX_ZERO_ACT_ELEMS (c : Nat) : RF := ⟨(4194360 + 4096 * (c % 32)) * 64 + 0, 64, 0⟩
def MX_ZERO_WT_ELEMS (c : Nat) : RF := ⟨(4194368 + 4096 * (c % 32)) * 64 + 0, 64, 0⟩
def MX_LAST_TILES (c : Nat) : RF := ⟨(4194376 + 4096 * (c % 32)) * 64 + 32, 32, 0⟩
def MX_LAST_ROWS (c : Nat) : RF := ⟨(4194376 + 4096 * (c % 32)) * 64 + 0, 32, 0⟩
def QNT_CTL_SAT_EVT_EN (c : Nat) : RF := ⟨(5242880 + 4096 * (c % 32)) * 64 + 31, 1, 0⟩
def QNT_CTL_SAT_THRESH (c : Nat) : RF := ⟨(5242880 + 4096 * (c % 32)) * 64 + 0, 24, 0x001000⟩
def QNT_CONV_ELEMS (c : Nat) : RF := ⟨(5242888 + 4096 * (c % 32)) * 64 + 0, 64, 0⟩
def QNT_DRAWS_DRAWS (c : Nat) : RF := ⟨(5242896 + 4096 * (c % 32)) * 64 + 0, 64, 0⟩
def QNT_SAT_COUNT (c : Nat) : RF := ⟨(5242904 + 4096 * (c % 32)) * 64 + 0, 64, 0⟩
def QNT_NAN_COUNT (c : Nat) : RF := ⟨(5242912 + 4096 * (c % 32)) * 64 + 0, 64, 0⟩
def QNT_DEGEN_COUNT (c : Nat) : RF := ⟨(5242920 + 4096 * (c % 32)) * 64 + 0, 64, 0⟩
def QNT_LAST_SAT (c : Nat) : RF := ⟨(5242928 + 4096 * (c % 32)) * 64 + 32, 32, 0⟩
def QNT_LAST_NAN (c : Nat) : RF := ⟨(5242928 + 4096 * (c % 32)) * 64 + 16, 16, 0⟩
def QNT_LAST_DEGEN (c : Nat) : RF := ⟨(5242928 + 4096 * (c % 32)) * 64 + 0, 16, 0⟩
def SEL_CTL_NAN_EVT_EN (c : Nat) : RF := ⟨(6291456 + 4096 * (c % 32)) * 64 + 0, 1, 0⟩
def SEL_STAT_BUSY (c : Nat) : RF := ⟨(6291464 + 4096 * (c % 32)) * 64 + 31, 1, 0⟩
def SEL_STAT_OP (c : Nat) : RF := ⟨(6291464 + 4096 * (c % 32)) * 64 + 29, 2, 0⟩
def SEL_STAT_READ (c : Nat) : RF := ⟨(6291464 + 4096 * (c % 32)) * 64 + 26, 3, 0⟩
def SEL_STAT_CBUF_HELD (c : Nat) : RF := ⟨(6291464 + 4096 * (c % 32)) * 64 + 25, 1, 0⟩
def SEL_STAT_VEC_BUSY (c : Nat) : RF := ⟨(6291464 + 4096 * (c % 32)) * 64 + 0, 1, 0⟩
def SEL_COUNT_SELT (c : Nat) : RF := ⟨(6291472 + 4096 * (c % 32)) * 64 + 32, 32, 0⟩
def SEL_COUNT_SELK (c : Nat) : RF := ⟨(6291472 + 4096 * (c % 32)) * 64 + 0, 32, 0⟩
def SEL_ELEMS_ELEMS (c : Nat) : RF := ⟨(6291480 + 4096 * (c % 32)) * 64 + 0, 64, 0⟩
def SEL_REREAD_BEATS (c : Nat) : RF := ⟨(6291488 + 4096 * (c % 32)) * 64 + 0, 64, 0⟩
def SEL_NAN_COUNT (c : Nat) : RF := ⟨(6291496 + 4096 * (c % 32)) * 64 + 0, 64, 0⟩
def SEL_LAST_BEATS (c : Nat) : RF := ⟨(6291504 + 4096 * (c % 32)) * 64 + 32, 32, 0⟩
def SEL_LAST_READS (c : Nat) : RF := ⟨(6291504 + 4096 * (c % 32)) * 64 + 29, 3, 0⟩
def SEL_VEC_BEATS_BEATS (c : Nat) : RF := ⟨(6291512 + 4096 * (c % 32)) * 64 + 0, 64, 0⟩
def SEL_VEC_FN_BEATS (c : Nat) : RF := ⟨(6291520 + 4096 * (c % 32)) * 64 + 0, 64, 0⟩
def MRG_CTL_SHORT_EVT_EN : RF := ⟨(7340032) * 64 + 31, 1, 0⟩
def MRG_CTL_DAMAGE_EVT_EN : RF := ⟨(7340032) * 64 + 30, 1, 1⟩
def MRG_STAT_BUSY : RF := ⟨(7340040) * 64 + 31, 1, 0⟩
def MRG_STAT_QUERIES : RF := ⟨(7340040) * 64 + 0, 16, 0⟩
def MRG_MERGES_COUNT : RF := ⟨(7340048) * 64 + 0, 64, 0⟩
def MRG_ENTRIES_COUNT : RF := ⟨(7340056) * 64 + 0, 64, 0⟩
def MRG_DUPS_COUNT : RF := ⟨(7340064) * 64 + 0, 64, 0⟩
def MRG_ROUNDS_COUNT : RF := ⟨(7340072) * 64 + 0, 64, 0⟩
def MRG_SHORT_COUNT : RF := ⟨(7340080) * 64 + 0, 64, 0⟩
def MRG_DAMAGED_COUNT : RF := ⟨(7340088) * 64 + 0, 32, 0⟩
def MEM_CTL_PREFETCH_EN : RF := ⟨(8388608) * 64 + 31, 1, 1⟩
def MEM_CTL_HELD_MAX : RF := ⟨(8388608) * 64 + 16, 8, 25⟩
def MEM_CTL_FAB_PORTS : RF := ⟨(8388608) * 64 + 8, 8, 4⟩
def MEM_CTL_MIG_AHEAD : RF := ⟨(8388608) * 64 + 0, 8, 8⟩
def MEM_FREE_FREE_LOW : RF := ⟨(8388616) * 64 + 32, 32, 8192⟩
def MEM_FREE_FREE : RF := ⟨(8388616) * 64 + 0, 32, 520192⟩
def MEM_FRAMES_TOTAL : RF := ⟨(8388624) * 64 + 32, 32, 520192⟩
def MEM_FRAMES_HELD : RF := ⟨(8388624) * 64 + 0, 32, 0⟩
def MEM_CLEAN_CLEAN_AGE : RF := ⟨(8388632) * 64 + 0, 32, 1000⟩
def MEM_UP_GEODE_PAGES : RF := ⟨(8388640) * 64 + 0, 64, 0⟩
def MEM_UP_FABRIC_PAGES : RF := ⟨(8388648) * 64 + 0, 64, 0⟩
def MEM_WB_SUBPAGES : RF := ⟨(8388656) * 64 + 0, 64, 0⟩
def MEM_WAIT_WAIT_MAX : RF := ⟨(8388664) * 64 + 32, 32, 0⟩
def MEM_WAIT_WAITS : RF := ⟨(8388664) * 64 + 0, 32, 0⟩
def MEM_OP_RING_SIZE : RF := ⟨(8388672) * 64 + 56, 8, 0⟩
def MEM_OP_RING_BASE : RF := ⟨(8388672) * 64 + 0, 48, 0⟩
def MEM_OP_TAIL_TAIL : RF := ⟨(8388680) * 64 + 0, 16, 0⟩
def MEM_OP_HEAD_HEAD : RF := ⟨(8388684) * 64 + 0, 16, 0⟩
def MEM_JRN_CTL_CKPT_PCT : RF := ⟨(8388704) * 64 + 24, 8, 25⟩
def MEM_JRN_CTL_CKPT_PERIOD : RF := ⟨(8388704) * 64 + 8, 16, 10⟩
def MEM_JRN_CTL_GROUP : RF := ⟨(8388704) * 64 + 0, 8, 10⟩
def MEM_JRN_STAT_FILL : RF := ⟨(8388712) * 64 + 56, 8, 0⟩
def MEM_JRN_STAT_WAITING : RF := ⟨(8388712) * 64 + 32, 24, 0⟩
def MEM_JRN_STAT_FULL_EPISODES : RF := ⟨(8388712) * 64 + 0, 32, 0⟩
def MEM_JRN_SEQ_JSEQ : RF := ⟨(8388720) * 64 + 0, 64, 0⟩
def MEM_JRN_WIN_VALID : RF := ⟨(8388728) * 64 + 31, 1, 0⟩
def MEM_JRN_WIN_WINDOW : RF := ⟨(8388728) * 64 + 0, 12, 0⟩
def MEM_TNT_SEL_TID : RF := ⟨(8388736) * 64 + 0, 10, 0⟩
def MEM_TNT_QUOTA_PIN_MAX (t : Nat) : RF := ⟨(8388744 + 33554432 * t) * 64 + 32, 32, 0⟩
def MEM_TNT_QUOTA_FRAME_MAX (t : Nat) : RF := ⟨(8388744 + 33554432 * t) * 64 + 0, 32, 0xFFFFFFFF⟩
def MEM_TNT_USE_PINNED (t : Nat) : RF := ⟨(8388752 + 33554432 * t) * 64 + 32, 32, 0⟩
def MEM_TNT_USE_RESIDENT (t : Nat) : RF := ⟨(8388752 + 33554432 * t) * 64 + 0, 32, 0⟩
def MEM_OBJ_SEL_OBJ : RF := ⟨(8388768) * 64 + 0, 12, 0⟩
def MEM_OBJ_STAT_STATE (o : Nat) : RF := ⟨(8388776 + 33554432 * o) * 64 + 61, 3, 0⟩
def MEM_OBJ_STAT_MAP_COUNT (o : Nat) : RF := ⟨(8388776 + 33554432 * o) * 64 + 32, 16, 0⟩
def MEM_OBJ_STAT_RESIDENT (o : Nat) : RF := ⟨(8388776 + 33554432 * o) * 64 + 0, 32, 0⟩
def HBM_CTL_RETIRE (s : Nat) : RF := ⟨(9437184 + 4096 * (s % 16)) * 64 + 31, 1, 0⟩
def HBM_CTL_REFRESH (s : Nat) : RF := ⟨(9437184 + 4096 * (s % 16)) * 64 + 0, 2, 0⟩
def HBM_STAT_STATE (s : Nat) : RF := ⟨(9437192 + 4096 * (s % 16)) * 64 + 29, 3, 0⟩
def HBM_STAT_TEMP (s : Nat) : RF := ⟨(9437192 + 4096 * (s % 16)) * 64 + 16, 8, 0⟩
def HBM_CE_COUNT (s : Nat) : RF := ⟨(9437200 + 4096 * (s % 16)) * 64 + 0, 32, 0⟩
def HBM_UE_COUNT (s : Nat) : RF := ⟨(9437204 + 4096 * (s % 16)) * 64 + 0, 32, 0⟩
def HBM_ERR_ADDR_VALID (s : Nat) : RF := ⟨(9437208 + 4096 * (s % 16)) * 64 + 63, 1, 0⟩
def HBM_ERR_ADDR_LINE (s : Nat) : RF := ⟨(9437208 + 4096 * (s % 16)) * 64 + 6, 30, 0⟩
def HBM_BYTES_BYTES (s : Nat) : RF := ⟨(9437216 + 4096 * (s % 16)) * 64 + 0, 64, 0⟩
def GEO_CTL_AUTO_REBUILD : RF := ⟨(10485760) * 64 + 31, 1, 0⟩
def GEO_CTL_PATROL_EN : RF := ⟨(10485760) * 64 + 30, 1, 1⟩
def GEO_CTL_REFRESH_BITS : RF := ⟨(10485760) * 64 + 16, 8, 40⟩
def GEO_CTL_PATROL_DAYS : RF := ⟨(10485760) * 64 + 0, 16, 14⟩
def GEO_TIER_STATE : RF := ⟨(10485768) * 64 + 29, 3, 0⟩
def GEO_TIER_REBUILD_BAY : RF := ⟨(10485768) * 64 + 24, 4, 0xF⟩
def GEO_TIER_BAYS_IN : RF := ⟨(10485768) * 64 + 16, 8, 0⟩
def GEO_TIER_GEN : RF := ⟨(10485768) * 64 + 0, 16, 0⟩
def GEO_REBUILD_DONE : RF := ⟨(10485776) * 64 + 32, 32, 0⟩
def GEO_REBUILD_TOTAL : RF := ⟨(10485776) * 64 + 0, 32, 0⟩
def GEO_CAP_USABLE : RF := ⟨(10485784) * 64 + 32, 32, 0⟩
def GEO_CAP_FREE : RF := ⟨(10485784) * 64 + 0, 32, 0⟩
def GEO_EXT_TABLE_SIZE : RF := ⟨(10485792) * 64 + 56, 8, 0⟩
def GEO_EXT_TABLE_BASE : RF := ⟨(10485792) * 64 + 0, 48, 0⟩
def GEO_PATROL_PASSES : RF := ⟨(10485800) * 64 + 48, 16, 0⟩
def GEO_PATROL_POS_PCT : RF := ⟨(10485800) * 64 + 40, 8, 0⟩
def GEO_PATROL_RELOCATED : RF := ⟨(10485800) * 64 + 0, 32, 0⟩
def GEO_BAY_CTL_EJECT (b : Nat) : RF := ⟨(10489856 + 4096 * (b % 8)) * 64 + 31, 1, 0⟩
def GEO_BAY_CTL_FORCE (b : Nat) : RF := ⟨(10489856 + 4096 * (b % 8)) * 64 + 30, 1, 0⟩
def GEO_BAY_CTL_ADMIT (b : Nat) : RF := ⟨(10489856 + 4096 * (b % 8)) * 64 + 29, 1, 0⟩
def GEO_BAY_CTL_ERASE (b : Nat) : RF := ⟨(10489856 + 4096 * (b % 8)) * 64 + 28, 1, 0⟩
def GEO_BAY_STAT_STATE (b : Nat) : RF := ⟨(10489864 + 4096 * (b % 8)) * 64 + 28, 4, 0⟩
def GEO_BAY_STAT_REASON (b : Nat) : RF := ⟨(10489864 + 4096 * (b % 8)) * 64 + 24, 4, 0⟩
def GEO_BAY_STAT_PRESENT (b : Nat) : RF := ⟨(10489864 + 4096 * (b % 8)) * 64 + 23, 1, 0⟩
def GEO_BAY_SERIAL_SERIAL (b : Nat) : RF := ⟨(10489872 + 4096 * (b % 8)) * 64 + 0, 64, 0⟩
def GEO_BAY_WEAR_LIFE_USED (b : Nat) : RF := ⟨(10489880 + 4096 * (b % 8)) * 64 + 48, 16, 0⟩
def GEO_BAY_WEAR_SPARE_PCT (b : Nat) : RF := ⟨(10489880 + 4096 * (b % 8)) * 64 + 40, 8, 0⟩
def GEO_BAY_WEAR_PROGRAMMED_GB (b : Nat) : RF := ⟨(10489880 + 4096 * (b % 8)) * 64 + 0, 32, 0⟩
def GEO_BAY_LDPC_SOFT (b : Nat) : RF := ⟨(10489888 + 4096 * (b % 8)) * 64 + 32, 32, 0⟩
def GEO_BAY_LDPC_FAILED (b : Nat) : RF := ⟨(10489888 + 4096 * (b % 8)) * 64 + 0, 32, 0⟩
def GEO_CH_STAT_STATE (c : Nat) : RF := ⟨(10551296 + 16 * (c % 64)) * 64 + 61, 3, 0⟩
def GEO_CH_STAT_Q1 (c : Nat) : RF := ⟨(10551296 + 16 * (c % 64)) * 64 + 32, 16, 0⟩
def GEO_CH_STAT_Q2 (c : Nat) : RF := ⟨(10551296 + 16 * (c % 64)) * 64 + 16, 16, 0⟩
def GEO_CH_STAT_Q3 (c : Nat) : RF := ⟨(10551296 + 16 * (c % 64)) * 64 + 0, 16, 0⟩
def CSU_CTL_SHARE_EN : RF := ⟨(11534336) * 64 + 31, 1, 1⟩
def CSU_PROG_LOAD_GO : RF := ⟨(11534344) * 64 + 63, 1, 0⟩
def CSU_PROG_LOAD_SLOT : RF := ⟨(11534344) * 64 + 48, 4, 0⟩
def CSU_PROG_LOAD_ADDR : RF := ⟨(11534344) * 64 + 0, 48, 0⟩
def CSU_PROG_STAT_VALID : RF := ⟨(11534352) * 64 + 16, 16, 0x001F⟩
def CSU_PROG_STAT_LOADING : RF := ⟨(11534352) * 64 + 15, 1, 0⟩
def CSU_PROG_STAT_RESULT : RF := ⟨(11534352) * 64 + 12, 3, 0⟩
def CSU_PROG_COST_USES_QCODE (q : Nat) : RF := ⟨(11534368 + 4 * (q % 16)) * 64 + 13, 1, if q = 3 then 1 else 0⟩
def CSU_PROG_COST_USES_NUM (q : Nat) : RF := ⟨(11534368 + 4 * (q % 16)) * 64 + 12, 1, 0⟩
def CSU_PROG_COST_USES_BITMAP (q : Nat) : RF := ⟨(11534368 + 4 * (q % 16)) * 64 + 11, 1, 0⟩
def CSU_PROG_COST_USES_B (q : Nat) : RF := ⟨(11534368 + 4 * (q % 16)) * 64 + 10, 1, if q = 2 then 1 else 0⟩
def CSU_PROG_COST_USES_A (q : Nat) : RF := ⟨(11534368 + 4 * (q % 16)) * 64 + 9, 1, if q < 5 ∧ q ≠ 3 then 1 else 0⟩
def CSU_PROG_COST_COST (q : Nat) : RF := ⟨(11534368 + 4 * (q % 16)) * 64 + 0, 9, if q = 2 then 22 else if q < 5 then 8 else 0⟩
def CSU_STAT_STATE (c : Nat) : RF := ⟨(11538432 + 4096 * (c % 64)) * 64 + 29, 3, 0⟩
def CSU_STAT_CTX_USED (c : Nat) : RF := ⟨(11538432 + 4096 * (c % 64)) * 64 + 25, 4, 0⟩
def CSU_RECORDS_RECORDS (c : Nat) : RF := ⟨(11538440 + 4096 * (c % 64)) * 64 + 0, 64, 0⟩
def CSU_PASSED_RECORDS (c : Nat) : RF := ⟨(11538448 + 4096 * (c % 64)) * 64 + 0, 64, 0⟩
def CSU_HIDDEN_RECORDS (c : Nat) : RF := ⟨(11538456 + 4096 * (c % 64)) * 64 + 0, 64, 0⟩
def CSU_SLOW_BYTES (c : Nat) : RF := ⟨(11538464 + 4096 * (c % 64)) * 64 + 0, 64, 0⟩
def CSU_NAN_COUNT (c : Nat) : RF := ⟨(11538472 + 4096 * (c % 64)) * 64 + 0, 32, 0⟩
def IDX_CTL_FOLD_EN : RF := ⟨(12582912) * 64 + 31, 1, 1⟩
def IDX_OP_RING_SIZE : RF := ⟨(12582920) * 64 + 56, 8, 0⟩
def IDX_OP_RING_BASE : RF := ⟨(12582920) * 64 + 0, 48, 0⟩
def IDX_OP_TAIL_TAIL : RF := ⟨(12582928) * 64 + 0, 16, 0⟩
def IDX_OP_HEAD_HEAD : RF := ⟨(12582932) * 64 + 0, 16, 0⟩
def IDX_PRESENT_INDICES : RF := ⟨(12582936) * 64 + 0, 64, 0⟩
def IDX_SEL_INDEX : RF := ⟨(12582944) * 64 + 0, 6, 0⟩
def IDX_STAT_STATE (x : Nat) : RF := ⟨(12582952 + 33554432 * x) * 64 + 29, 3, 0⟩
def IDX_STAT_FOLD (x : Nat) : RF := ⟨(12582952 + 33554432 * x) * 64 + 26, 3, 0⟩
def IDX_STAT_DAMAGED (x : Nat) : RF := ⟨(12582952 + 33554432 * x) * 64 + 25, 1, 0⟩
def IDX_STAT_TID (x : Nat) : RF := ⟨(12582952 + 33554432 * x) * 64 + 0, 10, 0⟩
def IDX_SEQ_COMMITTED (x : Nat) : RF := ⟨(12582960 + 33554432 * x) * 64 + 0, 48, 0⟩
def IDX_GEN_GEN (x : Nat) : RF := ⟨(12582968 + 33554432 * x) * 64 + 32, 32, 0⟩
def IDX_GEN_PINS_CUR (x : Nat) : RF := ⟨(12582968 + 33554432 * x) * 64 + 16, 16, 0⟩
def IDX_GEN_PINS_PREV (x : Nat) : RF := ⟨(12582968 + 33554432 * x) * 64 + 0, 16, 0⟩
def IDX_FOLD_SEQ_FOLD_POINT (x : Nat) : RF := ⟨(12582976 + 33554432 * x) * 64 + 0, 48, 0⟩
def IDX_SIDE_USED (x : Nat) : RF := ⟨(12582984 + 33554432 * x) * 64 + 32, 32, 0⟩
def IDX_SIDE_CAPACITY (x : Nat) : RF := ⟨(12582984 + 33554432 * x) * 64 + 0, 32, 0⟩
def IDX_RECORDS_RECORDS (x : Nat) : RF := ⟨(12582992 + 33554432 * x) * 64 + 0, 64, 0⟩
def IDX_DEAD_DEAD (x : Nat) : RF := ⟨(12583000 + 33554432 * x) * 64 + 0, 64, 0⟩
def IDX_FOLD_PROG_DONE (x : Nat) : RF := ⟨(12583008 + 33554432 * x) * 64 + 32, 32, 0⟩
def IDX_FOLD_PROG_TOTAL (x : Nat) : RF := ⟨(12583008 + 33554432 * x) * 64 + 0, 32, 0⟩
def IDX_TUNE_COMPACT_PCT (x : Nat) : RF := ⟨(12583016 + 33554432 * x) * 64 + 8, 8, 25⟩
def IDX_TUNE_AUTO_FOLD_PCT (x : Nat) : RF := ⟨(12583016 + 33554432 * x) * 64 + 0, 8, 0⟩
def IDX_PIN_WAIT_COUNT (x : Nat) : RF := ⟨(12583024 + 33554432 * x) * 64 + 0, 32, 0⟩
def FTB_CTL_MIG_EN : RF := ⟨(13631488) * 64 + 31, 1, 1⟩
def FTB_OP_RING_SIZE : RF := ⟨(13631496) * 64 + 56, 8, 0⟩
def FTB_OP_RING_BASE : RF := ⟨(13631496) * 64 + 0, 48, 0⟩
def FTB_OP_TAIL_TAIL : RF := ⟨(13631504) * 64 + 0, 16, 0⟩
def FTB_OP_HEAD_HEAD : RF := ⟨(13631508) * 64 + 0, 16, 0⟩
def FTB_SEL_TABLE : RF := ⟨(13631528) * 64 + 0, 8, 0⟩
def FTB_STAT_STATE (x : Nat) : RF := ⟨(13631536 + 33554432 * x) * 64 + 30, 2, 0⟩
def FTB_STAT_SHARED (x : Nat) : RF := ⟨(13631536 + 33554432 * x) * 64 + 29, 1, 0⟩
def FTB_STAT_MIGRATING (x : Nat) : RF := ⟨(13631536 + 33554432 * x) * 64 + 24, 5, 0⟩
def FTB_STAT_TID (x : Nat) : RF := ⟨(13631536 + 33554432 * x) * 64 + 0, 10, 0⟩
def FTB_HEAP_USE_SLOTS (x : Nat) (w : Nat) : RF := ⟨(13631544 + 8 * (w % 4) + 33554432 * x) * 64 + 32, 32, 0⟩
def FTB_HEAP_USE_USED (x : Nat) (w : Nat) : RF := ⟨(13631544 + 8 * (w % 4) + 33554432 * x) * 64 + 0, 32, 0⟩
def FTB_GATHER_UNIQUE (x : Nat) : RF := ⟨(13631576 + 33554432 * x) * 64 + 32, 32, 0⟩
def FTB_GATHER_GATHERS (x : Nat) : RF := ⟨(13631576 + 33554432 * x) * 64 + 0, 32, 0⟩
def FTB_DROPPED_UPDATES (x : Nat) : RF := ⟨(13631584 + 33554432 * x) * 64 + 32, 32, 0⟩
def FTB_DROPPED_GATHERS (x : Nat) : RF := ⟨(13631584 + 33554432 * x) * 64 + 0, 32, 0⟩
def FTB_SAT_COUNT (x : Nat) : RF := ⟨(13631592 + 33554432 * x) * 64 + 0, 32, 0⟩
def FTB_MIG_PROMOTED (x : Nat) : RF := ⟨(13631600 + 33554432 * x) * 64 + 40, 24, 0⟩
def FTB_MIG_DEMOTED (x : Nat) : RF := ⟨(13631600 + 33554432 * x) * 64 + 16, 24, 0⟩
def FTB_MIG_ABORTS (x : Nat) : RF := ⟨(13631600 + 33554432 * x) * 64 + 0, 16, 0⟩
def TXU_CTL_MASK_EVT_EN : RF := ⟨(14680064) * 64 + 31, 1, 1⟩
def TXU_CTL_INVALID_EVT_EN : RF := ⟨(14680064) * 64 + 30, 1, 0⟩
def TXU_IDLE_LIMIT_LIMIT_MS : RF := ⟨(14680072) * 64 + 0, 32, 0⟩
def TXU_OP_RING_SIZE : RF := ⟨(14680080) * 64 + 56, 8, 0⟩
def TXU_OP_RING_BASE : RF := ⟨(14680080) * 64 + 0, 48, 0⟩
def TXU_OP_TAIL_TAIL : RF := ⟨(14680088) * 64 + 0, 16, 0⟩
def TXU_OP_HEAD_HEAD : RF := ⟨(14680092) * 64 + 0, 16, 0⟩
def TXU_CTX_OPEN : RF := ⟨(14680096) * 64 + 32, 32, 0⟩
def TXU_CTX_ON_HUB : RF := ⟨(14680096) * 64 + 16, 16, 0⟩
def TXU_CTX_WAIT_JOBS : RF := ⟨(14680104) * 64 + 0, 64, 0⟩
def TXU_TOKENS_TOKENS : RF := ⟨(14680112) * 64 + 0, 64, 0⟩
def TXU_STEPS_STEPS : RF := ⟨(14680120) * 64 + 0, 64, 0⟩
def TXU_INVALID_INVALID_UTF8 : RF := ⟨(14680128) * 64 + 32, 32, 0⟩
def TXU_INVALID_NO_MATCH : RF := ⟨(14680128) * 64 + 0, 32, 0⟩
def TXU_DETOK_TOKENS : RF := ⟨(14680136) * 64 + 0, 64, 0⟩
def TXU_STOP_MATCHES : RF := ⟨(14680144) * 64 + 32, 32, 0⟩
def TXU_STOP_HOLD_MAX : RF := ⟨(14680144) * 64 + 0, 6, 0⟩
def TXU_MASK_ADVANCES : RF := ⟨(14680152) * 64 + 32, 32, 0⟩
def TXU_MASK_LATE : RF := ⟨(14680152) * 64 + 16, 16, 0⟩
def TXU_MASK_WORST : RF := ⟨(14680152) * 64 + 0, 16, 0⟩
def TXU_PACK_PACKS : RF := ⟨(14680160) * 64 + 32, 32, 0⟩
def TXU_PACK_SKIPPED : RF := ⟨(14680160) * 64 + 0, 32, 0⟩
def TXU_DICT_SEL_DICT : RF := ⟨(14680168) * 64 + 0, 10, 0⟩
def TXU_DICT_STAT_STATE (x : Nat) : RF := ⟨(14680176 + 33554432 * x) * 64 + 62, 2, 0⟩
def TXU_DICT_STAT_SHARED (x : Nat) : RF := ⟨(14680176 + 33554432 * x) * 64 + 61, 1, 0⟩
def TXU_DICT_STAT_TID (x : Nat) : RF := ⟨(14680176 + 33554432 * x) * 64 + 51, 10, 0⟩
def TXU_DICT_STAT_VOCAB (x : Nat) : RF := ⟨(14680176 + 33554432 * x) * 64 + 32, 19, 0⟩
def TXU_DICT_STAT_USERS (x : Nat) : RF := ⟨(14680176 + 33554432 * x) * 64 + 0, 32, 0⟩
def TXU_GRAM_SEL_GRAMMAR : RF := ⟨(14680184) * 64 + 0, 12, 0⟩
def TXU_GRAM_STAT_STATE (x : Nat) : RF := ⟨(14680192 + 33554432 * x) * 64 + 61, 3, 0⟩
def TXU_GRAM_STAT_SHARED (x : Nat) : RF := ⟨(14680192 + 33554432 * x) * 64 + 60, 1, 0⟩
def TXU_GRAM_STAT_TID (x : Nat) : RF := ⟨(14680192 + 33554432 * x) * 64 + 50, 10, 0⟩
def TXU_GRAM_STAT_STATES (x : Nat) : RF := ⟨(14680192 + 33554432 * x) * 64 + 29, 21, 0⟩
def TXU_GRAM_STAT_USERS (x : Nat) : RF := ⟨(14680192 + 33554432 * x) * 64 + 0, 29, 0⟩
def GEN_ROLE_ROLE : RF := ⟨(15728640) * 64 + 0, 2, 0⟩
def GEN_OP_RING_SIZE : RF := ⟨(15728648) * 64 + 56, 8, 0⟩
def GEN_OP_RING_BASE : RF := ⟨(15728648) * 64 + 0, 48, 0⟩
def GEN_OP_TAIL_TAIL : RF := ⟨(15728656) * 64 + 0, 16, 0⟩
def GEN_OP_HEAD_HEAD : RF := ⟨(15728660) * 64 + 0, 16, 0⟩
def GEN_SHIP_WIN_WINDOW : RF := ⟨(15728664) * 64 + 52, 12, 0⟩
def GEN_SHIP_WIN_RING_LOG2 : RF := ⟨(15728664) * 64 + 44, 8, 12⟩
def GEN_SHIP_WIN_REPLY_WIN : RF := ⟨(15728664) * 64 + 32, 12, 0⟩
def GEN_SHIP_WIN_ORPHAN_MS : RF := ⟨(15728664) * 64 + 0, 32, 1000⟩
def GEN_SHIP_MANIFESTS : RF := ⟨(15728672) * 64 + 48, 16, 0⟩
def GEN_SHIP_REFUSED : RF := ⟨(15728672) * 64 + 32, 16, 0⟩
def GEN_SHIP_ORPHANS : RF := ⟨(15728672) * 64 + 16, 16, 0⟩
def GEN_SHIP_CLAIMS_HELD : RF := ⟨(15728672) * 64 + 0, 16, 0⟩
def GEN_RACE_CANCEL_FIRST : RF := ⟨(15728680) * 64 + 32, 32, 0⟩
def GEN_RACE_COMMIT_FIRST : RF := ⟨(15728680) * 64 + 0, 32, 0⟩
def GEN_NAN_COUNT : RF := ⟨(15728688) * 64 + 0, 32, 0⟩
def GEN_INST_SEL_INSTANCE : RF := ⟨(15728696) * 64 + 0, 12, 0⟩
def GEN_INST_STAT_STATE (x : Nat) : RF := ⟨(15728704 + 33554432 * x) * 64 + 62, 2, 0⟩
def GEN_INST_STAT_TID (x : Nat) : RF := ⟨(15728704 + 33554432 * x) * 64 + 52, 10, 0⟩
def GEN_INST_STAT_REQUESTS (x : Nat) : RF := ⟨(15728704 + 33554432 * x) * 64 + 32, 20, 0⟩
def GEN_INST_STAT_KV_FREE (x : Nat) : RF := ⟨(15728704 + 33554432 * x) * 64 + 0, 32, 0⟩
def GEN_PASSES_COUNT (x : Nat) : RF := ⟨(15728712 + 33554432 * x) * 64 + 0, 64, 0⟩
def GEN_ROWS_DECODE (x : Nat) : RF := ⟨(15728720 + 33554432 * x) * 64 + 32, 32, 0⟩
def GEN_ROWS_PREFILL (x : Nat) : RF := ⟨(15728720 + 33554432 * x) * 64 + 0, 32, 0⟩
def GEN_SPEC_OFFERED (x : Nat) : RF := ⟨(15728728 + 33554432 * x) * 64 + 32, 32, 0⟩
def GEN_SPEC_ACCEPTED (x : Nat) : RF := ⟨(15728728 + 33554432 * x) * 64 + 0, 32, 0⟩
def GEN_SAMPLE_TOKENS (x : Nat) : RF := ⟨(15728736 + 33554432 * x) * 64 + 32, 32, 0⟩
def GEN_SAMPLE_CUT_MAX (x : Nat) : RF := ⟨(15728736 + 33554432 * x) * 64 + 0, 32, 0⟩
def GEN_KV_EXHAUSTED (x : Nat) : RF := ⟨(15728744 + 33554432 * x) * 64 + 48, 16, 0⟩
def GEN_KV_RECOMPUTED (x : Nat) : RF := ⟨(15728744 + 33554432 * x) * 64 + 32, 16, 0⟩
def GEN_KV_SHARED (x : Nat) : RF := ⟨(15728744 + 33554432 * x) * 64 + 0, 32, 0⟩
def KTR_NODE_NODE : RF := ⟨(16777216) * 64 + 0, 20, 0⟩
def KTR_CFG_UDP_PORT : RF := ⟨(16777224) * 64 + 48, 16, 7311⟩
def KTR_CFG_RTO_MIN_US : RF := ⟨(16777224) * 64 + 40, 8, 8⟩
def KTR_CFG_PATHS : RF := ⟨(16777224) * 64 + 32, 8, 4⟩
def KTR_CFG_UNREACH_MS : RF := ⟨(16777224) * 64 + 16, 16, 50⟩
def KTR_NODE_TABLE_SIZE : RF := ⟨(16777232) * 64 + 56, 8, 0⟩
def KTR_NODE_TABLE_BASE : RF := ⟨(16777232) * 64 + 0, 48, 0⟩
def KTR_WIN_SYNC_GO : RF := ⟨(16777256) * 64 + 31, 1, 0⟩
def KTR_WIN_SYNC_MAPPED : RF := ⟨(16777256) * 64 + 30, 1, 0⟩
def KTR_WIN_SYNC_BUSY : RF := ⟨(16777256) * 64 + 29, 1, 0⟩
def KTR_WIN_SYNC_INDEX : RF := ⟨(16777256) * 64 + 0, 12, 0⟩
def KTR_DENIED_COUNT : RF := ⟨(16777264) * 64 + 32, 32, 0⟩
def KTR_DENIED_LAST_REASON : RF := ⟨(16777264) * 64 + 28, 4, 0⟩
def KTR_DENIED_LAST_NODE : RF := ⟨(16777264) * 64 + 0, 20, 0⟩
def KTR_UNREACH_EPISODES : RF := ⟨(16777272) * 64 + 32, 32, 0⟩
def KTR_UNREACH_LAST_NODE : RF := ⟨(16777272) * 64 + 0, 20, 0⟩
def KTR_PORT_CTL_EN (p : Nat) : RF := ⟨(16781312 + 4096 * (p % 16)) * 64 + 31, 1, 1⟩
def KTR_PORT_CTL_MODE (p : Nat) : RF := ⟨(16781312 + 4096 * (p % 16)) * 64 + 29, 2, 0⟩
def KTR_PORT_CTL_MACSEC_REQ (p : Nat) : RF := ⟨(16781312 + 4096 * (p % 16)) * 64 + 28, 1, 1⟩
def KTR_PORT_CTL_XPN (p : Nat) : RF := ⟨(16781312 + 4096 * (p % 16)) * 64 + 27, 1, 1⟩
def KTR_PORT_STAT_LINK (p : Nat) : RF := ⟨(16781320 + 4096 * (p % 16)) * 64 + 29, 3, 0⟩
def KTR_PORT_STAT_PTP_LOCKED (p : Nat) : RF := ⟨(16781320 + 4096 * (p % 16)) * 64 + 28, 1, 0⟩
def KTR_PORT_STAT_MACSEC_UP (p : Nat) : RF := ⟨(16781320 + 4096 * (p % 16)) * 64 + 27, 1, 0⟩
def KTR_PORT_TIME_NS (p : Nat) : RF := ⟨(16781328 + 4096 * (p % 16)) * 64 + 0, 64, 0⟩
def KTR_PTP_CTL_EN (p : Nat) : RF := ⟨(16781336 + 4096 * (p % 16)) * 64 + 31, 1, 1⟩
def KTR_PTP_CTL_TRANSPORT (p : Nat) : RF := ⟨(16781336 + 4096 * (p % 16)) * 64 + 29, 2, 2⟩
def KTR_PTP_CTL_DOMAIN (p : Nat) : RF := ⟨(16781336 + 4096 * (p % 16)) * 64 + 16, 8, 0⟩
def KTR_PTP_STAT_OFFSET_NS (p : Nat) : RF := ⟨(16781344 + 4096 * (p % 16)) * 64 + 32, 32, 0⟩
def KTR_PTP_STAT_PATH_NS (p : Nat) : RF := ⟨(16781344 + 4096 * (p % 16)) * 64 + 0, 32, 0⟩
def KTR_LINK_ERR_FEC_UNCORR (p : Nat) : RF := ⟨(16781368 + 4096 * (p % 16)) * 64 + 48, 16, 0⟩
def KTR_LINK_ERR_MACSEC_DROP (p : Nat) : RF := ⟨(16781368 + 4096 * (p % 16)) * 64 + 32, 16, 0⟩
def KTR_LINK_ERR_RETX (p : Nat) : RF := ⟨(16781368 + 4096 * (p % 16)) * 64 + 0, 32, 0⟩
def KTR_EXP_TABLE_SIZE : RF := ⟨(16777240) * 64 + 56, 8, 0⟩
def KTR_EXP_TABLE_BASE : RF := ⟨(16777240) * 64 + 0, 48, 0⟩
def KTR_MAP_TABLE_SIZE : RF := ⟨(16777248) * 64 + 56, 8, 0⟩
def KTR_MAP_TABLE_BASE : RF := ⟨(16777248) * 64 + 0, 48, 0⟩
def KTR_TX_BYTES_BYTES (p : Nat) : RF := ⟨(16781352 + 4096 * (p % 16)) * 64 + 0, 64, 0⟩
def KTR_RX_BYTES_BYTES (p : Nat) : RF := ⟨(16781360 + 4096 * (p % 16)) * 64 + 0, 64, 0⟩
def SHP_TNT_SEL_TID : RF := ⟨(17825792) * 64 + 0, 10, 0⟩
def SHP_SHAPE_BURST (t : Nat) : RF := ⟨(17825800 + 33554432 * t) * 64 + 32, 32, 65536⟩
def SHP_SHAPE_RATE (t : Nat) : RF := ⟨(17825800 + 33554432 * t) * 64 + 0, 32, 0⟩
def SHP_POLICE_CTL_EN (t : Nat) : RF := ⟨(17825824 + 33554432 * t) * 64 + 63, 1, 0⟩
def SHP_POLICE_CTL_AWARE (t : Nat) : RF := ⟨(17825824 + 33554432 * t) * 64 + 62, 1, 0⟩
def SHP_POLICE_CNT_RED : RF := ⟨(17825832) * 64 + 32, 32, 0⟩
def SHP_POLICE_CNT_YELLOW : RF := ⟨(17825832) * 64 + 0, 32, 0⟩
def SHP_DSCP_COLOUR_COLOUR (i : Nat) : RF := ⟨(17825840 + 8 * (i % 2)) * 64 + 0, 64, if i = 0 then afColourLow else afColourHigh⟩
def SHP_TC_DSCP_DSCP : RF := ⟨(17825856) * 64 + 0, 48, 0⟩
def SHP_INGRESS_YELLOW_LIMIT : RF := ⟨(17825864) * 64 + 0, 7, 75⟩
def SHP_SAMPLE_RING_SIZE : RF := ⟨(17825872) * 64 + 56, 8, 0⟩
def SHP_SAMPLE_RING_BASE : RF := ⟨(17825872) * 64 + 0, 48, 0⟩
def SHP_SAMPLE_CTL_SAMPLE_EN : RF := ⟨(17825880) * 64 + 31, 1, 0⟩
def SHP_SAMPLE_CTL_SAMPLE_US : RF := ⟨(17825880) * 64 + 0, 16, 100⟩
def SHP_SAMPLE_PTR_TAIL : RF := ⟨(17825888) * 64 + 32, 32, 0⟩
def SHP_SAMPLE_PTR_HEAD : RF := ⟨(17825888) * 64 + 0, 32, 0⟩
def SHP_SAMPLE_LOST_LOST : RF := ⟨(17825896) * 64 + 0, 32, 0⟩
def SHP_GATE_CTL_GO (p : Nat) : RF := ⟨(17829888 + 4096 * (p % 16)) * 64 + 31, 1, 0⟩
def SHP_GATE_CTL_PENDING (p : Nat) : RF := ⟨(17829888 + 4096 * (p % 16)) * 64 + 30, 1, 0⟩
def SHP_GATE_CTL_COUNT (p : Nat) : RF := ⟨(17829888 + 4096 * (p % 16)) * 64 + 0, 9, 0⟩
def SHP_GATE_SWITCH_SWITCH_TIME (p : Nat) : RF := ⟨(17829896 + 4096 * (p % 16)) * 64 + 0, 64, 0⟩
def SHP_GATE_ACTIVE_CYCLE_NS (p : Nat) : RF := ⟨(17829904 + 4096 * (p % 16)) * 64 + 32, 32, 0⟩
def SHP_GATE_ACTIVE_COUNT (p : Nat) : RF := ⟨(17829904 + 4096 * (p % 16)) * 64 + 0, 9, 0⟩
def SHP_GATE_BASE_BASE_TIME (p : Nat) : RF := ⟨(17829912 + 4096 * (p % 16)) * 64 + 0, 64, 0⟩
def SHP_GATE_ENTRY_GATES (p : Nat) (n : Nat) : RF := ⟨(17830144 + 4096 * (p % 16) + 4 * (n % 256)) * 64 + 24, 8, 0xFF⟩
def SHP_GATE_ENTRY_INTERVAL (p : Nat) (n : Nat) : RF := ⟨(17830144 + 4096 * (p % 16) + 4 * (n % 256)) * 64 + 0, 24, 0⟩
def SHP_GATE_ENTRY_ACTIVE_GATES (p : Nat) (n : Nat) : RF := ⟨(17831168 + 4096 * (p % 16) + 4 * (n % 256)) * 64 + 24, 8, 0xFF⟩
def SHP_GATE_ENTRY_ACTIVE_INTERVAL (p : Nat) (n : Nat) : RF := ⟨(17831168 + 4096 * (p % 16) + 4 * (n % 256)) * 64 + 0, 24, 0⟩
def SHP_POLICE_CIR_SIZE (t : Nat) : RF := ⟨(17825808 + 33554432 * t) * 64 + 32, 32, 65536⟩
def SHP_POLICE_CIR_RATE (t : Nat) : RF := ⟨(17825808 + 33554432 * t) * 64 + 0, 32, 800000⟩
def SHP_POLICE_PIR_SIZE (t : Nat) : RF := ⟨(17825816 + 33554432 * t) * 64 + 32, 32, 65536⟩
def SHP_POLICE_PIR_RATE (t : Nat) : RF := ⟨(17825816 + 33554432 * t) * 64 + 0, 32, 800000⟩
def EDG_REF_STAT_LOST_COUNT : RF := ⟨(18874384) * 64 + 8, 8, 0⟩
def EDG_REF_STAT_ON_FALLBACK : RF := ⟨(18874384) * 64 + 1, 1, 0⟩
def EDG_REF_STAT_REF_OK : RF := ⟨(18874384) * 64 + 0, 1, 1⟩
def EDG_ISL_CTL_RST (i : Nat) : RF := ⟨(18874624 + 8 * (i % 100)) * 64 + 31, 1, 0⟩
def EDG_ISL_CTL_STOP_EN (i : Nat) : RF := ⟨(18874624 + 8 * (i % 100)) * 64 + 24, 1, if 32 ≤ i ∧ i ≤ 98 then 1 else 0⟩
def EDG_ISL_CTL_IDLE_TIME (i : Nat) : RF := ⟨(18874624 + 8 * (i % 100)) * 64 + 0, 24, if i < 16 then 1000 else if i < 32 then 0 else if i < 96 then 500 else if i < 99 then 200 else 0⟩
def EDG_ISL_STAT_CLK_RUN (i : Nat) : RF := ⟨(18874628 + 8 * (i % 100)) * 64 + 31, 1, 1⟩
def EDG_ISL_STAT_STATE (i : Nat) : RF := ⟨(18874628 + 8 * (i % 100)) * 64 + 29, 2, 0⟩
def EDG_ISL_STAT_IN_RESET (i : Nat) : RF := ⟨(18874628 + 8 * (i % 100)) * 64 + 28, 1, 0⟩
def EDG_ISL_STAT_WAKE_MAX (i : Nat) : RF := ⟨(18874628 + 8 * (i % 100)) * 64 + 16, 12, 0⟩
def EDG_ISL_STAT_WAKE_COUNT (i : Nat) : RF := ⟨(18874628 + 8 * (i % 100)) * 64 + 0, 16, 0⟩
def EDG_BEAT_MON_BEATS_PER_MS (f : Nat) : RF := ⟨(18876416 + 4 * (f % 8)) * 64 + 0, 32, 0⟩
def PWR_CTL_TARGET : RF := ⟨(19922944) * 64 + 0, 2, 1⟩
def PWR_STAT_POINT : RF := ⟨(19922952) * 64 + 30, 2, 1⟩
def PWR_STAT_RAMPING : RF := ⟨(19922952) * 64 + 29, 1, 0⟩
def PWR_STAT_SHED : RF := ⟨(19922952) * 64 + 26, 3, 0⟩
def PWR_STAT_PSM_OK : RF := ⟨(19922952) * 64 + 22, 4, 0xF⟩
def PWR_STAT_EXIT_REASON : RF := ⟨(19922952) * 64 + 19, 3, 0⟩
def PWR_STAT_DUTY : RF := ⟨(19922952) * 64 + 16, 3, 0⟩
def PWR_SURGE_LIFE_S : RF := ⟨(19922960) * 64 + 32, 32, 0⟩
def PWR_SURGE_CREDIT_MS : RF := ⟨(19922960) * 64 + 0, 15, 30000⟩
def PWR_INPUT_VIN_MV : RF := ⟨(19922968) * 64 + 48, 16, 0⟩
def PWR_INPUT_IIN : RF := ⟨(19922968) * 64 + 32, 16, 0⟩
def PWR_INPUT_POWER_W : RF := ⟨(19922968) * 64 + 16, 16, 0⟩
def PWR_TEMP_TJ_C0 : RF := ⟨(19922976) * 64 + 24, 8, 0⟩
def PWR_TEMP_TJ_C1 : RF := ⟨(19922976) * 64 + 16, 8, 0⟩
def PWR_TEMP_TJ_H : RF := ⟨(19922976) * 64 + 8, 8, 0⟩
def PWR_THERM_SURGE_TJ : RF := ⟨(19922984) * 64 + 24, 8, 95⟩
def PWR_HOLDUP_FLUSH_MIB : RF := ⟨(19922992) * 64 + 0, 11, 64⟩
def PWR_DOMAINS_ON : RF := ⟨(19923000) * 64 + 0, 20, 0xFFFFF⟩
def PWR_EVENTS_SURGE_EXITS : RF := ⟨(19923008) * 64 + 48, 16, 0⟩
def PWR_EVENTS_CURRENT_LIMITS : RF := ⟨(19923008) * 64 + 32, 16, 0⟩
def PWR_EVENTS_THERMAL : RF := ⟨(19923008) * 64 + 16, 16, 0⟩
def PWR_EVENTS_SHEDS : RF := ⟨(19923008) * 64 + 0, 16, 0⟩
def PWR_THROTTLE_US : RF := ⟨(19923016) * 64 + 0, 64, 0⟩
def RAS_CTL_SCRUB_EN : RF := ⟨(20971520) * 64 + 31, 1, 1⟩
def RAS_CTL_STACK_UE_MAX : RF := ⟨(20971520) * 64 + 16, 8, 16⟩
def RAS_CTL_CE_THRESH : RF := ⟨(20971520) * 64 + 0, 16, 1000⟩
def RAS_SCRUB_HBM_HOURS : RF := ⟨(20971528) * 64 + 24, 8, 24⟩
def RAS_SCRUB_STORE_S : RF := ⟨(20971528) * 64 + 0, 16, 600⟩
def RAS_SCRUB_STAT_PAUSED : RF := ⟨(20971536) * 64 + 63, 1, 0⟩
def RAS_SCRUB_STAT_HBM_POS_PCT : RF := ⟨(20971536) * 64 + 56, 7, 0⟩
def RAS_SCRUB_STAT_HBM_PASSES : RF := ⟨(20971536) * 64 + 32, 24, 0⟩
def RAS_SCRUB_STAT_STORE_PASSES : RF := ⟨(20971536) * 64 + 0, 32, 0⟩
def RAS_RETIRED_CORES : RF := ⟨(20971552) * 64 + 0, 32, 0⟩
def RAS_RETIRE_CLR_GO : RF := ⟨(20971560) * 64 + 31, 1, 0⟩
def RAS_RETIRE_CLR_UNIT : RF := ⟨(20971560) * 64 + 30, 1, 0⟩
def RAS_RETIRE_CLR_FACET : RF := ⟨(20971560) * 64 + 18, 3, 0⟩
def RAS_RETIRE_CLR_UNIT_NO : RF := ⟨(20971560) * 64 + 9, 9, 0⟩
def RAS_RETIRE_CLR_CORE : RF := ⟨(20971560) * 64 + 0, 5, 0⟩
def RAS_FACET_UNITS_RETIRED_0 : RF := ⟨(20971568) * 64 + 0, 8, 0⟩
def RAS_FACET_UNITS_RETIRED_1 : RF := ⟨(20971568) * 64 + 8, 8, 0⟩
def RAS_FACET_UNITS_RETIRED_2 : RF := ⟨(20971568) * 64 + 16, 8, 0⟩
def RAS_FACET_UNITS_RETIRED_3 : RF := ⟨(20971568) * 64 + 24, 8, 0⟩
def RAS_FACET_UNITS_RETIRED_4 : RF := ⟨(20971568) * 64 + 32, 8, 0⟩
def RAS_FACET_UNITS_RETIRED_5 : RF := ⟨(20971568) * 64 + 40, 8, 0⟩
def RAS_FACET_UNITS_RETIRED_6 : RF := ⟨(20971568) * 64 + 48, 8, 0⟩
def RAS_FACET_UNITS_RETIRED_7 : RF := ⟨(20971568) * 64 + 56, 8, 0⟩
def RAS_SELFTEST_CORES : RF := ⟨(20971576) * 64 + 32, 32, 0⟩
def RAS_SELFTEST_STACKS : RF := ⟨(20971576) * 64 + 16, 16, 0⟩
def RAS_SELFTEST_BAYS : RF := ⟨(20971576) * 64 + 8, 8, 0⟩
def RAS_SELFTEST_DONE : RF := ⟨(20971576) * 64 + 0, 1, 0⟩
def RAS_COUNT_UE (s : Nat) : RF := ⟨(20971584 + 8 * (s % 8)) * 64 + 32, 32, 0⟩
def RAS_COUNT_CE (s : Nat) : RF := ⟨(20971584 + 8 * (s % 8)) * 64 + 0, 32, 0⟩
def RAS_D2D_STATE (l : Nat) : RF := ⟨(20971648 + 8 * (l % 3)) * 64 + 62, 2, 0⟩
def RAS_D2D_RETRAINS (l : Nat) : RF := ⟨(20971648 + 8 * (l % 3)) * 64 + 32, 16, 0⟩
def RAS_D2D_RETRIES (l : Nat) : RF := ⟨(20971648 + 8 * (l % 3)) * 64 + 0, 32, 0⟩
def RAS_INJECT_ARM : RF := ⟨(20971680) * 64 + 63, 1, 0⟩
def RAS_INJECT_DOUBLE : RF := ⟨(20971680) * 64 + 62, 1, 0⟩
def RAS_INJECT_SOURCE : RF := ⟨(20971680) * 64 + 59, 3, 0⟩
def RAS_INJECT_UNIT : RF := ⟨(20971680) * 64 + 53, 6, 0⟩
def RAS_INJECT_INJECTED : RF := ⟨(20971680) * 64 + 48, 5, 0⟩
def RAS_INJECT_ADDR : RF := ⟨(20971680) * 64 + 0, 48, 0⟩
def ONX_STAT_STATE : RF := ⟨(22020096) * 64 + 29, 3, 0⟩
def ONX_STAT_IMAGE_B : RF := ⟨(22020096) * 64 + 28, 1, 0⟩
def ONX_STAT_DEBUG : RF := ⟨(22020096) * 64 + 27, 1, 0⟩
def ONX_STAT_OFFICERS : RF := ⟨(22020096) * 64 + 24, 3, 0⟩
def ONX_STAT_EPOCH : RF := ⟨(22020096) * 64 + 20, 4, 0⟩
def ONX_STAT_SVN_FLOOR : RF := ⟨(22020096) * 64 + 14, 6, 0⟩
def ONX_STAT_ROOTS_REVOKED : RF := ⟨(22020096) * 64 + 10, 4, 0⟩
def ONX_CMD_RING_SIZE : RF := ⟨(22020104) * 64 + 56, 8, 0⟩
def ONX_CMD_RING_BASE : RF := ⟨(22020104) * 64 + 0, 48, 0⟩
def ONX_CMD_TAIL_TAIL : RF := ⟨(22020112) * 64 + 0, 16, 0⟩
def ONX_CMD_HEAD_HEAD : RF := ⟨(22020116) * 64 + 0, 16, 0⟩
def ONX_SLOT_SEL_SLOT : RF := ⟨(22020128) * 64 + 0, 12, 0⟩
def ONX_SLOT_STAT_STATE (x : Nat) : RF := ⟨(22020136 + 33554432 * x) * 64 + 62, 2, 0⟩
def ONX_SLOT_STAT_GENERATED (x : Nat) : RF := ⟨(22020136 + 33554432 * x) * 64 + 61, 1, 0⟩
def ONX_SLOT_KCV_KCV (x : Nat) : RF := ⟨(22020144 + 33554432 * x) * 64 + 0, 64, 0⟩
def ONX_TAMPER_CAUSE : RF := ⟨(22020152) * 64 + 24, 3, 0⟩
def ONX_EVENTS_AUTH_FAIL : RF := ⟨(22020160) * 64 + 32, 32, 0⟩
def ONX_EVENTS_IMPORT_FAIL : RF := ⟨(22020160) * 64 + 0, 32, 0⟩
def ONX_MEAS_VALUE (i n : Nat) : RF := ⟨(22020352 + 32 * (i % 8) + 8 * (n % 4)) * 64, 64, 0⟩
def LPE_CTL_EN : RF := ⟨(23068672) * 64 + 31, 1, 1⟩
def LPE_CTL_EVT_EN : RF := ⟨(23068672) * 64 + 30, 1, 0⟩
def LPE_CTL_SLOW_THRESH : RF := ⟨(23068672) * 64 + 0, 16, 512⟩
def LPE_RING_SIZE : RF := ⟨(23068680) * 64 + 56, 8, 0⟩
def LPE_RING_BASE : RF := ⟨(23068680) * 64 + 0, 48, 0⟩
def LPE_PTR_TAIL : RF := ⟨(23068688) * 64 + 32, 32, 0⟩
def LPE_PTR_HEAD : RF := ⟨(23068688) * 64 + 0, 32, 0⟩
def LPE_LOST_COUNT : RF := ⟨(23068696) * 64 + 0, 32, 0⟩
def LPE_WINDOW_WINDOW : RF := ⟨(23068704) * 64 + 0, 64, 0⟩
def EVR_CTL_FREEZE : RF := ⟨(24117248) * 64 + 31, 1, 0⟩
def EVR_STAT_HELD : RF := ⟨(24117256) * 64 + 47, 17, 0⟩
def EVR_STAT_RELEASED : RF := ⟨(24117256) * 64 + 30, 17, 0⟩
def EVR_STAT_HOLD : RF := ⟨(24117256) * 64 + 21, 9, 0⟩
def EVR_TIME_OP_SECONDS : RF := ⟨(24117264) * 64 + 0, 40, 0⟩
def EVR_CYCLES_POWER_CYCLES : RF := ⟨(24117272) * 64 + 0, 32, 0⟩
def EVR_CURSOR_SEQ (w : Nat) : RF := ⟨(24117280 + 8 * (w % 2)) * 64 + 0, 64, 0⟩
def EVR_RELEASE_SEQ : RF := ⟨(24117440) * 64 + 0, 64, 0⟩
def EVR_SEQ_NEXT : RF := ⟨(24117448) * 64 + 0, 64, 0⟩
def EVR_DROPPED_DROPPED : RF := ⟨(24117456) * 64 + 32, 32, 0⟩
def EVR_DROPPED_HOLD_LOST : RF := ⟨(24117456) * 64 + 0, 32, 0⟩
def EVR_REC_WORD (w : Nat) (n : Nat) : RF := ⟨(24117312 + 64 * (w % 2) + 8 * (n % 8)) * 64 + 0, 64, 0⟩
def MGT_CTL_EN : RF := ⟨(25165824) * 64 + 31, 1, 1⟩
def MGT_STAT_LINK : RF := ⟨(25165832) * 64 + 62, 2, 0⟩
def MGT_STAT_MAC : RF := ⟨(25165832) * 64 + 0, 48, 0⟩
def MGT_NOR_CTL_GO : RF := ⟨(25165840) * 64 + 63, 1, 0⟩
def MGT_NOR_CTL_BUSY : RF := ⟨(25165840) * 64 + 62, 1, 0⟩
def MGT_NOR_CTL_OP : RF := ⟨(25165840) * 64 + 60, 2, 0⟩
def MGT_NOR_CTL_RESULT : RF := ⟨(25165840) * 64 + 57, 3, 0⟩
def MGT_NOR_CTL_NOR_ADDR : RF := ⟨(25165840) * 64 + 0, 28, 0⟩
def MGT_NOR_XFER_LENGTH : RF := ⟨(25165848) * 64 + 40, 24, 0⟩
def MGT_NOR_XFER_BUF : RF := ⟨(25165848) * 64 + 0, 40, 0⟩
def MGT_I3C_ATTACHED : RF := ⟨(25165856) * 64 + 31, 1, 0⟩
def MGT_I3C_DYN_ADDR : RF := ⟨(25165856) * 64 + 0, 7, 0⟩
def MGT_RESTART_WARM : RF := ⟨(25165864) * 64 + 31, 1, 0⟩

end F

def regsPART : List RegDesc :=
  [
    ⟨8, 0, 1, 0, 1, 32, true, 0, [⟨22, 21, .ro, .none, fun _ _ => 1⟩, ⟨20, 20, .ro, .none, fun _ _ => 1⟩, ⟨19, 19, .ro, .none, fun _ _ => 1⟩, ⟨18, 18, .ro, .none, fun _ _ => 1⟩, ⟨17, 14, .ro, .none, fun _ _ => 8⟩, ⟨13, 9, .ro, .none, fun _ _ => 16⟩, ⟨8, 6, .ro, .none, fun _ _ => 4⟩, ⟨5, 0, .ro, .none, fun _ _ => 32⟩]⟩,
    ⟨0, 0, 1, 0, 1, 32, true, 0, [⟨31, 16, .ro, .none, fun _ _ => 0x9600⟩, ⟨15, 8, .ro, .none, fun _ _ => 0⟩, ⟨7, 0, .ro, .none, fun _ _ => 0x4E⟩]⟩,
    ⟨16, 0, 1, 0, 1, 64, true, 0, [⟨63, 0, .ro, .none, fun _ _ => 0⟩]⟩,
    ⟨24, 0, 1, 0, 1, 32, false, 0, [⟨31, 31, .rwl, .live, fun _ _ => 0⟩, ⟨3, 0, .ro, .none, fun _ _ => 1⟩]⟩,
    ⟨32, 0, 1, 0, 1, 64, false, 0, [⟨63, 56, .rw, .locked, fun _ _ => 0⟩, ⟨47, 0, .rw, .locked, fun _ _ => 0⟩]⟩,
    ⟨40, 0, 1, 0, 1, 64, false, 0, [⟨63, 32, .ro, .none, fun _ _ => 0⟩, ⟨31, 0, .rw, .live, fun _ _ => 0⟩]⟩,
    ⟨48, 0, 1, 0, 1, 64, false, 0, [⟨63, 0, .wo, .live, fun _ _ => 0⟩]⟩,
    ⟨56, 0, 1, 0, 1, 32, false, 0, [⟨31, 31, .wo, .live, fun _ _ => 0⟩, ⟨23, 16, .wo, .live, fun _ _ => 0⟩, ⟨15, 0, .wo, .live, fun _ _ => 0⟩]⟩ ]

def regsDSP : List RegDesc :=
  [
    ⟨0, 0, 1, 0, 1, 32, false, 0, [⟨31, 31, .rw, .live, fun _ _ => 1⟩, ⟨30, 30, .rw, .live, fun _ _ => 1⟩]⟩,
    ⟨8, 0, 1, 0, 1, 64, false, 0, [⟨63, 0, .ro, .none, fun _ _ => 0⟩]⟩,
    ⟨16, 0, 1, 0, 1, 32, false, 0, [⟨31, 16, .rw, .slice, fun _ _ => 2000⟩, ⟨15, 0, .rw, .slice, fun _ _ => 100⟩]⟩,
    ⟨24, 0, 1, 0, 1, 64, false, 0, [⟨39, 32, .rw, .period, fun _ _ => 16⟩, ⟨31, 8, .rw, .period, fun _ _ => 10000⟩, ⟨7, 0, .rw, .period, fun _ _ => 50⟩]⟩,
    ⟨40, 0, 1, 0, 1, 64, false, 0, [⟨63, 56, .rw, .locked, fun _ _ => 0⟩, ⟨47, 0, .rw, .locked, fun _ _ => 0⟩]⟩,
    ⟨48, 0, 1, 0, 1, 32, false, 0, [⟨15, 0, .wo, .live, fun _ _ => 0⟩]⟩,
    ⟨56, 0, 1, 0, 1, 64, false, 0, [⟨63, 56, .rw, .locked, fun _ _ => 0⟩, ⟨47, 0, .rw, .locked, fun _ _ => 0⟩]⟩,
    ⟨64, 0, 1, 0, 1, 64, false, 0, [⟨63, 32, .ro, .none, fun _ _ => 0⟩, ⟨31, 0, .rw, .live, fun _ _ => 0⟩]⟩,
    ⟨72, 0, 1, 0, 1, 32, false, 0, [⟨17, 16, .rw, .live, fun _ _ => 0⟩, ⟨9, 0, .rw, .live, fun _ _ => 0⟩]⟩,
    ⟨80, 0, 1, 0, 1, 32, false, 8, [⟨31, 31, .rw, .live, fun _ _ => 0⟩, ⟨30, 30, .rw, .period, fun _ _ => 0⟩, ⟨29, 29, .rw, .period, fun _ _ => 0⟩, ⟨28, 28, .rw, .live, fun _ _ => 0⟩, ⟨7, 0, .rw, .period, fun _ _ => 1⟩]⟩,
    ⟨88, 0, 1, 0, 1, 32, false, 8, [⟨31, 0, .rw, .live, fun _ _ => 0xFFFFFFFF⟩]⟩,
    ⟨96, 0, 1, 0, 1, 64, false, 8, [⟨63, 32, .rw, .period, fun _ _ => 20000⟩, ⟨31, 0, .rw, .period, fun _ _ => 10000⟩]⟩,
    ⟨104, 0, 1, 0, 1, 64, false, 8, [⟨63, 32, .ro, .none, fun _ _ => 0⟩, ⟨31, 16, .ro, .none, fun _ _ => 0⟩, ⟨15, 15, .ro, .none, fun _ _ => 0⟩, ⟨12, 0, .ro, .none, fun _ _ => 0⟩]⟩,
    ⟨112, 0, 1, 0, 1, 64, false, 8, [⟨63, 32, .ro, .none, fun _ _ => 0⟩, ⟨31, 0, .ro, .none, fun _ _ => 0⟩]⟩,
    ⟨120, 0, 1, 0, 1, 64, false, 9, [⟨63, 56, .rw, .locked, fun _ _ => 0⟩, ⟨43, 0, .rw, .locked, fun _ _ => 0⟩]⟩,
    ⟨128, 0, 1, 0, 1, 64, false, 9, [⟨63, 0, .rw, .locked, fun _ _ => 0⟩]⟩,
    ⟨136, 0, 1, 0, 1, 64, false, 9, [⟨63, 56, .rw, .locked, fun _ _ => 0⟩, ⟨31, 0, .rw, .locked, fun _ _ => 0⟩]⟩,
    ⟨144, 0, 1, 0, 1, 64, false, 9, [⟨63, 32, .ro, .none, fun _ _ => 0⟩, ⟨31, 0, .ro, .none, fun _ _ => 0⟩]⟩,
    ⟨168, 0, 1, 0, 1, 64, false, 0, [⟨63, 48, .rc, .none, fun _ _ => 0⟩, ⟨47, 32, .rc, .none, fun _ _ => 0⟩, ⟨31, 0, .rc, .none, fun _ _ => 0⟩]⟩ ]

def regsCORE : List RegDesc :=
  [
    ⟨0, 4096, 32, 0, 1, 32, false, 0, [⟨12, 12, .ro, .none, fun c _ => c / 16⟩, ⟨10, 8, .ro, .none, fun c _ => c / 4⟩, ⟨4, 0, .ro, .none, fun c _ => c⟩]⟩,
    ⟨8, 4096, 32, 0, 1, 32, false, 0, [⟨31, 31, .rwl, .commit, fun _ _ => 0⟩, ⟨30, 30, .rw, .commit, fun _ _ => 0⟩]⟩,
    ⟨16, 4096, 32, 0, 1, 32, false, 0, [⟨31, 29, .ro, .none, fun _ _ => 1⟩, ⟨28, 28, .ro, .none, fun _ _ => 0⟩, ⟨27, 27, .ro, .none, fun _ _ => 0⟩, ⟨26, 26, .ro, .none, fun _ _ => 0⟩, ⟨25, 16, .ro, .none, fun _ _ => 0⟩]⟩,
    ⟨24, 4096, 32, 0, 1, 64, false, 0, [⟨63, 32, .ro, .none, fun _ _ => 0⟩, ⟨31, 0, .ro, .none, fun _ _ => 0⟩]⟩,
    ⟨32, 4096, 32, 0, 1, 64, false, 0, [⟨63, 63, .w1c, .none, fun _ _ => 0⟩, ⟨55, 48, .ro, .none, fun _ _ => 0⟩, ⟨24, 0, .ro, .none, fun _ _ => 0⟩]⟩,
    ⟨40, 4096, 32, 0, 1, 64, false, 0, [⟨63, 0, .ro, .none, fun _ _ => 0⟩]⟩,
    ⟨48, 4096, 32, 0, 1, 32, false, 0, [⟨31, 16, .rc, .none, fun _ _ => 0⟩, ⟨15, 0, .rc, .none, fun _ _ => 0⟩]⟩,
    ⟨64, 4096, 32, 8, 3, 64, false, 0, [⟨63, 0, .ro, .none, fun _ _ => 0⟩]⟩ ]

def regsFCT : List RegDesc :=
  [
    ⟨0, 4096, 8, 0, 1, 32, false, 0, [⟨0, 0, .rw, .live, fun _ _ => 0⟩]⟩,
    ⟨8, 4096, 8, 0, 1, 32, false, 0, [⟨31, 31, .ro, .none, fun _ _ => 0⟩, ⟨25, 16, .ro, .none, fun _ _ => 0⟩, ⟨3, 0, .ro, .none, fun _ _ => 0⟩]⟩,
    ⟨16, 4096, 8, 0, 1, 64, false, 0, [⟨63, 0, .ro, .none, fun _ _ => 0⟩]⟩,
    ⟨24, 4096, 8, 0, 1, 64, false, 0, [⟨63, 0, .ro, .none, fun _ _ => 0⟩]⟩ ]

def regsMX : List RegDesc :=
  [
    ⟨0, 4096, 32, 0, 1, 32, false, 0, [⟨0, 0, .rw, .commit, fun _ _ => 1⟩]⟩,
    ⟨8, 4096, 32, 0, 1, 32, false, 0, [⟨31, 31, .w1c, .none, fun _ _ => 0⟩, ⟨9, 9, .ro, .none, fun _ _ => 0⟩, ⟨8, 8, .ro, .none, fun _ _ => 0⟩, ⟨7, 4, .ro, .none, fun _ _ => 0⟩, ⟨3, 0, .ro, .none, fun _ _ => 0⟩]⟩,
    ⟨16, 4096, 32, 0, 1, 64, false, 0, [⟨63, 0, .ro, .none, fun _ _ => 0⟩]⟩,
    ⟨24, 4096, 32, 0, 1, 64, false, 0, [⟨63, 0, .ro, .none, fun _ _ => 0⟩]⟩,
    ⟨32, 4096, 32, 0, 1, 64, false, 0, [⟨63, 0, .ro, .none, fun _ _ => 0⟩]⟩,
    ⟨40, 4096, 32, 0, 1, 64, false, 0, [⟨63, 0, .ro, .none, fun _ _ => 0⟩]⟩,
    ⟨48, 4096, 32, 0, 1, 64, false, 0, [⟨63, 0, .ro, .none, fun _ _ => 0⟩]⟩,
    ⟨56, 4096, 32, 0, 1, 64, false, 0, [⟨63, 0, .ro, .none, fun _ _ => 0⟩]⟩,
    ⟨64, 4096, 32, 0, 1, 64, false, 0, [⟨63, 0, .ro, .none, fun _ _ => 0⟩]⟩,
    ⟨72, 4096, 32, 0, 1, 64, false, 0, [⟨63, 32, .ro, .none, fun _ _ => 0⟩, ⟨31, 0, .ro, .none, fun _ _ => 0⟩]⟩ ]

def regsQNT : List RegDesc :=
  [
    ⟨0, 4096, 32, 0, 1, 32, false, 0, [⟨31, 31, .rw, .commit, fun _ _ => 0⟩, ⟨23, 0, .rw, .commit, fun _ _ => 0x001000⟩]⟩,
    ⟨8, 4096, 32, 0, 1, 64, false, 0, [⟨63, 0, .ro, .none, fun _ _ => 0⟩]⟩,
    ⟨16, 4096, 32, 0, 1, 64, false, 0, [⟨63, 0, .ro, .none, fun _ _ => 0⟩]⟩,
    ⟨24, 4096, 32, 0, 1, 64, false, 0, [⟨63, 0, .ro, .none, fun _ _ => 0⟩]⟩,
    ⟨32, 4096, 32, 0, 1, 64, false, 0, [⟨63, 0, .ro, .none, fun _ _ => 0⟩]⟩,
    ⟨40, 4096, 32, 0, 1, 64, false, 0, [⟨63, 0, .ro, .none, fun _ _ => 0⟩]⟩,
    ⟨48, 4096, 32, 0, 1, 64, false, 0, [⟨63, 32, .ro, .none, fun _ _ => 0⟩, ⟨31, 16, .ro, .none, fun _ _ => 0⟩, ⟨15, 0, .ro, .none, fun _ _ => 0⟩]⟩ ]

def regsSEL : List RegDesc :=
  [
    ⟨0, 4096, 32, 0, 1, 32, false, 0, [⟨0, 0, .rw, .commit, fun _ _ => 0⟩]⟩,
    ⟨8, 4096, 32, 0, 1, 32, false, 0, [⟨31, 31, .ro, .none, fun _ _ => 0⟩, ⟨30, 29, .ro, .none, fun _ _ => 0⟩, ⟨28, 26, .ro, .none, fun _ _ => 0⟩, ⟨25, 25, .ro, .none, fun _ _ => 0⟩, ⟨0, 0, .ro, .none, fun _ _ => 0⟩]⟩,
    ⟨16, 4096, 32, 0, 1, 64, false, 0, [⟨63, 32, .ro, .none, fun _ _ => 0⟩, ⟨31, 0, .ro, .none, fun _ _ => 0⟩]⟩,
    ⟨24, 4096, 32, 0, 1, 64, false, 0, [⟨63, 0, .ro, .none, fun _ _ => 0⟩]⟩,
    ⟨32, 4096, 32, 0, 1, 64, false, 0, [⟨63, 0, .ro, .none, fun _ _ => 0⟩]⟩,
    ⟨40, 4096, 32, 0, 1, 64, false, 0, [⟨63, 0, .ro, .none, fun _ _ => 0⟩]⟩,
    ⟨48, 4096, 32, 0, 1, 64, false, 0, [⟨63, 32, .ro, .none, fun _ _ => 0⟩, ⟨31, 29, .ro, .none, fun _ _ => 0⟩]⟩,
    ⟨56, 4096, 32, 0, 1, 64, false, 0, [⟨63, 0, .ro, .none, fun _ _ => 0⟩]⟩,
    ⟨64, 4096, 32, 0, 1, 64, false, 0, [⟨63, 0, .ro, .none, fun _ _ => 0⟩]⟩ ]

def regsMRG : List RegDesc :=
  [
    ⟨0, 0, 1, 0, 1, 32, false, 0, [⟨31, 31, .rw, .live, fun _ _ => 0⟩, ⟨30, 30, .rw, .live, fun _ _ => 1⟩]⟩,
    ⟨8, 0, 1, 0, 1, 32, false, 0, [⟨31, 31, .ro, .none, fun _ _ => 0⟩, ⟨15, 0, .ro, .none, fun _ _ => 0⟩]⟩,
    ⟨16, 0, 1, 0, 1, 64, false, 0, [⟨63, 0, .ro, .none, fun _ _ => 0⟩]⟩,
    ⟨24, 0, 1, 0, 1, 64, false, 0, [⟨63, 0, .ro, .none, fun _ _ => 0⟩]⟩,
    ⟨32, 0, 1, 0, 1, 64, false, 0, [⟨63, 0, .ro, .none, fun _ _ => 0⟩]⟩,
    ⟨40, 0, 1, 0, 1, 64, false, 0, [⟨63, 0, .ro, .none, fun _ _ => 0⟩]⟩,
    ⟨48, 0, 1, 0, 1, 64, false, 0, [⟨63, 0, .ro, .none, fun _ _ => 0⟩]⟩,
    ⟨56, 0, 1, 0, 1, 32, false, 0, [⟨31, 0, .rc, .none, fun _ _ => 0⟩]⟩ ]

def regsMEM : List RegDesc :=
  [
    ⟨0, 0, 1, 0, 1, 32, false, 0, [⟨31, 31, .rw, .live, fun _ _ => 1⟩, ⟨23, 16, .rw, .live, fun _ _ => 25⟩, ⟨15, 8, .rw, .live, fun _ _ => 4⟩, ⟨7, 0, .rw, .live, fun _ _ => 8⟩]⟩,
    ⟨8, 0, 1, 0, 1, 64, false, 0, [⟨63, 32, .rw, .live, fun _ _ => 8192⟩, ⟨31, 0, .ro, .none, fun _ _ => 520192⟩]⟩,
    ⟨16, 0, 1, 0, 1, 64, false, 0, [⟨63, 32, .ro, .none, fun _ _ => 520192⟩, ⟨31, 0, .ro, .none, fun _ _ => 0⟩]⟩,
    ⟨24, 0, 1, 0, 1, 32, false, 0, [⟨31, 0, .rw, .live, fun _ _ => 1000⟩]⟩,
    ⟨32, 0, 1, 0, 1, 64, false, 0, [⟨63, 0, .ro, .none, fun _ _ => 0⟩]⟩,
    ⟨40, 0, 1, 0, 1, 64, false, 0, [⟨63, 0, .ro, .none, fun _ _ => 0⟩]⟩,
    ⟨48, 0, 1, 0, 1, 64, false, 0, [⟨63, 0, .ro, .none, fun _ _ => 0⟩]⟩,
    ⟨56, 0, 1, 0, 1, 64, false, 0, [⟨63, 32, .rc, .none, fun _ _ => 0⟩, ⟨31, 0, .rc, .none, fun _ _ => 0⟩]⟩,
    ⟨64, 0, 1, 0, 1, 64, false, 0, [⟨63, 56, .rw, .locked, fun _ _ => 0⟩, ⟨47, 0, .rw, .locked, fun _ _ => 0⟩]⟩,
    ⟨72, 0, 1, 0, 1, 32, false, 0, [⟨15, 0, .wo, .live, fun _ _ => 0⟩]⟩,
    ⟨76, 0, 1, 0, 1, 32, false, 0, [⟨15, 0, .ro, .none, fun _ _ => 0⟩]⟩,
    ⟨96, 0, 1, 0, 1, 32, false, 0, [⟨31, 24, .rw, .live, fun _ _ => 25⟩, ⟨23, 8, .rw, .live, fun _ _ => 10⟩, ⟨7, 0, .rw, .live, fun _ _ => 10⟩]⟩,
    ⟨104, 0, 1, 0, 1, 64, false, 0, [⟨63, 56, .ro, .none, fun _ _ => 0⟩, ⟨55, 32, .ro, .none, fun _ _ => 0⟩, ⟨31, 0, .rc, .none, fun _ _ => 0⟩]⟩,
    ⟨112, 0, 1, 0, 1, 64, false, 0, [⟨63, 0, .ro, .none, fun _ _ => 0⟩]⟩,
    ⟨120, 0, 1, 0, 1, 32, false, 0, [⟨31, 31, .rw, .locked, fun _ _ => 0⟩, ⟨11, 0, .rw, .locked, fun _ _ => 0⟩]⟩,
    ⟨128, 0, 1, 0, 1, 32, false, 0, [⟨9, 0, .rw, .live, fun _ _ => 0⟩]⟩,
    ⟨136, 0, 1, 0, 1, 64, false, 1, [⟨63, 32, .rw, .live, fun _ _ => 0⟩, ⟨31, 0, .rw, .live, fun _ _ => 0xFFFFFFFF⟩]⟩,
    ⟨144, 0, 1, 0, 1, 64, false, 1, [⟨63, 32, .ro, .none, fun _ _ => 0⟩, ⟨31, 0, .ro, .none, fun _ _ => 0⟩]⟩,
    ⟨160, 0, 1, 0, 1, 32, false, 0, [⟨11, 0, .rw, .live, fun _ _ => 0⟩]⟩,
    ⟨168, 0, 1, 0, 1, 64, false, 2, [⟨63, 61, .ro, .none, fun _ _ => 0⟩, ⟨47, 32, .ro, .none, fun _ _ => 0⟩, ⟨31, 0, .ro, .none, fun _ _ => 0⟩]⟩ ]

def regsHBM : List RegDesc :=
  [
    ⟨0, 4096, 16, 0, 1, 32, false, 0, [⟨31, 31, .rwl, .live, fun _ _ => 0⟩, ⟨1, 0, .rw, .locked, fun _ _ => 0⟩]⟩,
    ⟨8, 4096, 16, 0, 1, 32, false, 0, [⟨31, 29, .ro, .none, fun _ _ => 0⟩, ⟨23, 16, .ro, .none, fun _ _ => 0⟩]⟩,
    ⟨16, 4096, 16, 0, 1, 32, false, 0, [⟨31, 0, .rc, .none, fun _ _ => 0⟩]⟩,
    ⟨20, 4096, 16, 0, 1, 32, false, 0, [⟨31, 0, .rc, .none, fun _ _ => 0⟩]⟩,
    ⟨24, 4096, 16, 0, 1, 64, false, 0, [⟨63, 63, .w1c, .none, fun _ _ => 0⟩, ⟨35, 6, .ro, .none, fun _ _ => 0⟩]⟩,
    ⟨32, 4096, 16, 0, 1, 64, false, 0, [⟨63, 0, .ro, .none, fun _ _ => 0⟩]⟩ ]

def regsGEO : List RegDesc :=
  [
    ⟨0, 0, 1, 0, 1, 32, false, 0, [⟨31, 31, .rw, .live, fun _ _ => 0⟩, ⟨30, 30, .rw, .live, fun _ _ => 1⟩, ⟨23, 16, .rw, .live, fun _ _ => 40⟩, ⟨15, 0, .rw, .live, fun _ _ => 14⟩]⟩,
    ⟨8, 0, 1, 0, 1, 32, false, 0, [⟨31, 29, .ro, .none, fun _ _ => 0⟩, ⟨27, 24, .ro, .none, fun _ _ => 0xF⟩, ⟨23, 16, .ro, .none, fun _ _ => 0⟩, ⟨15, 0, .ro, .none, fun _ _ => 0⟩]⟩,
    ⟨16, 0, 1, 0, 1, 64, false, 0, [⟨63, 32, .ro, .none, fun _ _ => 0⟩, ⟨31, 0, .ro, .none, fun _ _ => 0⟩]⟩,
    ⟨24, 0, 1, 0, 1, 64, false, 0, [⟨63, 32, .ro, .none, fun _ _ => 0⟩, ⟨31, 0, .ro, .none, fun _ _ => 0⟩]⟩,
    ⟨32, 0, 1, 0, 1, 64, false, 0, [⟨63, 56, .rw, .locked, fun _ _ => 0⟩, ⟨47, 0, .rw, .locked, fun _ _ => 0⟩]⟩,
    ⟨40, 0, 1, 0, 1, 64, false, 0, [⟨63, 48, .ro, .none, fun _ _ => 0⟩, ⟨47, 40, .ro, .none, fun _ _ => 0⟩, ⟨31, 0, .rc, .none, fun _ _ => 0⟩]⟩,
    ⟨4096, 4096, 8, 0, 1, 32, false, 0, [⟨31, 31, .wo, .live, fun _ _ => 0⟩, ⟨30, 30, .wo, .live, fun _ _ => 0⟩, ⟨29, 29, .wo, .live, fun _ _ => 0⟩, ⟨28, 28, .wo, .live, fun _ _ => 0⟩]⟩,
    ⟨4104, 4096, 8, 0, 1, 32, false, 0, [⟨31, 28, .ro, .none, fun _ _ => 0⟩, ⟨27, 24, .ro, .none, fun _ _ => 0⟩, ⟨23, 23, .ro, .none, fun _ _ => 0⟩]⟩,
    ⟨4112, 4096, 8, 0, 1, 64, false, 0, [⟨63, 0, .ro, .none, fun _ _ => 0⟩]⟩,
    ⟨4120, 4096, 8, 0, 1, 64, false, 0, [⟨63, 48, .ro, .none, fun _ _ => 0⟩, ⟨47, 40, .ro, .none, fun _ _ => 0⟩, ⟨31, 0, .ro, .none, fun _ _ => 0⟩]⟩,
    ⟨4128, 4096, 8, 0, 1, 64, false, 0, [⟨63, 32, .rc, .none, fun _ _ => 0⟩, ⟨31, 0, .rc, .none, fun _ _ => 0⟩]⟩,
    ⟨65536, 16, 64, 0, 1, 64, false, 0, [⟨63, 61, .ro, .none, fun _ _ => 0⟩, ⟨47, 32, .ro, .none, fun _ _ => 0⟩, ⟨31, 16, .ro, .none, fun _ _ => 0⟩, ⟨15, 0, .ro, .none, fun _ _ => 0⟩]⟩ ]

def regsCSU : List RegDesc :=
  [
    ⟨0, 0, 1, 0, 1, 32, false, 0, [⟨31, 31, .rw, .live, fun _ _ => 1⟩]⟩,
    ⟨8, 0, 1, 0, 1, 64, false, 0, [⟨63, 63, .wo, .locked, fun _ _ => 0⟩, ⟨51, 48, .wo, .locked, fun _ _ => 0⟩, ⟨47, 0, .wo, .locked, fun _ _ => 0⟩]⟩,
    ⟨16, 0, 1, 0, 1, 32, false, 0, [⟨31, 16, .ro, .none, fun _ _ => 0x001F⟩, ⟨15, 15, .ro, .none, fun _ _ => 0⟩, ⟨14, 12, .ro, .none, fun _ _ => 0⟩]⟩,
    ⟨32, 4, 16, 0, 1, 32, false, 0, [⟨13, 13, .ro, .none, fun q _ => if q = 3 then 1 else 0⟩, ⟨12, 12, .ro, .none, fun _ _ => 0⟩, ⟨11, 11, .ro, .none, fun _ _ => 0⟩, ⟨10, 10, .ro, .none, fun q _ => if q = 2 then 1 else 0⟩, ⟨9, 9, .ro, .none, fun q _ => if q < 5 ∧ q ≠ 3 then 1 else 0⟩, ⟨8, 0, .ro, .none, fun q _ => if q = 2 then 22 else if q < 5 then 8 else 0⟩]⟩,
    ⟨4096, 4096, 64, 0, 1, 32, false, 0, [⟨31, 29, .ro, .none, fun _ _ => 0⟩, ⟨28, 25, .ro, .none, fun _ _ => 0⟩]⟩,
    ⟨4104, 4096, 64, 0, 1, 64, false, 0, [⟨63, 0, .ro, .none, fun _ _ => 0⟩]⟩,
    ⟨4112, 4096, 64, 0, 1, 64, false, 0, [⟨63, 0, .ro, .none, fun _ _ => 0⟩]⟩,
    ⟨4120, 4096, 64, 0, 1, 64, false, 0, [⟨63, 0, .ro, .none, fun _ _ => 0⟩]⟩,
    ⟨4128, 4096, 64, 0, 1, 64, false, 0, [⟨63, 0, .ro, .none, fun _ _ => 0⟩]⟩,
    ⟨4136, 4096, 64, 0, 1, 32, false, 0, [⟨31, 0, .rc, .none, fun _ _ => 0⟩]⟩ ]

def regsIDX : List RegDesc :=
  [
    ⟨0, 0, 1, 0, 1, 32, false, 0, [⟨31, 31, .rw, .live, fun _ _ => 1⟩]⟩,
    ⟨8, 0, 1, 0, 1, 64, false, 0, [⟨63, 56, .rw, .locked, fun _ _ => 0⟩, ⟨47, 0, .rw, .locked, fun _ _ => 0⟩]⟩,
    ⟨16, 0, 1, 0, 1, 32, false, 0, [⟨15, 0, .wo, .live, fun _ _ => 0⟩]⟩,
    ⟨20, 0, 1, 0, 1, 32, false, 0, [⟨15, 0, .ro, .none, fun _ _ => 0⟩]⟩,
    ⟨24, 0, 1, 0, 1, 64, false, 0, [⟨63, 0, .ro, .none, fun _ _ => 0⟩]⟩,
    ⟨32, 0, 1, 0, 1, 32, false, 0, [⟨5, 0, .rw, .live, fun _ _ => 0⟩]⟩,
    ⟨40, 0, 1, 0, 1, 32, false, 3, [⟨31, 29, .ro, .none, fun _ _ => 0⟩, ⟨28, 26, .ro, .none, fun _ _ => 0⟩, ⟨25, 25, .ro, .none, fun _ _ => 0⟩, ⟨9, 0, .ro, .none, fun _ _ => 0⟩]⟩,
    ⟨48, 0, 1, 0, 1, 64, false, 3, [⟨47, 0, .ro, .none, fun _ _ => 0⟩]⟩,
    ⟨56, 0, 1, 0, 1, 64, false, 3, [⟨63, 32, .ro, .none, fun _ _ => 0⟩, ⟨31, 16, .ro, .none, fun _ _ => 0⟩, ⟨15, 0, .ro, .none, fun _ _ => 0⟩]⟩,
    ⟨64, 0, 1, 0, 1, 64, false, 3, [⟨47, 0, .ro, .none, fun _ _ => 0⟩]⟩,
    ⟨72, 0, 1, 0, 1, 64, false, 3, [⟨63, 32, .ro, .none, fun _ _ => 0⟩, ⟨31, 0, .ro, .none, fun _ _ => 0⟩]⟩,
    ⟨80, 0, 1, 0, 1, 64, false, 3, [⟨63, 0, .ro, .none, fun _ _ => 0⟩]⟩,
    ⟨88, 0, 1, 0, 1, 64, false, 3, [⟨63, 0, .ro, .none, fun _ _ => 0⟩]⟩,
    ⟨96, 0, 1, 0, 1, 64, false, 3, [⟨63, 32, .ro, .none, fun _ _ => 0⟩, ⟨31, 0, .ro, .none, fun _ _ => 0⟩]⟩,
    ⟨104, 0, 1, 0, 1, 32, false, 3, [⟨15, 8, .rw, .live, fun _ _ => 25⟩, ⟨7, 0, .rw, .live, fun _ _ => 0⟩]⟩,
    ⟨112, 0, 1, 0, 1, 32, false, 3, [⟨31, 0, .rc, .none, fun _ _ => 0⟩]⟩ ]

def regsFTB : List RegDesc :=
  [
    ⟨0, 0, 1, 0, 1, 32, false, 0, [⟨31, 31, .rw, .live, fun _ _ => 1⟩]⟩,
    ⟨8, 0, 1, 0, 1, 64, false, 0, [⟨63, 56, .rw, .locked, fun _ _ => 0⟩, ⟨47, 0, .rw, .locked, fun _ _ => 0⟩]⟩,
    ⟨16, 0, 1, 0, 1, 32, false, 0, [⟨15, 0, .wo, .live, fun _ _ => 0⟩]⟩,
    ⟨20, 0, 1, 0, 1, 32, false, 0, [⟨15, 0, .ro, .none, fun _ _ => 0⟩]⟩,
    ⟨40, 0, 1, 0, 1, 32, false, 0, [⟨7, 0, .rw, .live, fun _ _ => 0⟩]⟩,
    ⟨48, 0, 1, 0, 1, 32, false, 4, [⟨31, 30, .ro, .none, fun _ _ => 0⟩, ⟨29, 29, .ro, .none, fun _ _ => 0⟩, ⟨28, 24, .ro, .none, fun _ _ => 0⟩, ⟨9, 0, .ro, .none, fun _ _ => 0⟩]⟩,
    ⟨56, 8, 4, 0, 1, 64, false, 4, [⟨63, 32, .ro, .none, fun _ _ => 0⟩, ⟨31, 0, .ro, .none, fun _ _ => 0⟩]⟩,
    ⟨88, 0, 1, 0, 1, 64, false, 4, [⟨63, 32, .ro, .none, fun _ _ => 0⟩, ⟨31, 0, .ro, .none, fun _ _ => 0⟩]⟩,
    ⟨96, 0, 1, 0, 1, 64, false, 4, [⟨63, 32, .rc, .none, fun _ _ => 0⟩, ⟨31, 0, .rc, .none, fun _ _ => 0⟩]⟩,
    ⟨104, 0, 1, 0, 1, 32, false, 4, [⟨31, 0, .rc, .none, fun _ _ => 0⟩]⟩,
    ⟨112, 0, 1, 0, 1, 64, false, 4, [⟨63, 40, .ro, .none, fun _ _ => 0⟩, ⟨39, 16, .ro, .none, fun _ _ => 0⟩, ⟨15, 0, .rc, .none, fun _ _ => 0⟩]⟩ ]

def regsTXU : List RegDesc :=
  [
    ⟨0, 0, 1, 0, 1, 32, false, 0, [⟨31, 31, .rw, .live, fun _ _ => 1⟩, ⟨30, 30, .rw, .live, fun _ _ => 0⟩]⟩,
    ⟨8, 0, 1, 0, 1, 32, false, 0, [⟨31, 0, .rw, .live, fun _ _ => 0⟩]⟩,
    ⟨16, 0, 1, 0, 1, 64, false, 0, [⟨63, 56, .rw, .locked, fun _ _ => 0⟩, ⟨47, 0, .rw, .locked, fun _ _ => 0⟩]⟩,
    ⟨24, 0, 1, 0, 1, 32, false, 0, [⟨15, 0, .wo, .live, fun _ _ => 0⟩]⟩,
    ⟨28, 0, 1, 0, 1, 32, false, 0, [⟨15, 0, .ro, .none, fun _ _ => 0⟩]⟩,
    ⟨32, 0, 1, 0, 1, 64, false, 0, [⟨63, 32, .ro, .none, fun _ _ => 0⟩, ⟨31, 16, .ro, .none, fun _ _ => 0⟩]⟩,
    ⟨40, 0, 1, 0, 1, 64, false, 0, [⟨63, 0, .ro, .none, fun _ _ => 0⟩]⟩,
    ⟨48, 0, 1, 0, 1, 64, false, 0, [⟨63, 0, .ro, .none, fun _ _ => 0⟩]⟩,
    ⟨56, 0, 1, 0, 1, 64, false, 0, [⟨63, 0, .ro, .none, fun _ _ => 0⟩]⟩,
    ⟨64, 0, 1, 0, 1, 64, false, 0, [⟨63, 32, .rc, .none, fun _ _ => 0⟩, ⟨31, 0, .rc, .none, fun _ _ => 0⟩]⟩,
    ⟨72, 0, 1, 0, 1, 64, false, 0, [⟨63, 0, .ro, .none, fun _ _ => 0⟩]⟩,
    ⟨80, 0, 1, 0, 1, 64, false, 0, [⟨63, 32, .ro, .none, fun _ _ => 0⟩, ⟨5, 0, .rc, .none, fun _ _ => 0⟩]⟩,
    ⟨88, 0, 1, 0, 1, 64, false, 0, [⟨63, 32, .ro, .none, fun _ _ => 0⟩, ⟨31, 16, .rc, .none, fun _ _ => 0⟩, ⟨15, 0, .rc, .none, fun _ _ => 0⟩]⟩,
    ⟨96, 0, 1, 0, 1, 64, false, 0, [⟨63, 32, .ro, .none, fun _ _ => 0⟩, ⟨31, 0, .ro, .none, fun _ _ => 0⟩]⟩,
    ⟨104, 0, 1, 0, 1, 32, false, 0, [⟨9, 0, .rw, .live, fun _ _ => 0⟩]⟩,
    ⟨112, 0, 1, 0, 1, 64, false, 5, [⟨63, 62, .ro, .none, fun _ _ => 0⟩, ⟨61, 61, .ro, .none, fun _ _ => 0⟩, ⟨60, 51, .ro, .none, fun _ _ => 0⟩, ⟨50, 32, .ro, .none, fun _ _ => 0⟩, ⟨31, 0, .ro, .none, fun _ _ => 0⟩]⟩,
    ⟨120, 0, 1, 0, 1, 32, false, 0, [⟨11, 0, .rw, .live, fun _ _ => 0⟩]⟩,
    ⟨128, 0, 1, 0, 1, 64, false, 6, [⟨63, 61, .ro, .none, fun _ _ => 0⟩, ⟨60, 60, .ro, .none, fun _ _ => 0⟩, ⟨59, 50, .ro, .none, fun _ _ => 0⟩, ⟨49, 29, .ro, .none, fun _ _ => 0⟩, ⟨28, 0, .ro, .none, fun _ _ => 0⟩]⟩ ]

def regsGEN : List RegDesc :=
  [
    ⟨0, 0, 1, 0, 1, 32, false, 0, [⟨1, 0, .rw, .locked, fun _ _ => 0⟩]⟩,
    ⟨8, 0, 1, 0, 1, 64, false, 0, [⟨63, 56, .rw, .locked, fun _ _ => 0⟩, ⟨47, 0, .rw, .locked, fun _ _ => 0⟩]⟩,
    ⟨16, 0, 1, 0, 1, 32, false, 0, [⟨15, 0, .wo, .live, fun _ _ => 0⟩]⟩,
    ⟨20, 0, 1, 0, 1, 32, false, 0, [⟨15, 0, .ro, .none, fun _ _ => 0⟩]⟩,
    ⟨24, 0, 1, 0, 1, 64, false, 0, [⟨63, 52, .rw, .locked, fun _ _ => 0⟩, ⟨51, 44, .rw, .locked, fun _ _ => 12⟩, ⟨43, 32, .rw, .locked, fun _ _ => 0⟩, ⟨31, 0, .rw, .live, fun _ _ => 1000⟩]⟩,
    ⟨32, 0, 1, 0, 1, 64, false, 0, [⟨63, 48, .ro, .none, fun _ _ => 0⟩, ⟨47, 32, .rc, .none, fun _ _ => 0⟩, ⟨31, 16, .rc, .none, fun _ _ => 0⟩, ⟨15, 0, .ro, .none, fun _ _ => 0⟩]⟩,
    ⟨40, 0, 1, 0, 1, 64, false, 0, [⟨63, 32, .rc, .none, fun _ _ => 0⟩, ⟨31, 0, .rc, .none, fun _ _ => 0⟩]⟩,
    ⟨48, 0, 1, 0, 1, 32, false, 0, [⟨31, 0, .rc, .none, fun _ _ => 0⟩]⟩,
    ⟨56, 0, 1, 0, 1, 32, false, 0, [⟨11, 0, .rw, .live, fun _ _ => 0⟩]⟩,
    ⟨64, 0, 1, 0, 1, 64, false, 7, [⟨63, 62, .ro, .none, fun _ _ => 0⟩, ⟨61, 52, .ro, .none, fun _ _ => 0⟩, ⟨51, 32, .ro, .none, fun _ _ => 0⟩, ⟨31, 0, .ro, .none, fun _ _ => 0⟩]⟩,
    ⟨72, 0, 1, 0, 1, 64, false, 7, [⟨63, 0, .ro, .none, fun _ _ => 0⟩]⟩,
    ⟨80, 0, 1, 0, 1, 64, false, 7, [⟨63, 32, .ro, .none, fun _ _ => 0⟩, ⟨31, 0, .ro, .none, fun _ _ => 0⟩]⟩,
    ⟨88, 0, 1, 0, 1, 64, false, 7, [⟨63, 32, .ro, .none, fun _ _ => 0⟩, ⟨31, 0, .ro, .none, fun _ _ => 0⟩]⟩,
    ⟨96, 0, 1, 0, 1, 64, false, 7, [⟨63, 32, .ro, .none, fun _ _ => 0⟩, ⟨31, 0, .rc, .none, fun _ _ => 0⟩]⟩,
    ⟨104, 0, 1, 0, 1, 64, false, 7, [⟨63, 48, .rc, .none, fun _ _ => 0⟩, ⟨47, 32, .rc, .none, fun _ _ => 0⟩, ⟨31, 0, .ro, .none, fun _ _ => 0⟩]⟩ ]

def regsKTR : List RegDesc :=
  [
    ⟨0, 0, 1, 0, 1, 32, false, 0, [⟨19, 0, .rwl, .live, fun _ _ => 0⟩]⟩,
    ⟨8, 0, 1, 0, 1, 64, false, 0, [⟨63, 48, .rw, .locked, fun _ _ => 7311⟩, ⟨47, 40, .rw, .live, fun _ _ => 8⟩, ⟨39, 32, .rw, .live, fun _ _ => 4⟩, ⟨31, 16, .rw, .live, fun _ _ => 50⟩]⟩,
    ⟨16, 0, 1, 0, 1, 64, false, 0, [⟨63, 56, .rw, .locked, fun _ _ => 0⟩, ⟨47, 0, .rw, .locked, fun _ _ => 0⟩]⟩,
    ⟨40, 0, 1, 0, 1, 32, false, 0, [⟨31, 31, .wo, .live, fun _ _ => 0⟩, ⟨30, 30, .wo, .live, fun _ _ => 0⟩, ⟨29, 29, .ro, .none, fun _ _ => 0⟩, ⟨11, 0, .wo, .live, fun _ _ => 0⟩]⟩,
    ⟨48, 0, 1, 0, 1, 64, false, 0, [⟨63, 32, .rc, .none, fun _ _ => 0⟩, ⟨31, 28, .ro, .none, fun _ _ => 0⟩, ⟨19, 0, .ro, .none, fun _ _ => 0⟩]⟩,
    ⟨56, 0, 1, 0, 1, 64, false, 0, [⟨63, 32, .rc, .none, fun _ _ => 0⟩, ⟨19, 0, .ro, .none, fun _ _ => 0⟩]⟩,
    ⟨4096, 4096, 16, 0, 1, 32, false, 0, [⟨31, 31, .rw, .live, fun _ _ => 1⟩, ⟨30, 29, .rw, .locked, fun _ _ => 0⟩, ⟨28, 28, .rw, .live, fun _ _ => 1⟩, ⟨27, 27, .rw, .locked, fun _ _ => 1⟩]⟩,
    ⟨4104, 4096, 16, 0, 1, 32, false, 0, [⟨31, 29, .ro, .none, fun _ _ => 0⟩, ⟨28, 28, .ro, .none, fun _ _ => 0⟩, ⟨27, 27, .ro, .none, fun _ _ => 0⟩]⟩,
    ⟨4112, 4096, 16, 0, 1, 64, false, 0, [⟨63, 0, .ro, .none, fun _ _ => 0⟩]⟩,
    ⟨4120, 4096, 16, 0, 1, 32, false, 0, [⟨31, 31, .rw, .live, fun _ _ => 1⟩, ⟨30, 29, .rw, .idle, fun _ _ => 2⟩, ⟨23, 16, .rw, .idle, fun _ _ => 0⟩]⟩,
    ⟨4128, 4096, 16, 0, 1, 64, false, 0, [⟨63, 32, .ro, .none, fun _ _ => 0⟩, ⟨31, 0, .ro, .none, fun _ _ => 0⟩]⟩,
    ⟨4152, 4096, 16, 0, 1, 64, false, 0, [⟨63, 48, .rc, .none, fun _ _ => 0⟩, ⟨47, 32, .rc, .none, fun _ _ => 0⟩, ⟨31, 0, .rc, .none, fun _ _ => 0⟩]⟩,
    ⟨24, 0, 1, 0, 1, 64, false, 0, [⟨63, 56, .rw, .locked, fun _ _ => 0⟩, ⟨47, 0, .rw, .locked, fun _ _ => 0⟩]⟩,
    ⟨32, 0, 1, 0, 1, 64, false, 0, [⟨63, 56, .rw, .locked, fun _ _ => 0⟩, ⟨47, 0, .rw, .locked, fun _ _ => 0⟩]⟩,
    ⟨4136, 4096, 16, 0, 1, 64, false, 0, [⟨63, 0, .ro, .none, fun _ _ => 0⟩]⟩,
    ⟨4144, 4096, 16, 0, 1, 64, false, 0, [⟨63, 0, .ro, .none, fun _ _ => 0⟩]⟩ ]

def regsSHP : List RegDesc :=
  [
    ⟨0, 0, 1, 0, 1, 32, false, 0, [⟨9, 0, .rw, .live, fun _ _ => 0⟩]⟩,
    ⟨8, 0, 1, 0, 1, 64, false, 10, [⟨63, 32, .rw, .live, fun _ _ => 65536⟩, ⟨31, 0, .rw, .live, fun _ _ => 0⟩]⟩,
    ⟨32, 0, 1, 0, 1, 64, false, 10, [⟨63, 63, .rw, .live, fun _ _ => 0⟩, ⟨62, 62, .rw, .live, fun _ _ => 0⟩]⟩,
    ⟨40, 0, 1, 0, 1, 64, false, 0, [⟨63, 32, .rc, .none, fun _ _ => 0⟩, ⟨31, 0, .rc, .none, fun _ _ => 0⟩]⟩,
    ⟨48, 8, 2, 0, 1, 64, false, 0, [⟨63, 0, .rw, .live, fun i _ => if i = 0 then afColourLow else afColourHigh⟩]⟩,
    ⟨64, 0, 1, 0, 1, 64, false, 0, [⟨47, 0, .rw, .live, fun _ _ => 0⟩]⟩,
    ⟨72, 0, 1, 0, 1, 32, false, 0, [⟨6, 0, .rw, .live, fun _ _ => 75⟩]⟩,
    ⟨80, 0, 1, 0, 1, 64, false, 0, [⟨63, 56, .rw, .locked, fun _ _ => 0⟩, ⟨47, 0, .rw, .locked, fun _ _ => 0⟩]⟩,
    ⟨88, 0, 1, 0, 1, 32, false, 0, [⟨31, 31, .rw, .live, fun _ _ => 0⟩, ⟨15, 0, .rw, .live, fun _ _ => 100⟩]⟩,
    ⟨96, 0, 1, 0, 1, 64, false, 0, [⟨63, 32, .ro, .none, fun _ _ => 0⟩, ⟨31, 0, .rw, .live, fun _ _ => 0⟩]⟩,
    ⟨104, 0, 1, 0, 1, 32, false, 0, [⟨31, 0, .rc, .none, fun _ _ => 0⟩]⟩,
    ⟨4096, 4096, 16, 0, 1, 32, false, 0, [⟨31, 31, .wo, .live, fun _ _ => 0⟩, ⟨30, 30, .ro, .none, fun _ _ => 0⟩, ⟨8, 0, .rw, .switch, fun _ _ => 0⟩]⟩,
    ⟨4104, 4096, 16, 0, 1, 64, false, 0, [⟨63, 0, .rw, .switch, fun _ _ => 0⟩]⟩,
    ⟨4112, 4096, 16, 0, 1, 64, false, 0, [⟨63, 32, .ro, .none, fun _ _ => 0⟩, ⟨8, 0, .ro, .none, fun _ _ => 0⟩]⟩,
    ⟨4120, 4096, 16, 0, 1, 64, false, 0, [⟨63, 0, .ro, .none, fun _ _ => 0⟩]⟩,
    ⟨4352, 4096, 16, 4, 256, 32, false, 0, [⟨31, 24, .rw, .switch, fun _ _ => 0xFF⟩, ⟨23, 0, .rw, .switch, fun _ _ => 0⟩]⟩,
    ⟨5376, 4096, 16, 4, 256, 32, false, 0, [⟨31, 24, .ro, .none, fun _ _ => 0xFF⟩, ⟨23, 0, .ro, .none, fun _ _ => 0⟩]⟩,
    ⟨16, 0, 1, 0, 1, 64, false, 10, [⟨63, 32, .rw, .live, fun _ _ => 65536⟩, ⟨31, 0, .rw, .live, fun _ _ => 800000⟩]⟩,
    ⟨24, 0, 1, 0, 1, 64, false, 10, [⟨63, 32, .rw, .live, fun _ _ => 65536⟩, ⟨31, 0, .rw, .live, fun _ _ => 800000⟩]⟩ ]

def regsEDG : List RegDesc :=
  [
    ⟨16, 0, 1, 0, 1, 32, false, 0, [⟨15, 8, .rc, .none, fun _ _ => 0⟩, ⟨1, 1, .ro, .none, fun _ _ => 0⟩, ⟨0, 0, .ro, .none, fun _ _ => 1⟩]⟩,
    ⟨256, 8, 100, 0, 1, 32, false, 0, [⟨31, 31, .wo, .live, fun _ _ => 0⟩, ⟨24, 24, .rw, .idle, fun i _ => if 32 ≤ i ∧ i ≤ 98 then 1 else 0⟩, ⟨23, 0, .rw, .idle, fun i _ => if i < 16 then 1000 else if i < 32 then 0 else if i < 96 then 500 else if i < 99 then 200 else 0⟩]⟩,
    ⟨260, 8, 100, 0, 1, 32, false, 0, [⟨31, 31, .ro, .none, fun _ _ => 1⟩, ⟨30, 29, .ro, .none, fun _ _ => 0⟩, ⟨28, 28, .ro, .none, fun _ _ => 0⟩, ⟨27, 16, .rc, .none, fun _ _ => 0⟩, ⟨15, 0, .rc, .none, fun _ _ => 0⟩]⟩,
    ⟨2048, 4, 8, 0, 1, 32, true, 0, [⟨31, 0, .ro, .none, fun _ _ => 0⟩]⟩ ]

def regsPWR : List RegDesc :=
  [
    ⟨0, 0, 1, 0, 1, 32, false, 0, [⟨1, 0, .rw, .live, fun _ _ => 1⟩]⟩,
    ⟨8, 0, 1, 0, 1, 32, false, 0, [⟨31, 30, .ro, .none, fun _ _ => 1⟩, ⟨29, 29, .ro, .none, fun _ _ => 0⟩, ⟨28, 26, .ro, .none, fun _ _ => 0⟩, ⟨25, 22, .ro, .none, fun _ _ => 0xF⟩, ⟨21, 19, .ro, .none, fun _ _ => 0⟩, ⟨18, 16, .ro, .none, fun _ _ => 0⟩]⟩,
    ⟨16, 0, 1, 0, 1, 64, false, 0, [⟨63, 32, .ro, .none, fun _ _ => 0⟩, ⟨14, 0, .ro, .none, fun _ _ => 30000⟩]⟩,
    ⟨24, 0, 1, 0, 1, 64, false, 0, [⟨63, 48, .ro, .none, fun _ _ => 0⟩, ⟨47, 32, .ro, .none, fun _ _ => 0⟩, ⟨31, 16, .ro, .none, fun _ _ => 0⟩]⟩,
    ⟨32, 0, 1, 0, 1, 32, false, 0, [⟨31, 24, .ro, .none, fun _ _ => 0⟩, ⟨23, 16, .ro, .none, fun _ _ => 0⟩, ⟨15, 8, .ro, .none, fun _ _ => 0⟩]⟩,
    ⟨40, 0, 1, 0, 1, 32, false, 0, [⟨31, 24, .rw, .live, fun _ _ => 95⟩]⟩,
    ⟨48, 0, 1, 0, 1, 32, false, 0, [⟨10, 0, .rw, .live, fun _ _ => 64⟩]⟩,
    ⟨56, 0, 1, 0, 1, 32, false, 0, [⟨19, 0, .ro, .none, fun _ _ => 0xFFFFF⟩]⟩,
    ⟨64, 0, 1, 0, 1, 64, false, 0, [⟨63, 48, .rc, .none, fun _ _ => 0⟩, ⟨47, 32, .rc, .none, fun _ _ => 0⟩, ⟨31, 16, .rc, .none, fun _ _ => 0⟩, ⟨15, 0, .rc, .none, fun _ _ => 0⟩]⟩,
    ⟨72, 0, 1, 0, 1, 64, false, 0, [⟨63, 0, .ro, .none, fun _ _ => 0⟩]⟩ ]

def regsRAS : List RegDesc :=
  [
    ⟨0, 0, 1, 0, 1, 32, false, 0, [⟨31, 31, .rw, .live, fun _ _ => 1⟩, ⟨23, 16, .rw, .live, fun _ _ => 16⟩, ⟨15, 0, .rw, .live, fun _ _ => 1000⟩]⟩,
    ⟨8, 0, 1, 0, 1, 32, false, 0, [⟨31, 24, .rw, .live, fun _ _ => 24⟩, ⟨15, 0, .rw, .live, fun _ _ => 600⟩]⟩,
    ⟨16, 0, 1, 0, 1, 64, false, 0, [⟨63, 63, .ro, .none, fun _ _ => 0⟩, ⟨62, 56, .ro, .none, fun _ _ => 0⟩, ⟨55, 32, .ro, .none, fun _ _ => 0⟩, ⟨31, 0, .ro, .none, fun _ _ => 0⟩]⟩,
    ⟨32, 0, 1, 0, 1, 32, false, 0, [⟨31, 0, .ro, .none, fun _ _ => 0⟩]⟩,
    ⟨40, 0, 1, 0, 1, 32, false, 0, [⟨31, 31, .wo, .live, fun _ _ => 0⟩, ⟨30, 30, .wo, .live, fun _ _ => 0⟩, ⟨20, 18, .wo, .live, fun _ _ => 0⟩, ⟨17, 9, .wo, .live, fun _ _ => 0⟩, ⟨4, 0, .wo, .live, fun _ _ => 0⟩]⟩,
    ⟨48, 0, 1, 0, 1, 64, false, 0, [⟨7, 0, .ro, .none, fun _ _ => 0⟩, ⟨15, 8, .ro, .none, fun _ _ => 0⟩, ⟨23, 16, .ro, .none, fun _ _ => 0⟩, ⟨31, 24, .ro, .none, fun _ _ => 0⟩, ⟨39, 32, .ro, .none, fun _ _ => 0⟩, ⟨47, 40, .ro, .none, fun _ _ => 0⟩, ⟨55, 48, .ro, .none, fun _ _ => 0⟩, ⟨63, 56, .ro, .none, fun _ _ => 0⟩]⟩,
    ⟨56, 0, 1, 0, 1, 64, false, 0, [⟨63, 32, .ro, .none, fun _ _ => 0⟩, ⟨31, 16, .ro, .none, fun _ _ => 0⟩, ⟨15, 8, .ro, .none, fun _ _ => 0⟩, ⟨0, 0, .ro, .none, fun _ _ => 0⟩]⟩,
    ⟨64, 8, 8, 0, 1, 64, false, 0, [⟨63, 32, .rc, .none, fun _ _ => 0⟩, ⟨31, 0, .rc, .none, fun _ _ => 0⟩]⟩,
    ⟨128, 8, 3, 0, 1, 64, false, 0, [⟨63, 62, .ro, .none, fun _ _ => 0⟩, ⟨47, 32, .rc, .none, fun _ _ => 0⟩, ⟨31, 0, .rc, .none, fun _ _ => 0⟩]⟩,
    ⟨160, 0, 1, 0, 1, 64, false, 0, [⟨63, 63, .rw, .live, fun _ _ => 0⟩, ⟨62, 62, .rw, .live, fun _ _ => 0⟩, ⟨61, 59, .rw, .live, fun _ _ => 0⟩, ⟨58, 53, .rw, .live, fun _ _ => 0⟩, ⟨52, 48, .rc, .none, fun _ _ => 0⟩, ⟨47, 0, .rw, .live, fun _ _ => 0⟩]⟩ ]

def regsONX : List RegDesc :=
  [
    ⟨0, 0, 1, 0, 1, 32, false, 0, [⟨31, 29, .ro, .none, fun _ _ => 0⟩, ⟨28, 28, .ro, .none, fun _ _ => 0⟩, ⟨27, 27, .ro, .none, fun _ _ => 0⟩, ⟨26, 24, .ro, .none, fun _ _ => 0⟩, ⟨23, 20, .ro, .none, fun _ _ => 0⟩, ⟨19, 14, .ro, .none, fun _ _ => 0⟩, ⟨13, 10, .ro, .none, fun _ _ => 0⟩]⟩,
    ⟨8, 0, 1, 0, 1, 64, false, 0, [⟨63, 56, .rw, .locked, fun _ _ => 0⟩, ⟨47, 0, .rw, .locked, fun _ _ => 0⟩]⟩,
    ⟨16, 0, 1, 0, 1, 32, false, 0, [⟨15, 0, .wo, .live, fun _ _ => 0⟩]⟩,
    ⟨20, 0, 1, 0, 1, 32, false, 0, [⟨15, 0, .ro, .none, fun _ _ => 0⟩]⟩,
    ⟨32, 0, 1, 0, 1, 32, false, 0, [⟨11, 0, .rw, .live, fun _ _ => 0⟩]⟩,
    ⟨40, 0, 1, 0, 1, 64, false, 11, [⟨63, 62, .ro, .none, fun _ _ => 0⟩, ⟨61, 61, .ro, .none, fun _ _ => 0⟩]⟩,
    ⟨48, 0, 1, 0, 1, 64, false, 11, [⟨63, 0, .ro, .none, fun _ _ => 0⟩]⟩,
    ⟨56, 0, 1, 0, 1, 32, false, 0, [⟨26, 24, .w1c, .none, fun _ _ => 0⟩]⟩,
    ⟨64, 0, 1, 0, 1, 64, false, 0, [⟨63, 32, .rc, .none, fun _ _ => 0⟩, ⟨31, 0, .rc, .none, fun _ _ => 0⟩]⟩,
    ⟨256, 32, 8, 8, 4, 64, false, 0, [⟨63, 0, .ro, .none, fun _ _ => 0⟩]⟩ ]

def regsLPE : List RegDesc :=
  [
    ⟨0, 0, 1, 0, 1, 32, false, 0, [⟨31, 31, .rw, .live, fun _ _ => 1⟩, ⟨30, 30, .rw, .live, fun _ _ => 0⟩, ⟨15, 0, .rw, .live, fun _ _ => 512⟩]⟩,
    ⟨8, 0, 1, 0, 1, 64, false, 0, [⟨63, 56, .rw, .locked, fun _ _ => 0⟩, ⟨47, 0, .rw, .locked, fun _ _ => 0⟩]⟩,
    ⟨16, 0, 1, 0, 1, 64, false, 0, [⟨63, 32, .ro, .none, fun _ _ => 0⟩, ⟨31, 0, .rw, .live, fun _ _ => 0⟩]⟩,
    ⟨24, 0, 1, 0, 1, 32, false, 0, [⟨31, 0, .rc, .none, fun _ _ => 0⟩]⟩,
    ⟨32, 0, 1, 0, 1, 64, false, 0, [⟨63, 0, .ro, .none, fun _ _ => 0⟩]⟩ ]

def regsEVR : List RegDesc :=
  [
    ⟨0, 0, 1, 0, 1, 32, false, 0, [⟨31, 31, .rw, .live, fun _ _ => 0⟩]⟩,
    ⟨8, 0, 1, 0, 1, 64, false, 0, [⟨63, 47, .ro, .none, fun _ _ => 0⟩, ⟨46, 30, .ro, .none, fun _ _ => 0⟩, ⟨29, 21, .ro, .none, fun _ _ => 0⟩]⟩,
    ⟨16, 0, 1, 0, 1, 64, false, 0, [⟨39, 0, .ro, .none, fun _ _ => 0⟩]⟩,
    ⟨24, 0, 1, 0, 1, 32, false, 0, [⟨31, 0, .ro, .none, fun _ _ => 0⟩]⟩,
    ⟨32, 8, 2, 0, 1, 64, false, 0, [⟨63, 0, .rw, .live, fun _ _ => 0⟩]⟩,
    ⟨192, 0, 1, 0, 1, 64, false, 0, [⟨63, 0, .wo, .live, fun _ _ => 0⟩]⟩,
    ⟨200, 0, 1, 0, 1, 64, false, 0, [⟨63, 0, .ro, .none, fun _ _ => 0⟩]⟩,
    ⟨208, 0, 1, 0, 1, 64, false, 0, [⟨63, 32, .rc, .none, fun _ _ => 0⟩, ⟨31, 0, .rc, .none, fun _ _ => 0⟩]⟩,
    ⟨64, 64, 2, 8, 8, 64, false, 0, [⟨63, 0, .ro, .none, fun _ _ => 0⟩]⟩ ]

def regsMGT : List RegDesc :=
  [
    ⟨0, 0, 1, 0, 1, 32, false, 0, [⟨31, 31, .rw, .live, fun _ _ => 1⟩]⟩,
    ⟨8, 0, 1, 0, 1, 64, false, 0, [⟨63, 62, .ro, .none, fun _ _ => 0⟩, ⟨47, 0, .ro, .none, fun _ _ => 0⟩]⟩,
    ⟨16, 0, 1, 0, 1, 64, false, 0, [⟨63, 63, .wo, .locked, fun _ _ => 0⟩, ⟨62, 62, .ro, .none, fun _ _ => 0⟩, ⟨61, 60, .wo, .locked, fun _ _ => 0⟩, ⟨59, 57, .ro, .none, fun _ _ => 0⟩, ⟨27, 0, .wo, .locked, fun _ _ => 0⟩]⟩,
    ⟨24, 0, 1, 0, 1, 64, false, 0, [⟨63, 40, .wo, .locked, fun _ _ => 0⟩, ⟨39, 0, .wo, .locked, fun _ _ => 0⟩]⟩,
    ⟨32, 0, 1, 0, 1, 32, false, 0, [⟨31, 31, .ro, .none, fun _ _ => 0⟩, ⟨6, 0, .ro, .none, fun _ _ => 0⟩]⟩,
    ⟨40, 0, 1, 0, 1, 32, false, 0, [⟨31, 31, .wo, .live, fun _ _ => 0⟩]⟩ ]

/-- Table "Block base index n" (spec/19). -/
def blockRegs : Nat → List RegDesc
  | 0 => regsPART
  | 1 => regsDSP
  | 2 => regsCORE
  | 3 => regsFCT
  | 4 => regsMX
  | 5 => regsQNT
  | 6 => regsSEL
  | 7 => regsMRG
  | 8 => regsMEM
  | 9 => regsHBM
  | 10 => regsGEO
  | 11 => regsCSU
  | 12 => regsIDX
  | 13 => regsFTB
  | 14 => regsTXU
  | 15 => regsGEN
  | 16 => regsKTR
  | 17 => regsSHP
  | 18 => regsEDG
  | 19 => regsPWR
  | 20 => regsRAS
  | 21 => regsONX
  | 22 => regsLPE
  | 23 => regsEVR
  | 24 => regsMGT
  | _ => []

end Sys2Proof.Machine
end

