-- ==== Sys2Proof/Machine/CoreState.lean ====
section
/-! DEFINITION. What a core holds while it runs a command (spec/03 to spec/06): its instruction store, scalar,
vector and mask registers, accumulators, shadow and active tile, store, operand versions and output
buffers. Plain data; everything is at the start state of R61, R69 and R142 when a command is placed. -/

namespace Sys2Proof.Machine

/-- How a command ended: its status and detail codes and the CODE of an ABORT. -/
structure Stop where
  status : Nat
  detail : Nat
  code : Nat
deriving DecidableEq, Repr

/-- The fixed version of one declared range (R79): its bytes, keyed from 0, and the serial numbers of the
mappings its pages belonged to at first dispatch (R480). -/
structure Pin where
  va : Nat
  length : Nat
  cells : List (Nat × Byte)
  serials : List Nat
deriving DecidableEq, Repr

/-- The fresh buffer of one declared output (R80), keyed from 0; `wrote` are the ranges that STAGEs wrote, first
offset and length, which alone a KV_APPEND publishes (R87, spec/13 "A step"). -/
structure OutBuf where
  kind : Nat
  va : Nat
  length : Nat
  cells : List (Nat × Byte)
  wrote : List (Nat × Nat)
deriving DecidableEq, Repr

/-- A region that a STAGE wrote in a matrix layout (table "Matrix layouts in the core store"): kind 1
ACT_SKEW, 2 WEIGHT_TILE; the staged codes row by row, `rb` bytes a row; and the bytes written over it by other
instructions, by their offset in the region (R111). -/
structure Region where
  addr : Nat
  size : Nat
  kind : Nat
  elem : Nat
  rows : Nat
  rb : Nat
  cells : List (Nat × Byte)
  overlay : List (Nat × Byte)
deriving DecidableEq, Repr

/-- A weight tile (R101): its pairing and its weights, keyed k * 512 + n; unlisted weights are +0. -/
structure Tile where
  pairing : Nat
  w : List (Nat × F32)
deriving DecidableEq, Repr

/-- An external operation that the command has sent and that its target has not yet acknowledged. -/
structure ExtOp where
  id : Nat
  geo : Bool
deriving DecidableEq, Repr

/-- A core that runs a command. Vector registers are keyed v * 512 + lane, accumulators row * 512 + column,
the store by its 25-bit address; unlisted entries are zero. -/
structure Core where
  /-- The command, and the number of its queue item. -/
  d : CmdDesc
  item : Nat
  /-- Dispatcher time of the placement, 10 ns units (R378). -/
  placed : Nat
  /-- First unit of the facet window in the core's quarter (R70). -/
  window : Nat
  /-- The instruction store and the fixed operand versions, in the order of the entries. -/
  code : List Word64
  pins : List Pin
  outs : List OutBuf
  pc : Nat
  sregs : List (Nat × Word64)
  vregs : List (Nat × F32)
  masks : List (Nat × BitVec 512)
  acc : List (Nat × F32)
  shadow : Tile
  shadowFull : Bool
  active : Tile
  activeFull : Bool
  store : List (Nat × Byte)
  regions : List Region
  /-- Counter of the stochastic-rounding generator (R96). -/
  ctr : Nat
  /-- The command's counts of R137, and the NaN inputs of its select instructions. -/
  sat : Nat
  nan : Nat
  degen : Nat
  selNan : Nat
  /-- Tiles swapped in and rows run by the command (MX_LAST). -/
  tiles : Nat
  rows : Nat
  /-- Ranges of its outputs that STAGEs wrote since the last FENCE (R82): first address and length. -/
  unfenced : List (Nat × Nat)
  /-- External operations sent and not acknowledged; `waiting`: a FENCE of SCOPE 1 waits for them (R81). -/
  ext : List ExtOp
  waiting : Bool
  /-- Set once the command has ended; a command in its commit phase has ended DONE. -/
  ended : Option Stop
  /-- Instructions completed since the start: with the item's number they number the command's open values, so that a re-run draws the
  same ones (R97). The model's own field (log entry 3: DESIGN CHOICE, safe). -/
  opens : Nat
deriving DecidableEq, Repr

/-- An update of a counter field: added to, or set. -/
inductive Upd where
  | add (f : RF) (n : Nat)
  | set (f : RF) (n : Nat)
deriving DecidableEq, Repr

/-- What one kernel instruction does on its core. -/
inductive KRes where
  /-- It completes: the core afterwards, the counter fields it updates, and the index of
  the next instruction when it is not the following one. -/
  | ok (k : Core) (upd : List Upd) (jump : Option Int)
  /-- The command ends without COMMIT (R87). -/
  | stop (x : Stop)
deriving DecidableEq, Repr

end Sys2Proof.Machine
end

