-- ==== Sys2Proof/Machine/Operands.lean ====
section
/-! DEFINITION. Operand forms of kernel instructions: scalar, vector and mask registers, addresses and bytes
of the store address space (spec/03 "Store address spaces", R62, R63, R68, R69, R111, R142). -/

namespace Sys2Proof.Machine

/-- Status codes (table "Status names shared by every chapter", R17). -/
def stDone : Nat := 0x00
def stCancelled : Nat := 0x01
def stAlreadyFinished : Nat := 0x02
def stFailed : Nat := 0x03
def stShort : Nat := 0x04
def stSuspended : Nat := 0x05
def stOverBudget : Nat := 0x06
def stModelUnavailable : Nat := 0x07
def stPoisoned : Nat := 0x08
def stRejectedPolicy : Nat := 0x09
def stNotPresent : Nat := 0x0A
def stInvalidEncoding : Nat := 0x0B

/-- Ends of a command with a status alone, and FAILED with a detail code. -/
def Stop.invalid : Stop := ⟨stInvalidEncoding, 0, 0⟩
def Stop.notPresent : Stop := ⟨stNotPresent, 0, 0⟩
def Stop.failed (detail : Nat) : Stop := ⟨stFailed, detail, 0⟩

/-- Detail codes of spec/03 (table "Detail codes of command failure"), spec/04, spec/05 and spec/06. -/
def dCodeRange : Nat := 0x0301
def dMisaligned : Nat := 0x0302
def dStoreRange : Nat := 0x0303
def dUndeclaredAccess : Nat := 0x0304
def dDeclareLimit : Nat := 0x0305
def dFenceMissing : Nat := 0x0306
def dKernelAbort : Nat := 0x0307
def dExternalUndeclared : Nat := 0x0308
def dExternalOverrun : Nat := 0x0309
def dCmdIdReused : Nat := 0x030A
def dPairingMismatch : Nat := 0x0401
def dAccRange : Nat := 0x0402
def dNoTile : Nat := 0x0403
def dQstateMismatch : Nat := 0x0501
def dSelRange : Nat := 0x0601
def dSelOverlap : Nat := 0x0602
def dSelIndexRange : Nat := 0x0603

/-- Little-endian value of a list of bytes (spec/00 "Notation and units"). -/
def leNat : List Byte → Nat
  | [] => 0
  | b :: r => b.toNat + 256 * leNat r

/-- The `n` little-endian bytes of a value. -/
def leBytes : Nat → Nat → List Byte
  | 0, _ => []
  | n + 1, v => BitVec.ofNat 8 v :: leBytes n (v / 256)

/-- Bits [hi:lo] of a value. -/
def bitsOf (v hi lo : Nat) : Nat := (v / 2 ^ lo) % 2 ^ (hi - lo + 1)

/-- The words of `n` bytes each of a list of bytes. -/
def words (n : Nat) : Nat → List Byte → List Nat
  | 0, _ => []
  | m + 1, bs => leNat (bs.take n) :: words n m (bs.drop n)

/-- The code of element `i` of format `fmt` in a list of bytes (R122). -/
def elemCode (fmt : Nat) (bs : List Byte) (i : Nat) : Nat :=
  match Fmt.bits fmt with
  | 4 => let b := (bs.getD (i / 2) 0).toNat; if i % 2 = 0 then b % 16 else b / 16
  | 16 => leNat ((bs.drop (2 * i)).take 2)
  | 32 => leNat ((bs.drop (4 * i)).take 4)
  | _ => (bs.getD i 0).toNat

/-- The codes of the first `n` elements of format `fmt` of a list of bytes (R122). -/
def elemCodes (fmt n : Nat) (bs : List Byte) : List Nat :=
  match Fmt.bits fmt with
  | 4 => ((bs.take ((n + 1) / 2)).flatMap (fun b => [b.toNat % 16, b.toNat / 16])).take n
  | 16 => words 2 n bs
  | 32 => words 4 n bs
  | _ => (bs.take n).map (fun b => b.toNat)

/-- Pairs of nibbles as bytes. -/
def packNibbles : List Nat → List Byte
  | [] => []
  | [a] => [BitVec.ofNat 8 (a % 16)]
  | a :: b :: r => BitVec.ofNat 8 (a % 16 + 16 * (b % 16)) :: packNibbles r

/-- The bytes of a list of codes of format `fmt` (R122). -/
def packElems (fmt : Nat) (codes : List Nat) : List Byte :=
  match Fmt.bits fmt with
  | 4 => packNibbles codes
  | 16 => codes.flatMap (leBytes 2)
  | 32 => codes.flatMap (leBytes 4)
  | _ => codes.map (BitVec.ofNat 8)

/-- A scalar register; S0 reads as zero (R62). -/
def Core.s (k : Core) (r : Reg5) : Word64 := if r = 0 then 0 else Sparse.get 0 k.sregs r.toNat

/-- Writes a scalar register; a write to S0 is discarded (R62). -/
def Core.setS (k : Core) (r : Reg5) (v : Word64) : Core :=
  if r = 0 then k else { k with sregs := Sparse.set 0 k.sregs r.toNat v }

/-- The 512 lanes of a vector register (R142). -/
def Core.v (k : Core) (r : Reg5) : List F32 := Sparse.read 0 k.vregs (r.toNat * 512) 512

/-- Writes the 512 lanes of a vector register. -/
def Core.setV (k : Core) (r : Reg5) (l : List F32) : Core :=
  { k with vregs := Sparse.write 0 k.vregs (r.toNat * 512) (l.take 512) }

/-- A mask register; M0 reads as all ones (R142). -/
def Core.m (k : Core) (r : Reg3) : BitVec 512 := if r = 0 then BitVec.allOnes 512 else Sparse.get 0 k.masks r.toNat

/-- Writes a mask register other than M0. -/
def Core.setM (k : Core) (r : Reg3) (v : BitVec 512) : Core :=
  if r = 0 then k else { k with masks := Sparse.set 0 k.masks r.toNat v }

/-- Source B of a scalar operation; IMM is sign-extended (R64). -/
def Core.src (k : Core) : Src → Word64
  | .reg sb _ => k.s sb
  | .imm v => v.signExtend 64

/-- Whether the form of source B is one the operation has, with its field marked zero equal to zero (R66). -/
def srcLegal (b : Src) (hasReg hasImm : Bool) : Bool :=
  match b with
  | .reg _ z => hasReg && z == 0
  | .imm _ => hasImm

/-- Completes an instruction that falls through and adds to no counter. -/
def KRes.go (k : Core) : KRes := .ok k [] none

/-- The store address that a register of a class 0x5 instruction holds, in bits [24:0] (spec/04, "The class 0x5 layouts"). -/
def Core.addr (k : Core) (r : Reg5) : Nat := (k.s r).toNat % 2 ^ 25

/-- The store address that a register of any other instruction holds: all of it, so that one beyond the space is out of range (R68, table
"Store address space of a command"). -/
def Core.at_ (k : Core) (r : Reg5) : Nat := (k.s r).toNat

/-- Bytes of the store that the command can address: the core store and its facet window (table "Store
address space of a command"). -/
def Core.limit (k : Core) : Nat := 2 ^ 24 + k.d.facetUnits * 65536

/-- Whether `n` bytes at `a` lie in the core store or in the facet window. -/
def Core.inStore (k : Core) (a n : Nat) : Bool := decide (a + n ≤ k.limit)

/-- Whether `n` bytes at `a` lie in the core store (R75, R106, R148, R156). -/
def inCoreStore (a n : Nat) : Bool := decide (a + n ≤ 2 ^ 24)

def Region.meets (r : Region) (a n : Nat) : Bool := decide (a < r.addr + r.size) && decide (r.addr < a + n)
def Region.holds (r : Region) (a : Nat) : Bool := decide (r.addr ≤ a) && decide (a < r.addr + r.size)

/-- Reads `n` bytes of the store at `a`. A byte not written reads zero (R69); a byte of a staged layout
region is unpredictable (R111), drawn from `free`. -/
def Core.load (k : Core) (free : Nat) (a n : Nat) : List Byte :=
  let plain := Sparse.read 0 k.store a n
  if k.regions.any (fun r => r.meets a n) then
    plain.mapIdx (fun i b => if k.regions.any (fun r => r.holds (a + i)) then Config.layoutByte free (a + i) else b)
  else plain

/-- Every value of a list under rising keys from `i` on. -/
def listed {α : Type} : Nat → List α → List (Nat × α)
  | _, [] => []
  | i, v :: r => (i, v) :: listed (i + 1) r

/-- Notes the bytes that a write leaves in a layout region (R111). -/
def Region.note (r : Region) (a : Nat) (bs : List Byte) : Region :=
  if r.meets a bs.length then
    let lo := Nat.max a r.addr
    let part := (bs.drop (lo - a)).take (r.addr + r.size - lo)
    { r with overlay := Sparse.splice r.overlay (lo - r.addr) part.length (listed 0 part) }
  else r

/-- Writes bytes of the store. A write that covers a whole staged region leaves it a layout region too, as one that covers part of it does
(R111 speaks of parts only; log entry 5: DESIGN CHOICE, safe). -/
def Core.save (k : Core) (a : Nat) (bs : List Byte) : Core :=
  { k with store := Sparse.write 0 k.store a bs, regions := k.regions.map (fun r => r.note a bs) }

/-- Writes the bytes that are there of a list, leaving the others unchanged (R145). -/
def Core.saveSome (k : Core) (a : Nat) (bs : List (Option Byte)) : Core :=
  let old := Sparse.read 0 k.store a bs.length
  { k with
    store := Sparse.write 0 k.store a ((old.zip bs).map (fun p => p.2.getD p.1))
    regions := k.regions.map (fun r => (listed a bs).foldl (fun r c => match c.2 with
      | some b => r.note c.1 [b]
      | none => r) r) }

/-- The staged byte at a position of a layout region, as a later run reads it (R110, R111). -/
def Region.byte (r : Region) (pos : Nat) : Byte :=
  match r.overlay.find? (fun c => Config.layoutLands r.kind r.elem r.rows c.1 == pos) with
  | none => Sparse.get 0 r.cells pos
  | some (off, b) => Config.layoutCode off b (Sparse.get 0 r.cells pos)

/-- The staged contents of a region from a position on. -/
def Region.bytes (r : Region) (lo n : Nat) : List Byte :=
  if r.overlay.isEmpty then Sparse.read 0 r.cells lo n else (List.range n).map (fun i => r.byte (lo + i))

/-- The region of a layout kind and row size that starts at `a`; else one of that kind staged there in another form, whose codes are
open; else one that no STAGE has written: its codes are zero (R110), with what plain writes have put there overlaid, and open where it meets
regions staged elsewhere or in the other layout (log entry 5: DESIGN CHOICE, safe). -/
def Core.region (k : Core) (free kind elem rows rb a size : Nat) : Region :=
  match k.regions.find? (fun r => r.kind == kind && r.addr == a && r.rb == rb) with
  | some r => r
  | none => match k.regions.find? (fun r => r.kind == kind && r.addr == a) with
    | some r => r
    | none => ⟨a, size, kind, elem, rows, rb, [],
        if k.regions.any (fun r => r.meets a size) then listed 0 (k.load free a size) else Sparse.slice k.store a size⟩

/-- The staged contents of a region from a position on, in the form that a reader takes it for: open codes where it was staged in another
(log entry 5: DESIGN CHOICE, safe). -/
def Region.codesAs (r : Region) (same : Bool) (lo n : Nat) : List Byte :=
  if same then r.bytes lo n else (List.range n).map (fun i => Config.layoutCode (lo + i) 0 (Sparse.get 0 r.cells (lo + i)))

/-- Alignment, then range, of an access to the store: MISALIGNED or STORE_RANGE (R68). -/
def Core.check (k : Core) (a n align : Nat) : Option Stop :=
  if a % align ≠ 0 then some (.failed dMisaligned)
  else if k.inStore a n then none else some (.failed dStoreRange)

/-- The same for a region that must lie in the core store (R75, R106, R148, R156). A region both misaligned and out of range ends
MISALIGNED, though R106 names the range first (log entry 20: DEDUCED, unsafe). -/
def checkCore (a n align : Nat) : Option Stop :=
  if a % align ≠ 0 then some (.failed dMisaligned)
  else if inCoreStore a n then none else some (.failed dStoreRange)

end Sys2Proof.Machine
end

