-- ==== Sys2Proof/Machine/Flags.lean ====
section
/-! DEFINITION. Conditions and compares: branch conditions (table "Branch conditions", R67), the compares of
a vector chain (R151), and the masks they write (R154). -/

namespace Sys2Proof.Machine

/-- A branch condition; 7 is reserved. -/
def branchTaken (cond : BitVec 3) (a b : Word64) : Option Bool :=
  match cond.toNat with
  | 0 => some (a == b)
  | 1 => some (a != b)
  | 2 => some (a.slt b)
  | 3 => some (!a.slt b)
  | 4 => some (a.ult b)
  | 5 => some (!a.ult b)
  | 6 => some true
  | _ => none

/-- 1 or 0 in a scalar register (SLT, SLTU). -/
def flagWord (b : Bool) : Word64 := if b then 1 else 0

/-- A chain's compare of one lane: CMPGT, CMPGE, CMPEQ (R151). -/
def laneCompare (opc : Nat) (a b : F32) : Bool :=
  match opc with
  | 0x10 => Fp.lt b a
  | 0x11 => Fp.le b a
  | _ => Fp.eq a b

/-- A mask from its lanes, lane i in bit i. -/
def maskOf : List Bool → Nat
  | [] => 0
  | b :: r => (if b then 1 else 0) + 2 * maskOf r

def laneMask (l : List Bool) : BitVec 512 := BitVec.ofNat 512 (maskOf l)

/-- Writes lanes under a mask: lanes off keep the old value, or receive +0 (R154). -/
def masked (m : BitVec 512) (zero : Bool) (old new : List F32) : List F32 :=
  (old.zip new).mapIdx (fun i p => if m.getLsbD i then p.2 else if zero then 0 else p.1)

/-- Whether a value is an infinity or NaN (MX_STAT.ACC_SPECIAL, R113). -/
def isSpecial (v : F32) : Bool := Fp.isNaN v || Fp.isInf v

end Sys2Proof.Machine
end

