-- ==== Sys2Proof/Machine/MatrixOps.lean ====
section
/-! DEFINITION. The matrix unit of one core (spec/04, R99 to R113). The result of a run does not depend on how
the core divides it over its arrays (R34), so the arrays are one. -/

namespace Sys2Proof.Machine

/-- A row of the table "Format pairings" (R99): weight format, activation format, N, weight bytes, scale
bytes. -/
structure Pairing where
  wfmt : Nat
  afmt : Nat
  n : Nat
  wbytes : Nat
  sbytes : Nat
deriving DecidableEq, Repr

def pairingOf : Nat → Option Pairing
  | 0 => some ⟨Fmt.p4, Fmt.p4, 512, 32768, 2048⟩
  | 1 => some ⟨Fmt.p8, Fmt.p8, 256, 32768, 1024⟩
  | 2 => some ⟨Fmt.i8, Fmt.i8, 256, 32768, 0⟩
  | 3 => some ⟨Fmt.p4, Fmt.p8, 256, 16384, 1024⟩
  | 4 => some ⟨Fmt.p8, Fmt.p4, 256, 32768, 1024⟩
  | 5 => some ⟨Fmt.b16, Fmt.b16, 128, 32768, 0⟩
  | _ => none

/-- Activation row size RB (spec/04 "Operand layouts"). -/
def rowBytes (fmt : Nat) : Nat := if fmt = Fmt.p4 then 64 else if fmt = Fmt.b16 then 256 else 128

def round4k (n : Nat) : Nat := (n + 4095) / 4096 * 4096

/-- The tile region of a pairing. -/
def tileBytes (p : Pairing) : Nat := round4k (p.wbytes + p.sbytes)

/-- The region of an ACT_SKEW layout of `m` rows. -/
def actBytes (m rb : Nat) : Nat := round4k ((m + 127) * rb)

/-- Accumulator rows of a core (R104). -/
def accRows (arrays : Nat) : Nat := if arrays = 2 then 512 else 1024

/-- round_f32(value * 2^e * chan): one rounding (R112). -/
def scaledProduct (v chan : F32) (e : Int) : F32 :=
  let s := Fp.sign v != Fp.sign chan
  if Fp.isNaN v || Fp.isNaN chan then Fp.canonNaN
  else if Fp.isInf v || Fp.isInf chan then
    (if Fp.isZero v || Fp.isZero chan then Fp.canonNaN else Fp.withSign s 0x7F800000)
  else Fp.round .nearest s (Fp.mant v * Fp.mant chan) (Fp.expo v + Fp.expo chan + e) false

/-- The weights of a tile, row by row along K (R109, R112). -/
def tileWeights (p : Pairing) (codes scales : List Nat) (chan : List F32) : List (Nat × F32) :=
  (codes.mapIdx (fun i code =>
      let k := i / p.n
      let n := i % p.n
      let e : Int := if p.sbytes = 0 then 0 else ((scales.getD (4 * n + k / 32) 0 : Nat) : Int) - 127
      (k * 512 + n, scaledProduct (Fmt.widen p.wfmt code) (chan.getD k Fp.one) e))).filter (fun c => !(c.2 == 0))

/-- The F32 values of 4 `n` bytes. -/
def f32s (n : Nat) (bs : List Byte) : List F32 := (words 4 n bs).map (BitVec.ofNat 32)

/-- MLOAD.W (R101, R106, R112, R128). `c` is the core's number. A region staged for another pairing gives open codes (log entry 5: DESIGN
CHOICE, safe). MX_ZERO_WT counts the codes of value zero, before scaling (log entry 79: DEDUCED, unsafe). -/
def mloadOp (c : Nat) (sa sf : Reg5) (pairing : BitVec 4) (cscale : BitVec 1) (zero : BitVec 39) (free : Nat)
    (k : Core) : KRes :=
  if zero ≠ 0 then .stop .invalid else
  match pairingOf pairing.toNat with
  | none => .stop .invalid
  | some p =>
    let a := k.addr sa
    match checkCore a (tileBytes p) 4096 with
    | some x => .stop x
    | none =>
      match (if cscale = 1 then checkCore (k.addr sf) 512 64 else none) with
      | some x => .stop x
      | none =>
        let chan := if cscale = 1 then f32s 128 (k.load free (k.addr sf) 512) else []
        let r := k.region free 2 p.wfmt 1 (p.wbytes + p.sbytes) a (tileBytes p)
        let same := r.elem == p.wfmt && r.rb == p.wbytes + p.sbytes
        let codes := elemCodes p.wfmt (128 * p.n) (r.codesAs same 0 p.wbytes)
        let scales := (r.codesAs same p.wbytes p.sbytes).map (fun b => b.toNat)
        if scales.contains 0xFF then .stop .invalid
        else .ok { k with shadow := ⟨pairing.toNat, tileWeights p codes scales chan⟩, shadowFull := true }
          [ (.add (F.MX_TILES_LOADS c) 1), (.add (F.MX_TILES_DISCARDED_LOADS c) (if k.shadowFull then 1 else 0)),
            (.add (F.MX_ZERO_WT_ELEMS c) (codes.filter (fun x => Fp.isZero (Fmt.widen p.wfmt x))).length) ] none

/-- One element of a run: t over k = 0 to 127, the product exact, one rounding each (R112). -/
def dotRow (w : List (Nat × F32)) (n : Nat) : Nat → List F32 → F32 → F32
  | _, [], t => t
  | k, a :: r, t => dotRow w n (k + 1) r (Fp.fma a (Sparse.get 0 w (k * 512 + n)) t)

/-- The activation row `i` that an MRUN reads (R110). A region staged with another row size gives open codes
(log entry 5: DESIGN CHOICE, safe). -/
def actRow (r : Region) (p : Pairing) (i : Nat) : List Nat :=
  elemCodes p.afmt 128 (r.codesAs (r.rb == rowBytes p.afmt) (i * rowBytes p.afmt) (rowBytes p.afmt))

/-- The accumulator elements of run row `i`: column and value (R112). -/
def runRow (w : List (Nat × F32)) (p : Pairing) (colsel : Nat) (accum : Bool) (acc : List (Nat × F32)) (row : Nat)
    (a : List F32) (rowf : F32) : List F32 :=
  (List.range p.n).map (fun n =>
    let t := Fp.mul (dotRow w n 0 a Fp.posZero) rowf
    if accum then Fp.add (Sparse.get 0 acc (row * 512 + colsel * p.n + n)) t else t)

/-- Runs rows `i` to `i + m - 1` (R112): the accumulators, whether an infinity or NaN was written, and the
zero activations met. -/
def runRows (tile : Tile) (p : Pairing) (r : Region) (rowf : Nat → F32) (sr colsel : Nat) (accum : Bool) :
    Nat → Nat → List (Nat × F32) × Bool × Nat → List (Nat × F32) × Bool × Nat
  | _, 0, st => st
  | i, m + 1, (acc, special, zeros) =>
    let a := (actRow r p i).map (Fmt.widen p.afmt)
    let out := runRow tile.w p colsel accum acc (sr + i) a (rowf i)
    runRows tile p r rowf sr colsel accum (i + 1) m
      (Sparse.write 0 acc ((sr + i) * 512 + colsel * p.n) out, special || out.any isSpecial,
       zeros + (a.filter (fun x => Fp.isZero x)).length)

/-- The swap of an MRUN (R102): the shadow tile becomes active. MX_STAT.SHADOW_PAIRING keeps its pairing while the shadow is empty (log entry
79: DESIGN CHOICE, unsafe). -/
def Core.swap (k : Core) : Core :=
  { k with active := k.shadow, activeFull := true, shadow := ⟨k.shadow.pairing, []⟩, shadowFull := false, tiles := k.tiles + 1 }

/-- MRUN after its swap (R103 to R106, R110 to R113). With M = 0 nothing is read, and SA and SF are not checked (log entry 79: DESIGN CHOICE,
unsafe). -/
def runActive (c arrays : Nat) (sa sm sr sf : Reg5) (rscale : Nat) (accum : Bool) (colsel : Nat) (pairing : Nat)
    (p : Pairing) (free : Nat) (k : Core) : KRes :=
  let m := (k.s sm).toNat
  let row := (k.s sr).toNat
  let a := k.addr sa
  if k.active.pairing ≠ pairing ∨ colsel ≥ 512 / p.n then .stop (.failed dPairingMismatch)
  else if row + m > accRows arrays then .stop (.failed dAccRange)
  else if m = 0 then .go k
  else match checkCore a (actBytes m (rowBytes p.afmt)) 4096 with
    | some x => .stop x
    | none =>
      match (if rscale = 2 then checkCore (k.addr sf) (4 * m) 64 else none) with
      | some x => .stop x
      | none =>
        let vec := if rscale = 2 then f32s m (k.load free (k.addr sf) (4 * m)) else []
        let rowf := fun i => if rscale = 0 then Fp.one else if rscale = 1 then f32Lo (k.s sf) else vec.getD i Fp.one
        let r := k.region free 1 p.afmt m (rowBytes p.afmt) a (actBytes m (rowBytes p.afmt))
        let res := runRows k.active p r rowf row colsel accum 0 m (k.acc, false, 0)
        .ok { k with acc := res.1, rows := k.rows + m }
          ([ (.add (F.MX_ROWS_ROWS c) m), (.add (F.MX_ZERO_ACT_ELEMS c) res.2.2) ] ++ (if res.2.1 then [.set (F.MX_STAT_ACC_SPECIAL c) 1] else [])) none
where
  f32Lo (w : Word64) : F32 := w.setWidth 32

/-- MRUN (R102 to R113). -/
def mrunOp (c arrays : Nat) (sa sm sr sf : Reg5) (rscale : BitVec 2) (accum swap : BitVec 1) (colsel : BitVec 2)
    (pairing : BitVec 4) (zero : BitVec 24) (free : Nat) (k : Core) : KRes :=
  if zero ≠ 0 ∨ rscale = 3 then .stop .invalid else
  match pairingOf pairing.toNat with
  | none => .stop .invalid
  | some p =>
    if swap = 1 ∧ k.shadowFull = false then .stop (.failed dNoTile)
    else
      let k := if swap = 1 then k.swap else k
      if k.activeFull = false then .stop (.failed dNoTile)
      else runActive c arrays sa sm sr sf rscale.toNat (accum == 1) colsel.toNat pairing.toNat p free k

/-- The 512 elements of an accumulator row. -/
def Core.accRow (k : Core) (row : Nat) : List F32 := Sparse.read 0 k.acc (row * 512) 512

/-- The bytes of rows `row` to `row + m - 1`, 2,048 each (R105). -/
def drainBytes (k : Core) : Nat → Nat → List Byte
  | _, 0 => []
  | row, m + 1 => (k.accRow row).flatMap (fun v => leBytes 4 v.toNat) ++ drainBytes k (row + 1) m

/-- Zeroes accumulator rows (CLEAR, R105). -/
def Core.clearRows (k : Core) (row m : Nat) : Core := { k with acc := Sparse.splice k.acc (row * 512) (m * 512) [] }

/-- MDRAIN (R105). -/
def mdrainOp (c arrays : Nat) (sd sm sr : Reg5) (clear : BitVec 1) (zero : BitVec 38) (k : Core) : KRes :=
  if zero ≠ 0 then .stop .invalid else
  let m := (k.s sm).toNat
  let row := (k.s sr).toNat
  let a := k.addr sd
  if row + m > accRows arrays then .stop (.failed dAccRange)
  else match k.check a (2048 * m) 64 with
    | some x => .stop x
    | none =>
      let k' := k.save a (drainBytes k row m)
      .ok (if clear = 1 then k'.clearRows row m else k') [(.add (F.MX_DRAIN_ROWS c) m)] none

/-- MTOV (R105). -/
def mtovOp (c arrays : Nat) (vd sr : Reg5) (clear : BitVec 1) (zero : BitVec 43) (k : Core) : KRes :=
  if zero ≠ 0 then .stop .invalid else
  let row := (k.s sr).toNat
  if row + 1 > accRows arrays then .stop (.failed dAccRange)
  else
    let k' := k.setV vd (k.accRow row)
    .ok (if clear = 1 then k'.clearRows row 1 else k') [(.add (F.MX_DRAIN_ROWS c) 1)] none

end Sys2Proof.Machine
end

