-- ==== Sys2Proof/Machine/ScalarOps.lean ====
section
/-! DEFINITION. The control core's own instructions on one core: scalar operations, branches, loads and
stores (spec/03 "Instruction words", R62 to R69). -/

namespace Sys2Proof.Machine

/-- A scalar operation: SD receives `f SA B`; a form the operation lacks is a reserved encoding (R66). -/
def scalarOp (f : Word64 → Word64 → Word64) (hasReg hasImm : Bool) (sd sa : Reg5) (b : Src) (k : Core) : KRes :=
  if srcLegal b hasReg hasImm then .go (k.setS sd (f (k.s sa) (k.src b))) else .stop .invalid

/-- The low 32 bits of a register, an F32 source (R64). -/
def f32Of (w : Word64) : F32 := w.setWidth 32

/-- Writes an F32 result: bits [31:0], with [63:32] zero (R64). -/
def ofF32 (v : F32) : Word64 := v.setWidth 64

/-- A scalar F32 result: the value, but a NaN's payload is open (log entry 4: DESIGN CHOICE, safe). -/
def f32Result (op : Nat) (a b r : F32) : F32 := if Fp.isNaN r then
    (if Fp.isNaN (Config.scalarNaN op a b) then Config.scalarNaN op a b else Fp.canonNaN) else r

/-- Scalar FMIN and FMAX: with one NaN operand the result is the number or a NaN, which R64 leaves open
(log entry 4: DESIGN CHOICE, safe). -/
def scalarMinMax (op : Nat) (f : F32 → F32 → F32) (a b : F32) : F32 :=
  if Fp.isNaN a || Fp.isNaN b then
    if Fp.isNaN a && Fp.isNaN b || !Config.scalarMinKeepsNumber op a b then f32Result op a b Fp.canonNaN
    else f a b
  else f a b

/-- An F32 operation of two registers. -/
def f32Op (op : Nat) (f : F32 → F32 → F32) (a b : Word64) : Word64 :=
  ofF32 (f32Result op (f32Of a) (f32Of b) (f (f32Of a) (f32Of b)))

def mulhuWord (a b : Word64) : Word64 := BitVec.ofNat 64 (a.toNat * b.toNat / 2 ^ 64)
def sllWord (a b : Word64) : Word64 := a <<< (b.toNat % 64)
def srlWord (a b : Word64) : Word64 := a >>> (b.toNat % 64)
def sraWord (a b : Word64) : Word64 := a.sshiftRight (b.toNat % 64)
def minWord (a b : Word64) : Word64 := if a.slt b then a else b
def maxWord (a b : Word64) : Word64 := if a.slt b then b else a
def liWord (_ b : Word64) : Word64 := b
def lihWord (a b : Word64) : Word64 := (a &&& 0xFFFFFFFF#64) ||| (b <<< 32)
def fcvtF32I64Word (a _ : Word64) : Word64 := ofF32 (Fp.ofInt a.toInt)
def fcvtI64F32Word (a _ : Word64) : Word64 := Fp.toInt64 (f32Of a)

/-- BR: to PC + OFFSET when the condition holds (R67); COND 7 or a non-zero zero field is reserved (R66). -/
def branch (sa sb : Reg5) (cond : BitVec 3) (zero : BitVec 17) (off : BitVec 24) (k : Core) : KRes :=
  if zero ≠ 0 then .stop .invalid else
  match branchTaken cond (k.s sa) (k.s sb) with
  | none => .stop .invalid
  | some true => .ok k [] (some ((k.pc : Int) + off.toInt))
  | some false => .go k

/-- JL: SA receives PC + 1; only COND 6 with SB zero is defined (table "Branch conditions"). -/
def jumpLink (sa sb : Reg5) (cond : BitVec 3) (zero : BitVec 17) (off : BitVec 24) (k : Core) : KRes :=
  if zero ≠ 0 ∨ sb ≠ 0 ∨ cond ≠ 6 then .stop .invalid
  else .ok (k.setS sa (BitVec.ofNat 64 (k.pc + 1))) [] (some ((k.pc : Int) + off.toInt))

/-- JR: to the instruction index in SA, a signed value (R67). -/
def jumpReg (sa sb : Reg5) (cond : BitVec 3) (zero : BitVec 17) (off : BitVec 24) (k : Core) : KRes :=
  if zero ≠ 0 ∨ sb ≠ 0 ∨ cond ≠ 6 ∨ off ≠ 0 then .stop .invalid
  else .ok k [] (some (k.s sa).toInt)

/-- The address of a scalar load or store: SA + OFFSET, modulo 2^64 (R64). -/
def scalarAddr (k : Core) (sa : Reg5) (off : BitVec 24) : Nat := (k.s sa + off.signExtend 64).toNat

/-- LD8 to LD64: zero-extending loads of `n` bytes (R68). -/
def scalarLoad (n : Nat) (sd sa : Reg5) (zero : BitVec 20) (off : BitVec 24) (free : Nat) (k : Core) : KRes :=
  if zero ≠ 0 then .stop .invalid else
  let a := scalarAddr k sa off
  match k.check a n n with
  | some x => .stop x
  | none => .go (k.setS sd (BitVec.ofNat 64 (leNat (k.load free a n))))

/-- ST8 to ST64: stores of the low `n` bytes of SS (R68). -/
def scalarStore (n : Nat) (ss sa : Reg5) (zero : BitVec 20) (off : BitVec 24) (k : Core) : KRes :=
  if zero ≠ 0 then .stop .invalid else
  let a := scalarAddr k sa off
  match k.check a n n with
  | some x => .stop x
  | none => .go (k.save a (leBytes n (k.s ss).toNat))

/-- NOP (R66). -/
def nopOp (zero : BitVec 54) (k : Core) : KRes := if zero ≠ 0 then .stop .invalid else .go k

/-- FENCE (R81, R82): earlier STAGEs have written; with SCOPE 1 the core waits until every external operation
sent has been acknowledged. SCOPE 2 and 3 are reserved (R66). -/
def fenceOp (zero : BitVec 52) (scope : BitVec 2) (k : Core) : KRes :=
  if zero ≠ 0 ∨ scope.toNat > 1 then .stop .invalid
  else .go { k with unfenced := [], waiting := scope == 1 && !k.ext.isEmpty }

/-- ABORT: FAILED with KERNEL_ABORT and CODE (R87). -/
def abortOp (zero : BitVec 38) (code : BitVec 16) : KRes :=
  if zero ≠ 0 then .stop .invalid else .stop ⟨stFailed, dKernelAbort, code.toNat⟩

end Sys2Proof.Machine
end

