-- ==== Sys2Proof/Machine/SelectOps.lean ====
section
/-! DEFINITION. The select unit of one core (spec/06 "Selection", R157 to R164). The radix passes are given by
what they compute; their number is counted as the procedure runs them (R165: nothing else depends on it). -/

namespace Sys2Proof.Machine

/-- Table "Select descriptor". -/
structure SelDesc where
  smallest : Bool
  idxList : Bool
  after : Bool
  strict : Bool
  elem : Nat
  n : Nat
  src : Nat
  idxAddr : Nat
  out : Nat
  result : Nat
  kCap : Nat
  idxBase : Nat
  value : F32
  afterPos : Nat
deriving DecidableEq, Repr

/-- Reads a select descriptor; none when it is a reserved encoding (R150). `thr`: a SELT reads it. -/
def parseSel (thr : Bool) (bs : List Byte) : Option SelDesc :=
  let ws := words 8 8 bs
  let w0 := ws.getD 0 0
  let w1 := ws.getD 1 0
  let w2 := ws.getD 2 0
  let w3 := ws.getD 3 0
  let w4 := ws.getD 4 0
  let d : SelDesc := ⟨bitsOf w0 8 8 == 1, bitsOf w0 9 9 == 1, bitsOf w0 10 10 == 1, bitsOf w0 11 11 == 1,
    bitsOf w0 23 16, bitsOf w0 63 32, bitsOf w1 24 0, bitsOf w1 56 32, bitsOf w2 24 0, bitsOf w2 56 32,
    bitsOf w3 31 0, bitsOf w3 63 32, BitVec.ofNat 32 (bitsOf w4 31 0), bitsOf w4 63 32⟩
  if bitsOf w0 7 0 = 1 ∧ bitsOf w0 15 12 = 0 ∧ bitsOf w0 31 24 = 0 ∧ (d.elem = Fmt.f32 ∨ d.elem = Fmt.b16)
      ∧ (if thr then d.after = false else d.strict = false) ∧ bitsOf w1 31 25 = 0 ∧ bitsOf w1 63 57 = 0
      ∧ bitsOf w2 31 25 = 0 ∧ bitsOf w2 63 57 = 0 ∧ (d.idxList = false → d.idxAddr = 0) ∧ (d.idxList = true → d.idxBase = 0)
      ∧ Fp.isNaN d.value = false ∧ (d.afterPos ≠ 0 → thr = false ∧ d.after = true) ∧ (ws.drop 5).all (fun w => w == 0)
  then some d else none

/-- A candidate element: input position, value bits, index, key (R158). -/
structure Elem where
  pos : Nat
  val : F32
  idx : Nat
  key : Nat
deriving DecidableEq, Repr

/-- `key(v)` of R158. -/
def selKey (smallest : Bool) (v : F32) : Nat :=
  let v := if v = 0x80000000#32 then 0 else v
  let u := if v.getLsbD 31 then v ^^^ 0xFFFFFFFF#32 else v ^^^ 0x80000000#32
  (if smallest then u ^^^ 0xFFFFFFFF#32 else u).toNat

/-- What the first look at the input finds (R157): the valid elements in position order, the NaNs, the dropped
indices. -/
structure SelInput where
  valid : List Elem
  nans : Nat
  dropped : Nat
deriving DecidableEq, Repr

def selInput (smallest idxList : Bool) : Nat → List (F32 × Nat) → SelInput
  | _, [] => ⟨[], 0, 0⟩
  | p, (v, i) :: r =>
    let t := selInput smallest idxList (p + 1) r
    if idxList && i == 0xFFFFFFFF then { t with dropped := t.dropped + 1 }
    else if Fp.isNaN v then { t with nans := t.nans + 1 }
    else { t with valid := ⟨p, v, i, selKey smallest v⟩ :: t.valid }

/-- Selection order: larger key first, then lower position (R159, R161). -/
def selBefore (a b : Elem) : Bool := decide (b.key < a.key) || (a.key == b.key && decide (a.pos ≤ b.pos))

/-- Record order: larger key first, then lower index (R159). -/
def recBefore (a b : Elem) : Bool := decide (b.key < a.key) || (a.key == b.key && decide (a.idx ≤ b.idx))

/-- Insertion into a sorted list, and insertion sort: stable, structurally recursive. -/
def insertBy {α : Type} (le : α → α → Bool) (x : α) : List α → List α
  | [] => [x]
  | y :: r => if le x y then x :: y :: r else y :: insertBy le x r

def sortBy {α : Type} (le : α → α → Bool) : List α → List α
  | [] => []
  | x :: r => insertBy le x (sortBy le r)

/-- The fixed tree of R162 over positions 0 to n - 1: leaves of 256, then pairwise, padded with +0. -/
def selSum (n : Nat) (cells : List (Nat × F32)) : F32 :=
  let leaves := (n + 255) / 256
  let leaf := fun j => Fp.pairTree Fp.add Fp.posZero 8 (Sparse.read Fp.posZero cells (256 * j) 256)
  Fp.pairTree Fp.add Fp.posZero (Nat.log2 leaves + (if 2 ^ Nat.log2 leaves = leaves then 0 else 1))
    ((List.range leaves).map leaf)

/-- Positions and values as cells (positions rise). -/
def elemCells (l : List Elem) : List (Nat × F32) := l.map (fun e => (e.pos, e.val))

/-- The elements a read after the first takes: the buffered set when it fits the candidate buffer, else the
whole input ("Radix selection, pass by pass"). -/
def bufferedRead (n size : Nat) : Nat := if size ≤ 65536 then size else n

/-- The radix procedure's passes: how many run before the boundary is resolved, the elements that the reads
after the first take, and how many of those reads take the whole input again. -/
def radixPasses (n : Nat) : Nat → List Elem → Nat → Nat × Nat × Nat
  | 0, _, _ => (0, 0, 0)
  | p + 1, cand, need =>
    let digit := fun (e : Elem) => e.key / 2 ^ (8 * p) % 256
    let bstar := (sortBy (fun a b : Nat => decide (b ≤ a)) (cand.map digit)).getD (need - 1) 0
    let above := (cand.filter (fun e => decide (digit e > bstar))).length
    let cand' := cand.filter (fun e => digit e == bstar)
    let r := if cand'.length = need - above then (0, 0, 0) else radixPasses n p cand' (need - above)
    (r.1 + 1, bufferedRead n cand.length + r.2.1, (if cand.length ≤ 65536 then 0 else 1) + r.2.2)

/-- One record: value bits and index (spec/06 "A result record is 8 bytes"). -/
def recordBytes (v : F32) (idx : Nat) : List Byte := leBytes 4 v.toNat ++ leBytes 4 idx

/-- Table "Result block (64 bytes)". -/
def resultBytes (count found : Nat) (sumSel sumOut : F32) (nans before : Nat) (lastV : F32) (lastP dropped : Nat) :
    List Byte :=
  leBytes 4 count ++ leBytes 4 found ++ leBytes 4 sumSel.toNat ++ leBytes 4 sumOut.toNat ++ leBytes 4 nans
    ++ leBytes 4 before ++ leBytes 4 lastV.toNat ++ leBytes 4 lastP ++ leBytes 4 dropped ++ leBytes 28 0

def regionsOverlap (a n b m : Nat) : Bool := decide (0 < n) && decide (0 < m) && decide (a < b + m) && decide (b < a + n)

/-- The regions of a select instruction: start and length (R164). -/
def SelDesc.regions (d : SelDesc) : List (Nat × Nat) :=
  [(d.src, d.n * Fmt.bits d.elem / 8), (d.out, d.kCap * 8), (d.result, 64)]
    ++ (if d.idxList then [(d.idxAddr, 4 * d.n)] else [])

/-- Whether any two regions of a list overlap. -/
def anyOverlap : List (Nat × Nat) → Bool
  | [] => false
  | r :: l => l.any (fun t => regionsOverlap r.1 r.2 t.1 t.2) || anyOverlap l

/-- The checks of R164, R68 and R160 before any input is read. -/
def selCheck (thr : Bool) (d : SelDesc) (k : Core) : Option Stop :=
  if d.n > 2 ^ 22 ∨ d.kCap = 0 ∨ d.kCap > (if thr then 65536 else 512) then some (.failed dSelRange)
  else if d.regions.any (fun r => r.1 % 64 != 0) then some (.failed dMisaligned)
  else if d.regions.any (fun r => !k.inStore r.1 r.2) then some (.failed dStoreRange)
  else if anyOverlap d.regions then some (.failed dSelOverlap)
  else if d.idxList = false ∧ 0 < d.n ∧ d.idxBase + d.n - 1 ≥ 0xFFFFFFFF then some (.failed dSelIndexRange)
  else none

/-- The input of a select instruction: values (B16 widened, R127) with their indices (R160). -/
def selRead (d : SelDesc) (free : Nat) (k : Core) : List (F32 × Nat) :=
  let codes := elemCodes d.elem d.n (k.load free d.src (d.n * Fmt.bits d.elem / 8))
  let vals := codes.map (Fmt.widen d.elem)
  let idx := if d.idxList then words 4 d.n (k.load free d.idxAddr (4 * d.n)) else (List.range d.n).map (fun p => d.idxBase + p)
  vals.zip idx

/-- The most beats that a selection of `sel` of `n` elements in `reads` reads may take (table "Select unit beats"). -/
def selBeats (thr list : Bool) (n k sel reads : Nat) : Nat :=
  let pass := (n + 511) / 512
  let leaves := (n + 255) / 256
  32 + 24 + (leaves + 511) / 512 + (if thr then pass + (sel + 63) / 64
    else reads * pass + Nat.min k leaves + 64 + (if list then 2 else 1) * ((k + 63) / 64))

/-- What SEL_LAST and SEL_NAN show after a select instruction; its beats are at most `most` (R166) and otherwise open
(log entry 3: DESIGN CHOICE, safe). -/
def selLast (c free nans reads most : Nat) : List Upd :=
  [ .add (F.SEL_NAN_COUNT c) nans, .set (F.SEL_LAST_READS c) reads,
    .set (F.SEL_LAST_BEATS c) ((Config.freeValue free).toNat % (most + 1)) ]

/-- SELK (R157 to R162). -/
def selkApply (c free : Nat) (d : SelDesc) (inp : SelInput) (k : Core) : KRes :=
  let after := fun (e : Elem) => !d.after || decide (e.key < selKey d.smallest d.value)
    || (e.key == selKey d.smallest d.value && decide (e.pos > d.afterPos))
  let cons := inp.valid.filter after
  let sel := (sortBy selBefore cons).take d.kCap
  let selPos := sortBy (fun a b : Elem => decide (a.pos ≤ b.pos)) sel
  let out := cons.filter (fun e => !sel.contains e)
  let recs := (sortBy recBefore sel).map (fun e => recordBytes e.val e.idx)
  let pad := List.replicate (d.kCap - sel.length)
    (recordBytes (if d.smallest then Fp.posInf else Fp.negInf) 0xFFFFFFFF)
  let last := sel.getLast?
  let passes := if cons.length ≤ d.kCap then (0, 0, 0) else radixPasses d.n 4 cons d.kCap
  let k := k.save d.out (recs ++ pad).flatten
  let k := k.save d.result (resultBytes sel.length cons.length (selSum d.n (elemCells selPos)) (selSum d.n (elemCells out))
    inp.nans (inp.valid.length - cons.length) (last.elim 0 (fun e => e.val)) (last.elim 0xFFFFFFFF (fun e => e.pos))
    inp.dropped)
  .ok { k with selNan := k.selNan + inp.nans }
    ([ .add (F.SEL_COUNT_SELK c) 1, .add (F.SEL_ELEMS_ELEMS c) (d.n + passes.2.1),
       .add (F.SEL_REREAD_BEATS c) (passes.2.2 * ((d.n + 511) / 512)) ] ++ selLast c free inp.nans (passes.1 + 1) (selBeats false d.idxList d.n d.kCap sel.length (passes.1 + 1))) none

/-- SELT (R163). -/
def seltApply (c free : Nat) (d : SelDesc) (inp : SelInput) (k : Core) : KRes :=
  let t := selKey d.smallest d.value
  let qual := inp.valid.filter (fun e => if d.strict then decide (e.key > t) else decide (e.key ≥ t))
  let sel := qual.take d.kCap
  let out := inp.valid.filter (fun e => !sel.contains e)
  let k := k.save d.out ((sel.map (fun e => recordBytes e.val e.idx)).flatten)
  let k := k.save d.result (resultBytes sel.length qual.length (selSum d.n (elemCells sel)) (selSum d.n (elemCells out))
    inp.nans 0 0 0 inp.dropped)
  .ok { k with selNan := k.selNan + inp.nans }
    ([.add (F.SEL_COUNT_SELT c) 1, .add (F.SEL_ELEMS_ELEMS c) d.n] ++ selLast c free inp.nans 1 (selBeats true d.idxList d.n d.kCap sel.length 1)) none

/-- SELK and SELT share their descriptor and checks (R150, R164). `has`: the variant has the operation (R3). -/
def selectOp (thr has : Bool) (c : Nat) (sa : Reg5) (zero : BitVec 49) (free : Nat) (k : Core) : KRes :=
  if zero ≠ 0 then .stop .invalid
  else if has = false then .stop .notPresent
  else
    let a := k.at_ sa
    match checkCore a 64 64 with
    | some x => .stop x
    | none =>
      match parseSel thr (k.load free a 64) with
      | none => .stop .invalid
      | some d =>
        match selCheck thr d k with
        | some x => .stop x
        | none =>
          let inp := selInput d.smallest d.idxList 0 (selRead d free k)
          if thr then seltApply c free d inp k else selkApply c free d inp k

end Sys2Proof.Machine
end

