-- ==== Sys2Proof/Machine/StagerOps.lean ====
section
/-! DEFINITION. The stager of one core (spec/03 "The stager" and "FENCE", spec/04 "Operand layouts"): R74, R75,
R80, R82, R107 to R109. -/

namespace Sys2Proof.Machine

/-- Table "Stager descriptor (64 bytes)". -/
structure StageDesc where
  dir : Nat
  layout : Nat
  elem : Nat
  rows : Nat
  src : Nat
  dst : Nat
  rb : Nat
  sstride : Int
  dstride : Int
deriving DecidableEq, Repr

/-- The ROW_BYTES of a WEIGHT_TILE transfer: the tile region less its rounding, for a pairing whose weights
have format `fmt` (R109). -/
def tileRow (fmt rb : Nat) : Bool :=
  (List.range 6).any (fun p => match pairingOf p with
    | some q => q.wfmt == fmt && q.wbytes + q.sbytes == rb
    | none => false)

/-- A signed 64-bit field. -/
def signed64 (v : Nat) : Int := (BitVec.ofNat 64 v).toInt

/-- Reads a stager descriptor; none when it is a reserved encoding (R75, R107 to R109, R121). -/
def parseStager (bs : List Byte) : Option StageDesc :=
  let ws := words 8 8 bs
  let w0 := ws.getD 0 0
  let w3 := ws.getD 3 0
  let dir := bitsOf w0 1 0
  let d : StageDesc := ⟨dir, bitsOf w0 7 4, bitsOf w0 15 8, bitsOf w0 63 32,
    if dir = 0 then bitsOf (ws.getD 1 0) 47 0 else bitsOf (ws.getD 1 0) 24 0,
    if dir = 1 then bitsOf (ws.getD 2 0) 47 0 else bitsOf (ws.getD 2 0) 24 0,
    bitsOf w3 31 0, signed64 (ws.getD 4 0), signed64 (ws.getD 5 0)⟩
  if d.dir ≠ 3 ∧ bitsOf w0 3 2 = 0 ∧ d.layout ≤ 2 ∧ Fmt.reserved d.elem = false ∧ bitsOf w0 31 16 = 0 ∧ d.rows ≠ 0
      ∧ bitsOf w3 63 32 = 0 ∧ ws.getD 6 0 = 0 ∧ ws.getD 7 0 = 0 ∧ (d.dir ≠ 2 → d.rb % 64 = 0)
      ∧ (d.layout ≠ 0 → d.dir ≠ 1 ∧ Fmt.narrowFmt d.elem = true)
      ∧ (d.layout = 1 → d.rb ≤ rowBytes d.elem) ∧ (d.layout = 2 → d.rows = 1 ∧ tileRow d.elem d.rb = true)
  then some d else none

/-- The address of row `i`; none below 0. -/
def rowAddr (base : Nat) (stride : Int) (i : Nat) : Option Nat :=
  let a := (base : Int) + stride * i
  if 0 ≤ a then some a.toNat else none

/-- Whether an output buffer holds something that a STAGE wrote at or behind `a`, and how many bytes from `a` on are of one kind. -/
def OutBuf.runAt (o : OutBuf) (a : Nat) : Bool × Nat :=
  let off := a - o.va
  match o.wrote.find? (fun w => decide (w.1 ≤ off) && decide (off < w.1 + w.2)) with
  | some w => (true, w.1 + w.2 - off)
  | none => (false, (o.wrote.filter (fun w => decide (off < w.1))).foldl (fun m w => Nat.min m (w.1 - off)) (o.length - off))

/-- A declared range that holds address `a`: how many bytes from `a` on it gives, and the range's start and cells. What the command has
written to an output comes first, then the pinned version of an operand (R79), then the rest of an output's buffer (log entry 11: DEDUCED,
unsafe). -/
def Core.rangeAt (k : Core) (a : Nat) : Option (Nat × Nat × List (Nat × Byte)) :=
  let out := k.outs.find? (fun o => decide (o.va ≤ a) && decide (a < o.va + o.length))
  let pin := k.pins.find? (fun p => decide (p.va ≤ a) && decide (a < p.va + p.length))
  match out, pin with
  | none, none => none
  | some o, none => some (o.va + o.length - a, o.va, o.cells)
  | none, some p => some (p.va + p.length - a, p.va, p.cells)
  | some o, some p =>
    let r := o.runAt a
    if r.1 then some (r.2, o.va, o.cells) else some (Nat.min r.2 (p.va + p.length - a), p.va, p.cells)

/-- Reads `n` bytes at `a` of the declared ranges, over at most `fuel` adjoining ranges; none outside them (R74). -/
def Core.rangeRead (k : Core) : Nat → Nat → Nat → Option (List Byte)
  | _, _, 0 => some []
  | 0, _, _ => none
  | fuel + 1, a, n => match k.rangeAt a with
    | none => none
    | some (len, va, cells) =>
      let m := Nat.min n len
      match k.rangeRead fuel (a + m) (n - m) with
      | none => none
      | some r => some (Sparse.read 0 cells (a - va) m ++ r)

/-- Whether `n` bytes at `a` lie in declared outputs (R74). -/
def Core.outCovers (k : Core) : Nat → Nat → Nat → Bool
  | _, _, 0 => true
  | 0, _, _ => false
  | fuel + 1, a, n => match k.outs.find? (fun o => decide (o.va ≤ a) && decide (a < o.va + o.length)) with
    | none => false
    | some o => k.outCovers fuel (a + Nat.min n (o.va + o.length - a)) (n - Nat.min n (o.va + o.length - a))

/-- Writes bytes at `a` into an output buffer where they meet it (R80). -/
def OutBuf.write (o : OutBuf) (a : Nat) (bs : List Byte) : OutBuf :=
  if a < o.va + o.length ∧ o.va < a + bs.length then
    let lo := Nat.max a o.va
    let part := (bs.drop (lo - a)).take (o.va + o.length - lo)
    { o with cells := Sparse.write 0 o.cells (lo - o.va) part, wrote := o.wrote ++ [(lo - o.va, part.length)] }
  else o

/-- A bound on the stretches of one kind that a read meets. -/
def Core.fuel (k : Core) : Nat := (k.outs.map (fun o => 2 * o.wrote.length + 2)).foldl (· + ·) 0 * (k.pins.length + 1) + k.outs.length + k.pins.length + 1

/-- Whether a read of `n` bytes at `a` meets what a STAGE wrote since the last FENCE (R82). -/
def Core.unfencedAt (k : Core) (a n : Nat) : Bool := k.unfenced.any (fun u => regionsMeet u.1 u.2 a n)
where
  regionsMeet (a n b m : Nat) : Bool := decide (a < b + m) && decide (b < a + n)

/-- The bytes of row `i` at the source, or how the command ends. -/
def stageRow (d : StageDesc) (free : Nat) (k : Core) (i : Nat) : Except Stop (List Byte) :=
  match rowAddr d.src d.sstride i with
  | none => .error (.failed (if d.dir = 0 then dUndeclaredAccess else dStoreRange))
  | some a =>
    if d.dir = 0 then
      match k.rangeRead k.fuel a d.rb with
      | none => .error (.failed dUndeclaredAccess)
      | some bs => if k.unfencedAt a d.rb then .error (.failed dFenceMissing) else .ok bs
    else if k.inStore a d.rb then .ok (k.load free a d.rb) else .error (.failed dStoreRange)

/-- Rows `i` to `i + n - 1` at the source. -/
def stageRows (d : StageDesc) (free : Nat) (k : Core) : Nat → Nat → Except Stop (List (List Byte))
  | _, 0 => .ok []
  | i, n + 1 => match stageRow d free k i with
    | .error x => .error x
    | .ok r => match stageRows d free k (i + 1) n with
      | .error x => .error x
      | .ok l => .ok (r :: l)

/-- Writes row `i` of a LINEAR transfer at its destination. -/
def landRow (d : StageDesc) (i : Nat) (bs : List Byte) (k : Core) : Except Stop Core :=
  match rowAddr d.dst d.dstride i with
  | none => .error (.failed (if d.dir = 1 then dUndeclaredAccess else dStoreRange))
  | some a =>
    if d.dir = 1 then
      if k.outCovers k.fuel a bs.length then
        .ok { k with outs := k.outs.map (fun o => o.write a bs), unfenced := (a, bs.length) :: k.unfenced }
      else .error (.failed dUndeclaredAccess)
    else if k.inStore a bs.length then .ok (k.save a bs) else .error (.failed dStoreRange)

def landRows (d : StageDesc) : Nat → List (List Byte) → Core → Except Stop Core
  | _, [], k => .ok k
  | i, r :: l, k => match landRow d i r k with
    | .error x => .error x
    | .ok k => landRows d (i + 1) l k

/-- Whether the source of a LOCAL transfer meets its destination, which is `size` bytes at DST for a matrix layout. -/
def localOverlap (d : StageDesc) (size : Nat) : Bool :=
  d.dir == 2 && (List.range d.rows).any (fun i => match rowAddr d.src d.sstride i with
    | none => false
    | some a =>
      if d.layout ≠ 0 then decide (a < d.dst + size) && decide (d.dst < a + d.rb)
      else (List.range d.rows).any (fun j => match rowAddr d.dst d.dstride j with
        | some b => decide (a < b + d.rb) && decide (b < a + d.rb)
        | none => false))

/-- The rows of a LOCAL transfer whose source and destination overlap are open: the spec states no order of its reads and writes (log entry
12: DESIGN CHOICE, safe). -/
def openRows (d : StageDesc) (free size : Nat) (rows : List (List Byte)) : List (List Byte) :=
  if localOverlap d size then rows.mapIdx (fun i r => r.mapIdx (fun j _ => Config.layoutByte free (i * d.rb + j))) else rows

/-- Puts a staged layout region into the store (R108, R109, R111): other regions, and one of another row size at the same place, see it as
a write of unknown bytes; the same region restaged keeps the rows not rewritten, and is defined again once all are. -/
def Core.putRegion (k : Core) (free : Nat) (r : Region) : Core :=
  let unknown := (List.range r.size).map (fun i => Config.layoutByte free (r.addr + i))
  let same := fun (q : Region) => q.addr == r.addr && q.kind == r.kind && q.rb == r.rb
  let others := (k.regions.filter (fun q => !same q)).map (fun q => if q.meets r.addr r.size then q.note r.addr unknown else q)
  let r' := match k.regions.find? same with
    | none => r
    | some q =>
      { r with rows := Nat.max q.rows r.rows, size := Nat.max q.size r.size
               cells := Sparse.splice q.cells 0 (r.rows * r.rb) r.cells
               overlay := if q.rows ≤ r.rows then [] else q.overlay }
  { k with regions := others ++ [r'] }

/-- A row of an ACT_SKEW transfer, filled with zero codes to RB (R108). -/
def padRow (rb : Nat) (bs : List Byte) : List Byte := bs ++ List.replicate (rb - bs.length) 0

/-- STAGE with its descriptor read (R74, R80, R82, R107 to R109). -/
def stageApply (c : Nat) (d : StageDesc) (free : Nat) (k : Core) : KRes :=
  let port : List Upd := if d.dir = 2 then [] else [.add (F.FCT_PORT_BYTES_BYTES (c / 4)) (d.rows * d.rb)]
  match stageRows d free k 0 d.rows with
  | .error x => .stop x
  | .ok rows =>
    if d.layout = 0 then
      match landRows d 0 (openRows d free 0 rows) k with
      | .error x => .stop x
      | .ok k => .ok k port none
    else
      let rb := if d.layout = 1 then rowBytes d.elem else d.rb
      let size := if d.layout = 1 then actBytes d.rows rb else round4k d.rb
      match checkCore d.dst size 4096 with
      | some x => .stop x
      | none =>
        .ok (k.putRegion free ⟨d.dst, size, d.layout, d.elem, d.rows, rb,
          Sparse.cells 0 0 ((openRows d free size rows).flatMap (padRow rb)), []⟩) port none

/-- STAGE (R75): the descriptor is 64 bytes, 64-byte aligned, in the core store. -/
def stageOp (c : Nat) (sa : Reg5) (zero : BitVec 49) (free : Nat) (k : Core) : KRes :=
  if zero ≠ 0 then .stop .invalid else
  let a := k.at_ sa
  match checkCore a 64 64 with
  | some x => .stop x
  | none =>
    match parseStager (k.load free a 64) with
    | none => .stop .invalid
    | some d => stageApply c d free k

end Sys2Proof.Machine
end

