-- ==== Sys2Proof/Machine/DspState.lean ====
section
/-! DEFINITION. What the dispatcher, the request sequencers and Loupe hold (spec/01, spec/14): command queues,
placements, the registry of CMD_IDs, requests, host rings, and the figures of accounting and Loupe. -/

namespace Sys2Proof.Machine

/-- The service context, where a number stands for a context: tenants are 0 to 1,023. -/
def svc : Nat := 1024

/-- An entry of a command queue. Items keep their queue order; `entered` is the order in which they entered
the MIG_AHEAD window (0: not yet, R176); `held` the pages that the reservation holds and `fresh` the frames allotted to
output pages, by page key (R177); `pins` the operand versions fixed at first dispatch (R79), `frames` the page keys with the frames that hold them (0: the frame was
lost since, R175);
`serials` the mapping serials of the output pages at first dispatch (R480). Times are dispatcher times. -/
structure QItem where
  id : Nat
  e : QEntry
  posted : Bool
  reruns : Nat
  entered : Nat
  granted : Bool
  grantedAt : Nat
  waited : Bool
  held : List Nat
  fresh : List (Nat × Nat)
  pins : Option (List Pin)
  frames : List (Nat × Nat)
  serials : List (Nat × Nat)
  readyAt : Option Nat
deriving DecidableEq, Repr

/-- State of a job in the registry of CMD_IDs: queued or running, committed with its publication in effect,
committed and awaiting its journal record or its updates (R192, R301), or ended otherwise. -/
inductive JobState where
  | waiting | committed | publishing | ended
deriving DecidableEq, Repr

/-- An entry of the registry: REQ_HANDLE, CMD_ID and state. -/
structure JobRec where
  handle : Nat
  cmdId : Nat
  st : JobState
deriving DecidableEq, Repr

/-- What the dispatcher keeps of an occupied core: the tenant that occupies it, the time its slice began, the
slice's length and grace in units of 10 ns, whether YIELD was signalled (another tenant must then follow, R375), and
the time at which the core last became free (0 while it runs). -/
structure Occupancy where
  ctx : Nat
  start : Nat
  slice : Nat
  grace : Nat
  yielded : Bool
  freed : Nat
deriving DecidableEq, Repr

/-- The stage a request stands before (table "Stages of the request path"). -/
inductive Stage where
  | tokenisation | embedding | coarse | scan | merge | rescoring | passageFetch | rerank | packing | prefill | decode
deriving DecidableEq, Repr

/-- Request states (R21). -/
inductive ReqState where
  | held | admitted | retrieving | reranking | packing | prefill | decode
deriving DecidableEq, Repr

/-- The figures of a request's completion and accounting records. -/
structure Tally where
  jobs : Nat
  preemptions : Nat
  reruns : Nat
  coreUs : Nat
  waitUs : Nat
  waitMax : Nat
  debt : Nat
  tokens : Nat
  prompt : Nat
  bytes : Nat
  streamSeq : Nat
  stopReasons : Nat
  stopIndex : Nat
  stopOffset : Nat
  abortCode : Nat
  notFound : Nat
  firstTokenAt : Nat
  handoff : Bool
  recomputed : Bool
  kvShort : Bool
  damaged : Bool
  short : Bool
deriving DecidableEq, Repr

/-- A passage with its token form: the item, the dictionary of the tokens (0xFFFF: none), text and tokens. -/
structure Passage where
  item : Nat
  version : Nat
  dict : Nat
  text : List Byte
  toks : List Nat
deriving DecidableEq, Repr

/-- A request or update that the part has read (R364): its handle, its state, the stage that comes next,
whether it is SUSPENDED, the question tokens by dictionary, passages in rank order and prompt. -/
structure Req where
  handle : Nat
  /-- Its place in the order of admission. -/
  order : Nat
  tid : Nat
  ring : Nat
  d : ReqDesc
  doorbell : Nat
  state : ReqState
  stage : Stage
  suspended : Bool
  /-- The status and detail it will end with once its running commands have left their cores (R28). -/
  ending : Option (Nat × Nat)
  ended : Bool
  /-- CMD_IDs of the jobs of its present stage, once it has begun. -/
  begun : Option (List Nat)
  /-- Rows of the encoder inputs of its present stage that no pass has taken, by input number, and inputs run. -/
  inputs : List (Nat × Nat)
  inputsRun : Nat
  tokens : List (Nat × List Nat)
  passages : List Passage
  prompt : List Nat
  tally : Tally
deriving DecidableEq, Repr

/-- A completion record (table "Completion record (64 bytes)"). -/
structure Completion where
  status : Nat
  kind : Nat
  detail : Nat
  handle : Nat
  tag : Nat
  latencyUs : Nat
  firstTokenUs : Nat
  tally : Tally
deriving DecidableEq, Repr

/-- A record that waits to be written into a host ring, or to a host address (R369, R370). -/
inductive HostRec where
  | completion (c : Completion)
  | stream (handle seq : Nat) (tokens : Bool) (payload : List Nat)
  | results (handle addr : Nat) (bytes : List Byte)
deriving DecidableEq, Repr

/-- A host ring: the completion ring of Brixux ring `key` (TID * 4 + RING), or the stream ring of a request (its
handle + 2^16): where it lies, its size, the records written and the count HOST_HEAD last read. -/
structure HostRing where
  key : Nat
  addr : Nat
  log2 : Nat
  written : Nat
  head : Nat
  queue : List HostRec
deriving DecidableEq, Repr

/-- What Loupe sums over a window for one context (R383). -/
structure Loupe where
  ctx : Nat
  busy : Nat
  stalls : List Nat
  scaled : Nat
  rows : Nat
  tiles : Nat
  commands : Nat
  kills : Nat
deriving DecidableEq, Repr

/-- The dispatcher. -/
structure Dsp where
  items : List QItem
  running : List (Nat × QItem)
  gatherRun : List QItem
  nextItem : Nat
  nextEntry : Nat
  jobs : List JobRec
  occ : List (Nat × Occupancy)
  /-- Served core time of the period, by context (R379). -/
  served : List (Nat × Nat)
  wUsed : Nat
  bUsed : Nat
  /-- One above the last budget tenant chosen (R379); 0: none. -/
  lastBudget : Nat
  periodNo : Nat
  /-- Jobs committed and requests ended in the period, by tenant (R382). -/
  periodJobs : List (Nat × Nat)
  periodReqs : List (Nat × Nat)
  /-- Descriptors read of each tenant since it was enabled (R364). -/
  counts : List (Nat × Nat)
  reqs : List (Nat × Req)
  /-- Whether DSP_SET_EMPTY was recorded since the cores in service last changed, by tenant (R373). -/
  setEmpty : List Nat
  hostRings : List HostRing
  acctHeld : List (List Byte)
  loupe : List Loupe
  /-- Entries waiting for room in the service inbox, and service requests not completed (R465). -/
  svcWaiting : List (List Byte)
  svcOpen : List Nat
  postTail : Nat
  /-- Time of the last period boundary, and of the doorbell of each posted descriptor, by ring and number. -/
  periodAt : Nat
  bells : List (Nat × Nat)
  /-- SUSPEND descriptors that complete once their target is held at its stopping point (R387): target and descriptor. -/
  suspends : List (Nat × Req)
deriving DecidableEq, Repr

end Sys2Proof.Machine
end

