-- ==== Sys2Proof/Machine/FtbState.lean ====
section
/-! DEFINITION. What the feature table engine holds (spec/11): tables, popularity counts, migrations and update
blocks taken at commit. Row directories and heaps stand in the owner's range, byte for byte. -/

namespace Sys2Proof.Machine

/-- An update block that a commit phase handed to the engine (R298 to R300): its publication, the owner, and the
row numbers with their delta rows. -/
structure Updates where
  pub : Nat
  table : Nat
  rows : List (Nat × List F32)
deriving DecidableEq, Repr

/-- A migration of a row (table "Migration of row r from width a to width b"): its slots, the PUB it notes, the
copied row before rounding, and the log of reduced sums. -/
structure Migration where
  row : Nat
  src : Nat
  dst : Nat
  slot : Nat
  old : Nat
  pub : Nat
  copied : List F32
  log : List (Nat × List F32)
  opId : Option Nat
  completion : Nat
  /-- The row descriptor has been published and the old slot waits for earlier pins (step 5). -/
  switched : Bool
  /-- Items that pinned the directory before the switch. -/
  pinners : List Nat
deriving DecidableEq, Repr

/-- A queued migration (R303). -/
structure MigWish where
  row : Nat
  width : Nat
  opId : Option Nat
  completion : Nat
deriving DecidableEq, Repr

/-- A feature table. Counts are keyed by row, unlisted rows having count 0 (R302). -/
structure Table where
  desc : FtbDesc
  obj : Nat
  dropping : Bool
  pub : Nat
  hits : List (Nat × Nat)
  queued : List MigWish
  migs : List Migration
  decayAt : Nat
deriving DecidableEq, Repr

structure Ftb where
  tables : List (Nat × Table)
  pending : List Updates
deriving DecidableEq, Repr

end Sys2Proof.Machine
end

