-- ==== Sys2Proof/Machine/GenState.lean ====
section
/-! DEFINITION. What the generation sequencer holds (spec/13): model instances with their KV pools, requests in
generation, passes in flight, and the grants and claims of shipping. -/

namespace Sys2Proof.Machine

/-- What a member's rows are: a prefill chunk, a decode step with its drafts, a closing row, blocks
recomputed under R347, or inputs of an encoder. -/
inductive RowKind where
  | chunk | step | closing | recompute | input
deriving DecidableEq, Repr

/-- A member of a pass: its request, its rows and their kind, the drafts that a step feeds, and the blocks recomputed
or the inputs run. -/
structure PassMember where
  handle : Nat
  kind : RowKind
  rows : Nat
  drafts : List Nat
  parts : List Nat
deriving DecidableEq, Repr

/-- A command of a pass: its REQ_HANDLE and CMD_ID, the member whose own it is, if it is one's, and whether it updates scale sites: it has a
QSTATE output (R140). -/
structure PassCmd where
  handle : Nat
  cmdId : Nat
  owner : Option Nat
  updates : Bool
deriving DecidableEq, Repr

/-- A pass in flight: its number, members and commands. -/
structure Pass where
  id : Nat
  members : List PassMember
  cmds : List PassCmd
deriving DecidableEq, Repr

/-- A model instance. `used` are the pages of its KV pool that are not free. -/
structure Inst where
  tid : Nat
  desc : InstDesc
  hdr : ModelHdr
  unloading : Bool
  used : List Nat
  passes : List Pass
deriving DecidableEq, Repr

/-- A request in generation: its block and stop set, prompt and committed tokens, kv_len, KV blocks (each the list of
its pages), how many of them are shared, prompt positions run; the grammar state and the tokens it has taken in; the text
generated, how much of it has been delivered and how many token numbers; and how it stands. -/
structure GenReq where
  handle : Nat
  tid : Nat
  order : Nat
  blk : GenBlock
  stop : StopSet
  prompt : List Nat
  out : List Nat
  kvLen : Nat
  blocks : List (List Nat)
  shared : Nat
  ran : Nat
  gram : Nat
  advanced : Nat
  text : List Byte
  delivered : Nat
  numbered : Nat
  drafts : List Nat
  /-- Where the request's own scale site records lie, in reproducible mode (R141). -/
  siteVa : Nat
  committedAt : Nat
  inPass : Bool
  prefill : Bool
  /-- Generation has ended and the closing row is awaited (R355). -/
  closing : Bool
  /-- Blocks to be recomputed (R347). -/
  lost : List Nat
  /-- The request waits for KV blocks (R344, R345). -/
  waiting : Bool
  /-- PREFILL part: pages claimed, granted offsets not yet used, pages of committed chunks not yet shipped, offsets of the pages
  shipped in page-list order, and puts not acknowledged. -/
  claimed : Nat
  grants : List Nat
  toShip : List (List Nat)
  shipped : List Nat
  unacked : Nat
  /-- The manifest's pages have been claimed, and the manifest was sent. -/
  manifestPages : Option Nat
  manifestSent : Bool
deriving DecidableEq, Repr

/-- A shipped request that a DECODE part holds in ADMITTED until its manifest is complete (R39): the pages granted to a TID and SHIP_ID, with the time of the last ship record of the pair (R360, R362). -/
structure Grant where
  tid : Nat
  shipId : Nat
  inst : Nat
  reply : Nat
  pages : List Nat
  seen : Nat
deriving DecidableEq, Repr

/-- A claim that waits for pages (R359). -/
structure Claim where
  tid : Nat
  shipId : Nat
  inst : Nat
  count : Nat
  reply : Nat
deriving DecidableEq, Repr

structure GenUnit where
  insts : List (Nat × Inst)
  reqs : List (Nat × GenReq)
  nextOrder : Nat
  nextPass : Nat
  grants : List Grant
  claims : List Claim
deriving DecidableEq, Repr

end Sys2Proof.Machine
end

