-- ==== Sys2Proof/Machine/GeoState.lean ====
section
/-! DEFINITION. What the Geode block holds beside its registers (spec/08): the cartridges, the map of the flash translation
layer, channels, outstanding programs, and the running rebuild and patrol. -/

namespace Sys2Proof.Machine

/-- Bytes of a logical unit, and logical units of a logical page (spec/08). -/
def unitBytes : Nat := 16384
def unitsPerPage : Nat := 128

/-- A bay: its cartridge, the stripes written without it, whether that list has overflowed or a rebuild of it was abandoned, and
what its cartridge has been through: bytes programmed, the mean erase count in per mille of the rated cycles, and the bits corrected in
units that carried no correctable error (R214). -/
structure Bay where
  cart : Option Cartridge
  pending : List Nat
  overflow : Bool
  bytes : Nat
  worn : Nat
  rawBits : Nat
deriving DecidableEq, Repr

/-- A stripe (R217): its channel index and row, the logical unit of each data slot, whether it is in three-bit mode, and
the bays whose unit of it is not written; `jrn` the journal stripe that it is; `work` what its programs are for, until they are
acknowledged. -/
structure GStripe where
  channel : Nat
  row : Nat
  slots : List Nat
  folded : Bool
  missing : List Nat
  jrn : Option Nat
  work : Option FlashWork
deriving DecidableEq, Repr

/-- A channel: the operation in progress, a program that it has suspended, and the operations that wait, oldest first. -/
structure Chan where
  cur : Option FlashOp
  suspended : Option FlashOp
  queue : List FlashOp
deriving DecidableEq, Repr

/-- A Geode program sent and not acknowledged: the queue item and its operation's number, the extent's owner, the first logical
unit, the tenant address of its first byte, and the bytes. -/
structure GProg where
  item : Nat
  ext : Nat
  tid : Nat
  unit : Nat
  va : Nat
  bytes : List Byte
deriving DecidableEq, Repr

/-- Geode: `map` gives each logical unit its stripe and slot; `pages` the logical page of each page whose home is GEODE; `rebuild` the bay
that is rebuilt and the stripes left. `patrolPos` counts the units that the running patrol pass has read, of `patrolTotal` at its start;
`patrolNext` is the least stripe and slot that it has not passed, `patrolTop` the first stripe placed since its start, and `patrolDays`
its period in days, taken at its start (R13). -/
structure Geo where
  bays : List (Nat × Bay)
  stripes : List (Nat × GStripe)
  nextStripe : Nat
  rows : List (Nat × Nat)
  rotor : Nat
  map : List (Nat × Nat × Nat)
  pages : List (Nat × Nat)
  progs : List GProg
  chans : List (Nat × Chan)
  rebuild : Option (Nat × List Nat)
  patrolPos : Nat
  patrolTotal : Nat
  patrolNext : Nat × Nat
  patrolTop : Nat
  patrolDays : Nat
  patrolAt : Nat
  patrolLate : Bool
deriving DecidableEq, Repr

def Geo.reset : Geo := ⟨[], [], 1, [], 0, [], [], [], [], none, 0, 0, (0, 0), 0, 14, 0, false⟩

end Sys2Proof.Machine
end

