-- ==== Sys2Proof/Machine/IdxState.lean ====
section
/-! DEFINITION. What the index and search units hold (spec/09, spec/10): indices with their generations, side lists,
item and passage stores, folds; and queries with their partial lists. The structures of an index are held as the
records they contain; their places in the index region and in the extents are the part's own (log entry 17: DESIGN CHOICE, safe). -/

namespace Sys2Proof.Machine

/-- Table "Member record (logical)". -/
structure Member where
  item : Nat
  second : Bool
  version : Nat
  bitmap : BitVec 64
  nums : List Nat
  code : List Byte
deriving DecidableEq, Repr

/-- STATE of a key array entry. -/
inductive KeyState where
  | alive | dying | dead
deriving DecidableEq, Repr

/-- Table "Key array entry (8 bytes)". -/
structure Key where
  item : Nat
  second : Bool
  state : KeyState
deriving DecidableEq, Repr

/-- Table "Group list entry (8 bytes)" with the records of the group. -/
structure Group where
  unit : Nat
  lost : Bool
  recs : List Member
deriving DecidableEq, Repr

/-- Table "Partition table entry (32 bytes)" with its group list; the keys of its records are `keyBase` on. -/
structure Part where
  keyBase : Nat
  keyCap : Nat
  records : Nat
  dead : Nat
  damaged : Bool
  groups : List Group
deriving DecidableEq, Repr

/-- A generation: its number, fold point and partition table. Unlisted partitions are empty. -/
structure Gen where
  num : Nat
  point : Nat
  parts : List (Nat × Part)
deriving DecidableEq, Repr

/-- Table "Side-list entry (64 bytes plus code, padded to a multiple of 64)". -/
structure SideEntry where
  item : Nat
  insert : Bool
  seq : Nat
  part0 : Nat
  part1 : Nat
  border : Bool
  bitmap : BitVec 64
  nums : List Nat
  code : List Byte
deriving DecidableEq, Repr

/-- Table "Item copy header (64 bytes, followed by the vector)"; VERSION 0 is an empty copy. `bad`: the copy
cannot be read (R255). -/
structure ItemCopy where
  version : Nat
  passOff : Nat
  passLen : Nat
  bitmap : BitVec 64
  nums : List Nat
  vec : List Byte
  bad : Bool
deriving DecidableEq, Repr

/-- A passage record: its header, text and token form; `bad`: it cannot be read (R255). -/
structure PassRec where
  item : Nat
  version : Nat
  dict : Nat
  text : List Byte
  toks : List Nat
  bad : Bool
deriving DecidableEq, Repr

/-- An entry of a batch as the update's commands prepare it (R232 to R234, R241): partitions, code and token form. -/
structure Prep where
  e : UpdEntry
  toks : List Nat
  part0 : Nat
  part1 : Nat
  border : Bool
  code : List Byte
deriving DecidableEq, Repr

/-- The stores of an index. -/
inductive IdxStore where
  | member | item | passage
deriving DecidableEq, Repr

/-- Bytes that are written into a store from an offset on. -/
structure StoreWrite where
  store : IdxStore
  off : Nat
  bytes : List Byte
deriving DecidableEq, Repr

/-- An update on its way: its handle, its entries, the commands that assign and tokenise them (R234), the items whose copy writes wait
(R239), and once its copies are written and it has its sequence (R242): that, what is written into ranges as it publishes, the publication
that carries it, and the deletes that found nothing. SEQ 0: it has none yet. -/
structure Update where
  handle : Nat
  preps : List Prep
  jobs : List Nat
  waits : List Nat
  seq : Nat
  writes : List StoreWrite
  pub : Option Nat
  notFound : Nat
deriving DecidableEq, Repr

/-- A fold or repair (table "A fold from generation g to g + 1"): the step it stands before or in (2 writing
partitions, 3 waiting for pins of g - 1, 4 publishing, 5 reclaiming), its fold point, its partitions still to do, the
partition entries written for g + 1, the publications of what it wrote, the keys it marked DYING, keys found without a readable copy, the
operation that asked for it, the publication of g + 1, and the cancels that await it: OP_ID and completion address (R251). -/
structure Fold where
  repair : Bool
  step : Nat
  point : Nat
  compactPct : Nat
  todo : List Nat
  total : Nat
  parts : List (Nat × Part)
  pubs : List Nat
  marked : List Nat
  lostKeys : Nat
  opId : Option Nat
  completion : Nat
  pub : Option Nat
  cancels : List (Nat × Nat)
deriving DecidableEq, Repr

/-- States of an index (IDX_STAT.STATE). -/
inductive IdxState where
  | creating | ready | dropping
deriving DecidableEq, Repr

/-- An index. `passPoint` is the write point of its passage ring of `passSize` units of 64 bytes. -/
structure Index where
  desc : IdxDesc
  state : IdxState
  /-- The publication of a new index, with the operation that creates it: OP_ID and completion address. -/
  creating : Option (Nat × Nat × Nat)
  committed : Nat
  nextSeq : Nat
  cur : Gen
  prev : Option Gen
  dyingGen : Nat
  keys : List (Nat × Key)
  side : List SideEntry
  items : List (Nat × ItemCopy × ItemCopy)
  passages : List (Nat × PassRec)
  passPoint : Nat
  passSize : Nat
  /-- Places of passages that a forward copy left, whose records stand: offset, length and the queries that may read them (R240). -/
  moved : List (Nat × Nat × List Nat)
  updates : List Update
  fold : Option Fold
deriving DecidableEq, Repr

/-- An entry of a partial list (spec/10 "Partial lists"); `rank` is the probe rank of a side-list entry. -/
structure PEntry where
  score : F32
  item : Nat
  version : Nat
  source : Nat
  second : Bool
  rank : Nat
deriving DecidableEq, Repr

/-- A candidate on its way from the merged list to packing: its entry, the selected copy, and its distance. -/
structure Cand where
  e : PEntry
  copy : Option ItemCopy
  score : F32
deriving DecidableEq, Repr

/-- Where a query stands. -/
inductive QueryStep where
  | order | dispatch | scanning | merged | done
deriving DecidableEq, Repr

/-- The sequencer commands of a query (R76): probe order and tables, the scan on a part without CSUs, the side-list search, rescoring. -/
inductive SeqWork where
  | order | scan | side | rescore
deriving DecidableEq, Repr

/-- A query: the block as admitted, S, g and F_g, the probe order, tables, partial lists, and what has been
scanned. A scan runs over the probes from `from_` to `upto - 1` of the probe order in this round. -/
structure Query where
  handle : Nat
  /-- Its place in the order of admission. -/
  order : Nat
  blk : SearchBlock
  index : Nat
  snap : Nat
  gen : Nat
  point : Nat
  pinned : Bool
  clamped : Bool
  nprobe : Nat
  maxProbes : Nat
  step : QueryStep
  q : List F32
  q0 : F32
  qcode : List Byte
  tabA : List (Nat × F32)
  tabB : List (Nat × F32)
  probes : List Nat
  scanned : Nat
  upto : Nat
  rounds : Nat
  /-- Groups scored or skipped in this round: partition and group number. -/
  seen : List (Nat × Nat)
  /-- One list per channel: SOURCE and its best entries (R274). -/
  lists : List (Nat × List PEntry)
  side : List PEntry
  sideDone : Bool
  matches_ : Nat
  nan : Nat
  /-- Probe ranks of side-list entries with NaN scores (R268, R281). -/
  sideNan : List Nat
  /-- Candidates that rescoring dropped as NaN (R283). -/
  candNan : Nat
  dups : Nat
  distinct : Nat
  merged : List PEntry
  cands : List Cand
  fetched : Bool
  rescored : Bool
  damaged : Bool
  /-- Its sequencer commands, by CMD_ID. -/
  jobs : List (SeqWork × List Nat)
  /-- Its place in the merge engine's arrivals, once the partial lists of the round are complete (R27). -/
  arrived : Option Nat
deriving DecidableEq, Repr

/-- A program instruction (table "Program instruction (32 bits)"). -/
structure ProgWord where
  op : Nat
  dd : Nat
  da : Nat
  db : Nat
  imm : Nat
deriving DecidableEq, Repr

structure Idx where
  indices : List (Nat × Index)
  queries : List (Nat × Query)
  /-- The program slots of every CSU (R269). -/
  progs : List (Nat × List ProgWord)
  /-- Queries that have arrived at the merge engine. -/
  arrivals : Nat
  /-- Logical units that channels have read for a scan and no CSU has scored yet, once for each read. -/
  read : List Nat
deriving DecidableEq, Repr

end Sys2Proof.Machine
end

