-- ==== Sys2Proof/Machine/KtrState.lean ====
section
/-! DEFINITION. What the Keator block holds beside its registers (spec/15): the windows as last synchronised, flows and
operations outstanding, and what each port keeps. -/

namespace Sys2Proof.Machine

/-- Table "Exported window descriptor (32 bytes)". -/
structure ExpWin where
  va : Nat
  tid : Nat
  service : Bool
  brixux : Bool
  read : Bool
  write : Bool
  atomic : Bool
  valid : Bool
  offset : Nat
  pages : Nat
  key : Nat
  srcNode : Nat
  srcMask : Nat
  respTc : Nat
deriving DecidableEq, Repr

/-- Table "Mapped window descriptor (32 bytes)". -/
structure MapWin where
  base : Nat
  pages : Nat
  key : Nat
  tid : Nat
  service : Bool
  tc : Nat
  valid : Bool
deriving DecidableEq, Repr

/-- Who issued an operation: a kernel put of a core with its number there, a KV page or a ship record of a request, a record
of a host ring, a write-back of a page, or a journal stripe. -/
inductive Issuer where
  | kernel (core ext : Nat)
  | shipPage (handle : Nat)
  | shipRec (handle : Nat)
  | host (key : Nat)
  | tier (page : Nat)
  | journal (stripe : Nat)
deriving DecidableEq, Repr

/-- An operation of the part that its target has not acknowledged. -/
structure KOp where
  id : Nat
  node : Nat
  tc : Nat
  issuer : Issuer
  /-- Whether a retry after a restart of the node would perform an atomic twice (R403). -/
  atomic : Bool
  bytes : Nat
  since : Nat
deriving DecidableEq, Repr

/-- A datagram whose receipt is not acknowledged: its SEQ, operation, bytes, port, and how often it was lost in a row. -/
structure Dgram where
  seq : Nat
  op : Nat
  bytes : Nat
  port : Nat
  losses : Nat
  sentAt : Nat
deriving DecidableEq, Repr

/-- A flow to a node on a traffic class: the next SEQ, the congestion window, the smoothed round trip and the time of the
window's last change, in dispatcher time. -/
structure FlowOut where
  node : Nat
  tc : Nat
  next : Nat
  window : Nat
  rtt : Nat
  changed : Nat
  dgrams : List Dgram
deriving DecidableEq, Repr

/-- A flow from a node: its EPOCH; every SEQ below `got` has been received, and those of `gotMore`; likewise applied; the results of
its last atomics; and the PUTs whose last segment has come, with the OP_ID and SEQ of it. SEQs are counted on past 2^32. -/
structure FlowIn where
  node : Nat
  tc : Nat
  epoch : Nat
  got : Nat
  gotMore : List Nat
  applied : Nat
  appliedMore : List Nat
  atomics : List (Nat × Nat)
  puts : List (Nat × Nat)
deriving DecidableEq, Repr

/-- An accepted operation that is not yet applied: its context and address, its SEQ counted on, and, once it is journaled, its
publication (R393). -/
structure Inbound where
  h : KHead
  body : KBody
  seq : Nat
  ctx : Nat
  va : Nat
  pub : Option Nat
deriving DecidableEq, Repr

/-- What a port keeps: by traffic class the contexts' deficits and the one served last, the egress token buckets and the two
ingress buckets of each tenant with the port time they were filled at, and what was sent since the last sample. -/
structure Port where
  deficits : List (Nat × Nat)
  turns : List (Nat × Nat)
  tokens : List (Nat × Nat × Nat)
  meters : List (Nat × Nat × Nat × Nat)
  sent : List (Nat × Nat)
  maxDelay : List (Nat × Nat)
  /-- Whether the transmit association has used its last packet number (R413). -/
  exhausted : Bool
  /-- The port time at which the pending list that GO scheduled takes over (R409). -/
  gates : Option Nat
  /-- The entry that the active list stands in. -/
  entry : Nat
  sampledAt : Nat
deriving DecidableEq, Repr

structure Ktr where
  exp : List (Nat × ExpWin)
  map : List (Nat × MapWin)
  ops : List KOp
  nextOp : Nat
  flows : List FlowOut
  inFlows : List FlowIn
  held : List Inbound
  /-- Dispatcher times at which a datagram of a node last came, and the EPOCH it showed. -/
  heard : List (Nat × Nat)
  epochs : List (Nat × Nat)
  /-- Nodes in an unreachable episode. -/
  silent : List Nat
  ports : List (Nat × Port)
  /-- Dispatcher time of the last KTR_ACCESS_DENIED. -/
  deniedAt : Option Nat
deriving DecidableEq, Repr

def Port.reset : Port := ⟨[], [], [], [], [], [], false, none, 0, 0⟩
def Ktr.reset : Ktr := ⟨[], [], [], 1, [], [], [], [], [], [], [], none⟩

end Sys2Proof.Machine
end

