-- ==== Sys2Proof/Machine/MgtState.lean ====
section
/-! DEFINITION. What the management unit holds beside its registers (spec/19): the boot NOR, what NOR reads have put into Bezel's memory,
and the PLDM sensors. -/

namespace Sys2Proof.Machine

/-- `nor` holds the bytes of the boot NOR's image ranges, unlisted bytes being erased; `bezel` bytes by Bezel physical address; `sensors`
the values of the numeric and state sensors by ID, last updated at `sensedAt`. -/
structure Mgt where
  nor : List (Nat × Byte)
  bezel : List (Nat × Byte)
  sensors : List (Nat × Nat)
  sensedAt : Nat
deriving DecidableEq, Repr

def Mgt.reset : Mgt := ⟨[], [], [], 0⟩

end Sys2Proof.Machine
end

