-- ==== Sys2Proof/Machine/OnxState.lean ====
section
/-! DEFINITION. What Onyx holds beside its registers (spec/18). Key bytes are secret and appear only by their check values. -/

namespace Sys2Proof.Machine

/-- `officers` are the enrolled public keys and last counters by index (R449); `kemGen` the generation of the transport key; `running` that an
image runs, `runSvn` and `runRoot` its SVN and root; `saks` the ports with a secure association key. -/
structure Onx where
  officers : List (Nat × List Byte × Nat)
  kemGen : Nat
  running : Bool
  runSvn : Nat
  runRoot : Nat
  saks : List Nat
deriving DecidableEq, Repr

def Onx.reset : Onx := ⟨[], 0, false, 0, 0, []⟩

end Sys2Proof.Machine
end

