-- ==== Sys2Proof/Machine/OutState.lean ====
section
/-! DEFINITION. What leaves the part: writes into host windows, completions of operations and the like, in the
order in which they leave. -/

namespace Sys2Proof.Machine

inductive Out where
  /-- A write into a window of another node: hall address, access key and bytes. -/
  | put (addr key : Nat) (bytes : List Byte)
  /-- The completion of an operation of the ring of a block: OP_ID, address, status, detail code, pages done and,
  for a fold or repair, keys found without a readable copy. -/
  | opDone (block opId addr status detail pages lost : Nat)
  /-- A queue entry that ended without running: REQ_HANDLE, CMD_ID, status and detail code. -/
  | jobRefused (handle cmdId status detail : Nat)
  /-- A ship record: a slot of the ring is claimed by a fetch-and-add on its tail, and the record written there (R359). -/
  | ship (addr key : Nat) (r : ShipRec)
  /-- The response to an operation of another node: OP_ID and data. -/
  | resp (node opId : Nat) (data : List Byte)
  /-- A bay's indicator is lit over the sideband (section "Leaving and joining"). -/
  | indicator (bay : Nat)
  /-- An event record read over I3C (R475). -/
  | eventLog (bytes : List Byte)
  /-- A refusal of one (table "NACK reasons"). -/
  | nack (node opId reason : Nat)
deriving DecidableEq, Repr

end Sys2Proof.Machine
end

