-- ==== Sys2Proof/Machine/PwrState.lean ====
section
/-! DEFINITION. What the power supervisor holds beside its registers (spec/16). -/

namespace Sys2Proof.Machine

/-- `goal` is the operating point that the rails move to; `credit` the surge credit in units of 1 ns of surge (R419), `lifeRest` and
`throttleRest` what has not yet made a whole second of LIFE_S and a whole microsecond of US, in dispatcher time, all accounted up to
`at_`. `high` and `limited` say that an over-voltage and a current-limit episode run. `heat` counts the thermal steps in force (R424),
taken at `heatAt`; the two duties are those of R423 and R424. `tripped` keeps the part in step 7 (R425). `cleared` holds the fields
that steps 2 and 3 cleared and software has not written since (R427). `flushing` is the flush of step 6; `off` that D19 and D20 have lost
power. -/
structure Pwr where
  goal : Nat
  credit : Nat
  lifeRest : Nat
  throttleRest : Nat
  at_ : Nat
  high : Bool
  limited : Bool
  limitDuty : Nat
  heat : Nat
  heatAt : Nat
  heatDuty : Nat
  dutyAt : Nat
  tripped : Bool
  cleared : List Nat
  flushing : Bool
  off : Bool
deriving DecidableEq, Repr

def Pwr.reset : Pwr := ⟨1, 30000000000, 0, 0, 0, false, false, 0, 0, 0, 0, 0, false, [], false, false⟩

end Sys2Proof.Machine
end

