-- ==== Sys2Proof/Machine/RasState.lean ====
section
/-! DEFINITION. What the error machinery holds beside its registers (spec/17): withdrawn facet units, the retirement
list in boot NOR, the errors of the running hour, and an armed injection. -/

namespace Sys2Proof.Machine

/-- The facet units are numbered facet * 512 + unit; the entries of the retirement list are cores, or units + 64.
`clear` are the entries that RAS_RETIRE_CLR marked (R437). `hour` counts the correctable errors of a source since
`hourAt`, `high` the sources recorded in this hour (R434), `lines` the uncorrectable lines by stack (R438); `d2d`
the last retrainings of a link (R440). -/
structure Ras where
  units : List Nat
  listed : List Nat
  clear : List Nat
  hourAt : Nat
  hour : List (Nat × Nat)
  high : List Nat
  lines : List (Nat × Nat)
  d2d : List (Nat × List Nat)
  /-- Positions of the running scrub passes, since when they run, and whether SCRUB_LATE was recorded of them: HBM lines, and SRAM
  words. -/
  scrubLine : Nat
  scrubAt : Nat
  scrubWord : Nat
  storeAt : Nat
  hbmLate : Bool
  storeLate : Bool
deriving DecidableEq, Repr

end Sys2Proof.Machine
end

