-- ==== Sys2Proof/Machine/RecState.lean ====
section
/-! DEFINITION. What the event recorder holds (spec/19 "The event recorder", R472 to R478), and the boot NOR's
mirror of it. -/

namespace Sys2Proof.Machine

/-- Severities (table "Event record (64 bytes)"). -/
inductive Sev where
  | fatal | error | warning | notice | info
deriving DecidableEq, Repr

def Sev.val : Sev → Nat
  | .fatal => 0
  | .error => 1
  | .warning => 2
  | .notice => 3
  | .info => 4

/-- An event record: its severity, code, the tenant it names, its stamps, SEQ and arguments; `released` and
`mirrored` say what became of its slot (R474, R478). -/
structure EvRec where
  sev : Sev
  code : Nat
  tid : Option Nat
  service : Bool
  seconds : Nat
  cycle : Nat
  seq : Nat
  arg0 : Nat
  arg1 : Nat
  arg2 : Nat
  released : Bool
  mirrored : Bool
deriving DecidableEq, Repr

/-- The recorder: its store in SEQ order, the hold buffer in arrival order, the latched record of each window,
the mirror in boot NOR, the time FREEZE was set, the time of the last REG_ACCESS_INVALID, and the operating
seconds last stored. -/
structure Recorder where
  store : List EvRec
  hold : List EvRec
  latch0 : Option EvRec
  latch1 : Option EvRec
  mirror : List EvRec
  frozenAt : Nat
  invalidAt : Option Nat
  savedSeconds : Nat
deriving DecidableEq, Repr

end Sys2Proof.Machine
end

