-- ==== Sys2Proof/Machine/TierState.lean ====
section
/-! DEFINITION. What the tier manager holds (spec/07): page tables, frames, shared objects, the journal and
long operations. The bytes of a context's range stand in `State.mem`: one current copy of each page, whichever tier
holds it (log entry 14: DESIGN CHOICE, unsafe). -/

namespace Sys2Proof.Machine

/-- Page states (table "Page states"). -/
inductive PState where
  | unmapped | zero | away | resident | moving | poisoned | shared | lost
deriving DecidableEq, Repr

/-- HOME of a page table entry. -/
inductive Home where
  | none | geode | fabric
deriving DecidableEq, Repr

/-- Table "Page table entry (16 bytes)". `loc` is the logical page, the window or the object of HOME_LOC and
`page` the page within the window or object; `redirty` the subpages replaced since the running write-back read
them (R184); `serial` the number of the MAP that made the mapping (R480); `holds` the reservations that hold the page;
`dirtyAt` the time it became dirty. -/
structure Pte where
  state : PState
  home : Home
  durable : Bool
  writable : Bool
  pinned : Bool
  encHome : Bool
  cleaning : Bool
  frame : Nat
  stamp : Nat
  dirty : BitVec 32
  redirty : BitVec 32
  /-- The subpages that the running write-back writes (R184). -/
  writing : BitVec 32
  loc : Nat
  page : Nat
  serial : Nat
  holds : Nat
  dirtyAt : Nat
  /-- Its fabric home failed a write-back; the page stays pinned until SET_HOME (R188). -/
  homeLost : Bool
deriving DecidableEq, Repr

/-- States of a shared object. -/
inductive ObjState where
  | free | loading | ready | poisoned | retiring
deriving DecidableEq, Repr

/-- Table "Shared object descriptor (64 bytes)"; `episode` is the furthest step of the running recovery
episode (0: none), R199. -/
structure Obj where
  state : ObjState
  altPlain : Bool
  keySlot : Nat
  gen : Nat
  pages : Nat
  altTimeout : Nat
  altAddr : Nat
  altKey : Nat
  episode : Nat
  altSince : Option Nat
  /-- Pages that the alternate is to deliver (R198). -/
  altPages : List Nat
  /-- OP_ID and completion address of an OBJ_RETIRE that waits until no range maps the object. -/
  retire : Option (Nat × Nat)
deriving DecidableEq, Repr

/-- A journal record of one page (table "Journal record header (64 bytes)"): JSEQ, the publication it is of,
its page, its subpages, its length with padding, and LAST. -/
structure JRec where
  /-- The journal stripe that it ends in, once it is in one. -/
  stripe : Nat
  jseq : Nat
  pub : Nat
  ctx : Nat
  va : Nat
  subpages : BitVec 32
  bytes : Nat
  last : Bool
  /-- What the subpages decrypt to, as cells by offset within the page. -/
  payload : List (Nat × Byte)
deriving DecidableEq, Repr

/-- A publication whose commit phase has ended and that awaits its journal record (R85, R191) or its
scatter-add (R300): COMMIT_ID, the command, its outputs and its fresh frames. -/
structure Pub where
  id : Nat
  ctx : Nat
  d : CmdDesc
  outs : List OutBuf
  fresh : List (Nat × Nat)
  /-- Journal records not yet acknowledged stand in its way; `scatter` while a scatter-add is unapplied. -/
  journaled : Bool
  acked : Bool
  scatter : Bool
  /-- The mappings that its output pages had when it was published (R480), and the JSEQ before its records' (R191). -/
  serials : List (Nat × Nat)
  jseq : Nat
deriving DecidableEq, Repr

/-- The status of a long operation (R386, R387). -/
inductive OpStatus where
  | waiting | running | suspended | cancelled | ended
deriving DecidableEq, Repr

/-- An operation of an operation ring: its block, OP_ID, whether it is a long operation, its status, where it
stands, its completion address, the context it is for and when it began. -/
structure Op where
  block : Nat
  opId : Nat
  long : Bool
  status : OpStatus
  pos : Nat
  completion : Nat
  target : Nat
  ctx : Nat
  since : Nat
  /-- Its entry has been taken. -/
  begun : Bool
  /-- FRAME_MAX of its context, sampled as it began (R13). -/
  limit : Option Nat
deriving DecidableEq, Repr

/-- The part's own tables that HBM holds (R439): page tables, command queues, KV maps, the Bezel complex's memory, and the map of the flash
translation layer. -/
inductive PartTable where
  | pages | queues | kvMaps | bezel | flashMap
deriving DecidableEq, Repr

/-- A copy of a table on a stack; `reserved`: in the reserved frames, else in pinned frames of the service context. -/
structure TableCopy where
  table : PartTable
  reserved : Bool
  stack : Nat
deriving DecidableEq, Repr

/-- The tier manager. Pages are keyed ctx * 2^27 + page number, the contexts being tenants 0 to 1,023, the
service context 1,024 and object o as 2,048 + o. Frames are keyed by number; the value is the page that they hold, none
for a superseded version that a running command still pins. -/
structure Tier where
  pages : List (Nat × Pte)
  /-- What the home copies of pages decrypt to, at page key * 2^21 + offset. -/
  homes : List (Nat × Byte)
  frames : List (Nat × Option Nat)
  rotor : Nat
  serial : Nat
  objs : List (Nat × Obj)
  gathered : List JRec
  gatherSince : Nat
  stripes : List (Nat × List JRec)
  nextStripe : Nat
  /-- Where the journal's next record goes in a fabric window (R196). -/
  jrnPos : Nat
  /-- Records acknowledged and not yet retired by a checkpoint, and the highest JSEQ assigned. -/
  covered : List JRec
  jseq : Nat
  ckptAt : Nat
  full : Bool
  noFrame : Bool
  pubs : List Pub
  nextPub : Nat
  ops : List Op
  /-- The copies of the part's own tables (R439). -/
  copies : List TableCopy
deriving DecidableEq, Repr

end Sys2Proof.Machine
end

