-- ==== Sys2Proof/Machine/TxuState.lean ====
section
/-! DEFINITION. What the token unit holds (spec/12): dictionaries, grammars and stream contexts. Images stand in
the range that the load named, byte for byte. -/

namespace Sys2Proof.Machine

/-- A dictionary: where its image lies (context and address) and its header. -/
structure Dict where
  unloading : Bool
  shared : Bool
  tid : Nat
  ctx : Nat
  base : Nat
  byteTokens : Bool
  vocab : Nat
  nodes : Nat
  edges : Nat
  byteBase : Nat
  unk : Nat
  nodeOff : Nat
  edgeOff : Nat
  detokOff : Nat
  textOff : Nat
  textBytes : Nat
deriving DecidableEq, Repr

/-- States of a grammar (TXU_GRAM_STAT). -/
inductive GramState where
  | loading | ready | suspended | unloading
deriving DecidableEq, Repr

/-- A grammar: where its image lies and its header. -/
structure Gram where
  state : GramState
  shared : Bool
  tid : Nat
  ctx : Nat
  base : Nat
  vocab : Nat
  states : Nat
  start : Nat
  masks : Nat
  ranges : Nat
  stateOff : Nat
  rangeOff : Nat
  maskOff : Nat
deriving DecidableEq, Repr

/-- A stream context (table "Stream context state"): the owner, dictionary and mode, the unfinished UTF-8
sequence, the repaired bytes since the last emitted token with the trie steps already taken over them, and the counters; `evicted`
when the context lies in service pages (R318). -/
structure Stream where
  tid : Nat
  handle : Nat
  num : Nat
  dict : Nat
  byteMode : Bool
  carry : List Byte
  pending : List Byte
  walked : Nat
  bytesIn : Nat
  tokensOut : Nat
  invalid : Nat
  noMatch : Nat
  evicted : Bool
  lastJob : Nat
deriving DecidableEq, Repr

structure Txu where
  dicts : List (Nat × Dict)
  grams : List (Nat × Gram)
  streams : List Stream
  /-- OPEN items that have been counted as waiting for a context (R319). -/
  waited : List Nat
deriving DecidableEq, Repr

end Sys2Proof.Machine
end

