-- ==== Sys2Proof/Machine/State.lean ====
section
/-! DEFINITION. The state of the part, the reasons why a step stops, and the state after reset. -/

namespace Sys2Proof.Machine

/-- A write to a Staged field that waits for its boundary (R14): the field, the value, the boundary and the
unit (core, port) whose boundary it is. -/
structure Staged where
  f : RF
  v : Nat
  te : Takes
  unit : Nat
deriving DecidableEq, Repr

/-- The state of the part: every register field, memory and unit that the manual names, and the queue of commands
that wait. -/
structure State where
  /-- Commands that wait, first in, first out. -/
  pending : List Instr
  /-- Which open value is drawn next: the model's own field (log entry 3: DESIGN CHOICE, safe). -/
  free : Nat
  /-- Register fields, as the difference from their reset values; keyed by `RF.id`. -/
  regs : List (Nat × BitVec 64)
  /-- Staged writes that wait for their boundaries, oldest first. -/
  staged : List Staged
  /-- RWL fields that a software write has locked (R10), by `RF.id`, with themselves. -/
  locks : List Nat
  /-- The bytes of every range: tenant t at t * 2^48, the service context at 1,024 * 2^48, object o at
  (2,048 + o) * 2^48. Unlisted bytes read zero (R169: a ZERO page reads zero). -/
  mem : List (Nat × Byte)
  /-- The cores that run a command, by number. -/
  cores : List (Nat × Core)
  rec_ : Recorder
  dsp : Dsp
  tier : Tier
  ftb : Ftb
  txu : Txu
  idx : Idx
  gen : GenUnit
  ras : Ras
  ktr : Ktr
  geo : Geo
  mgt : Mgt
  pwr : Pwr
  onx : Onx
  out : List Out
deriving DecidableEq, Repr

/-- Why a step stops. A command that names an event whose condition does not hold is no such reason: it changes nothing (log entry 13: DESIGN
CHOICE, safe). -/
inductive Fault where
  /-- A kernel instruction names a core that fetches none: it runs no command, or its command has ended or waits in a FENCE. Raised by every
  kernel instruction; safe, for the spec gives an instruction that no core fetches no effect (R62, R81). -/
  | coreNotRunning
deriving DecidableEq, Repr

/-- Why a command has no meaning. -/
inductive Refusal where
  /-- No meaning yet: raised by a refused arm of `exec`. Safe. -/
  | notModelled (mnemonic : String)
deriving DecidableEq, Repr

/-- A step's outcome. -/
abbrev Res := Host.Outcome State Fault Refusal

def Recorder.reset : Recorder := ⟨[], [], none, none, [], 0, none, 0⟩
def Dsp.reset : Dsp := ⟨[], [], [], 1, 1, [], [], [], 0, 0, 0, 0, [], [], [], [], [], [], [], [], [], [], 0, 0, [], []⟩
def Tier.reset : Tier := ⟨[], [], [], 0, 1, [], [], 0, [], 1, 0, [], 0, 0, false, false, [], 1, [], []⟩

/-- The part right after reset: every field at its reset value, no memory written, nothing in flight. -/
def State.reset : State :=
  { pending := [], free := 0, regs := [], staged := [], locks := [], mem := [], cores := [],
    rec_ := Recorder.reset, dsp := Dsp.reset, tier := Tier.reset, ftb := ⟨[], []⟩, txu := ⟨[], [], [], []⟩,
    idx := ⟨[], [], [], 0, []⟩, gen := ⟨[], [], 1, 1, [], []⟩,
    ras := ⟨[], [], [], 0, [], [], [], [], 0, 0, 0, 0, false, false⟩, ktr := Ktr.reset, geo := Geo.reset, mgt := Mgt.reset, pwr := Pwr.reset, onx := Onx.reset, out := [] }

end Sys2Proof.Machine
end

