-- ==== Sys2Proof/Machine/Ops.lean ====
section
/-! DEFINITION. The named operations over registers, the event recorder and memory that every meaning uses. -/

namespace Sys2Proof.Machine

/-! ### Registers -/

/-- The value of a register field. -/
def State.get (s : State) (f : RF) : Nat := (Sparse.get 0 s.regs f.id).toNat ^^^ f.rst

/-- Sets a register field; bits beyond its width are dropped. -/
def State.put (s : State) (f : RF) (v : Nat) : State :=
  { s with regs := Sparse.set 0 s.regs f.id (BitVec.ofNat 64 ((v % 2 ^ f.w) ^^^ f.rst)) }

/-- Adds to a counter, wrapping. -/
def State.bump (s : State) (f : RF) (n : Nat) : State := s.put f (s.get f + n)

/-- Adds to a counter that saturates. -/
def State.bumpSat (s : State) (f : RF) (n : Nat) : State := s.put f (Nat.min (s.get f + n) (2 ^ f.w - 1))

/-- Raises a register to a value, saturating (the longest or worst since the last read). -/
def State.raise (s : State) (f : RF) (n : Nat) : State := s.put f (Nat.max (s.get f) (Nat.min n (2 ^ f.w - 1)))

/-- Subtracts, to 0 at the least. -/
def State.drop (s : State) (f : RF) (n : Nat) : State := s.put f (s.get f - n)

/-- Whether a one-bit field is set. -/
def State.on (s : State) (f : RF) : Bool := s.get f == 1

/-- Dispatcher time, in units of 10 ns. -/
def State.now (s : State) : Nat := s.get F.DSP_TIME_NOW

/-- Dispatcher time runs on to `t`; it never runs back (R46). Operating seconds run with it (R472). Log entry 18: DESIGN CHOICE, safe. -/
def State.tick (s : State) (t : Nat) : State :=
  let t := Nat.max s.now t
  (s.put F.DSP_TIME_NOW t).bump F.EVR_TIME_OP_SECONDS (t / 100000000 - s.now / 100000000)

/-- Microseconds, rounded up, of a span of dispatcher time. -/
def usUp (t : Nat) : Nat := (t + 99) / 100

/-- Applies the updates that a kernel instruction makes to counters. -/
def State.update (s : State) : Upd → State
  | .add f n => s.bump f n
  | .set f n => s.put f n

/-- Every pending Staged write of a boundary of a unit becomes active together, the last write of a field winning
(R14). -/
def State.boundary (s : State) (te : Takes) (unit : Nat) : State :=
  let hit := fun (w : Staged) => decide (w.te = te) && decide (w.unit = unit)
  { (s.staged.filter hit).foldl (fun s w => s.put w.f w.v) s with staged := s.staged.filter (fun w => !hit w) }

/-- Draws an open value. -/
def State.draw (s : State) : Nat × State := ((Config.freeValue s.free).toNat, { s with free := s.free + 1 })

/-! ### What the variant has (R1, table of differences in spec/00) -/

/-- Table "Praenava variants". -/
inductive Variant where
  | pnv9600 | pnv9520 | pnv9310
deriving DecidableEq, Repr

/-- PART_CAPS of a variant (R1). -/
def Variant.caps : Variant → Nat
  | .pnv9600 => 0x003E2120
  | .pnv9520 => 0x00142120
  | .pnv9310 => 0x00411090

/-- PART_ID.DEVICE of a variant. -/
def Variant.device : Variant → Nat
  | .pnv9600 => 0x9600
  | .pnv9520 => 0x9520
  | .pnv9310 => 0x9310

/-- PWR_DOMAINS.ON of a variant: the domains that it has (spec/16 "Domains"). -/
def Variant.domains : Variant → Nat
  | .pnv9600 => 0xFFFFF
  | .pnv9520 => 0xF3FFF
  | .pnv9310 => 0xF750F
  
/-- A variant of the part right after reset: `State.reset` is a PNV-9600, and the fields whose reset value is per variant hold those of
the variant (log entry 68: DESIGN CHOICE, unsafe). -/
def State.resetAs (v : Variant) : State :=
  let caps := v.caps
  let s := match v with
    | .pnv9310 => (({ State.reset with regs := (List.range 1024).map (fun t => ((F.DSP_TNT_CORES_ALLOWED t).id, 0xFFFF0000)) }.put
        F.MEM_FREE_FREE 258048).put F.MEM_FRAMES_TOTAL 258048)
    | _ => State.reset
  let s := ((s.put F.PWR_DOMAINS_ON v.domains).put F.PART_ID_DEVICE v.device)
  let s := ((s.put F.PART_CAPS_EC_LAYOUT (caps / 2 ^ 21)).put F.PART_CAPS_SURGE (caps / 2 ^ 20)).put F.PART_CAPS_SELT (caps / 2 ^ 19)
  let s := ((s.put F.PART_CAPS_TXU (caps / 2 ^ 18)).put F.PART_CAPS_GEODE_BAYS (caps / 2 ^ 14)).put F.PART_CAPS_HBM_STACKS (caps / 2 ^ 9)
  (s.put F.PART_CAPS_ARRAYS_PER_CORE (caps / 2 ^ 6)).put F.PART_CAPS_CORES caps

def State.cores_ (s : State) : Nat := s.get F.PART_CAPS_CORES
def State.hasTxu (s : State) : Bool := s.on F.PART_CAPS_TXU
def State.hasGeode (s : State) : Bool := decide (0 < s.get F.PART_CAPS_GEODE_BAYS)
def State.hasSelt (s : State) : Bool := s.on F.PART_CAPS_SELT
def State.hasSurge (s : State) : Bool := s.on F.PART_CAPS_SURGE
def State.stacks (s : State) : Nat := s.get F.PART_CAPS_HBM_STACKS
def State.bays (s : State) : Nat := s.get F.PART_CAPS_GEODE_BAYS
def State.arrays (s : State) : Nat := s.get F.PART_CAPS_ARRAYS_PER_CORE

/-- The Geode tier is OFFLINE (R222). -/
def State.tierOffline (s : State) : Bool := s.get F.GEO_TIER_STATE == 4

/-! ### The event recorder (R472, R473, R476) -/

def storeSlots : Nat := 65536
def holdSlots : Nat := 256

/-- Removes the first element that satisfies `p`. -/
def eraseFirst {α : Type} (p : α → Bool) : List α → List α
  | [] => []
  | a :: r => if p a then r else a :: eraseFirst p r

/-- Removes the last element that satisfies `p`. -/
def eraseLast {α : Type} (p : α → Bool) (l : List α) : List α := (eraseFirst p l.reverse).reverse

/-- A record enters the store (R472, R473): it takes a free slot, else the slot of the oldest released
record, else that of the oldest record whose SEVERITY value is at or above its own; else it is dropped and
counted. Log entry 52: DEDUCED, unsafe. -/
def State.enter (s : State) (r : EvRec) : State :=
  let st := s.rec_.store
  let put := fun (l : List EvRec) =>
    let seq := s.get F.EVR_SEQ_NEXT
    ({ s with rec_ := { s.rec_ with store := l ++ [{ r with seq := seq }] } }).put F.EVR_SEQ_NEXT (seq + 1)
  if st.length < storeSlots then put st
  else if st.any (fun x => x.released) then put (eraseFirst (fun (x : EvRec) => x.released) st)
  else if st.any (fun (x : EvRec) => decide (r.sev.val ≤ x.sev.val)) then put (eraseFirst (fun (x : EvRec) => decide (r.sev.val ≤ x.sev.val)) st)
  else s.bumpSat F.EVR_DROPPED_DROPPED 1

/-- A record arrives while FREEZE is 1 (R476). -/
def State.holdRecord (s : State) (r : EvRec) : State :=
  let h := s.rec_.hold
  let worst := h.foldl (fun (m : Nat) (x : EvRec) => Nat.max m x.sev.val) 0
  if h.length < holdSlots then { s with rec_ := { s.rec_ with hold := h ++ [r] } }
  else if r.sev = .fatal ∧ 0 < worst then
    ({ s with rec_ := { s.rec_ with hold := eraseLast (fun (x : EvRec) => x.sev.val == worst) h ++ [r] } }).bumpSat F.EVR_DROPPED_HOLD_LOST 1
  else s.bumpSat F.EVR_DROPPED_HOLD_LOST 1

/-- Records an event: the record is stamped when it arrives (R472). Log entry 47: DEDUCED, unsafe. -/
def State.event (s : State) (code : Nat) (sev : Sev) (ctx : Option Nat) (arg0 arg1 : Nat) : State :=
  let r : EvRec := ⟨sev, code, ctx.filter (fun t => decide (t < svc)), ctx == some svc, s.get F.EVR_TIME_OP_SECONDS,
    s.get F.EVR_CYCLES_POWER_CYCLES, 0, arg0, arg1, 0, false, false⟩
  if s.on F.EVR_CTL_FREEZE then s.holdRecord r else s.enter r

/-- Event codes (table "Event codes"). -/
def evCfgWriteDropped : Nat := 0x0001
def evAccessDenied : Nat := 0x0002
def evRegAccessInvalid : Nat := 0x0003
def evPartReady : Nat := 0x0004
def evBrxRingOverrun : Nat := 0x0101
def evDspSetEmpty : Nat := 0x0102
def evQntSaturated : Nat := 0x0501
def evSelNanInput : Nat := 0x0601
def evSearchShort : Nat := 0x0701
def evSearchDamaged : Nat := 0x0702
def evMemNoFrame : Nat := 0x0801
def evFabricHomeLost : Nat := 0x0802
def evJrnFull : Nat := 0x0803
def evObjReconstructed : Nat := 0x0804
def evObjAltUsed : Nat := 0x0805
def evObjPoisoned : Nat := 0x0806
def evGeoEjectRefused : Nat := 0x0A01
def evGeoTierOffline : Nat := 0x0A02
def evGeoRemoved : Nat := 0x0A03
def evGeoFailed : Nat := 0x0A04
def evGeoNoRedundancy : Nat := 0x0A05
def evGeoUnitLost : Nat := 0x0A06
def evGeoRebuildDone : Nat := 0x0A07
def evGeoPatrolLate : Nat := 0x0A08
def evGeoLifeWarn : Nat := 0x0A09
def evIdxDamaged : Nat := 0x0C01
def evTxuMaskLate : Nat := 0x0E01
def evTxuInvalidUtf8 : Nat := 0x0E02
def evKvRecomputed : Nat := 0x0F01
def evShipOrphan : Nat := 0x0F02
def evKtrLinkDown : Nat := 0x1001
def evKtrWinInvalid : Nat := 0x1002
def evKtrAccessDenied : Nat := 0x1003
def evKtrNodeUnreachable : Nat := 0x1004
def evPtpUnlocked : Nat := 0x1005
def evMacsecPnExhausted : Nat := 0x1006
def evLateGate : Nat := 0x1101
def evRefclkLost : Nat := 0x1201
def evInputHigh : Nat := 0x1301
def evPsmFailed : Nat := 0x1302
def evSurgeExit : Nat := 0x1303
def evCurrentLimit : Nat := 0x1304
def evThermalThrottle : Nat := 0x1305
def evThermalTrip : Nat := 0x1306
def evPowerShed : Nat := 0x1307
def evPowerRestored : Nat := 0x1308
def evRasCeHigh : Nat := 0x1401
def evCoreRetired : Nat := 0x1402
def evFacetUnitRetired : Nat := 0x1403
def evStackRetired : Nat := 0x1404
def evD2dFailed : Nat := 0x1405
def evScrubLate : Nat := 0x1406
def evSelftestFail : Nat := 0x1407
def evOnxSelftestFail : Nat := 0x1501
def evOnxStoreLost : Nat := 0x1502
def evBootFallback : Nat := 0x1503
def evOnxBootFail : Nat := 0x1504
def evOnxZeroised : Nat := 0x1505
def evLpeSlow : Nat := 0x1601
def evEvrFreezeTimeout : Nat := 0x1701
def evMgtRestart : Nat := 0x1801

/-- Records that the write of a field was dropped (R10, R16). -/
def State.cfgDropped (s : State) (f : RF) : State := s.event evCfgWriteDropped .warning none (f.id / 64 % 2 ^ 25) (f.id % 64)

/-! ### Pages and bytes (spec/07 "Pages and the page table") -/

def pageBytes : Nat := 2 ^ 21
def subBytes : Nat := 2 ^ 16

/-- The context of a shared object's own page table. -/
def objCtx (o : Nat) : Nat := 2048 + o

/-- The key of a page: its context and page number. -/
def pageKey (ctx page : Nat) : Nat := ctx * 2 ^ 27 + page

/-- An unmapped page. -/
def Pte.none : Pte := ⟨.unmapped, .none, false, false, false, false, false, 0, 0, 0, 0, 0, 0, 0, 0, 0, 0, false⟩

/-- The entry of a page key. -/
def State.pte (s : State) (key : Nat) : Pte := (Sparse.find s.tier.pages key).getD Pte.none

def State.setPte (s : State) (key : Nat) (p : Pte) : State :=
  { s with tier := { s.tier with pages := if p.state = .unmapped then Sparse.erase s.tier.pages key else Sparse.put s.tier.pages key p } }

/-- The page key that governs a page: for a SHARED page, the object's own entry. -/
def State.governing (s : State) (key : Nat) : Nat :=
  let p := s.pte key
  if p.state = .shared then pageKey (objCtx p.loc) p.page else key

/-- The memory key of an address of a context, through a SHARED mapping. -/
def State.place (s : State) (ctx va : Nat) : Nat :=
  s.governing (pageKey ctx (va / pageBytes)) * pageBytes + va % pageBytes

/-- The page keys that a range of a context meets. -/
def pagesOf (ctx va n : Nat) : List Nat :=
  if n = 0 then [] else (List.range ((va + n - 1) / pageBytes - va / pageBytes + 1)).map (fun i => pageKey ctx (va / pageBytes + i))

/-- The pieces of a range that lie in one page each: address and length, over at most `fuel` pages. -/
def pieces : Nat → Nat → Nat → List (Nat × Nat)
  | 0, _, _ => []
  | fuel + 1, va, n =>
    if n = 0 then []
    else
      let m := Nat.min n (pageBytes - va % pageBytes)
      (va, m) :: pieces fuel (va + m) (n - m)

def piecesOf (va n : Nat) : List (Nat × Nat) := pieces (n / pageBytes + 2) va n

/-- The bytes of a range, as cells keyed from 0. -/
def State.cellsOf (s : State) (ctx va n : Nat) : List (Nat × Byte) :=
  (piecesOf va n).flatMap (fun p => (Sparse.slice s.mem (s.place ctx p.1) p.2).map (fun c => (c.1 + (p.1 - va), c.2)))

/-- The bytes of a range. -/
def State.load (s : State) (ctx va n : Nat) : List Byte := Sparse.fill 0 n 0 (s.cellsOf ctx va n)

/-- The little-endian value of `n` bytes of a range. -/
def State.word (s : State) (ctx va n : Nat) : Nat := leNat (s.load ctx va n)

/-- Writes bytes into a range. -/
def State.store (s : State) (ctx va : Nat) (bs : List Byte) : State :=
  let step := fun (m : List (Nat × Byte)) (p : Nat × Nat) =>
    Sparse.write 0 m (s.place ctx p.1) ((bs.drop (p.1 - va)).take p.2)
  { s with mem := (piecesOf va bs.length).foldl step s.mem }

/-- The DIRTY bits of the subpages of a page that a range meets. -/
def subMask (page va n : Nat) : BitVec 32 :=
  BitVec.ofFnLE (fun i : Fin 32 => decide (va < page * pageBytes + (i.val + 1) * subBytes) && decide (page * pageBytes + i.val * subBytes < va + n))

/-- Sets DIRTY for the subpages of a range that were changed (R183), and notes them for a running write-back
(R184). -/
def State.soil (s : State) (ctx va n : Nat) : State :=
  (pagesOf ctx va n).foldl (fun s key =>
    let m := subMask (key % 2 ^ 27) va n
    let key := s.governing key
    let p := s.pte key
    if p.state = .unmapped then s
    else s.setPte key { p with dirty := p.dirty ||| m, redirty := p.redirty ||| m, dirtyAt := if p.dirty = 0 then s.now else p.dirtyAt }) s

end Sys2Proof.Machine
end

