-- ==== Sys2Proof/Machine/ReqOps.lean ====
section
/-! DEFINITION. Operations over requests, queue entries, frames and host rings (spec/01, spec/07, spec/14) that
several families share. -/

namespace Sys2Proof

/-! ### Queue entries -/

def Job.handle : Job → Nat
  | .command d => d.reqHandle
  | .gather d => d.reqHandle
  | .txu d => d.reqHandle
  | .reserved => 0

def Job.cmdId : Job → Nat
  | .command d => d.cmdId
  | .gather d => d.cmdId
  | .txu d => d.cmdId
  | .reserved => 0

def Job.preds : Job → List Nat
  | .command d => d.preds
  | .gather d => d.preds
  | .txu d => d.preds
  | .reserved => []

def Job.isCommand : Job → Bool
  | .command _ => true
  | _ => false

/-- The context whose queue holds an entry, and that is charged for it. -/
def QEntry.ctx (e : QEntry) : Nat := if e.svcCharge then 1024 else e.chargeTid

end Sys2Proof

namespace Sys2Proof.Machine

/-! ### Tables keyed by number -/

def State.req (s : State) (h : Nat) : Option Req := Sparse.find s.dsp.reqs h
def State.setReq (s : State) (r : Req) : State := { s with dsp := { s.dsp with reqs := Sparse.put s.dsp.reqs r.handle r } }
/-- Changes a request that is there. -/
def State.modReq (s : State) (h : Nat) (f : Req → Req) : State := match s.req h with
  | some r => s.setReq (f r)
  | none => s
def State.query (s : State) (h : Nat) : Option Query := Sparse.find s.idx.queries h
def State.setQuery (s : State) (q : Query) : State := { s with idx := { s.idx with queries := Sparse.put s.idx.queries q.handle q } }
def State.index (s : State) (i : Nat) : Option Index := Sparse.find s.idx.indices i
def State.setIndex (s : State) (x : Index) : State := { s with idx := { s.idx with indices := Sparse.put s.idx.indices x.desc.index x } }
def State.greq (s : State) (h : Nat) : Option GenReq := Sparse.find s.gen.reqs h
def State.setGreq (s : State) (g : GenReq) : State := { s with gen := { s.gen with reqs := Sparse.put s.gen.reqs g.handle g } }
def State.inst (s : State) (i : Nat) : Option Inst := Sparse.find s.gen.insts i
def State.setInst (s : State) (i : Nat) (x : Inst) : State := { s with gen := { s.gen with insts := Sparse.put s.gen.insts i x } }
def State.table (s : State) (t : Nat) : Option Table := Sparse.find s.ftb.tables t
def State.setTable (s : State) (t : Nat) (x : Table) : State := { s with ftb := { s.ftb with tables := Sparse.put s.ftb.tables t x } }
def State.dict (s : State) (d : Nat) : Option Dict := Sparse.find s.txu.dicts d
def State.gram (s : State) (g : Nat) : Option Gram := Sparse.find s.txu.grams g
def State.core (s : State) (c : Nat) : Option Core := Sparse.find s.cores c
def State.setCore (s : State) (c : Nat) (k : Core) : State := { s with cores := Sparse.put s.cores c k }
def State.object (s : State) (o : Nat) : Option Obj := Sparse.find s.tier.objs o
def State.setObject (s : State) (o : Nat) (x : Obj) : State := { s with tier := { s.tier with objs := Sparse.put s.tier.objs o x } }
/-- Something leaves the part. Log entry 77: DEDUCED, unsafe. -/
def State.emit (s : State) (o : Out) : State := { s with out := s.out ++ [o] }

/-- Adds to a number kept by context. -/
def addAt (l : List (Nat × Nat)) (k n : Nat) : List (Nat × Nat) := Sparse.set 0 l k (Sparse.get 0 l k + n)

/-! ### Frames (R173, R175, R186) -/

/-- Frames of a stack; the first of them are the part's 4,096 reserved frames, spread over the stacks (log entry 15: DESIGN CHOICE, unsafe). -/
def framesPerStack : Nat := 32768
def State.reservedPerStack (s : State) : Nat := 4096 / s.stacks

/-- A stack in service is ready and not retired (R173, R175). -/
def State.stackUp (s : State) (k : Nat) : Bool :=
  (s.get (F.HBM_STAT_STATE k) == 2 || s.get (F.HBM_STAT_STATE k) == 3) && s.get (F.HBM_CTL_RETIRE k) == 0

/-- The lowest free frame of a stack, looked for over at most `fuel` numbers from `f` on. -/
def freeFrom (frames : List (Nat × Option Nat)) : Nat → Nat → Option Nat
  | 0, _ => none
  | fuel + 1, f => if (Sparse.find frames f).isSome then freeFrom frames fuel (f + 1) else some f

/-- The stacks in rotation from the rotor on (R173). -/
def State.rotation (s : State) : List Nat :=
  ((List.range s.stacks).map (fun i => (s.tier.rotor + i) % s.stacks)).filter (fun k => s.stackUp k)

/-- Allots a frame for a page: the next stack in rotation that has a free one (R173). -/
def State.allot (s : State) (owner : Option Nat) : Option (Nat × State) :=
  let pick := s.rotation.filterMap (fun k =>
    (freeFrom s.tier.frames (s.tier.frames.length + 1) (k * framesPerStack + s.reservedPerStack)).bind
      (fun f => if f < (k + 1) * framesPerStack then some (k, f) else none))
  match pick with
  | [] => none
  | (k, f) :: _ =>
    some (f, ({ s with tier := { s.tier with frames := Sparse.put s.tier.frames f owner, rotor := (k + 1) % s.stacks } }).drop
      F.MEM_FREE_FREE 1)

/-- Whether a running or queued command pins a frame (R79, R186). -/
def State.pinned (s : State) (f : Nat) : Bool :=
  s.dsp.items.any (fun i => i.frames.any (fun p => p.2 == f)) || s.dsp.running.any (fun r => r.2.frames.any (fun p => p.2 == f))

/-- Returns a frame to the free frames. -/
def State.freeFrame (s : State) (f : Nat) : State :=
  if (Sparse.find s.tier.frames f).isSome then
    let s := ({ s with tier := { s.tier with frames := Sparse.erase s.tier.frames f } }).bump F.MEM_FREE_FREE 1
    if s.get F.MEM_FREE_FREE > s.get F.MEM_FREE_FREE_LOW then { s with tier := { s.tier with noFrame := false } } else s
  else s

/-- A page gives up its frame, which stays while a command pins the version in it (R79, R206). -/
def State.leaveFrame (s : State) (f : Nat) : State :=
  if s.pinned f then { s with tier := { s.tier with frames := Sparse.put s.tier.frames f none } } else s.freeFrame f

/-- The pins of a command end: superseded versions that nobody pins any longer give up their frames. -/
def State.unpinFrames (s : State) (fs : List (Nat × Nat)) : State :=
  (fs.map (fun p => p.2)).foldl (fun s f => if Sparse.find s.tier.frames f = some none ∧ s.pinned f = false then s.freeFrame f else s) s

/-- Pages are no longer held by a reservation (R178); HELD counts each page once, however many hold it (R177, R179). -/
def State.unhold (s : State) (keys : List Nat) : State :=
  keys.foldl (fun s key =>
    let p := s.pte key
    let s := s.setPte key { p with holds := p.holds - 1 }
    if p.holds = 1 then s.drop F.MEM_FRAMES_HELD 1 else s) s

/-- A queued command leaves the queue: its bring-ups still complete, its pages are no longer held, and its fresh
frames are free again (R87, R178). -/
def State.release (s : State) (i : QItem) : State :=
  ((i.fresh.foldl (fun s f => s.freeFrame f.2) (s.unhold i.held)).unpinFrames i.frames).drop F.MEM_FRAMES_HELD i.fresh.length

/-- Entries of a queue. -/
def State.queueOf (s : State) (ctx : Nat) : List QItem := s.dsp.items.filter (fun i => i.e.ctx == ctx)

/-- Whether an item stands among the first MIG_AHEAD entries of its queue (R176). -/
def State.inWindow (s : State) (i : QItem) : Bool :=
  ((s.queueOf i.e.ctx).take (s.get F.MEM_CTL_MIG_AHEAD)).any (fun x => x.id == i.id)

/-- Items that have come into their windows take their place in the order of reservation (R176, R177). -/
def State.enterWindows (s : State) : State :=
  s.dsp.items.foldl (fun s i =>
    if i.entered = 0 ∧ s.inWindow i then
      { s with dsp := { s.dsp with
        items := s.dsp.items.map (fun x => if x.id == i.id then { x with entered := s.dsp.nextEntry } else x)
        nextEntry := s.dsp.nextEntry + 1 } }
    else s) s

/-! ### The registry of CMD_IDs (R77, R78, R192) -/

/-- The state of the job that a REQ_HANDLE and CMD_ID name. -/
def State.jobState (s : State) (handle id : Nat) : Option JobState :=
  (s.dsp.jobs.find? (fun j => j.handle == handle && j.cmdId == id)).map (fun j => j.st)

/-- Sets the state of a job. -/
def State.setJob (s : State) (handle id : Nat) (st : JobState) : State :=
  { s with dsp := { s.dsp with jobs := s.dsp.jobs.map (fun j => if j.handle == handle && j.cmdId == id then { j with st := st } else j) } }

/-- The context in whose range a queue entry runs (R458): the service context for what Bezel posts. -/
def QItem.runCtx (i : QItem) : Nat :=
  if i.posted then svc
  else match i.e.job with
    | .command d => if d.service then svc else d.tid
    | _ => i.e.chargeTid

/-! ### Host rings (R369, R370) -/

/-- The host rings' keys: the completion ring of a Brixux ring, and the stream ring of a request. -/
def completionKey (tid ring : Nat) : Nat := tid * 4 + ring
def streamKey (handle : Nat) : Nat := handle + 2 ^ 16

/-- Whether a host ring is full: as many records written and not consumed as it holds (R369). -/
def HostRing.full (h : HostRing) : Bool := decide (2 ^ h.log2 ≤ (h.written + 2 ^ 64 - h.head) % 2 ^ 64)

/-- Whether a full host ring holds a unit's finished work back, so that it takes no further input (R25, R369). -/
def State.holdsBack (s : State) (key : Nat) : Bool := s.dsp.hostRings.any (fun h => h.key == key && h.full && !h.queue.isEmpty)

/-- Queues a record behind those that wait for the same host ring. -/
def State.hostPush (s : State) (key addr log2 : Nat) (r : HostRec) : State :=
  let rings := if s.dsp.hostRings.any (fun h => h.key == key) then s.dsp.hostRings
    else s.dsp.hostRings ++ [⟨key, addr, log2, 0, 0, []⟩]
  { s with dsp := { s.dsp with hostRings := rings.map (fun h => if h.key == key then { h with queue := h.queue ++ [r] } else h) } }

/-- Queues a record of a request's token stream, giving it the next SEQ (R370). -/
def State.streamPush (s : State) (handle : Nat) (tokens : Bool) (payload : List Nat) : State := match s.req handle with
  | none => s
  | some r =>
    (s.hostPush (streamKey handle) r.d.streamAddr r.d.streamLog2 (.stream handle r.tally.streamSeq tokens payload)).modReq handle
      (fun r => { r with tally := { r.tally with
        streamSeq := r.tally.streamSeq + 1
        bytes := r.tally.bytes + (if tokens then 0 else payload.length) } })

/-- Cuts a list into records of at most `n` entries. -/
def cutUp (n : Nat) : Nat → List Nat → List (List Nat)
  | 0, _ => []
  | _, [] => []
  | fuel + 1, l => l.take n :: cutUp n fuel (l.drop n)

/-- Text bytes as stream records of at most 48 bytes, in text order. -/
def State.streamText (s : State) (handle : Nat) (text : List Byte) : State :=
  (cutUp 48 text.length (text.map (fun b => b.toNat))).foldl (fun s p => s.streamPush handle false p) s

/-! ### The completion and accounting records (spec/14) -/

def b2n (b : Bool) : Nat := if b then 1 else 0

/-- The 64 bytes of a completion record, SEQ being its number in the ring. -/
def Completion.bytes (c : Completion) (seq : Nat) : List Byte :=
  let t := c.tally
  leBytes 8 (c.status + c.kind * 2 ^ 8 + b2n t.handoff * 2 ^ 12 + b2n t.recomputed * 2 ^ 13 + b2n t.kvShort * 2 ^ 14
    + b2n t.damaged * 2 ^ 15 + t.stopReasons * 2 ^ 16 + t.stopIndex * 2 ^ 21 + c.detail * 2 ^ 32 + t.abortCode * 2 ^ 48)
  ++ leBytes 8 c.handle ++ leBytes 8 c.tag ++ leBytes 4 t.tokens ++ leBytes 4 t.prompt ++ leBytes 4 t.stopOffset
  ++ leBytes 4 t.bytes ++ leBytes 8 t.coreUs ++ leBytes 4 (Nat.min c.latencyUs (2 ^ 32 - 1)) ++ leBytes 4 c.firstTokenUs
  ++ leBytes 4 t.notFound ++ leBytes 4 seq

/-- The 64 bytes of a token stream record. -/
def streamBytes (handle seq : Nat) (tokens : Bool) (payload : List Nat) : List Byte :=
  leBytes 8 (1 + b2n tokens * 2 ^ 8 + payload.length * 2 ^ 9 + seq % 2 ^ 32 * 2 ^ 32) ++ leBytes 8 handle
  ++ (let p := payload.flatMap (leBytes (if tokens then 4 else 1)); p ++ List.replicate (48 - p.length) 0)

/-- The 64 bytes of a full accounting record (R382). -/
def fullRecord (tid status handle latency : Nat) (t : Tally) : List Byte :=
  leBytes 8 (1 + tid * 2 ^ 16 + status * 2 ^ 32) ++ leBytes 8 handle ++ leBytes 4 t.jobs
  ++ leBytes 2 (Nat.min t.preemptions 0xFFFF) ++ leBytes 2 (Nat.min t.reruns 0xFFFF) ++ leBytes 8 t.coreUs ++ leBytes 8 t.waitUs
  ++ leBytes 4 (Nat.min t.waitMax (2 ^ 32 - 1)) ++ leBytes 4 t.debt ++ leBytes 4 t.tokens ++ leBytes 4 t.prompt
  ++ leBytes 4 (Nat.min latency (2 ^ 32 - 1)) ++ leBytes 4 0

/-- The 16 bytes of a count accounting record (R382). -/
def countRecord (tid period jobs reqs : Nat) : List Byte :=
  leBytes 8 (1 + 2 ^ 8 + tid * 2 ^ 16 + period % 2 ^ 32 * 2 ^ 32) ++ leBytes 4 jobs ++ leBytes 4 reqs

/-- Writes an accounting record into its ring, slot by slot. -/
def State.acctWrite (s : State) (rec : List Byte) : State :=
  let size := 2 ^ s.get F.DSP_ACCT_RING_SIZE
  let tail := s.get F.DSP_ACCT_PTR_TAIL
  let slots := rec.length / 16
  ((List.range slots).foldl (fun s i => s.store svc (s.get F.DSP_ACCT_RING_BASE + (tail + i) % size * 16) ((rec.drop (16 * i)).take 16)) s).put
    F.DSP_ACCT_PTR_TAIL (tail + slots)

/-- Whether the accounting ring has room for a record. -/
def State.acctRoom (s : State) (rec : List Byte) : Bool :=
  decide ((s.get F.DSP_ACCT_PTR_TAIL + 2 ^ 32 - s.get F.DSP_ACCT_PTR_HEAD) % 2 ^ 32 + rec.length / 16 ≤ 2 ^ s.get F.DSP_ACCT_RING_SIZE)

/-- Writes the records that were held while the ring was full, as far as there is room. -/
def State.acctDrain : Nat → State → State
  | 0, s => s
  | fuel + 1, s => match s.dsp.acctHeld with
    | [] => s
    | r :: rest => if s.acctRoom r then State.acctDrain fuel ({ s with dsp := { s.dsp with acctHeld := rest } }.acctWrite r) else s

/-- Writes an accounting record, holds it, or discards and counts it (R382). With no ring there is no accounting. -/
def State.account (s : State) (rec : List Byte) : State :=
  if s.get F.DSP_ACCT_RING_SIZE = 0 then s
  else
    let s := State.acctDrain s.dsp.acctHeld.length s
    if s.dsp.acctHeld.isEmpty && s.acctRoom rec then s.acctWrite rec
    else if s.dsp.acctHeld.length < 1024 then { s with dsp := { s.dsp with acctHeld := s.dsp.acctHeld ++ [rec] } }
    else s.bumpSat F.DSP_EVENTS_ACCT_LOST 1

def Tally.zero : Tally := ⟨0, 0, 0, 0, 0, 0, 0, 0, 0, 0, 0, 0, 0xF, 0, 0, 0, 0, false, false, false, false, false⟩

/-- The completion record of a request joins its host ring (R17, R370). -/
def State.complete (s : State) (r : Req) (status detail : Nat) : State :=
  let us := fun t => if t = 0 then 0 else usUp (t - r.doorbell)
  let key := completionKey r.tid r.ring
  s.hostPush key (s.get (F.DSP_RING_COMPL_ADDR key)) (s.get (F.DSP_RING_CKEY_LOG2 key))
    (.completion ⟨status, r.d.kind, detail, r.handle, r.d.tag, usUp (s.now - r.doorbell), us r.tally.firstTokenAt, r.tally⟩)

end Sys2Proof.Machine
end

