-- ==== Sys2Proof/Machine/KtrOps.lean ====
section
/-! DEFINITION. How the part's units issue Keator operations (spec/15 "Hall addresses and windows", "Operations", "Delivery"). -/

namespace Sys2Proof.Machine

/-- The node of a hall address. -/
def nodeOf (addr : Nat) : Nat := addr / 2 ^ 44

/-- Ports over which the part may send to a node now: those of its node table entry whose links are up (R400). -/
def State.portsTo (s : State) (node : Nat) : List Nat :=
  let size := s.get F.KTR_NODE_TABLE_SIZE
  let w := s.word svc (s.get F.KTR_NODE_TABLE_BASE + 32 * node + 16) 8
  if size = 0 ∨ 2 ^ size ≤ node ∨ w % 2 = 0 then []
  else (List.range 16).filter (fun p => w.testBit (16 + p) && s.get (F.KTR_PORT_STAT_LINK p) == 2)

/-- The port of the next path after one on port `p` (R400; which path comes next is the model's choice, log entry 28: DESIGN CHOICE, unsafe); 16: none. -/
def State.pathAfter (s : State) (node p : Nat) : Nat :=
  let ps := s.portsTo node
  match ps.find? (fun x => decide (p < x)) with
  | some x => x
  | none => ps.headD 16

def State.flowTo (s : State) (node tc : Nat) : FlowOut :=
  (s.ktr.flows.find? (fun f => f.node == node && f.tc == tc)).getD ⟨node, tc, 0, Config.firstWindow, 0, 0, []⟩

def State.setFlow (s : State) (f : FlowOut) : State :=
  { s with ktr := { s.ktr with flows := s.ktr.flows.filter (fun x => !(x.node == f.node && x.tc == f.tc)) ++ [f] } }

/-- Sends one datagram of an operation. -/
def State.sendDgram (s : State) (node tc op bytes : Nat) : State :=
  let f := s.flowTo node tc
  s.setFlow { f with next := (f.next + 1) % 2 ^ 32, dgrams := f.dgrams ++ [⟨f.next, op, bytes, s.pathAfter node 16, 0, s.now⟩] }

/-- The segments of `n` bytes, of at most 8,192 bytes each. -/
def segments : Nat → Nat → List Nat
  | 0, _ => []
  | fuel + 1, n => if n = 0 then [] else Nat.min n 8192 :: segments fuel (n - Nat.min n 8192)

/-- A unit of the part issues an operation of `n` bytes (R399, R400). -/
def State.issue (s : State) (addr tc n : Nat) (issuer : Issuer) (atomic : Bool) : State :=
  let id := s.ktr.nextOp
  let node := nodeOf addr
  let s := { s with ktr := { s.ktr with nextOp := id + 1, ops := s.ktr.ops ++ [⟨id, node, tc, issuer, atomic, n, s.now⟩] } }
  (segments (n / 8192 + 1) n).foldl (fun s m => s.sendDgram node tc id m) s

/-- Puts bytes at a hall address (a STORE or PUT). -/
def State.putHall (s : State) (addr key tc : Nat) (bytes : List Byte) (issuer : Issuer) : State :=
  (s.emit (.put addr key bytes)).issue addr tc bytes.length issuer false

/-- The hall address of an exported window of the part (R390: as last synchronised). -/
def State.ownWindow (s : State) (w : Nat) : Nat :=
  s.get F.KTR_NODE_NODE * 2 ^ 44 + ((Sparse.find s.ktr.exp w).map (fun x => x.offset)).getD 0

/-- The SHIP_ID of a request of this part (table "Ship record (64 bytes)"). -/
def State.shipId (s : State) (h : Nat) : Nat := s.get F.KTR_NODE_NODE * 2 ^ 44 + h % 2 ^ 44

/-- Sends a ship record of a request: a fetch-and-add claims a slot of the ring at `addr`, and the record is put there (R359). -/
def State.sendShip (s : State) (addr key h : Nat) (r : ShipRec) : State :=
  ((s.emit (.ship addr key r)).issue addr 5 8 (.shipRec h) true).issue addr 5 64 (.shipRec h) false

end Sys2Proof.Machine
end

