-- ==== Sys2Proof/Machine/EndOps.lean ====
section
/-! DEFINITION. How a request ends (R28, R32, R200, R320, R324, R370, R382) and what is freed with it. -/

namespace Sys2Proof.Machine

/-- Whether a request is live: read, and not in a terminal state (R21). -/
def Req.live (r : Req) : Bool := !r.ended

def State.liveReqs (s : State) : List Req := (s.dsp.reqs.map (fun p => p.2)).filter (fun r => r.live)

/-- The dictionaries that a request's stages use (R19). -/
def State.reqDicts (s : State) (r : Req) : List Nat :=
  let ofInst := fun i => match s.inst i with
    | some x => [x.desc.dictId]
    | none => []
  ((if r.d.retrieve && !r.d.search.qvecGiven then ofInst r.d.embedInst else [])
    ++ (if r.d.rerank then ofInst r.d.rerankInst else []) ++ (if r.d.generate then ofInst r.d.gen.inst else [])).dedup

/-- The instances that a request uses. -/
def reqInsts (r : Req) : List Nat :=
  (if r.d.retrieve && !r.d.search.qvecGiven then [r.d.embedInst] else []) ++ (if r.d.rerank then [r.d.rerankInst] else [])
    ++ (if r.d.generate then r.d.gen.inst :: (if r.d.gen.draftMode = 1 then [r.d.gen.draftInst] else []) else [])

/-- Streams and requests that use a dictionary (TXU_DICT_STAT.USERS). -/
def State.dictUsers (s : State) (d : Nat) : Nat :=
  (s.txu.streams.filter (fun x => x.dict == d)).length + (s.liveReqs.filter (fun r => (s.reqDicts r).contains d)).length

/-- Requests that use a grammar. -/
def State.gramUsers (s : State) (g : Nat) : Nat :=
  (s.liveReqs.filter (fun r => r.d.generate && r.d.gen.grammarEn && r.d.gen.grammar == g)).length

/-- Requests that use an instance. -/
def State.instUsers (s : State) (i : Nat) : Nat := (s.liveReqs.filter (fun r => (reqInsts r).contains i)).length

/-- Queries that pin a generation of an index (R245). -/
def State.pins (s : State) (i g : Nat) : List Query :=
  (s.idx.queries.map (fun p => p.2)).filter (fun q => q.pinned && q.index == i && q.gen == g)

/-- Queries of an index that hold their pin. -/
def State.idxUsers (s : State) (i : Nat) : List Query :=
  (s.idx.queries.map (fun p => p.2)).filter (fun q => q.pinned && q.index == i)

/-- What goes when its last user has ended: instances, dictionaries and grammars being unloaded (R329, R338, R339),
and indices being dropped (R256). -/
def State.sweep (s : State) : State :=
  { s with
    gen := { s.gen with insts := s.gen.insts.filter (fun p => !(p.2.unloading && s.instUsers p.1 == 0)) }
    txu := { s.txu with
      dicts := s.txu.dicts.filter (fun p => !(p.2.unloading && s.dictUsers p.1 == 0))
      grams := s.txu.grams.filter (fun p => !(p.2.state == .unloading && s.gramUsers p.1 == 0)) }
    idx := { s.idx with indices := s.idx.indices.filter (fun p => !(p.2.state == .dropping && (s.idxUsers p.1).isEmpty && p.2.fold.isNone
      && p.2.updates.isEmpty && p.2.creating.isNone)) } }

/-- Delivers the text of a request's committed tokens up to a length, and the numbers of the committed tokens where it streams
them (R322, R325). -/
def State.deliver (s : State) (h upto : Nat) : State := match s.greq h with
  | none => s
  | some g =>
    let text := (g.text.take upto).drop g.delivered
    let nums := if g.blk.streamTokens then g.out.drop g.numbered else []
    let s := if text.isEmpty && nums.isEmpty then s else s.modReq h (fun r => { r with tally := { r.tally with firstTokenAt := if r.tally.firstTokenAt = 0 then s.now else r.tally.firstTokenAt } })
    let s := s.streamText h text
    let s := (cutUp 12 nums.length nums).foldl (fun s p => s.streamPush h true p) s
    let s := (s.bump F.TXU_DETOK_TOKENS (g.out.length - g.numbered)).raise F.TXU_STOP_HOLD_MAX (g.text.length - Nat.max g.delivered upto)
    s.setGreq { g with delivered := Nat.max g.delivered upto, numbered := g.out.length }

/-- Delivers the text of the committed tokens that is still held back (R324). -/
def State.flushText (s : State) (h : Nat) : State := match s.greq h with
  | none => s
  | some g => s.deliver h g.text.length

/-- Free pages of an instance's pool (GEN_INST_STAT.KV_FREE). -/
def kvFree (x : Inst) : Nat := x.desc.kvPoolPages - x.used.length

/-- The lowest `n` free pages of a pool. -/
def takePages (x : Inst) (n : Nat) : Option (List Nat × Inst) :=
  if kvFree x < n then none
  else
    let ps := ((List.range (x.used.length + n)).filter (fun p => !x.used.contains p)).take n
    some (ps, { x with used := x.used ++ ps })

/-- Sends a record to a reply window. -/
def State.sendReply (s : State) (addr : Nat) (r : ShipRec) : State := s.sendShip addr (Config.replyKey addr) 0 r

/-- The GRANT records for granted pages, of at most five offsets each. -/
def State.sendGrants (s : State) (c : Claim) (pages : List Nat) : State :=
  (cutUp 5 pages.length pages).foldl (fun s ps =>
    s.sendReply c.reply ⟨8, c.inst, c.tid, ps.length, c.shipId, 0, ps.map (fun p => Config.shipOffset c.inst p), false⟩) s

/-- Serves the claims that wait, in the order they arrived; one that its instance's pool cannot serve holds back the later ones of
that instance (R359, R360). -/
def State.serveClaims (s : State) : State :=
  let step := fun (st : State × List Claim) (c : Claim) =>
    let (s, held) := st
    if held.any (fun h => h.inst == c.inst) then (s, held ++ [c])
    else match (s.inst c.inst).filter (fun x => x.tid == c.tid) with
      | none => (s, held ++ [c])
      | some x => match takePages x c.count with
        | none => (s, held ++ [c])
        | some (ps, x) =>
          let s := s.setInst c.inst x
          let old := (s.gen.grants.find? (fun g => g.tid == c.tid && g.shipId == c.shipId)).getD ⟨c.tid, c.shipId, c.inst, c.reply, [], s.now⟩
          let rest := s.gen.grants.filter (fun g => !(g.tid == c.tid && g.shipId == c.shipId))
          (({ s with gen := { s.gen with grants := rest ++ [{ old with pages := old.pages ++ ps, seen := s.now }] } }).sendGrants c ps, held)
  let (s, held) := s.gen.claims.foldl step (s, [])
  { s with gen := { s.gen with claims := held } }.put F.GEN_SHIP_CLAIMS_HELD held.length

/-- Returns KV blocks to the pool of an instance: the pages that no other request holds (R346). -/
def State.freeBlocks (s : State) (h i : Nat) (blocks : List (List Nat)) : State := match s.inst i with
  | none => s
  | some x =>
    let others := (s.gen.reqs.filter (fun p => !(p.1 == h))).flatMap (fun p => p.2.blocks)
    let gone := (blocks.filter (fun b => !others.contains b)).flatten
    (s.setInst i { x with used := x.used.filter (fun p => !gone.contains p) }).serveClaims

/-- Frees what a request holds in the generation sequencer; a PREFILL part aborts what it has claimed (R41, R362). -/
def State.releaseGen (s : State) (h : Nat) : State := match s.greq h with
  | none => s
  | some g =>
    let s := s.freeBlocks h g.blk.inst g.blocks
    let s := if g.claimed = 0 then s else s.sendShip g.blk.shipAddr g.blk.shipKey h ⟨3, g.blk.inst, g.tid, 0, s.shipId h, 0, [], false⟩
    { s with gen := { s.gen with reqs := Sparse.erase s.gen.reqs h } }

/-- The request ends with a status and a detail code: the text held back is delivered, its streams, pins,
contexts and blocks are freed (R320), and its completion and accounting records follow (R370, R382). -/
def State.endReq (s : State) (h status detail : Nat) : State := match s.req h with
  | none => s
  | some r =>
    if r.ended then s
    else
      let s := s.flushText h
      let s := { s with txu := { s.txu with streams := s.txu.streams.filter (fun x => !(x.handle == h)) } }
      let s := { s with idx := { s.idx with
        queries := Sparse.erase s.idx.queries h
        indices := s.idx.indices.map (fun (p : Nat × Index) => (p.1, { p.2 with updates := p.2.updates.filter (fun u => u.handle != h || u.seq != 0) })) } }
      let s := s.releaseGen h
      match s.req h with
      | none => s
      | some r =>
        let s := s.setReq { r with ended := true, ending := none, suspended := false }
        let s := s.complete r status detail
        let s := { s with dsp := { s.dsp with periodReqs := addAt s.dsp.periodReqs r.tid 1 } }
        let s := if s.on (F.DSP_TNT_CFG_ACCT r.tid) then s.account (fullRecord r.tid status h (usUp (s.now - r.doorbell)) r.tally) else s
        s.sweep

/-- Whether a command of a request runs on a core. -/
def State.runs (s : State) (h : Nat) : Bool := s.dsp.running.any (fun p => p.2.e.job.handle == h)

/-- Completes the SUSPEND descriptors whose target has come to its stopping point, or has ended (R30, R387). -/
def State.settleSuspends (s : State) (h : Nat) : State := match s.req h with
  | none => s
  | some r =>
    let busy := s.runs h || s.gen.insts.any (fun i => i.2.passes.any (fun p => p.members.any (fun m => m.handle == h))) || (match s.greq h with
      | some g => g.inPass
      | none => false)
    if r.live && busy then s
    else
      let (mine, rest) := s.dsp.suspends.partition (fun p => p.1 == h)
      mine.foldl (fun s p => s.complete p.2 (if r.live then stDone else stAlreadyFinished) 0) { s with dsp := { s.dsp with suspends := rest } }

/-- What waits for a request's running commands to leave their cores happens: it ends if it was to (R28), or is held. -/
def State.settle (s : State) (h : Nat) : State := match s.req h with
  | none => s
  | some r => match r.ending with
    | none => s.settleSuspends h
    | some (status, detail) => if s.runs h then s else (s.endReq h status detail).settleSuspends h

/-- Takes the queued entries of a request from their queues; none of them runs (R28, R178, R297). -/
def State.dropItems (s : State) (h : Nat) : State :=
  let mine := s.dsp.items.filter (fun i => i.e.job.handle == h)
  let s := { s with dsp := { s.dsp with
    items := s.dsp.items.filter (fun i => !(i.e.job.handle == h))
    jobs := s.dsp.jobs.map (fun j => if j.handle == h && j.st == .waiting then { j with st := .ended } else j) } }
  State.enterWindows (mine.foldl (fun s i => s.release i) s)

/-- The rules of a slice end begin for the running commands of a request (R28). -/
def State.yieldAll (s : State) (h : Nat) : State :=
  (s.dsp.running.filter (fun p => p.2.e.job.handle == h)).foldl (fun s p => match Sparse.find s.dsp.occ p.1 with
    | none => s
    | some o => ({ s with dsp := { s.dsp with occ := Sparse.put s.dsp.occ p.1 { o with slice := s.now - o.start, yielded := true } } }).put
        (F.CORE_STAT_YIELD_PENDING p.1) 1) s

/-- Stops a request as a cancel does and ends it with a status and detail (R28, R32, R200). -/
def State.stopReq (s : State) (h status detail : Nat) : State := match s.req h with
  | none => s
  | some r =>
    if r.ended || r.ending.isSome then s
    else (((s.dropItems h).yieldAll h).setReq { r with ending := some (status, detail) }).settle h

/-- The detail code of a stage that meets an error without a code of its own (table "Detail codes of request path
failure", R32). -/
def Stage.code : Stage → Nat
  | .tokenisation => 0x0103
  | .embedding => 0x0104
  | .coarse => 0x0105
  | .scan => 0x0106
  | .merge => 0x0108
  | .rescoring => 0x0109
  | .passageFetch => 0x010A
  | .rerank => 0x010B
  | .packing => 0x010C
  | _ => 0

/-- The code of an error at admission without a code of its own, an update's assignment among them (R32, R234). -/
def dStageAdmission : Nat := 0x0102

/-- A request meets a failed job: it fails (R32), with the job's own detail code or the stage's; a lost object makes the
model unavailable (R200). A request that only awaits its closing row still ends DONE (R356). -/
def State.failReq (s : State) (h : Nat) (x : Stop) : State := match s.req h with
  | none => s
  | some r =>
    let s := s.setReq { r with tally := { r.tally with abortCode := if x.detail = dKernelAbort then x.code else r.tally.abortCode } }
    let closing := match s.greq h with
      | some g => g.closing
      | none => false
    if closing && x.status == stModelUnavailable then
      (s.modReq h (fun r => { r with tally := { r.tally with kvShort := true } })).stopReq h stDone 0
    else if x.status = stModelUnavailable ∨ x.status = stRejectedPolicy ∨ x.status = stInvalidEncoding ∧ r.stage = .packing then
      s.stopReq h x.status x.detail
    else s.stopReq h stFailed (if x.detail ≠ 0 then x.detail else if r.d.kind = 2 then dStageAdmission else r.stage.code)

/-- The instance, pass and command that a job is of, when it is a pass command. -/
def State.passOf (s : State) (handle id : Nat) : Option (Nat × Pass × PassCmd) :=
  s.gen.insts.findSome? (fun i => i.2.passes.findSome? (fun p => (p.cmds.find? (fun c => c.handle == handle && c.cmdId == id)).map (fun c => (i.1, p, c))))

/-- A pass gives up members; without any it ends. -/
def State.leavePass (s : State) (i id : Nat) (gone : List Nat) : State := match s.inst i with
  | none => s
  | some x =>
    let cut := fun (p : Pass) => if p.id = id then { p with
      members := p.members.filter (fun (m : PassMember) => !gone.contains m.handle), cmds := p.cmds.filter (fun (c : PassCmd) => !(gone.any (fun h => c.owner == some h))) } else p
    s.setInst i { x with passes := (x.passes.map cut).filter (fun (p : Pass) => !p.members.isEmpty) }

/-- The code of a failure of the side-list search, which runs while the scan does (R32). -/
def dStageSideList : Nat := 0x0107

/-- How a job fails its request where it is a command of the side-list search without a code of its own (R32). -/
def State.sideStop (s : State) (handle id : Nat) (x : Stop) : Stop :=
  if x.detail = 0 ∧ x.status ≠ stModelUnavailable ∧ x.status ≠ stRejectedPolicy
      ∧ (s.query handle).any (fun q => q.jobs.any (fun p => p.1 == .side && p.2.contains id)) then { x with detail := dStageSideList } else x

/-- A job of a request or long operation ends without publishing: its request fails; of a pass command, the member whose own it
is, or every member of the pass. -/
def State.jobFailed (s : State) (handle id : Nat) (x : Stop) : State :=
  let s := s.setJob handle id .ended
  match s.passOf handle id with
  | none => s.failReq handle (s.sideStop handle id x)
  | some (i, p, c) =>
    let gone := match c.owner with
      | some h => [h]
      | none => p.members.map (fun (m : PassMember) => m.handle)
    gone.foldl (fun s h => s.failReq h x) (s.leavePass i p.id gone)

end Sys2Proof.Machine
end

