-- ==== Sys2Proof/Machine/VectorOps.lean ====
section
/-! DEFINITION. The vector engine of one core (spec/06 "Vector instructions" to "Reductions and scale
derivation", and the conversions and scale derivation of spec/05). -/

namespace Sys2Proof.Machine

/-- Bytes of 512 elements of a format. -/
def lanesBytes (fmt : Nat) : Nat := 512 * Fmt.bits fmt / 8

/-- Counter fields a vector instruction adds its occupancy to. -/
def vecBeats (c beats : Nat) : List Upd := [.add (F.SEL_VEC_BEATS_BEATS c) beats]

/-- VLD (R144, R146). -/
def vldOp (c : Nat) (vd sa : Reg5) (elem : BitVec 8) (widen : BitVec 1) (zero : BitVec 35) (free : Nat) (k : Core) :
    KRes :=
  let e := elem.toNat
  if zero ≠ 0 ∨ Fmt.reserved e ∨ (widen = 1 ∧ (e = Fmt.raw ∨ e = Fmt.s8)) then .stop .invalid else
  let a := k.at_ sa
  match k.check a (lanesBytes e) 64 with
  | some x => .stop x
  | none =>
    let codes := elemCodes e 512 (k.load free a (lanesBytes e))
    let lanes : List F32 := if widen = 1 ∧ e ≠ Fmt.f32 then codes.map (Fmt.widen e) else codes.map (BitVec.ofNat 32)
    .ok (k.setV vd lanes) (vecBeats c (if e = Fmt.f32 then 2 else 1)) none

/-- The bytes that VST writes under a mask: a byte with no lane on stays (R145). -/
def maskedBytes (fmt : Nat) (m : BitVec 512) (old codes : List Nat) : List (Option Byte) :=
  let mix := (old.zip codes).mapIdx (fun i p => if m.getLsbD i then p.2 else p.1)
  (packElems fmt mix).mapIdx (fun j b =>
    let on := match Fmt.bits fmt with
      | 4 => m.getLsbD (2 * j) || m.getLsbD (2 * j + 1)
      | 16 => m.getLsbD (j / 2)
      | 32 => m.getLsbD (j / 4)
      | _ => m.getLsbD j
    if on then some b else none)

/-- VST (R145, R146). RAW and S8 elements are 8 bits wide (log entry 10: DEDUCED, unsafe). -/
def vstOp (c : Nat) (vs sa : Reg5) (elem : BitVec 8) (vm : Reg3) (zero : BitVec 33) (k : Core) : KRes :=
  let e := elem.toNat
  if zero ≠ 0 ∨ Fmt.reserved e then .stop .invalid else
  let a := k.at_ sa
  match k.check a (lanesBytes e) 64 with
  | some x => .stop x
  | none =>
    let new := (k.v vs).map (fun v => v.toNat)
    let k' := if vm = 0 then k.save a (packElems e new) else
      k.saveSome a (maskedBytes e (k.m vm) (elemCodes e 512 (Sparse.read 0 k.store a (lanesBytes e))) new)
    .ok k' (vecBeats c (if e = Fmt.f32 then 2 else 1)) none

/-- VBCAST (R147). -/
def vbcastOp (c : Nat) (vd sa : Reg5) (zero : BitVec 44) (k : Core) : KRes :=
  if zero ≠ 0 then .stop .invalid
  else .ok (k.setV vd (List.replicate 512 ((k.s sa).setWidth 32))) (vecBeats c 1) none

/-- VMSET (R142, R147). -/
def vmsetOp (c : Nat) (md : Reg3) (sa : Reg5) (zero : BitVec 46) (k : Core) : KRes :=
  if zero ≠ 0 ∨ md = 0 then .stop .invalid
  else .ok (k.setM md (BitVec.ofNat 512 (2 ^ Nat.min (k.s sa).toNat 512 - 1))) (vecBeats c 1) none

/-- VMLD (R142, R146). -/
def vmldOp (c : Nat) (md : Reg3) (sa : Reg5) (zero : BitVec 46) (free : Nat) (k : Core) : KRes :=
  if zero ≠ 0 ∨ md = 0 then .stop .invalid else
  match k.check (k.at_ sa) 64 64 with
  | some x => .stop x
  | none => .ok (k.setM md (BitVec.ofNat 512 (leNat (k.load free (k.at_ sa) 64)))) (vecBeats c 1) none

/-- VMST (R146). -/
def vmstOp (c : Nat) (ms : Reg3) (sa : Reg5) (zero : BitVec 46) (k : Core) : KRes :=
  if zero ≠ 0 then .stop .invalid else
  match k.check (k.at_ sa) 64 64 with
  | some x => .stop x
  | none => .ok (k.save (k.at_ sa) (leBytes 64 (k.m ms).toNat)) (vecBeats c 1) none

/-! ### Reductions (R155) -/

/-- One level of the tree over lanes that may be off. -/
def redLevel (f : F32 → F32 → F32) : List (Option F32) → List (Option F32)
  | [] => []
  | [a] => [a]
  | a :: b :: r => (match a, b with
      | some x, some y => some (f x y)
      | some x, none => some x
      | none, y => y) :: redLevel f r

def redTree (f : F32 → F32 → F32) : Nat → List (Option F32) → Option F32
  | 0, l => l.headD none
  | n + 1, l => redTree f n (redLevel f l)

/-- A reduction of 512 lanes: 0 SUM, 1 MAX, 2 MIN, 3 AMAX (R155). -/
def reduceLanes (op : Nat) (m : BitVec 512) (lanes : List F32) : F32 :=
  let on : List (Option F32) := lanes.mapIdx (fun i v => if m.getLsbD i then some (if op = 3 then Fp.absA v else v)
    else if op = 0 then some Fp.posZero else none)
  match op with
  | 0 => (redTree Fp.add 9 on).getD Fp.posZero
  | 1 => canon ((redTree Fp.maxNum 9 on).getD Fp.negInf)
  | 2 => canon ((redTree Fp.minNum 9 on).getD Fp.posInf)
  | _ => canon ((redTree Fp.maxNum 9 on).getD Fp.posZero)
where
  canon (v : F32) : F32 := if Fp.isNaN v then Fp.canonNaN else v

/-- VRED (R155). -/
def vredOp (c : Nat) (sd va : Reg5) (vm : Reg3) (op : BitVec 3) (zero : BitVec 38) (k : Core) : KRes :=
  if zero ≠ 0 ∨ op.toNat > 3 then .stop .invalid
  else .ok (k.setS sd ((reduceLanes op.toNat (k.m vm) (k.v va)).setWidth 64)) (vecBeats c 1) none

/-! ### Scale sites (R135, R136, R156) -/

/-- Table "Scale site record (64 bytes plus history)": the header fields. -/
structure Site where
  w : Nat
  gran : Nat
  mode : Nat
  target : Nat
  filled : Nat
  channels : Nat
  lastStep : Nat
  initScale : Nat
  initOffset : Nat
  head : Nat
  sat : Nat
  degen : Nat
  nan : Nat
  stale : Nat
deriving DecidableEq, Repr

/-- Reads a site record header; none when it holds a reserved value or a non-zero field marked zero
(R136, R150, R156). -/
def parseSite (bs : List Byte) : Option Site :=
  let ws := words 8 8 bs
  let w0 := ws.getD 0 0
  let w2 := ws.getD 2 0
  let w3 := ws.getD 3 0
  let w7 := ws.getD 7 0
  let s : Site := ⟨bitsOf w0 12 8, bitsOf w0 13 13, bitsOf w0 14 14, bitsOf w0 23 16, bitsOf w0 28 24,
    bitsOf w0 63 32, ws.getD 1 0, bitsOf w2 31 0, bitsOf w2 63 32, bitsOf w3 3 0, ws.getD 4 0, ws.getD 5 0,
    ws.getD 6 0, bitsOf w7 31 0⟩
  if bitsOf w0 7 0 = 1 ∧ 1 ≤ s.w ∧ s.w ≤ 16 ∧ bitsOf w0 15 15 = 0 ∧ (s.target = 1 ∨ s.target = 2 ∨ s.target = 3)
      ∧ s.filled ≤ s.w ∧ bitsOf w0 31 29 = 0
      ∧ (if s.gran = 0 then s.channels = 1 else 1 ≤ s.channels ∧ s.channels ≤ 65536)
      ∧ (s.mode = 0 → s.initOffset = 0) ∧ s.head < s.w ∧ bitsOf w3 63 4 = 0 ∧ bitsOf w7 63 32 = 0 then some s else none

/-- Bytes of one history slot. -/
def Site.slotBytes (s : Site) : Nat := s.channels * (if s.mode = 1 then 8 else 4)

/-- The slots that hold a step: `filled` of them, ending at HEAD (R138). Log entry 65: DEDUCED, unsafe. -/
def Site.filledSlots (s : Site) : List Nat :=
  (List.range s.w).filter (fun i => decide ((s.head + s.w - i) % s.w < s.filled))

/-- `derive(site, j)` of R135: scale, offset, degenerate. `hist` is the history. -/
def Site.derive (s : Site) (hist : List Byte) (j : Nat) : F32 × F32 × Bool :=
  if s.filled = 0 then (BitVec.ofNat 32 s.initScale, BitVec.ofNat 32 s.initOffset, false)
  else
    let word := fun off => BitVec.ofNat 32 (leNat ((hist.drop off).take 4))
    if s.mode = 0 then
      let r := Fmt.deriveSym s.target (s.filledSlots.map (fun i => word (i * s.slotBytes + 4 * j)))
      (r.1, Fp.posZero, r.2)
    else
      Fmt.deriveAff s.target (s.filledSlots.map (fun i => word (i * s.slotBytes + 8 * j)))
        (s.filledSlots.map (fun i => word (i * s.slotBytes + 8 * j + 4)))

/-- The 512 lanes of VDERIV from channel `j0` (R156). -/
def Site.lanes (s : Site) (hist : List Byte) (j0 : Nat) : List (F32 × F32 × Bool) :=
  if s.gran = 0 then List.replicate 512 (s.derive hist 0)
  else (List.range 512).map (fun i =>
    if j0 + i < s.channels then s.derive hist (j0 + i) else (Fp.one, Fp.posZero, false))

/-- VDERIV (R135, R136, R150, R156). -/
def vderivOp (c : Nat) (vd ve sa sb : Reg5) (zero : BitVec 34) (free : Nat) (k : Core) : KRes :=
  if zero ≠ 0 then .stop .invalid else
  let a := k.at_ sa
  match checkCore a 64 64 with
  | some x => .stop x
  | none =>
    match parseSite (k.load free a 64) with
    | none => .stop .invalid
    | some s =>
      match checkCore a (64 + s.w * s.slotBytes) 64 with
      | some x => .stop x
      | none =>
        let l := s.lanes (k.load free (a + 64) (s.w * s.slotBytes)) (k.s sb).toNat
        let d := if s.gran = 0 then (if (s.derive (k.load free (a + 64) (s.w * s.slotBytes)) 0).2.2 then 1 else 0)
          else (l.filter (fun x => x.2.2)).length
        .ok { (k.setV vd (l.map (fun x => x.1))).setV ve (l.map (fun x => x.2.1)) with degen := k.degen + d }
          ((.add (F.QNT_DEGEN_COUNT c) d) :: vecBeats c (s.w + 4)) none

/-! ### Chains (R148 to R154) -/

/-- Table "Stage word (64 bits)". -/
structure StageWord where
  opc : Nat
  a : Nat
  b : Nat
  c : Nat
  mask : Nat
  elem : Nat
  affine : Nat
  tap : Nat
  tapReg : Nat
deriving DecidableEq, Repr

/-- How many of the selectors A, B, C an operation uses (table "Stage operations"); none: reserved. -/
def stageUses (opc elem affine : Nat) : Option Nat :=
  if opc = 0x00 ∨ (0x07 ≤ opc ∧ opc ≤ 0x08) ∨ (0x0A ≤ opc ∧ opc ≤ 0x0E) ∨ opc = 0x19 then some 1
  else if (0x01 ≤ opc ∧ opc ≤ 0x03) ∨ opc = 0x05 ∨ opc = 0x06 ∨ opc = 0x09 ∨ (0x10 ≤ opc ∧ opc ≤ 0x12) ∨ opc = 0x14
      ∨ (0x1C ≤ opc ∧ opc ≤ 0x1E) then some 2
  else if opc = 0x04 then some 3
  else if opc = 0x18 then some (if elem = Fmt.b16 then 1 else if affine = 1 then 3 else 2)
  else none

/-- Cost of a stage in beats (table "Stage operations"). -/
def stageCost (opc : Nat) : Nat := if 0x0A ≤ opc ∧ opc ≤ 0x0E then 4 else 1

def isCompare (opc : Nat) : Bool := decide (0x10 ≤ opc) && decide (opc ≤ 0x12)

/-- A used operand selector that is defined (R149). -/
def selectorOk (s : Nat) : Bool :=
  match s / 32 with
  | 0 => s % 32 == 0
  | 1 => true
  | 2 => true
  | 3 => s % 32 == 0
  | _ => false

/-- Reads a stage word; none when it holds a reserved value or a non-zero field marked zero (R149, R150, R153). -/
def parseStage (w : Nat) : Option StageWord :=
  let t : StageWord := ⟨bitsOf w 5 0, bitsOf w 15 8, bitsOf w 23 16, bitsOf w 31 24, bitsOf w 34 32, bitsOf w 47 40,
    bitsOf w 48 48, bitsOf w 49 49, bitsOf w 54 50⟩
  match stageUses t.opc t.elem t.affine with
  | none => none
  | some n =>
    if bitsOf w 7 6 = 0 ∧ bitsOf w 39 35 = 0 ∧ bitsOf w 63 55 = 0 ∧ selectorOk t.a
        ∧ (if n ≥ 2 then selectorOk t.b = true else t.b = 0) ∧ (if n = 3 then selectorOk t.c = true else t.c = 0)
        ∧ (t.mask ≠ 0 → isCompare t.opc = true ∨ t.opc = 0x14) ∧ (isCompare t.opc = true → t.mask ≠ 0)
        ∧ (if t.opc = 0x18 ∨ t.opc = 0x19 then Fmt.narrowFmt t.elem = true else t.elem = 0)
        ∧ (t.affine ≠ 0 → t.opc = 0x18 ∧ t.elem ≠ Fmt.b16) ∧ (t.tap = 0 → t.tapReg = 0) then some t else none

/-- Table "Chain descriptor (80 bytes)". -/
structure Chain where
  vd : Nat
  vm : Nat
  zeroMask : Bool
  noWrite : Bool
  stages : List StageWord
deriving DecidableEq, Repr

/-- Every stage word, or none. -/
def parseStages : List Nat → Option (List StageWord)
  | [] => some []
  | w :: r => match parseStage w, parseStages r with
    | some t, some l => some (t :: l)
    | _, _ => none

/-- Reads a chain descriptor; none when it is a reserved encoding (R150). -/
def parseChain (bs : List Byte) : Option Chain :=
  let ws := words 8 10 bs
  let w0 := ws.getD 0 0
  let n := bitsOf w0 3 0
  if 1 ≤ n ∧ n ≤ 8 ∧ bitsOf w0 63 14 = 0 ∧ ws.getD 1 0 = 0 ∧ (ws.drop (2 + n)).all (fun w => w == 0) then
    (parseStages ((ws.drop 2).take n)).map (fun l => ⟨bitsOf w0 8 4, bitsOf w0 11 9, bitsOf w0 12 12 == 1,
      bitsOf w0 13 13 == 1, l⟩)
  else none

/-- The running state of a chain: T, the masks, the stochastic counter, the saturations and NaNs counted, and
the register writes not yet landed, in order. -/
structure ChainState where
  t : List F32
  masks : List (Nat × BitVec 512)
  ctr : Nat
  sat : Nat
  nan : Nat
  writes : List (Nat × List F32 × BitVec 512)
deriving DecidableEq, Repr

/-- The lanes of an operand selector (R149); V and S operands stand as at issue (R148). -/
def chainOperand (k : Core) (t : List F32) (sel : Nat) : List F32 :=
  match sel / 32 with
  | 0 => t
  | 1 => k.v (BitVec.ofNat 5 (sel % 32))
  | 2 => List.replicate 512 ((k.s (BitVec.ofNat 5 (sel % 32))).setWidth 32)
  | _ => (List.range 512).map (fun i => Fp.ofInt i)

def chainMask (masks : List (Nat × BitVec 512)) (m : Nat) : BitVec 512 :=
  if m = 0 then BitVec.allOnes 512 else Sparse.get 0 masks m

def unaryStage (opc : Nat) : F32 → F32 :=
  match opc with
  | 0x07 => Fp.absA
  | 0x08 => Fp.negA
  | 0x0A => Fp.rcp
  | 0x0B => Fp.sqrt
  | 0x0C => Fp.rsqrt
  | 0x0D => Fp.exp2
  | 0x0E => Fp.log2
  | _ => id

def binaryStage (opc : Nat) : F32 → F32 → F32 :=
  match opc with
  | 0x01 => Fp.add
  | 0x02 => Fp.sub
  | 0x03 => Fp.mul
  | 0x05 => Fp.minNum
  | 0x06 => Fp.maxNum
  | 0x09 => Fp.maxAbs
  | 0x1C => fun a b => a &&& b
  | 0x1D => fun a b => a ||| b
  | _ => fun a b => a ^^^ b

/-- CVT of 512 lanes (R132, R134, R153). -/
def convertLanes (k : Core) (st : StageWord) (cs : ChainState) (a : List F32) : List Fmt.Narrowed :=
  let b := if st.elem = Fmt.b16 then [] else chainOperand k cs.t st.b
  let o := if st.affine = 1 then chainOperand k cs.t st.c else []
  a.mapIdx (fun i x =>
    let y := if st.elem = Fmt.b16 then x else Fmt.scaleIn x (b.getD i Fp.one) (o.getD i Fp.posZero) (st.affine == 1)
    Fmt.narrow y st.elem (if k.d.roundNe then none
      else some (Fmt.draw16 k.d.srSeed (BitVec.ofNat 64 (cs.ctr + i)))))

/-- One stage's effect on T, the masks and the counts (tables "Stage operations", R151 to R154). -/
def stageStep (k : Core) (vm : Nat) (st : StageWord) (cs : ChainState) : ChainState :=
  let a := chainOperand k cs.t st.a
  if isCompare st.opc then
    let l := (a.zip (chainOperand k cs.t st.b)).map (fun p => laneCompare st.opc p.1 p.2)
    { cs with masks := Sparse.set 0 cs.masks st.mask (laneMask l) }
  else if st.opc = 0x14 then
    let m := chainMask cs.masks st.mask
    { cs with t := (a.zip (chainOperand k cs.t st.b)).mapIdx (fun i p => if m.getLsbD i then p.1 else p.2) }
  else if st.opc = 0x18 then
    let l := convertLanes k st cs a
    let on := chainMask cs.masks vm
    { cs with
      t := l.map (fun x => BitVec.ofNat 32 x.code)
      ctr := if k.d.roundNe then cs.ctr else cs.ctr + 512
      sat := cs.sat + ((l.mapIdx (fun i x => x.sat && on.getLsbD i)).filter id).length
      nan := cs.nan + ((l.mapIdx (fun i x => x.nan && on.getLsbD i)).filter id).length }
  else if st.opc = 0x19 then { cs with t := a.map (fun x => Fmt.widen st.elem (x.toNat % 2 ^ Fmt.bits st.elem)) }
  else if st.opc = 0x04 then
    let b := chainOperand k cs.t st.b
    let c := chainOperand k cs.t st.c
    { cs with t := (a.zip (b.zip c)).map (fun p => Fp.fma p.1 p.2.1 p.2.2) }
  else match stageUses st.opc st.elem st.affine with
    | some 1 => { cs with t := a.map (unaryStage st.opc) }
    | _ => { cs with t := (a.zip (chainOperand k cs.t st.b)).map (fun p => binaryStage st.opc p.1 p.2) }

/-- Runs the stages in slot order, noting each tap (R148, R154). -/
def runStages (k : Core) (vm : Nat) : List StageWord → ChainState → ChainState
  | [], cs => cs
  | st :: r, cs =>
    let cs := stageStep k vm st cs
    runStages k vm r (if st.tap = 1 then { cs with writes := cs.writes ++ [(st.tapReg, cs.t, chainMask cs.masks vm)] }
      else cs)

/-- Lands the register writes of a chain, in order (R154). -/
def landWrites (zero : Bool) : List (Nat × List F32 × BitVec 512) → Core → Core
  | [], k => k
  | (r, t, m) :: rest, k =>
    landWrites zero rest (k.setV (BitVec.ofNat 5 r) (masked m zero (k.v (BitVec.ofNat 5 r)) t))

/-- VCHAIN (R148 to R154). -/
def vchainOp (c : Nat) (sa : Reg5) (zero : BitVec 49) (free : Nat) (k : Core) : KRes :=
  if zero ≠ 0 then .stop .invalid else
  let a := k.at_ sa
  match checkCore a 80 16 with
  | some x => .stop x
  | none =>
    match parseChain (k.load free a 80) with
    | none => .stop .invalid
    | some ch =>
      let cs := runStages k ch.vm ch.stages ⟨List.replicate 512 Fp.posZero, k.masks, k.ctr, 0, 0, []⟩
      let writes := if ch.noWrite then cs.writes else cs.writes ++ [(ch.vd, cs.t, chainMask cs.masks ch.vm)]
      let k' := landWrites ch.zeroMask writes k
      let cvts := (ch.stages.filter (fun s => s.opc == 0x18)).length
      .ok { k' with masks := cs.masks, ctr := cs.ctr, sat := k.sat + cs.sat, nan := k.nan + cs.nan }
        ([ (.add (F.QNT_CONV_ELEMS c) (512 * cvts)), (.add (F.QNT_DRAWS_DRAWS c) (cs.ctr - k.ctr)), (.add (F.QNT_SAT_COUNT c) cs.sat),
           (.add (F.QNT_NAN_COUNT c) cs.nan),
           (.add (F.SEL_VEC_FN_BEATS c) (4 * (ch.stages.filter (fun s => stageCost s.opc == 4)).length)) ]
          ++ vecBeats c ((ch.stages.map (fun s => stageCost s.opc)).foldl (· + ·) 0)) none

end Sys2Proof.Machine
end

