-- ==== Sys2Proof/Machine/QstateOps.lean ====
section
/-! DEFINITION. QSTATE outputs: the records checked in the commit phase and applied at publication (R137 to
R140). -/

namespace Sys2Proof.Machine

/-- A QSTATE update record (table "QSTATE update record (64 bytes plus channel data)"). -/
structure QRec where
  site : Nat
  format : Nat
  step : Nat
  channels : Nat
  mode : Nat
  sat : Nat
  nan : Nat
  degen : Nat
  zeros : Bool
  data : List Byte
deriving DecidableEq, Repr

def parseQRec (bs : List Byte) : QRec :=
  let ws := words 8 8 bs
  let w := fun i => ws.getD i 0
  let channels := bitsOf (w 2) 31 0
  let mode := bitsOf (w 2) 32 32
  ⟨bitsOf (w 0) 47 0, bitsOf (w 0) 55 48, w 1, channels, mode, bitsOf (w 3) 31 0, bitsOf (w 3) 63 32, bitsOf (w 4) 31 0,
    bitsOf (w 0) 63 56 == 0 && bitsOf (w 2) 63 33 == 0 && bitsOf (w 4) 63 32 == 0 && w 5 == 0 && w 6 == 0 && w 7 == 0,
    (bs.drop 64).take (channels * (if mode = 1 then 8 else 4))⟩

/-- The bytes that a record takes, padded to 64. -/
def QRec.size (r : QRec) : Nat := (64 + r.channels * (if r.mode = 1 then 8 else 4) + 63) / 64 * 64

/-- The records of a QSTATE output, back to back; an all-zero SITE_VA ends the list. -/
def qrecs : Nat → List Byte → List QRec
  | 0, _ => []
  | fuel + 1, bs =>
    if bs.length < 64 then []
    else
      let r := parseQRec bs
      if r.site = 0 then [] else r :: qrecs fuel (bs.drop r.size)

/-- Writes the command's counts into the first record of an output (R137). -/
def stampCounts (bs : List Byte) (sat nan degen : Nat) : List Byte :=
  let cap := fun n => leBytes 4 (Nat.min n (2 ^ 32 - 1))
  if bs.length < 64 ∨ bitsOf (leNat (bs.take 8)) 47 0 = 0 then bs
  else bs.take 0x18 ++ cap sat ++ cap nan ++ cap degen ++ bs.drop 0x24

/-- The bytes that a site record takes with its history, as the first word of its header has them. -/
def siteBytes (w0 : Nat) : Nat := 64 + bitsOf w0 12 8 * (bitsOf w0 63 32 * (if bitsOf w0 14 14 = 1 then 8 else 4))

/-- The bytes from a site record to the next one of a list, on 64-byte boundaries as SITE_VA asks (log entry 89: DESIGN CHOICE, unsafe). -/
def sitePadded (w0 : Nat) : Nat := (siteBytes w0 + 63) / 64 * 64

/-- The bytes that `n` site records from an address on take. -/
def State.sitesLen (s : State) (ctx : Nat) : Nat → Nat → Nat
  | 0, _ => 0
  | n + 1, va =>
    let k := sitePadded (s.word ctx va 8)
    k + s.sitesLen ctx n (va + k)

/-- A site record before its first step: INIT_SCALE and INIT_OFFSET stand, no slot is filled, and the counts are zero (R141). -/
def freshSite (head : List Byte) : List Byte :=
  let w0 := leNat (head.take 8)
  leBytes 8 (w0 - bitsOf w0 28 24 * 2 ^ 24) ++ leBytes 8 0 ++ (head.drop 16).take 8 ++ List.replicate (sitePadded w0 - 24) 0

/-- The site records of a request that begins, made from its instance's, which hold the model image's INIT_SCALE and INIT_OFFSET (R141). -/
def State.freshSites (s : State) (ctx : Nat) : Nat → Nat → List Byte
  | 0, _ => []
  | n + 1, va => freshSite (s.load ctx va 64) ++ s.freshSites ctx n (va + sitePadded (s.word ctx va 8))

/-- How the commit phase takes a record (R139): its site, history and all, is no declared operand, or its FORMAT, CHANNELS or MODE is not
the site's; the record or its site holds a reserved value; or nothing is wrong. -/
def State.checkQRec (s : State) (ctx : Nat) (opnds : List Entry) (r : QRec) : Option Stop :=
  let head := s.load ctx r.site 64
  let w0 := leNat (head.take 8)
  let declared := opnds.any (fun e => decide (e.va ≤ r.site) && decide (r.site + siteBytes w0 ≤ e.va + e.length))
  if declared = false ∨ r.format ≠ bitsOf w0 7 0 ∨ r.channels ≠ bitsOf w0 63 32 ∨ r.mode ≠ bitsOf w0 14 14 then some (.failed dQstateMismatch)
  else if r.zeros = false ∨ r.site % 64 ≠ 0 ∨ (parseSite head).isNone then some .invalid
  else none

def State.checkQRecs (s : State) (ctx : Nat) (opnds : List Entry) : List QRec → Option Stop
  | [] => none
  | r :: rest => match s.checkQRec ctx opnds r with
    | some x => some x
    | none => s.checkQRecs ctx opnds rest

/-- Merges a step's data into a slot: the larger magnitude in symmetric mode, the smaller minimum and larger
maximum in affine mode (R138). -/
def mergeSlot (mode : Nat) (old new : List Nat) : List Nat :=
  (old.zip new).mapIdx (fun i p =>
    let a : F32 := BitVec.ofNat 32 p.1
    let b : F32 := BitVec.ofNat 32 p.2
    (if mode = 1 ∧ i % 2 = 0 then Fp.minNum a b else Fp.maxNum a b).toNat)

/-- Applies an update record to its site (R138). -/
def State.applyQRec (s : State) (ctx : Nat) (r : QRec) : State := match parseSite (s.load ctx r.site 64) with
  | none => s
  | some t =>
    let n := t.slotBytes
    let fresh := t.filled = 0 ∨ r.step > t.lastStep
    let head := if fresh then (t.head + 1) % t.w else t.head
    let at_ := r.site + 64 + head * n
    let old := words 4 (n / 4) (s.load ctx at_ n)
    let slot := if fresh then r.data else (mergeSlot t.mode old (words 4 (n / 4) r.data)).flatMap (leBytes 4)
    let s := if fresh ∨ r.step = t.lastStep then s.store ctx at_ slot else s
    let filled := if fresh then Nat.min (t.filled + 1) t.w else t.filled
    let w0 := s.word ctx r.site 8
    let s := s.store ctx r.site (leBytes 8 (w0 - t.filled * 2 ^ 24 + filled * 2 ^ 24)
      ++ leBytes 8 (if fresh then r.step else t.lastStep))
    let s := s.store ctx (r.site + 0x18) (leBytes 8 head ++ leBytes 8 (t.sat + r.sat) ++ leBytes 8 (t.degen + r.degen)
      ++ leBytes 8 (t.nan + r.nan) ++ leBytes 8 (if fresh ∨ r.step = t.lastStep then t.stale else (t.stale + 1) % 2 ^ 32))
    s.soil ctx r.site (64 + t.w * n)

end Sys2Proof.Machine
end

