-- ==== Sys2Proof/Machine/TierOps.lean ====
section
/-! DEFINITION. Operations of the tier manager (spec/07): the pages that a queue entry declares, publication,
the journal, and the operation rings that every block has. -/

namespace Sys2Proof.Machine

/-! ### What a queue entry declares (R77, R78, R292, R309) -/

def kRead : Nat := 0x01
def kKv : Nat := 0x02
def kFresh : Nat := 0x10
def kDurable : Nat := 0x11
def kKvAppend : Nat := 0x12
def kScatter : Nat := 0x13
def kQstate : Nat := 0x14

/-- The ranges that an entry reads: declared operands and the implicit ones. -/
def QItem.reads (i : QItem) : List (Nat × Nat) := match i.e.job with
  | .command d => (d.codeVa, 8 * d.codeLen) :: d.opnds.map (fun e => (e.va, e.length))
  | .gather d => [(d.idxVa, 4 * d.count)]
  | .txu d => if d.op = 2 then [(d.inVa, d.inLen)] else []
  | .reserved => []

/-- The ranges that it publishes. -/
def QItem.writes (i : QItem) : List (Nat × Nat × Nat) := match i.e.job with
  | .command d => d.outs.map (fun e => (e.kind, e.va, e.length))
  | .gather d => [(kFresh, d.outVa, d.outLen)]
  | .txu d => if d.op = 1 then [] else [(kFresh, d.outVa, d.outLen)]
  | .reserved => []

def QItem.readPages (i : QItem) : List Nat := (i.reads.flatMap (fun r => pagesOf i.runCtx r.1 r.2)).dedup
def QItem.writePages (i : QItem) : List Nat := (i.writes.flatMap (fun w => pagesOf i.runCtx w.2.1 w.2.2)).dedup

/-- Output pages that an output covers only in part; the whole page counts as an operand (R172). -/
def QItem.partPages (i : QItem) : List Nat :=
  (i.writes.flatMap (fun w => (pagesOf i.runCtx w.2.1 w.2.2).filter (fun key =>
    let p := key % 2 ^ 27
    !(decide (w.2.1 ≤ p * pageBytes) && decide ((p + 1) * pageBytes ≤ w.2.1 + w.2.2))))).dedup

/-- Every page that it declares. -/
def QItem.pages (i : QItem) : List Nat := (i.readPages ++ i.writePages).dedup

/-- Pages that must be resident before dispatch (R78, R172). -/
def QItem.needs (i : QItem) : List Nat := (i.readPages ++ i.partPages).dedup

/-- Pages of a tenant's KV map that a KV operand covers: the blocks of its request (spec/13 "The KV map"). -/
def State.kvPages (s : State) (i : QItem) : List Nat := match i.e.job with
  | .command d =>
    if d.opnds.any (fun e => e.kind == kKv) then match s.greq d.reqHandle with
      | none => []
      | some g => match s.inst g.blk.inst with
        | none => []
        | some x => (g.blocks.flatten.map (fun p => pageKey i.runCtx ((x.desc.kvPoolVa + p * subBytes) / pageBytes))).dedup
    else []
  | _ => []

/-- Whether the object that governs a page is READY; commands wait for an object that is being rewritten (R201). -/
def State.objectReady (s : State) (g : Nat) : Bool := match s.object (g / 2 ^ 27 - 2048) with
  | some o => o.state == .ready || o.state == .retiring
  | none => false

/-- Whether a page can be read at dispatch: resident, or never written (R169). -/
def State.pageHere (s : State) (key : Nat) : Bool :=
  let g := s.governing key
  let st := (s.pte g).state
  (st == .resident || st == .zero) && (g == key || s.objectReady g)

/-! ### Publication (R80, R83 to R86, R172, R183) -/

/-- The bytes of an output buffer. -/
def OutBuf.bytes (o : OutBuf) : List Byte := Sparse.fill 0 o.length 0 o.cells

/-- Writes bytes into the pages of a range that `keep` admits (R480), and sets their DIRTY bits (R183). -/
def State.storeKept (s : State) (keep : Nat → Bool) (ctx va : Nat) (bs : List Byte) : State :=
  (piecesOf va bs.length).foldl (fun s (p : Nat × Nat) =>
    if keep (pageKey ctx (p.1 / pageBytes)) then (s.store ctx p.1 ((bs.drop (p.1 - va)).take p.2)).soil ctx p.1 p.2 else s) s

/-- Publishes one output into the pages that `keep` admits: whole subpages are replaced (R80); of a KV_APPEND, the positions written
alone (R183); of a QSTATE output, the records are applied to their sites and the range stays (R138). Log entry 53: DEDUCED, unsafe. -/
def State.publishOut (s : State) (keep : Nat → Bool) (ctx : Nat) (o : OutBuf) : State :=
  if o.kind = kKvAppend then
    o.wrote.foldl (fun s w => s.storeKept keep ctx (o.va + w.1) ((o.bytes.drop w.1).take w.2)) s
  else if o.kind = kQstate then (qrecs (o.length / 64) o.bytes).foldl (fun s r => s.applyQRec ctx r) s
  else s.storeKept keep ctx o.va o.bytes

/-- An output page takes its fresh frame and is resident; the version it replaces stays while it is pinned
(R79, R172). -/
def State.installFrame (s : State) (key f : Nat) : State :=
  let p := s.pte key
  let s := s.setPte key { p with state := .resident, frame := f, holds := p.holds }
  let s := { s with tier := { s.tier with frames := Sparse.put s.tier.frames f (some key) } }
  if p.state = .resident ∨ p.state = .moving then s.leaveFrame p.frame else s

/-- A job has committed: it counts for its successors, its request and its tenant's period (R192, R382). -/
def State.jobDone (s : State) (handle id tid : Nat) : State :=
  let s := (s.setJob handle id .committed).modReq handle (fun r => { r with tally := { r.tally with jobs := r.tally.jobs + 1 } })
  { s with dsp := { s.dsp with periodJobs := addAt s.dsp.periodJobs tid 1 } }

/-- Whether a page still has the mapping into which a publication was made (R480). -/
def State.lands (s : State) (p : Pub) (key : Nat) : Bool :=
  (s.pte key).state != .unmapped && p.serials.all (fun x => x.1 != key || x.2 == (s.pte key).serial)

/-- A publication takes effect: all its outputs together (R83), but for pages unmapped since (R480). The command counts as committed
(R192, R301). -/
def State.takeEffect (s : State) (p : Pub) : State :=
  let keep := fun key => s.lands p key
  let s := p.fresh.foldl (fun s f => if keep f.1 then s.installFrame f.1 f.2 else s.freeFrame f.2) s
  let s := p.outs.foldl (fun s o => s.publishOut keep p.ctx o) s
  if p.d.format = 0 then s else s.jobDone p.d.reqHandle p.d.cmdId p.d.tid

def rangesMeet (a n b m : Nat) : Bool := decide (a < b + m) && decide (b < a + n)

/-- Whether two publications have overlapping output ranges (R86, R191). -/
def Pub.meets (p q : Pub) : Bool :=
  p.ctx == q.ctx && p.outs.any (fun a => q.outs.any (fun b => rangesMeet a.va a.length b.va b.length))

/-- Whether a publication can take effect: journaled and acknowledged, its updates applied, and no earlier
overlapping one before it (R85, R191, R300). -/
def Pub.free (p : Pub) (earlier : List Pub) : Bool :=
  (!p.journaled || p.acked) && !p.scatter && !(earlier.any (fun q => q.meets p))

/-- The first publication that can take effect, and the others. -/
def nextPub : List Pub → List Pub → Option (Pub × List Pub)
  | _, [] => none
  | before, p :: r => if p.free before then some (p, before ++ r) else nextPub (before ++ [p]) r

/-- Publications take effect while one can (R85, R86, R191). -/
def State.settlePubs : Nat → State → State
  | 0, s => s
  | fuel + 1, s => match nextPub [] s.tier.pubs with
    | none => s
    | some (p, rest) => State.settlePubs fuel ({ s with tier := { s.tier with pubs := rest } }.takeEffect p)

/-- The journal record of one page of a publication, padded to 4 KiB (R189). -/
def recBytes (subs : BitVec 32) : Nat := (64 + 65536 * ((List.range 32).filter (fun i => subs.getLsbD i)).length + 4095) / 4096 * 4096

/-- The CLASS 1 pages that a publication touches, each with its subpages. -/
def State.durablePages (s : State) (ctx : Nat) (outs : List OutBuf) : List (Nat × BitVec 32) :=
  let keys := (outs.flatMap (fun o => pagesOf ctx o.va o.length)).dedup.filter (fun k => (s.pte k).durable)
  keys.map (fun k => (k, outs.foldl (fun m o => m ||| subMask (k % 2 ^ 27) o.va o.length) 0))

/-- The cells of subpages of a page, by offset within it. -/
def State.subCells (s : State) (key : Nat) (subs : BitVec 32) : List (Nat × Byte) :=
  ((List.range 32).filter (fun i => subs.getLsbD i)).flatMap (fun i =>
    (Sparse.slice s.mem (key * pageBytes + i * subBytes) subBytes).map (fun c => (c.1 + i * subBytes, c.2)))

/-- What memory holds once the publications up to a number have taken effect. -/
def State.onceIn (s : State) (id : Nat) : State :=
  (s.tier.pubs.filter (fun p => decide (p.id ≤ id))).foldl (fun s p => p.outs.foldl (fun s o => s.publishOut (s.lands p) p.ctx o) s) s

/-- Joins the records of a publication to those being gathered, one for each page, with their JSEQ, the last carrying LAST (R189,
R191). -/
def State.journal (s : State) (p : Pub) (pages : List (Nat × BitVec 32)) : State :=
  let t := s.onceIn p.id
  let recs := pages.mapIdx (fun i (x : Nat × BitVec 32) =>
    (⟨0, p.jseq + i + 1, p.id, p.ctx, x.1 % 2 ^ 27 * pageBytes, x.2, recBytes x.2, i + 1 == pages.length, t.subCells x.1 x.2⟩ : JRec))
  { s with tier := { s.tier with
    gathered := s.tier.gathered ++ recs
    gatherSince := if s.tier.gathered.isEmpty then s.now else s.tier.gatherSince } }

/-- Bytes of the journal ring (spec/07 "Durable data and the journal"). -/
def journalBytes : Nat := 256 * 2 ^ 30

/-- Bytes of the journal in use. -/
def Tier.used (t : Tier) : Nat :=
  (t.covered ++ t.stripes.flatMap (fun p => p.2)).foldl (fun n r => n + r.bytes) 0

/-- The mapping serials of the pages of outputs. -/
def State.serialsOf (s : State) (ctx : Nat) (outs : List OutBuf) : List (Nat × Nat) :=
  ((outs.flatMap (fun o => pagesOf ctx o.va o.length)).dedup).map (fun k => (k, (s.pte k).serial))

/-- The numbers JSEQ that a publication takes as its commit phase ends: one for each of its records, and for each row of its updates as
many as a row can take, being known only once it is applied (R191, R300; log entry 82: DESIGN CHOICE, unsafe). -/
def State.jseqNeed (s : State) (id n : Nat) : Nat :=
  n + 3 * ((s.ftb.pending.filter (fun u => u.pub == id)).map (fun u => u.rows.length)).foldl (· + ·) 0

/-- A publication joins the others and takes effect when it can (R85, R191). `pages` are its journal records. -/
def State.publish (s : State) (ctx : Nat) (d : CmdDesc) (outs : List OutBuf) (fresh : List (Nat × Nat))
    (pages : List (Nat × BitVec 32)) (durable scatter : Bool) : State :=
  let id := s.tier.nextPub
  let p : Pub := ⟨id, ctx, d, outs, fresh, durable, false, scatter, s.serialsOf ctx outs, s.tier.jseq⟩
  let s := { s with tier := { s.tier with
    pubs := s.tier.pubs ++ [p]
    nextPub := id + 1
    jseq := s.tier.jseq + (if durable then s.jseqNeed id pages.length else 0) } }
  let s := if durable && !scatter then s.journal p pages else s
  State.settlePubs s.tier.pubs.length s

/-- A descriptor that stands for a sequencer's own publication (R229); its FORMAT is none of a command's. -/
def CmdDesc.none : CmdDesc := ⟨0, false, true, true, false, 0, 0, 0, 0, 0, [], [], [], 0, 0, 0, 0, [], false⟩

/-! ### Operation rings (R206, R386, R387) -/

/-- The HEAD and SIZE registers of a block's operation ring. -/
def opRing : Nat → Option (RF × RF)
  | 8 => some (F.MEM_OP_HEAD_HEAD, F.MEM_OP_RING_SIZE)
  | 12 => some (F.IDX_OP_HEAD_HEAD, F.IDX_OP_RING_SIZE)
  | 13 => some (F.FTB_OP_HEAD_HEAD, F.FTB_OP_RING_SIZE)
  | 14 => some (F.TXU_OP_HEAD_HEAD, F.TXU_OP_RING_SIZE)
  | 15 => some (F.GEN_OP_HEAD_HEAD, F.GEN_OP_RING_SIZE)
  | 21 => some (F.ONX_CMD_HEAD_HEAD, F.ONX_CMD_RING_SIZE)
  | _ => none

/-- The block takes the next entry of its operation ring. -/
def State.takeEntry (s : State) (block : Nat) : State := match opRing block with
  | none => s
  | some (head, size) => s.put head ((s.get head + 1) % 2 ^ s.get size)

def State.op (s : State) (block opId : Nat) : Option Op := s.tier.ops.find? (fun o => o.block == block && o.opId == opId)

def State.setOp (s : State) (o : Op) : State :=
  { s with tier := { s.tier with
    ops := if s.tier.ops.any (fun x => x.block == o.block && x.opId == o.opId)
      then s.tier.ops.map (fun x => if x.block == o.block && x.opId == o.opId then o else x) else s.tier.ops ++ [o] } }

/-- An operation of a ring ends: its completion is written, and under full accounting the record of a long one (R382). Log entry 63: DEDUCED, unsafe. -/
def State.opEnd (s : State) (block opId completion status detail pages lost : Nat) : State :=
  let o := (s.op block opId).getD ⟨block, opId, false, .running, 0, completion, 0, svc, s.now, true, none⟩
  let s := (s.setOp { o with status := .ended, pos := pages }).emit (.opDone block opId completion status detail pages lost)
  if o.long ∧ o.ctx < svc ∧ s.on (F.DSP_TNT_CFG_ACCT o.ctx) then s.account (fullRecord o.ctx status opId (usUp (s.now - o.since)) Tally.zero) else s

/-- Whether a step of an operation may run: it is not SUSPENDED. An OP_ID whose operation has ended may be used again. -/
def State.opRuns (s : State) (block opId : Nat) : Bool := match s.op block opId with
  | none => true
  | some o => o.status != .suspended

/-- An operation begins, taking its ring entry, or continues where it stands. Log entry 59: DEDUCED, unsafe. -/
def State.opStart (s : State) (block opId : Nat) (long : Bool) (completion target : Nat) : State :=
  let fresh : Op := ⟨block, opId, long, .running, 0, completion, target, svc, s.now, true, none⟩
  match s.op block opId with
  | none => (s.takeEntry block).setOp fresh
  | some o => if o.status = .waiting ∨ o.status = .ended then (s.takeEntry block).setOp fresh else s

/-- A long operation that a control entry cancelled before it began: it ends CANCELLED as its entry is taken (R387). -/
def State.opDead (s : State) (block opId completion : Nat) : Option State :=
  if (s.op block opId).any (fun o => o.status == .cancelled) then some ((s.takeEntry block).opEnd block opId completion stCancelled 0 0 0) else none

/-- Notes the context that an operation is for, and its FRAME_MAX as the operation begins (R13). -/
def State.opFor (s : State) (block opId ctx : Nat) : State := match s.op block opId with
  | none => s
  | some o => s.setOp { o with ctx := ctx, limit := if o.limit.isNone then some (s.get (F.MEM_TNT_QUOTA_FRAME_MAX ctx)) else o.limit }

/-- How far an operation has come. -/
def State.opPos (s : State) (block opId : Nat) : Nat := match s.op block opId with
  | none => 0
  | some o => o.pos

end Sys2Proof.Machine
end

