-- ==== Sys2Proof/Machine/KernelOps.lean ====
section
/-! DEFINITION. How a kernel instruction acts on the core that fetched it (spec/03). -/

namespace Sys2Proof.Machine

/-- Ends the command of a core without COMMIT (R66, R87): nothing is published; the core keeps the command until
it is free (COMMAND_END). -/
def State.stopCore (s : State) (c : Nat) (k : Core) (x : Stop) : State := s.setCore c { k with ended := some x }

/-- What an instruction leaves behind: the core with the index of its next instruction, or CODE_RANGE when that
index lies outside the kernel (R67); or the end of the command. -/
def State.land (s : State) (c : Nat) (k : Core) (r : KRes) : State := match r with
  | .stop x => s.stopCore c k x
  | .ok k' upd jump =>
    let s := upd.foldl State.update s
    let t : Int := jump.getD (k.pc + 1)
    if t < 0 ∨ (k.d.codeLen : Int) ≤ t then s.stopCore c k' (.failed dCodeRange) else s.setCore c { k' with pc := t.toNat, opens := k'.opens + 1 }

/-- Whether a core takes a further instruction of its command: it runs one that has not ended and does not wait
in a FENCE (R81). -/
def Core.takes (k : Core) : Bool := k.ended.isNone && !k.waiting

/-- The number of the open value that a core draws next: that of its queue item and of the instruction, the same in every run of the
command (R97). -/
def Core.draws (k : Core) : Nat := k.item * 2 ^ 32 + k.opens

/-- Runs an instruction on a core; `f` is given the number of the next open value. Log entry 6: DESIGN CHOICE, safe. -/
def onCore (c : Nat) (s : State) (f : Nat → Core → KRes) : Res := match s.core c with
  | none => .fault .coreNotRunning
  | some k => if k.takes then .next (s.land c k (f k.draws k)) else .fault .coreNotRunning

/-- The fields of MX_STAT that show the tiles of a core. -/
def KRes.showTiles (c : Nat) : KRes → KRes
  | .ok k upd jump => .ok k (upd ++ [.set (F.MX_STAT_SHADOW_FULL c) (b2n k.shadowFull),
      .set (F.MX_STAT_SHADOW_PAIRING c) k.shadow.pairing, .set (F.MX_STAT_ACTIVE_PAIRING c) k.active.pairing]) jump
  | .stop x => .stop x

/-! ### COMMIT (R83 to R86, R137 to R139, R196, R298, R480) -/

/-- The outputs as the commit phase publishes them: the command's counts stand in the first record of its first
QSTATE output (R137). -/
def stampOuts (sat nan degen : Nat) : List OutBuf → List OutBuf
  | [] => []
  | o :: r =>
    if o.kind = kQstate then { o with cells := Sparse.cells 0 0 (stampCounts o.bytes sat nan degen) } :: r
    else o :: stampOuts sat nan degen r

/-- The words of an update block (table "Update block"): table, DIM, COUNT, rows. -/
structure UpdBlock where
  format : Nat
  table : Nat
  dim : Nat
  count : Nat
  zeros : Bool
  rows : List (Nat × List F32)
deriving DecidableEq, Repr

/-- Delta rows of a block: `m` rows of `dim` values, each padded to 64 bytes. -/
def deltaRows (dim : Nat) : Nat → List Byte → List (List F32)
  | 0, _ => []
  | m + 1, bs => f32s dim bs :: deltaRows dim m (bs.drop ((4 * dim + 63) / 64 * 64))

def parseBlock (bs : List Byte) : UpdBlock :=
  let w0 := leNat (bs.take 8)
  let w1 := leNat ((bs.drop 8).take 8)
  let count := bitsOf w1 31 0
  let dim := bitsOf w0 44 32
  let idx := words 4 count (bs.drop 0x40)
  ⟨bitsOf w0 7 0, bitsOf w0 15 8, dim, count,
    bitsOf w0 31 16 == 0 && bitsOf w0 63 45 == 0 && bitsOf w1 63 32 == 0 && leNat ((bs.drop 0x10).take 0x30) == 0,
    idx.zip (deltaRows dim count (bs.drop (0x40 + (4 * count + 63) / 64 * 64)))⟩

/-- How the commit phase takes an update block (R298). -/
def State.checkBlock (s : State) (ctx : Nat) (o : OutBuf) : Option Stop :=
  let b := parseBlock o.bytes
  if b.format ≠ 1 ∨ b.zeros = false ∨ b.count > 2 ^ 20 then some .invalid
  else match s.table b.table with
    | none => some (.failed 0x0B04)
    | some t => if t.dropping then some (.failed 0x0B01)
      else if t.desc.shared ∨ t.desc.tid ≠ ctx ∨ t.desc.dim ≠ b.dim then some (.failed 0x0B04) else none

def State.checkOuts (s : State) (ctx : Nat) (d : CmdDesc) : List OutBuf → Option Stop
  | [] => none
  | o :: r =>
    let x := if o.kind = kQstate then s.checkQRecs ctx d.opnds (qrecs (o.length / 64) o.bytes)
      else if o.kind = kScatter then s.checkBlock ctx o else none
    match x with
    | some x => some x
    | none => s.checkOuts ctx d r

/-- Whether an output page still belongs to the mapping it had at first dispatch (R480). -/
def State.stillMapped (s : State) (i : QItem) : Bool :=
  i.serials.all (fun p => (s.pte p.1).state != .unmapped && (s.pte p.1).serial == p.2)

/-- Whether the outputs of a command go through the journal (R85, R171). -/
def State.journals (s : State) (ctx : Nat) (outs : List OutBuf) : Bool :=
  outs.any (fun o => o.kind == kDurable || o.kind == kScatter) || !(s.durablePages ctx outs).isEmpty

/-- On a variant without a Geode tier the journal needs a fabric window (R196). -/
def State.journalHere (s : State) : Bool := s.hasGeode || s.on F.MEM_JRN_WIN_VALID

/-- How the commit phase ends the command instead of publishing, if it does. The checks are made in this order
(log entry 20: DEDUCED, unsafe). -/
def State.commitStop (s : State) (i : QItem) (k : Core) : Option Stop :=
  if s.stillMapped i = false then some (.failed 0x0701)
  else match s.checkOuts i.runCtx k.d k.outs with
    | some x => some x
    | none => if s.journals i.runCtx k.outs && !s.journalHere then some .notPresent else none

/-- The counts of a committed command (R137, R157, MX_LAST, CORE_CMD_COUNT). -/
def State.commitCounts (s : State) (c : Nat) (k : Core) : State :=
  let s := (s.put (F.QNT_LAST_SAT c) (Nat.min k.sat (2 ^ 32 - 1))).put (F.QNT_LAST_NAN c) (Nat.min k.nan 0xFFFF)
  let s := s.put (F.QNT_LAST_DEGEN c) (Nat.min k.degen 0xFFFF)
  let s := (s.put (F.MX_LAST_TILES c) k.tiles).put (F.MX_LAST_ROWS c) k.rows
  let s := s.bump (F.CORE_CMD_COUNT_COMMITS c) 1
  let ctx := some (if k.d.service then svc else k.d.tid)
  let s := if s.on (F.QNT_CTL_SAT_EVT_EN c) && decide (s.get (F.QNT_CTL_SAT_THRESH c) ≤ k.sat) then s.event evQntSaturated .notice ctx c k.sat else s
  if s.on (F.SEL_CTL_NAN_EVT_EN c) && decide (0 < k.selNan) then s.event evSelNanInput .notice ctx c k.selNan else s

/-- The update blocks of a publication go to the feature table engine (R299). -/
def State.handUpdates (s : State) (pub : Nat) (outs : List OutBuf) : State :=
  let ups := (outs.filter (fun o => o.kind == kScatter)).map (fun o =>
    let b := parseBlock o.bytes
    (⟨pub, b.table, b.rows⟩ : Updates))
  { s with ftb := { s.ftb with pending := s.ftb.pending ++ ups } }

/-- The commit phase of a command: every declared output is published together, at once or once its journal
record is acknowledged and its updates are applied (R83, R85, R300). The outputs of a request that is being
cancelled are discarded (R28). -/
def State.commitPhase (s : State) (c : Nat) (i : QItem) (k : Core) : State :=
  let outs := stampOuts k.sat k.nan k.degen k.outs
  let d := k.d
  let s := s.setCore c { k with ended := some ⟨stDone, 0, 0⟩ }
  let s := (s.put (F.CORE_STAT_STATE c) 3).commitCounts c k
  let s := s.boundary .commit c
  let s := { s with dsp := { s.dsp with running := Sparse.put s.dsp.running c { i with fresh := [] } } }
  let gone := match s.req d.reqHandle with
    | some r => r.ending.isSome || r.ended
    | none => false
  let s := s.drop F.MEM_FRAMES_HELD i.fresh.length
  if gone then (i.fresh.foldl (fun s f => s.freeFrame f.2) s).setJob d.reqHandle d.cmdId .ended
  else
    let scatter := outs.any (fun o => o.kind == kScatter)
    let s := s.setJob d.reqHandle d.cmdId .publishing
    let s := if scatter then s.handUpdates s.tier.nextPub outs else s
    s.publish i.runCtx d outs i.fresh (s.durablePages i.runCtx outs) (s.journals i.runCtx outs) scatter

end Sys2Proof.Machine
end

