-- ==== Sys2Proof/Machine/RegOps.lean ====
section
/-! DEFINITION. Finding and reading a register of the register space (spec/00 "Register tables", spec/19 "Register space"). -/

namespace Sys2Proof.Machine

/-- The instance that a selector names: none where its value names no instance (R479). -/
def State.selected (s : State) : Nat → Option Nat
  | 0 => some 0
  | 1 => some (s.get F.MEM_TNT_SEL_TID)
  | 2 => some (s.get F.MEM_OBJ_SEL_OBJ)
  | 3 => some (s.get F.IDX_SEL_INDEX)
  | 4 => some (s.get F.FTB_SEL_TABLE)
  | 5 => some (s.get F.TXU_DICT_SEL_DICT)
  | 6 => some (s.get F.TXU_GRAM_SEL_GRAMMAR)
  | 7 => some (s.get F.GEN_INST_SEL_INSTANCE)
  | 8 => some (s.get F.DSP_TNT_SEL_TID)
  | 9 => some (completionKey (s.get F.DSP_TNT_SEL_TID) (s.get F.DSP_TNT_SEL_RING))
  | 10 => some (s.get F.SHP_TNT_SEL_TID)
  | _ => let x := s.get F.ONX_SLOT_SEL_SLOT
         if x < 1104 then some x else none

/-- Whether the variant has an island (table "Edge islands"). -/
def State.islandHere (s : State) (i : Nat) : Bool :=
  if i < 16 then decide (i < s.stacks)
  else if i < 32 then true
  else if i < 96 then decide (i - 32 < 8 * s.bays)
  else if i = 97 ∨ i = 98 then decide (16 < s.cores_)
  else decide (i < 100)

/-- Whether the unit of a Staged field whose boundary is idle is idle (table "Takes-effect classes"), by its edge island: no core runs for a
stack or a die-to-die link, no link is up for a port, no operation waits or runs for a flash channel. Log entry 81: DEDUCED, unsafe. -/
def State.islandIdle (s : State) (i : Nat) : Bool :=
  if i < 16 then s.cores.isEmpty
  else if i < 32 then s.get (F.KTR_PORT_STAT_LINK (i - 16)) != 2
  else if i < 96 then (Sparse.find s.geo.chans (i - 32)).all (fun c => c.cur.isNone && c.suspended.isNone && c.queue.isEmpty)
  else if i < 99 then s.cores.isEmpty
  else true

/-- The blocks of the fields whose boundary is idle: the fabric's ports and the edge islands. -/
def RF.byIdle (f : RF) : Bool := f.id / 67108864 % 32 == 16 || f.id / 67108864 % 32 == 18

/-- Staged fields take effect at the boundaries of the units that have become idle (R14). -/
def State.settleIdle (s : State) : State :=
  let hit := fun (w : Staged) => w.te == .idle && s.islandIdle w.unit
  { (s.staged.filter hit).foldl (fun s w => if w.f.byIdle then s.put w.f w.v else s) s with staged := s.staged.filter (fun w => !hit w) }

/-- HBM_STAT.STATE of a stack, ready or in self-refresh as its island's clock runs or not. -/
def State.refreshStack (s : State) (i : Nat) : State :=
  let st := s.get (F.HBM_STAT_STATE i)
  if i < 16 ∧ (st = 2 ∨ st = 3) then s.put (F.HBM_STAT_STATE i) (if s.on (F.EDG_ISL_STAT_CLK_RUN i) then 2 else 3) else s

/-- The longest wake of an island in units of 0.1 µs, its stop with it (R50, R51, table "Edge islands"). -/
def wakeMax (i : Nat) : Nat := if i < 16 then 55 else if i < 96 then 25 else 15

/-- An island takes a wake request and runs again after a latency; nothing fails or is discarded (R51, R52). -/
def State.wakeAfter (s : State) (i latency : Nat) : State :=
  let s := ((s.put (F.EDG_ISL_STAT_STATE i) 0).put (F.EDG_ISL_STAT_CLK_RUN i) 1).refreshStack i
  (s.bumpSat (F.EDG_ISL_STAT_WAKE_COUNT i) 1).raise (F.EDG_ISL_STAT_WAKE_MAX i) latency

/-- A request meets an island: one whose clock is stopped wakes, within a latency that the spec bounds and does not fix (R51; log entry
84: DESIGN CHOICE, safe). -/
def State.wake (s : State) (i : Nat) : State :=
  if s.get (F.EDG_ISL_STAT_STATE i) = 0 ∨ s.islandHere i = false then s
  else
    let (v, s) := s.draw
    s.wakeAfter i (v % (wakeMax i + 1))

/-- Whether a power domain is on (PWR_DOMAINS). -/
def State.powered (s : State) (d : Nat) : Bool := (s.get F.PWR_DOMAINS_ON).testBit (d - 1)

/-- The least beats per millisecond at an operating point and junction temperature (table "Minimum beat rate by operating point and junction
temperature", R43). -/
def minBeats (point tj : Nat) : Nat :=
  let (a, b, c) := if point = 0 then (1520000, 1450000, 1410000) else if point = 1 then (1870000, 1800000, 1750000) else (2110000, 2050000, 2000000)
  if tj ≤ 50 then a else if tj ≤ 85 then a - (a - b) * (tj - 50) / 35 else b - (b - c) * (tj - 85) / 15

/-- What the beat monitor of a facet has completed in the last whole millisecond: the least rate, of the lower point while the rail ramps and
less the throttled share, and what the part runs faster (R43, R45; log entry 88: DESIGN CHOICE, safe). 0 while the facet's domain is off. -/
def State.beats (s : State) (f : Nat) : Nat :=
  if f < s.cores_ / 4 ∧ s.powered (f + 1) = true then
    let point := if s.on F.PWR_STAT_RAMPING then Nat.min (s.get F.PWR_STAT_POINT) s.pwr.goal else s.get F.PWR_STAT_POINT
    let tj := s.get (if f < 4 then F.PWR_TEMP_TJ_C0 else F.PWR_TEMP_TJ_C1)
    (minBeats point tj * (8 - s.get F.PWR_STAT_DUTY) / 8 + Config.fasterBeats f (s.now / 100000)) % 2 ^ 32
  else 0

/-- Whether the variant has the unit that a register of a block belongs to, `i` being the register's first index (R4, R70). -/
def State.unitHere (s : State) (block i : Nat) (d : RegDesc) : Bool :=
  if block = 2 ∨ block = 4 ∨ block = 5 ∨ block = 6 then decide (i < s.cores_)
  else if block = 3 then decide (i < s.cores_ / 4)
  else if block = 9 then decide (i < s.stacks)
  else if block = 10 then s.hasGeode && (if d.stride = 4096 then decide (i < s.bays) else if d.stride = 16 then decide (i < 8 * s.bays) else true)
  else if block = 11 then !(d.stride = 4096) || decide (i < 8 * s.bays)
  else if block = 14 then s.hasTxu
  else if block = 18 then !(d.stride = 8) || s.islandHere i
  else true

/-- A register that an access names: its table, its two indices and its number with the instance (`RF.id` counts 64 for each). -/
structure RegAt where
  desc : RegDesc
  i : Nat
  j : Nat
  key : Nat

/-- The indices of a register at an offset of its block. -/
def RegDesc.at (d : RegDesc) (off : Nat) : Option (Nat × Nat) :=
  ((List.range d.count).flatMap (fun i => (List.range d.count2).map (fun j => (i, j)))).find? (fun p => d.off + d.stride * p.1 + d.stride2 * p.2 == off)

/-- The register of a block at an offset, for an access of a width (R463). -/
def regAt (block off width inst : Nat) : List RegDesc → Option RegAt
  | [] => none
  | d :: r => match (if d.width = width then d.at off else none) with
    | some (i, j) => some ⟨d, i, j, inst * 2 ^ 25 + block * 2 ^ 20 + off⟩
    | none => regAt block off width inst r

/-- The selector of the register at an offset. -/
def selAt (off width : Nat) (l : List RegDesc) : Nat := match l.find? (fun d => d.width == width && (d.at off).isSome) with
  | some d => d.sel
  | none => 0

/-- The handle of a field of a register. -/
def RegAt.field (a : RegAt) (f : FieldDesc) : RF := ⟨a.key * 64 + f.lo, f.hi + 1 - f.lo, f.rst a.i a.j⟩

/-- The value of a register: its fields in their places, reserved bits zero (R8). -/
def State.regValue (s : State) (a : RegAt) : Nat := (a.desc.fields.map (fun f => s.get (a.field f) * 2 ^ f.lo)).foldl (· + ·) 0

/-- REG_ACCESS_INVALID, at most once per second of dispatcher time (R463). -/
def State.badAccess (s : State) (block off : Nat) : State :=
  if s.rec_.invalidAt.any (fun t => decide (s.now < t + 100000000)) then s
  else { s with rec_ := { s.rec_ with invalidAt := some s.now } }.event evRegAccessInvalid .warning none (block * 2 ^ 20 + off) 0

/-- What tenant software reads of one register: zero of a register that it may not read or of an absent unit (R4, R12, R479). -/
def State.tenantReg (s : State) (block off width : Nat) : Nat := match s.selected (selAt off width (blockRegs block)) with
  | none => 0
  | some inst => match regAt block off width inst (blockRegs block) with
    | none => 0
    | some a => if (a.desc.tenant && s.unitHere block a.i a.desc) = false then 0 else if block = 18 ∧ a.desc.off = 0x800 then s.beats a.i else s.regValue a

/-- Eight bytes of the register space as tenant software reads them: the registers that lie in them, each in its own width (R463). -/
def State.tenantWord (s : State) (addr : Nat) : Nat :=
  let block := addr / 2 ^ 20
  let off := addr % 2 ^ 20
  s.tenantReg block off 64 ||| s.tenantReg block off 32 ||| s.tenantReg block (off + 4) 32 * 2 ^ 32

end Sys2Proof.Machine
end

