-- ==== Sys2Proof/Machine/DispatchOps.lean ====
section
/-! DEFINITION. How the dispatcher takes, places, ends and kills commands (spec/03 R77 to R79, R89; spec/07 R169,
R171, R176; spec/14 R371 to R379). -/

namespace Sys2Proof.Machine

/-! ### Errors of SRAM (R434, R435, R437) -/

/-- One hour of dispatcher time. -/
def hourUnits : Nat := 360000000000

/-- The hour in which errors are counted runs on (R434, R438). Log entry 46: DEDUCED, unsafe. -/
def State.hour (s : State) : State :=
  if (s.now - s.ras.hourAt) / hourUnits = 0 then s
  else { s with ras := { s.ras with hourAt := s.now - s.now % hourUnits, hour := [], high := [], lines := [] } }

/-- Counts errors of a source, and records RAS_CE_HIGH once per source and hour (R434). -/
def State.errors (s : State) (source ce ue : Nat) : State :=
  let s := ((s.bumpSat (F.RAS_COUNT_CE source) ce).bumpSat (F.RAS_COUNT_UE source) ue).hour
  let n := Sparse.get 0 s.ras.hour source + ce
  let s := { s with ras := { s.ras with hour := Sparse.set 0 s.ras.hour source n } }
  if decide (s.get F.RAS_CTL_CE_THRESH < n) && !s.ras.high.contains source then
    { s with ras := { s.ras with high := source :: s.ras.high } }.event evRasCeHigh .warning none source n
  else s

/-! ### Cores in service, and allowed sets (R70, R78, R98, R373) -/

/-- A core is in service: neither off, retired nor offline. -/
def State.inService (s : State) (c : Nat) : Bool :=
  let st := s.get (F.CORE_STAT_STATE c)
  decide (c < s.cores_) && !(st == 0 || st == 5 || st == 6)

def State.coresUp (s : State) : List Nat := (List.range s.cores_).filter (fun c => s.inService c)

/-- The cores that may run a context's commands: the allowed set, or every core in service when the set holds none
(R373). The service context may use every core in service (log entry 21: DEDUCED, unsafe). -/
def State.coreSet (s : State) (ctx : Nat) : List Nat :=
  let mine := if ctx = svc then s.coresUp else s.coresUp.filter (fun c => (s.get (F.DSP_TNT_CORES_ALLOWED ctx)).testBit c)
  if mine.isEmpty then s.coresUp else mine

/-- A core that takes a command now. -/
def State.coreFree (s : State) (c : Nat) : Bool :=
  s.inService c && s.get (F.CORE_STAT_STATE c) == 1 && !s.on (F.FCT_CTL_DRAIN (c / 4))

/-- The first unit, from unit `u` of a quarter on, of a run of `n` units in service, `run` of them found so far. -/
def windowFrom (bad : Nat → Bool) (n : Nat) : Nat → Nat → Nat → Option Nat
  | 0, u, run => if n ≤ run then some (u - run) else none
  | fuel + 1, u, run => if n ≤ run then some (u - run)
    else windowFrom bad n fuel (u + 1) (if bad u then 0 else run + 1)

/-- The facet window that a core's quarter can give a command (R70, R78). -/
def State.window (s : State) (c n : Nat) : Option Nat :=
  windowFrom (fun u => s.ras.units.contains (c / 4 * 512 + 128 * (c % 4) + u)) n 128 0 0

/-- The cores in service have changed (R373). -/
def State.coresChanged (s : State) : State := { s with dsp := { s.dsp with setEmpty := [] } }

/-- A free core leaves or returns to service as its domain and CORE_CTL say. -/
def State.settleCore (s : State) (c : Nat) : State :=
  let st := s.get (F.CORE_STAT_STATE c)
  let s := (s.put (F.CORE_STAT_STATE c) (if s.powered (c / 4 + 1) = false then 0 else if s.on (F.CORE_CTL_RETIRE c) then 5
    else if s.on (F.CORE_CTL_OFFLINE c) then 6 else 1))
  if s.get (F.CORE_STAT_STATE c) = st then s else s.coresChanged

/-- The part retires a core (R91, R435): RETIRE is set, the retirement list names it, and CORE_RETIRED is
recorded. -/
def State.retireCore (s : State) (c : Nat) (reason : Nat) : State :=
  let s := s.put (F.CORE_CTL_RETIRE c) 1
  let r := s.get F.RAS_RETIRED_CORES
  let s := if r.testBit c then s else s.put F.RAS_RETIRED_CORES (r + 2 ^ c)
  let s := if s.ras.listed.contains c then s else { s with ras := { s.ras with listed := c :: s.ras.listed } }
  s.event evCoreRetired .error none c reason

/-! ### Queue entries as they are queued (R77, R171, R176) -/

def outKinds : List Nat := [kFresh, kDurable, kKvAppend, kScatter, kQstate]

/-- What is wrong with an output as it is queued (R171). -/
def State.checkOutput (s : State) (ctx : Nat) (e : Entry) : Option Stop :=
  let pages := (pagesOf ctx e.va e.length).map (fun k => s.pte k)
  if pages.any (fun p => p.state == .shared || (p.state != .unmapped && !p.writable)) then some (.failed 0x0702)
  else if pages.any (fun p => p.state != .unmapped && ((e.kind == kFresh && p.durable) || (e.kind == kDurable && !p.durable))) then
    some (.failed 0x0705)
  else none

/-- Whether an entry has a reserved or misaligned field (R77). -/
def badOpnd (e : Entry) : Bool := !(e.kind == kRead || e.kind == kKv) || e.va % 64 != 0 || e.length % 64 != 0 || e.length == 0
def badOut (e : Entry) : Bool := !outKinds.contains e.kind || e.va % 65536 != 0 || e.length % 65536 != 0 || e.length == 0

/-- How the dispatcher ends an entry as it is queued, if it does (R77, R171; the checks in this order, log
entry 20). `posted`: Bezel service software posted it. Two of the checks are the model's: a CODE_VA off its 64-byte alignment is taken as
a reserved encoding, and a CODE_LEN of 0 as outside its limits (log entry 85: DESIGN CHOICE, unsafe). -/
def State.checkItem (s : State) (i : QItem) : Option Stop := match i.e.job with
  | .reserved => some .invalid
  | .command d =>
    if d.format ≠ 1 ∨ d.resv ∨ d.cmdId = 0 ∨ d.codeVa % 64 ≠ 0 ∨ d.opnds.any badOpnd ∨ d.outs.any badOut then some .invalid
    else if d.service ∧ i.posted = false then some ⟨stRejectedPolicy, 0, 0⟩
    else if (s.jobState d.reqHandle d.cmdId).isSome then some (.failed dCmdIdReused)
    else if d.codeLen = 0 ∨ 32768 < d.codeLen ∨ 32 < d.opnds.length ∨ 16 < d.outs.length ∨ 4 < d.preds.length ∨ 128 < d.facetUnits
        ∨ 4096 < i.pages.length then some (.failed dDeclareLimit)
    else d.outs.findSome? (fun e => s.checkOutput i.runCtx e)
  | .gather d =>
    if d.format ≠ 1 ∨ d.resv ∨ d.cmdId = 0 ∨ d.idxVa % 64 ≠ 0 ∨ d.count = 0 ∨ 2 ^ 20 < d.count ∨ badOut ⟨d.outVa, kFresh, d.outLen⟩ then
      some .invalid
    else if (s.jobState d.reqHandle d.cmdId).isSome then some (.failed dCmdIdReused)
    else if 4096 < i.pages.length then some (.failed dDeclareLimit)
    else s.checkOutput i.runCtx ⟨d.outVa, kFresh, d.outLen⟩
  | .txu d =>
    if d.format ≠ 1 ∨ d.resv ∨ d.cmdId = 0 ∨ d.op = 0 ∨ 3 < d.op ∨ 2 ^ 24 < d.inLen ∨ (d.op ≠ 1 ∧ badOut ⟨d.outVa, kFresh, d.outLen⟩) then some .invalid
    else if i.posted ∧ s.hasTxu = false then some .notPresent
    else if d.op = 3 ∧ i.posted then some ⟨stRejectedPolicy, 0, 0⟩
    else if (s.jobState d.reqHandle d.cmdId).isSome then some (.failed dCmdIdReused)
    else if 4096 < i.pages.length then some (.failed dDeclareLimit)
    else if d.op = 1 then none else s.checkOutput i.runCtx ⟨d.outVa, kFresh, d.outLen⟩

/-- A queue holds 65,536 entries; a full one holds its appender (R25). -/
def State.queueRoom (s : State) (ctx n : Nat) : Bool := decide ((s.queueOf ctx).length + n ≤ 65536)

/-- A refused descriptor's CMD_ID counts as used under its REQ_HANDLE (R77). -/
def State.noteRefused (s : State) (j : Job) : State :=
  if j.cmdId = 0 then s else { s with dsp := { s.dsp with jobs := s.dsp.jobs ++ [(⟨j.handle, j.cmdId, .ended⟩ : JobRec)] } }

/-- Appends an entry to its queue, or ends its job at once (R77, R171); one that repeats a CMD_ID leaves the earlier job as it is. A
reserved MIG_AHEAD queues nothing (R9). -/
def State.enqueue (s : State) (posted : Bool) (e : QEntry) : State :=
  let i : QItem := ⟨s.dsp.nextItem, e, posted, 0, 0, false, 0, false, [], [], none, [], [], none⟩
  let s := { s with dsp := { s.dsp with nextItem := s.dsp.nextItem + 1 } }
  match if e.resv || s.get F.MEM_CTL_MIG_AHEAD == 0 then some Stop.invalid else s.checkItem i with
  | some x =>
    let s := s.emit (.jobRefused e.job.handle e.job.cmdId x.status x.detail)
    if (s.jobState e.job.handle e.job.cmdId).isSome then s
    else (s.noteRefused e.job).jobFailed e.job.handle e.job.cmdId x
  | none =>
    State.enterWindows { s with dsp := { s.dsp with
      items := s.dsp.items ++ [i]
      jobs := s.dsp.jobs ++ [(⟨e.job.handle, e.job.cmdId, .waiting⟩ : JobRec)] } }

def State.enqueueAll (s : State) (posted : Bool) (es : List QEntry) : State := es.foldl (fun s e => s.enqueue posted e) s

/-! ### Readiness (R78, R292, R309, R371) -/

/-- Every predecessor has committed. -/
def State.predsDone (s : State) (i : QItem) : Bool :=
  i.e.job.preds.all (fun p => s.jobState i.e.job.handle p == some .committed)

/-- Bytes of a heap row of a width (table "Row widths"): 1 F32, 2 B16, 3 P8, 4 I8. -/
def heapRow (dim w : Nat) : Nat := ((if w = 1 then 4 * dim else if w = 2 then 2 * dim else 4 + dim) + 63) / 64 * 64

/-- The ranges of a table: its directory and heaps. -/
def tableRanges (d : FtbDesc) : List (Nat × Nat) :=
  (d.dirVa, 8 * d.rows) :: ((List.range 4).filter (fun w => d.heapVa.getD w 0 != 0 && d.slots.getD w 0 != 0)).map (fun w =>
    (d.heapVa.getD w 0, d.slots.getD w 0 * heapRow d.dim (w + 1)))

/-- The context whose addresses a table's are: its owner's, or the service context's for a SHARED one (log entry 25: DEDUCED, unsafe). -/
def tableCtx (d : FtbDesc) : Nat := if d.shared then svc else d.tid

/-- The page keys of a table. -/
def Table.keys (t : Table) : List Nat := ((tableRanges t.desc).flatMap (fun r => pagesOf (tableCtx t.desc) r.1 r.2)).dedup

/-- The pages of the directory and heaps that a gather reads, implicit READ operands (R290, R292). -/
def State.tablePages (s : State) (i : QItem) : List Nat := match i.e.job with
  | .gather d => match s.table d.table with
    | none => []
    | some t => t.keys
  | _ => []

/-- Every page that must be resident before dispatch, through its governing entry (R78, R172, R292, spec/13 "The KV map"). -/
def State.allNeeds (s : State) (i : QItem) : List Nat :=
  ((i.needs ++ s.kvPages i ++ s.tablePages i).map (fun k => s.governing k)).dedup

/-- An entry is ready, leaving aside the free core (R371). -/
def State.ready (s : State) (i : QItem) : Bool :=
  s.predsDone i
    && (if i.pins.isSome then i.frames.all (fun p => p.2 != 0 || s.pageHere p.1)
        else i.readPages.all (fun k => s.pageHere k) && (s.kvPages i).all (fun k => s.pageHere k))
    && i.partPages.all (fun k => s.pageHere k) && (s.tablePages i).all (fun k => s.pageHere k)
    && i.writePages.all (fun k => (Sparse.find i.fresh k).isSome)

/-- Journal data not yet acknowledged, in bytes. -/
def State.unacked (s : State) : Nat := (s.tier.gathered ++ s.tier.stripes.flatMap (fun p => p.2)).foldl (fun n r => n + r.bytes) 0

/-- The bytes of the outputs of an entry that go through the journal (R171). -/
def State.journaledBytes (s : State) (i : QItem) : Nat :=
  ((i.writes.filter (fun w => w.1 == kDurable || w.1 == kScatter || (pagesOf i.runCtx w.2.1 w.2.2).any (fun k => (s.pte k).durable))).map (fun w => w.2.2)).foldl (· + ·) 0

/-- Whether the hold-up flush leaves room for the journaled outputs of an entry (R430). -/
def State.holdupRoom (s : State) (i : QItem) : Bool :=
  let limit := s.get F.PWR_HOLDUP_FLUSH_MIB * 2 ^ 20
  let own := s.journaledBytes i
  own == 0 || (if limit < own then s.unacked == 0 else decide (s.unacked ≤ limit))

/-- Whether an entry reads a scale site record of an instance. -/
def State.readsSites (s : State) (x : Inst) (i : QItem) : Bool :=
  let n := s.sitesLen x.tid x.hdr.sites x.desc.siteVa
  i.reads.any (fun r => rangesMeet r.1 r.2 x.desc.siteVa n)

/-- A pass command that reads a site waits for every command of an earlier pass that updates sites to have committed (R140). -/
def State.sitesReady (s : State) (i : QItem) : Bool := match s.passOf i.e.job.handle i.e.job.cmdId with
  | none => true
  | some (n, p, _) => match s.inst n with
    | none => true
    | some x =>
      let earlier := (x.passes.takeWhile (fun q => q.id != p.id)).flatMap (fun q => q.cmds.filter (fun c => c.updates))
      earlier.all (fun c => s.jobState c.handle c.cmdId == some .committed || s.jobState c.handle c.cmdId == some .ended) || !s.readsSites x i

/-- An entry may be placed: its request is not SUSPENDED, the hold-up flush has room for it, and the sites that it reads are up to date (R140,
R387, R430). -/
def State.mayRun (s : State) (i : QItem) : Bool := s.holdupRoom i && s.sitesReady i && match s.req i.e.job.handle with
  | some r => !r.suspended
  | none => match s.tier.ops.find? (fun o => o.opId == i.e.job.handle) with
    | some o => o.status != .suspended
    | none => true

/-- The first ready command of a queue (R371). -/
def State.firstReady (s : State) (ctx : Nat) : Option QItem :=
  s.dsp.items.find? (fun i => i.e.ctx == ctx && i.e.job.isCommand && s.mayRun i && s.ready i)

/-- Entries that have become ready note the time (R382). -/
def State.markReady (s : State) : State :=
  { s with dsp := { s.dsp with items := s.dsp.items.map (fun i => if i.readyAt.isNone && s.ready i then { i with readyAt := some s.now } else i) } }

/-! ### Pages of queued entries that cannot be had (R169, R200) -/

/-- Whether a request owns a page as one of its KV blocks, so that it is recomputed when lost (R169, R347). -/
def State.owned (s : State) (key : Nat) : Bool :=
  s.gen.reqs.any (fun p => match s.inst p.2.blk.inst with
    | none => false
    | some x => p.2.blocks.flatten.any (fun b => pageKey x.tid ((x.desc.kvPoolVa + b * subBytes) / pageBytes) == key))

/-- Whether a page is one of a POISONED object (R200). -/
def State.poisonedObj (s : State) (g : Nat) : Bool :=
  decide (pageKey 2048 0 ≤ g) && (match s.object (g / 2 ^ 27 - 2048) with
    | some o => o.state == .poisoned
    | none => false)

/-- The outcome of a page that a command declares, where it ends the command (table "Page states"). -/
def State.pageStop (s : State) (handle key : Nat) : Option Stop :=
  let g := s.governing key
  if s.poisonedObj g then some (if (s.req handle).isSome then ⟨stModelUnavailable, 0x0703, 0⟩ else .failed 0x0703)
  else match (s.pte g).state with
  | .unmapped => some (.failed 0x0701)
  | .poisoned => some (.failed 0x0703)
  | .lost => if s.owned g then none else some (.failed 0x0703)
  | _ => none

/-- How an entry ends for one of its pages. A re-run reads its pinned versions. -/
def State.examine (s : State) (i : QItem) : Option Stop :=
  (if i.pins.isSome then i.writePages ++ (i.frames.filter (fun p => p.2 == 0)).map (fun p => p.1) else i.pages ++ s.tablePages i).findSome? (fun k => s.pageStop i.e.job.handle k)

/-- Takes one entry from its queue, ended with a stop. -/
def State.failItem (s : State) (i : QItem) (x : Stop) : State :=
  let s := ({ s with dsp := { s.dsp with items := s.dsp.items.filter (fun y => !(y.id == i.id)) } }.release i).enterWindows
  (s.emit (.jobRefused i.e.job.handle i.e.job.cmdId x.status x.detail)).jobFailed i.e.job.handle i.e.job.cmdId x

/-- The dispatcher examines the entries in their windows and ends those whose pages cannot be had. -/
def State.examineAll (s : State) : State :=
  s.dsp.items.foldl (fun s i => match s.dsp.items.find? (fun y => y.id == i.id) with
    | none => s
    | some i => if i.entered = 0 then s else match s.examine i with
      | none => s
      | some x => s.failItem i x) s

/-! ### The choice of a tenant (R375, R379) -/

/-- Whether a context other than `ctx` has a ready command that may run on a core. -/
def State.rivals (s : State) (c ctx : Nat) : Bool :=
  s.dsp.items.any (fun i => i.e.ctx != ctx && i.e.job.isCommand && s.mayRun i && s.ready i && (s.coreSet i.e.ctx).contains c)

/-- Whether a core is kept for another context after a slice end (R375). -/
def State.barred (s : State) (c ctx : Nat) : Bool := match Sparse.find s.dsp.occ c with
  | none => false
  | some o => o.yielded && o.ctx == ctx && s.rivals c ctx

/-- The lowest-numbered free core that takes an item. -/
def State.coreFor (s : State) (i : QItem) : Option Nat := match i.e.job with
  | .command d => (s.coreSet i.e.ctx).find? (fun c => s.coreFree c && !s.barred c i.e.ctx && (s.window c d.facetUnits).isSome)
  | _ => none

/-- The contexts that have a ready command and a free core, in order, each with them. -/
def State.eligible (s : State) : List (Nat × QItem × Nat) :=
  (((s.dsp.items.map (fun i => i.e.ctx)).dedup).mergeSort (fun a b => decide (a ≤ b))).filterMap (fun ctx =>
    (s.firstReady ctx).bind (fun i => (s.coreFor i).map (fun c => (ctx, i, c))))

def State.weighted (s : State) (ctx : Nat) : Bool := ctx == svc || s.on (F.DSP_TNT_CFG_CLASS ctx)
def State.weight (s : State) (ctx : Nat) : Nat := if ctx = svc then s.get F.DSP_PERIOD_SVC_WEIGHT else s.get (F.DSP_TNT_CFG_WEIGHT ctx)

/-- CREDITS as the signed number that it holds. -/
def State.credits (s : State) (t : Nat) : Int := (BitVec.ofNat 32 (s.get (F.DSP_TNT_STAT_CREDITS t))).toInt
def State.setCredits (s : State) (t : Nat) (v : Int) : State := s.put (F.DSP_TNT_STAT_CREDITS t) (BitVec.ofInt 32 v).toNat

/-- The one with the least served time by weight; the first of equals. -/
def State.leastServed (s : State) : List (Nat × QItem × Nat) → Option (Nat × QItem × Nat)
  | [] => none
  | a :: r => match s.leastServed r with
    | none => some a
    | some b => if Sparse.get 0 s.dsp.served b.1 * s.weight a.1 < Sparse.get 0 s.dsp.served a.1 * s.weight b.1 then some b else some a

/-- The first in order from a number on, else the first (R379: after the last budget tenant chosen). -/
def firstFrom (n : Nat) (l : List (Nat × QItem × Nat)) : Option (Nat × QItem × Nat) :=
  match l.find? (fun a => decide (n ≤ a.1)) with
  | some a => some a
  | none => l.head?

/-- The dispatcher's choice (R379): the context, its command and the core; and whether the budget class is
served. -/
def State.choose (s : State) : Option (Nat × QItem × Nat) :=
  let all := s.eligible
  let w := all.filter (fun a => s.weighted a.1)
  let poor := all.filter (fun a => !s.weighted a.1)
  let b := poor.filter (fun a => decide (0 < s.credits a.1))
  if !w.isEmpty && (b.isEmpty || decide (s.dsp.wUsed * 100 ≤ s.get F.DSP_PERIOD_WSHARE * (s.dsp.wUsed + s.dsp.bUsed))) then s.leastServed w
  else if !b.isEmpty then firstFrom s.dsp.lastBudget b
  else if s.on F.DSP_CTL_IDLE_FILL then firstFrom s.dsp.lastBudget poor
  else none

/-! ### Placement (R61, R69, R79, R142, R375, R377) -/

/-- Whether DSP_SLICE holds no reserved value (R9). -/
def State.sliceLegal (s : State) : Bool :=
  decide (100 ≤ s.get F.DSP_SLICE_SLICE_US) && decide (10 ≤ s.get F.DSP_SLICE_GRACE_US) && decide (s.get F.DSP_SLICE_GRACE_US ≤ 1000)

/-- A new slice of a context begins (R377, R388): SLICE_US less the debt that can be taken off. Under a reserved DSP_SLICE an occupied core
goes on with the lengths of the slice that ends (R9). -/
def State.newSlice (s : State) (c ctx t : Nat) : State :=
  let s := s.boundary .slice 0
  let full := s.get F.DSP_SLICE_SLICE_US
  let debt := if ctx = svc then 0 else s.get (F.DSP_TNT_STAT_DEBT_US ctx)
  let off := Nat.min debt (full - full / 4)
  let cut := if ctx = svc then s else s.drop (F.DSP_TNT_STAT_DEBT_US ctx) off
  let fresh : Occupancy := ⟨ctx, t, (full - off) * 100, s.get F.DSP_SLICE_GRACE_US * 100, false, 0⟩
  match s.sliceLegal, Sparse.find s.dsp.occ c with
  | false, some o => { s with dsp := { s.dsp with occ := Sparse.put s.dsp.occ c { o with ctx := ctx, start := t, yielded := false, freed := 0 } } }
  | _, _ => { cut with dsp := { s.dsp with occ := Sparse.put s.dsp.occ c fresh } }

/-- Within this time of becoming free, in 10 ns units, a core's next command of the same tenant continues its occupancy:
the interval of placements (log entry 22: DEDUCED, unsafe). -/
def backToBack : Nat := 25

/-- The occupancy that a placement on a core continues, if it does (R375). -/
def State.goesOn (s : State) (c ctx t : Nat) : Option Occupancy :=
  (Sparse.find s.dsp.occ c).filter (fun o => o.ctx == ctx && !o.yielded && decide (t ≤ o.freed + backToBack))

/-- The occupancy of a core as a command of a context is placed on it (R375). -/
def State.occupy (s : State) (c ctx t : Nat) : State := match s.goesOn c ctx t with
  | none => s.newSlice c ctx t
  | some o => { s with dsp := { s.dsp with occ := Sparse.put s.dsp.occ c { o with freed := 0 } } }

/-- Whether a placement would use a reserved value: an allowed set of 0, or a DSP_SLICE out of its range where a slice begins (R9). -/
def State.reservedPlace (s : State) (c ctx t : Nat) : Bool :=
  (ctx != svc && s.get (F.DSP_TNT_CORES_ALLOWED ctx) == 0) || ((s.goesOn c ctx t).isNone && !(s.boundary .slice 0).sliceLegal)

/-- The fixed versions of the ranges that an item reads (R79). -/
def State.pinRange (s : State) (ctx : Nat) (r : Nat × Nat) : Pin :=
  ⟨r.1, r.2, s.cellsOf ctx r.1 r.2, (pagesOf ctx r.1 r.2).map (fun k => (s.pte k).serial)⟩

/-- The ranges of the KV pages that a KV operand covers. -/
def State.kvRanges (s : State) (i : QItem) : List (Nat × Nat) := match i.e.job with
  | .command d =>
    if d.opnds.any (fun e => e.kind == kKv) then match s.greq d.reqHandle with
      | none => []
      | some g => match s.inst g.blk.inst with
        | none => []
        | some x => g.blocks.flatten.map (fun p => (x.desc.kvPoolVa + p * subBytes, subBytes))
    else []
  | _ => []

/-- The KV_APPEND ranges of an item, whose committed positions its runs start from (R79, R97). -/
def QItem.kvOuts (i : QItem) : List (Nat × Nat) := (i.writes.filter (fun w => w.1 == kKvAppend)).map (fun w => (w.2.1, w.2.2))

/-- An item as it is first dispatched: its operand versions and the mappings of its output pages are fixed, and the
frames that it reads are pinned (R79, R480). A re-run takes the frames of pages that were lost meanwhile. -/
def State.pinItem (s : State) (i : QItem) : QItem := match i.pins with
  | some _ => { i with frames := i.frames.map (fun p => if p.2 = 0 then (p.1, (s.pte p.1).frame) else p) }
  | none =>
    let keys := s.allNeeds i
    { i with
      pins := some ((i.reads ++ s.kvRanges i ++ i.kvOuts).map (fun r => s.pinRange i.runCtx r))
      frames := keys.filterMap (fun k => if (s.pte k).state = .resident then some (k, (s.pte k).frame) else none)
      serials := i.writePages.map (fun k => (k, (s.pte k).serial)) }

/-- The pages that an item declares are stamped with the time of its dispatch, in units of 2^20 times 10 ns (R168). -/
def State.stampPages (s : State) (i : QItem) : State :=
  (s.allNeeds i ++ i.writePages).foldl (fun s k =>
    if (s.pte k).state = .unmapped then s else s.setPte k { s.pte k with stamp := s.now / 2 ^ 20 % 2 ^ 28 }) s

/-- An item leaves its queue for a unit: pinned, and its pages no longer held by the reservation (R178). -/
def State.takeItem (s : State) (i : QItem) : QItem × State :=
  let i := s.pinItem i
  let s := { s with dsp := { s.dsp with items := s.dsp.items.filter (fun y => !(y.id == i.id)) } }
  let s := (s.unhold i.held).stampPages i
  ({ i with held := [] }, s.enterWindows)

/-- The fresh buffer of an output (R80); a KV_APPEND buffer holds the positions pinned at first dispatch (R79). -/
def freshBuffer (pins : List Pin) (e : Entry) : OutBuf :=
  let here := if e.kind = kKvAppend then ((pins.find? (fun p => p.va == e.va && p.length == e.length)).map (fun p => p.cells)).getD [] else []
  ⟨e.kind, e.va, e.length, here, []⟩

/-- A core at the start of a command (R61, R69, R96, R142). -/
def startCore (i : QItem) (d : CmdDesc) (t window : Nat) : Core :=
  let pins := i.pins.getD []
  let code := match pins with
    | [] => []
    | p :: _ => words 8 d.codeLen (Sparse.fill 0 p.length 0 p.cells)
  ⟨d, i.id, t, window, code.map (fun n => BitVec.ofNat 64 n), pins, d.outs.map (freshBuffer pins), 0,
    Sparse.cells 0 1 d.args, [], [], [], ⟨0, []⟩, false, ⟨0, []⟩, false, [], [], 0, 0, 0, 0, 0, 0, 0, [], [], false, none, 0⟩

/-- Adds the wait of a command to its request's figures (R382). -/
def State.countWait (s : State) (i : QItem) (t : Nat) : State :=
  let us := usUp (t - i.readyAt.getD t)
  s.modReq i.e.job.handle (fun r => { r with tally := { r.tally with waitUs := r.tally.waitUs + us, waitMax := Nat.max r.tally.waitMax us } })

/-- The registers of a core show the command that runs on it. -/
def State.showRun (s : State) (i : QItem) (d : CmdDesc) (c : Nat) : State :=
  let s := (s.put (F.CORE_STAT_STATE c) 2).put (F.CORE_STAT_YIELD_PENDING c) 0
  let s := (s.put (F.CORE_STAT_EXTERNAL c) (b2n d.external)).put (F.CORE_STAT_SERVICE c) (b2n (i.runCtx == svc))
  let s := s.put (F.CORE_STAT_TID c) (if i.runCtx = svc then 0 else d.tid)
  (s.put (F.CORE_CMD_CMD_ID c) d.cmdId).put (F.CORE_CMD_REQ_LOW c) (d.reqHandle % 2 ^ 32)

/-- Places a command on a core (R78, R79); one that would be placed by a reserved value ends INVALID_ENCODING (R9). -/
def State.placeItem (s : State) (i : QItem) (d : CmdDesc) (c t window : Nat) : State :=
  let s := s.tick t
  let ctx := i.e.ctx
  if s.reservedPlace c ctx t then s.failItem i .invalid
  else
  let (i, s) := s.takeItem i
  let s := (s.countWait i t).occupy c ctx t
  let s := s.setCore c (startCore i d t window)
  let s := { s with dsp := { s.dsp with running := Sparse.put s.dsp.running c i } }.showRun i d c
  if s.weighted ctx then s else { s with dsp := { s.dsp with lastBudget := ctx + 1 } }

/-- A request of which no command runs at its next command boundary takes no placement while SUSPENDED (R30); the dispatcher
records an allowed set without a core in service once for each change of the cores in service (R373). -/
def State.noteEmpty (s : State) : State :=
  (s.dsp.items.map (fun i => i.e.ctx)).dedup.foldl (fun s ctx =>
    if ctx ≠ svc ∧ s.dsp.setEmpty.contains ctx = false
        ∧ (s.coresUp.filter (fun c => (s.get (F.DSP_TNT_CORES_ALLOWED ctx)).testBit c)).isEmpty then
      { s with dsp := { s.dsp with setEmpty := ctx :: s.dsp.setEmpty } }.event evDspSetEmpty .notice (some ctx) ctx 0
    else s) s

/-! ### Ends of runs (R89, R375 to R378, R383) -/

/-- Charges a run to its context (R378, R379). -/
def State.charge (s : State) (ctx us : Nat) : State :=
  let s := { s with dsp := { s.dsp with served := addAt s.dsp.served ctx us } }
  if s.weighted ctx then { s with dsp := { s.dsp with wUsed := s.dsp.wUsed + us } }
  else { s with dsp := { s.dsp with bUsed := s.dsp.bUsed + us } }.setCredits ctx (s.credits ctx - us)

/-- The counters of a run (CORE_HOLD, FCT_PORT_BYTES, FCT_PORT_WAIT, MX_TILE_WAIT, HBM_BYTES). -/
def State.countRun (s : State) (c : Nat) (m : Sample) : State :=
  let s := (List.range 3).foldl (fun s n => s.bump (F.CORE_HOLD_BEATS c n) (m.holds.getD n 0)) s
  let s := (s.bump (F.FCT_PORT_BYTES_BYTES (c / 4)) m.portBytes).bump (F.FCT_PORT_WAIT_BEATS (c / 4)) m.portWait
  let s := s.bump (F.MX_TILE_WAIT_ARRAY_BEATS c) m.tileWait
  (List.range s.stacks).foldl (fun s k => s.bump (F.HBM_BYTES_BYTES k) (m.hbm.getD k 0)) s

/-- Loupe takes a run into its window (R383): the beats of committed and killed runs, the matrix work of
committed ones. -/
def State.loupeRun (s : State) (ctx solo : Nat) (k : Core) (m : Sample) (committed killed : Bool) : State :=
  let l := (s.dsp.loupe.find? (fun l => l.ctx == ctx)).getD ⟨ctx, 0, [0, 0, 0, 0], 0, 0, 0, 0, 0⟩
  let n := b2n (committed || killed)
  let l := { l with
    busy := l.busy + n * m.busy
    stalls := (List.range 4).map (fun i => l.stalls.getD i 0 + n * m.stalls.getD i 0)
    scaled := l.scaled + n * m.busy * (4096 + solo)
    rows := l.rows + b2n committed * k.rows
    tiles := l.tiles + b2n committed * k.tiles
    commands := l.commands + 1
    kills := l.kills + b2n killed }
  { s with dsp := { s.dsp with loupe := s.dsp.loupe.filter (fun l => !(l.ctx == ctx)) ++ [l] } }

/-- The registers of a core show that it is IDLE, with its tiles dropped; ACC_SPECIAL stays until software clears it (R113). -/
def State.showIdle (s : State) (c : Nat) : State :=
  let s := (s.put (F.CORE_STAT_STATE c) 1).put (F.CORE_STAT_YIELD_PENDING c) 0
  let s := ((s.put (F.CORE_STAT_EXTERNAL c) 0).put (F.CORE_STAT_SERVICE c) 0).put (F.CORE_STAT_TID c) 0
  let s := (s.put (F.CORE_CMD_CMD_ID c) 0).put (F.CORE_CMD_REQ_LOW c) 0
  ((s.put (F.MX_STAT_SHADOW_FULL c) 0).put (F.MX_STAT_SHADOW_PAIRING c) 0).put (F.MX_STAT_ACTIVE_PAIRING c) 0

/-- The occupancy of a core stops running at a time. -/
def State.freeAt (s : State) (c t : Nat) : State :=
  { s with dsp := { s.dsp with occ := match Sparse.find s.dsp.occ c with
    | some o => Sparse.put s.dsp.occ c { o with freed := t }
    | none => s.dsp.occ } }

/-- The core is free: the registers of the running command, staged fields, retirement and OFFLINE, and the occupancy; stacks and links
that no core uses any more are idle (R14). -/
def State.freeCore (s : State) (c t : Nat) : State :=
  let s := { s with cores := Sparse.erase s.cores c, dsp := { s.dsp with running := Sparse.erase s.dsp.running c } }
  ((((s.showIdle c).freeAt c t).boundary .commit c).settleCore c).settleIdle

/-- Adds an overrun of an EXTERNAL command to its tenant's debt (R375 step 5, R377). -/
def State.debt (s : State) (c : Nat) (i : QItem) (k : Core) (t : Nat) : State := match Sparse.find s.dsp.occ c with
  | none => s
  | some o =>
    if o.yielded ∧ k.d.external ∧ o.start + o.slice < t ∧ o.ctx ≠ svc then
      let us := usUp (t - (o.start + o.slice))
      ((s.bumpSat (F.DSP_TNT_STAT_DEBT_US o.ctx) us).bumpSat F.DSP_EVENTS_DEBT_EVENTS 1).modReq i.e.job.handle
        (fun r => { r with tally := { r.tally with debt := r.tally.debt + us } })
    else s

/-- Charges a run to its context and its request. Log entry 43: DEDUCED, unsafe. -/
def State.chargeRun (s : State) (i : QItem) (k : Core) (t : Nat) : State :=
  let us := usUp (t - k.placed)
  (s.charge i.e.ctx us).modReq i.e.job.handle (fun r => { r with tally := { r.tally with coreUs := r.tally.coreUs + us } })

/-- A run ends by itself: the command has committed, or has ended without publishing (R87). -/
def State.endRun (s : State) (c : Nat) (i : QItem) (k : Core) (x : Stop) (m : Sample) : State :=
  let t := m.free
  let done := x.status == stDone
  let s := ((s.countRun c m).chargeRun i k t).debt c i k t
  let s := s.loupeRun i.e.ctx i.e.soloRatio k m done false
  let s := s.freeCore c t
  let s := s.unpinFrames i.frames
  if done then s.settle i.e.job.handle
  else
    let s := (i.fresh.foldl (fun s f => s.freeFrame f.2) s).drop F.MEM_FRAMES_HELD i.fresh.length
    (s.jobFailed i.e.job.handle i.e.job.cmdId x).settle i.e.job.handle

/-- Puts a killed command back at the head of its queue (R89, R375): its outputs are discarded, its fresh frames are
free again, and its pins stay. -/
def State.requeue (s : State) (i : QItem) (preempted : Bool) : State :=
  let s := (i.fresh.foldl (fun s f => s.freeFrame f.2) s).drop F.MEM_FRAMES_HELD i.fresh.length
  let gone := match s.req i.e.job.handle with
    | some r => r.ending.isSome || r.ended
    | none => false
  if gone then ((s.setJob i.e.job.handle i.e.job.cmdId .ended).unpinFrames i.frames).settle i.e.job.handle
  else
    let i := { i with reruns := i.reruns + 1, granted := false, held := [], fresh := [], readyAt := none }
    let s := { s with dsp := { s.dsp with items := i :: s.dsp.items } }.enterWindows
    s.modReq i.e.job.handle (fun r => { r with tally := { r.tally with
      preemptions := r.tally.preemptions + b2n preempted
      reruns := r.tally.reruns + b2n (!preempted) } })

/-- Kills the command of a core (R89). A kill at slice end is charged and counts as a pre-emption (R376, R378); one by
a fault or an island reset is neither. -/
def State.killRun (s : State) (c : Nat) (i : QItem) (k : Core) (preempted : Bool) (m : Sample) : State :=
  let s := s.countRun c m
  let s := if preempted then s.chargeRun i k m.free else s
  let s := s.loupeRun i.e.ctx i.e.soloRatio k m false true
  let s := if preempted then (s.bumpSat F.DSP_EVENTS_PREEMPTIONS 1).bumpSat (F.CORE_KILL_COUNT_YIELD_KILLS c) 1
    else s.bumpSat (F.CORE_KILL_COUNT_FAULT_KILLS c) 1
  (s.freeCore c m.free).requeue i preempted

/-- Whether a publication has not begun to be made: no record of it is in a journal stripe, and none of its updates is applied. -/
def State.unmade (s : State) (p : Pub) : Bool :=
  !(s.tier.stripes.any (fun x => x.2.any (fun r => r.pub == p.id))) && (p.scatter || !(p.outs.any (fun o => o.kind == kScatter)))

/-- A fault in the commit phase before the publication (R91): the publication of the command of a core is withdrawn, and the command is
as one that has not committed. Once a record of it is in a journal stripe, it stands (log entry 86: DESIGN CHOICE, unsafe). -/
def State.withdraw (s : State) (c : Nat) (i : QItem) (k : Core) : Option (QItem × State) :=
  ((s.tier.pubs.find? (fun p => p.ctx == i.runCtx && p.d == k.d)).filter (fun p => s.unmade p)).map (fun (p : Pub) =>
    let s := { s with
      tier := { s.tier with pubs := s.tier.pubs.filter (fun q => q.id != p.id), gathered := s.tier.gathered.filter (fun r => r.pub != p.id) }
      ftb := { s.ftb with pending := s.ftb.pending.filter (fun u => u.pub != p.id) } }
    let s := ((s.setJob k.d.reqHandle k.d.cmdId .waiting).bump F.MEM_FRAMES_HELD p.fresh.length).drop (F.CORE_CMD_COUNT_COMMITS c) 1
    ({ i with fresh := p.fresh }, s))

/-- Kills the commands of some cores that have not committed, without pre-emption, at the present time and with nothing
measured (R175, R428, R436, R440). -/
def State.killCores (s : State) (cs : List Nat) : State :=
  cs.foldl (fun s c => match s.core c, Sparse.find s.dsp.running c with
    | some k, some i => if k.ended = some ⟨stDone, 0, 0⟩ then s else s.killRun c i k false ⟨s.now, 0, [], [], 0, 0, 0, []⟩
    | _, _ => s) s

end Sys2Proof.Machine
end

