-- ==== Sys2Proof/Machine/Control.lean ====
section
/-! DEFINITION. The stager and control operations of a kernel (spec/03 "Moving data", "FENCE", "COMMIT"). -/

namespace Sys2Proof.Machine

/-- The pages in HBM that a transfer reads or writes. -/
def StageDesc.pages (d : StageDesc) (ctx : Nat) : List Nat :=
  let side := if d.dir = 0 then some (d.src, d.sstride) else if d.dir = 1 then some (d.dst, d.dstride) else none
  match side with
  | none => []
  | some (base, stride) => ((List.range d.rows).flatMap (fun i => ((rowAddr base stride i).map (fun a => pagesOf ctx a d.rb)).getD [])).dedup

/-- A transfer presents its requests to the stacks that hold its pages, and stopped ones wake (R51, R53). -/
def State.stageWakes (s : State) (c : Nat) (k : Core) (sa : Reg5) : State :=
  match Sparse.find s.dsp.running c, parseStager (k.load k.draws (k.at_ sa) 64) with
  | some i, some d =>
    let keys := d.pages i.runCtx
    let frames := (i.frames ++ i.fresh).filter (fun p => keys.contains p.1 && p.2 != 0)
    (frames.map (fun p => p.2 / framesPerStack)).dedup.foldl (fun s n => s.wake n) s
  | _, _ => s

/-- STAGE (R74, R75, R82, R107 to R109); the stacks that it meets run (R51). -/
def execStage (c : Nat) (sa : Reg5) (zero : BitVec 49) (s : State) : Res := match s.core c with
  | none => onCore c s (stageOp c sa zero)
  | some k => match stageOp c sa zero k.draws k with
    | .ok _ _ _ => onCore c (if k.takes then s.stageWakes c k sa else s) (stageOp c sa zero)
    | .stop _ => onCore c s (stageOp c sa zero)

/-- NOP (R66). -/
def execNop (c : Nat) (zero : BitVec 54) (s : State) : Res := onCore c s (fun _ => nopOp zero)

/-- FENCE (R81, R82). -/
def execFence (c : Nat) (zero : BitVec 52) (scope : BitVec 2) (s : State) : Res := onCore c s (fun _ => fenceOp zero scope)

/-- COMMIT: enters the commit phase, which publishes every declared output together, or ends the command instead (R83 to
R87, R139, R196, R298, R480). -/
def execCommit (c : Nat) (zero : BitVec 54) (s : State) : Res := match s.core c, Sparse.find s.dsp.running c with
  | some k, some i =>
    if k.takes then
      if zero ≠ 0 then .next (s.stopCore c k .invalid)
      else match s.commitStop i k with
        | some x => .next (s.stopCore c k x)
        | none => .next (s.commitPhase c i k)
    else .fault .coreNotRunning
  | _, _ => .fault .coreNotRunning

/-- ABORT (R87). -/
def execAbort (c : Nat) (zero : BitVec 38) (code : BitVec 16) (s : State) : Res := onCore c s (fun _ _ => abortOp zero code)

/-- RESERVED_INSTRUCTION_WORD: the control core fetches a word of a reserved class or operation, and the command ends INVALID_ENCODING with
nothing published (R66). -/
def execReservedInstructionWord (c : Nat) (w : Word64) (s : State) : Res :=
  if (decodeWord c w).isSome then .next s else onCore c s (fun _ _ => .stop .invalid)

end Sys2Proof.Machine
end

