-- ==== Sys2Proof/Machine/FrameOps.lean ====
section
/-! DEFINITION. Bringing pages up, reservations, lost frames and poisoned objects (spec/07 R173 to R182, R186 to
R188, R198 to R200). -/

namespace Sys2Proof.Machine

/-! ### Bringing a page up (R170, R173) -/

/-- A page takes a frame and waits for its 32 subpages (MOVING); none when no frame is free. -/
def State.startUp (s : State) (key : Nat) : Option State :=
  (s.allot (some key)).map (fun p => p.2.setPte key { p.2.pte key with state := .moving, frame := p.1 })

/-- A page has all 32 subpages in its frame (R170). -/
def State.arrive (s : State) (key : Nat) : State :=
  let p := s.pte key
  let s := s.setPte key { p with state := .resident }
  match p.home with
  | .geode => s.bump F.MEM_UP_GEODE_PAGES 1
  | .fabric => s.bump F.MEM_UP_FABRIC_PAGES 1
  | .none => s

/-- Brings a page up whole, where it is AWAY; none when no frame is free, or while its tier is OFFLINE (R222). -/
def State.bringUp (s : State) (key : Nat) : Option State :=
  if (s.pte key).state = .away then
    if (s.pte key).home = .geode ∧ s.tierOffline then none else (s.startUp key).map (fun s => s.arrive key)
  else some s

/-- Brings up every page of a list; none unless every one gets its frame. -/
def State.bringAll (s : State) : List Nat → Option State
  | [] => some s
  | k :: r => match s.bringUp k with
    | none => none
    | some s => s.bringAll r

/-- Gives each ZERO page of a list a frame; none when frames are wanting. -/
def State.fillZero (s : State) : List Nat → Option State
  | [] => some s
  | k :: r => if (s.pte k).state = .zero then match s.allot (some k) with
      | none => none
      | some (f, s) => (s.setPte k { s.pte k with state := .resident, frame := f }).fillZero r
    else s.fillZero r

/-- The pages of a range into which a sequencer publishes have frames, those AWAY brought up; none while one waits for a frame (R181). -/
def State.pagesReady (s : State) (keys : List Nat) : Option State := (s.bringAll keys).bind (fun s => s.fillZero keys)

/-! ### Reservations (R176, R177) -/

/-- Frames resident or reserved for a context (MEM_TNT_USE.RESIDENT): its pages in frames, and the fresh frames of its commands and of
the publications that await their journal. -/
def State.residentOf (s : State) (ctx : Nat) : Nat :=
  let items := s.dsp.items ++ s.dsp.running.map (fun r => r.2) ++ s.dsp.gatherRun
  (s.tier.pages.filter (fun p => p.1 / 2 ^ 27 == ctx && (p.2.state == .resident || p.2.state == .moving))).length
    + ((items.filter (fun i => i.runCtx == ctx)).map (fun i => i.fresh.length)).foldl (· + ·) 0
    + ((s.tier.pubs.filter (fun p => p.ctx == ctx)).map (fun p => p.fresh.length)).foldl (· + ·) 0

/-- Pages pinned by a context (MEM_TNT_USE.PINNED). -/
def State.pinnedOf (s : State) (ctx : Nat) : Nat :=
  (s.tier.pages.filter (fun p => p.1 / 2 ^ 27 == ctx && (p.2.pinned || p.2.homeLost))).length

/-- The pages that an item needs brought up, and its output pages without a fresh frame (R177). -/
def State.upNeed (s : State) (i : QItem) : List Nat :=
  let keys := if i.pins.isSome then (i.frames.filter (fun p => p.2 == 0)).map (fun p => p.1) else s.allNeeds i
  (keys.dedup).filter (fun k => (s.pte k).state == .away || (s.pte k).state == .moving)
def freshNeed (i : QItem) : List Nat := i.writePages.filter (fun k => (Sparse.find i.fresh k).isNone)

/-- The frames that a reservation adds to those held: pages that another holds already are counted (R179). -/
def State.heldNeed (s : State) (i : QItem) : Nat :=
  ((s.upNeed i).filter (fun k => (s.pte k).holds == 0)).length + (freshNeed i).length

/-- The frames of its own context that a reservation takes: pages already being brought up need none (R179). -/
def State.ownNeed (s : State) (i : QItem) : Nat :=
  ((s.upNeed i).filter (fun k => (s.pte k).state == .away && k / 2 ^ 27 == i.runCtx)).length + (freshNeed i).length

/-- The limit of HELD_MAX, whether its value is not reserved (R9), and the limit of FRAME_MAX for a context (R177). -/
def State.heldMaxOk (s : State) : Bool := decide (1 ≤ s.get F.MEM_CTL_HELD_MAX) && decide (s.get F.MEM_CTL_HELD_MAX ≤ 90)
def State.heldMax (s : State) : Nat := s.get F.MEM_FRAMES_TOTAL * s.get F.MEM_CTL_HELD_MAX / 100
def State.frameMax (s : State) (ctx : Nat) : Option Nat :=
  if svc ≤ ctx ∨ s.get (F.MEM_TNT_QUOTA_FRAME_MAX ctx) = 0xFFFFFFFF then none else some (s.get (F.MEM_TNT_QUOTA_FRAME_MAX ctx))

/-- Whether `n` frames more fit a context's FRAME_MAX. -/
def State.frameRoom (s : State) (ctx n : Nat) : Bool := match s.frameMax ctx with
  | none => true
  | some m => decide (s.residentOf ctx + n ≤ m)

/-- Whether one command's need alone, every page to be brought up and every output page, exceeds a limit (R177). -/
def State.needTooLarge (s : State) (i : QItem) : Bool :=
  let up := s.upNeed i
  decide (s.heldMax < up.length + i.writePages.length) || (match s.frameMax i.runCtx with
    | none => false
    | some m => decide (m < (up.filter (fun k => k / 2 ^ 27 == i.runCtx)).length + i.writePages.length))

/-- Allots the fresh frames of output pages. -/
def State.freshFrames (s : State) : List Nat → List (Nat × Nat) → Option (List (Nat × Nat) × State)
  | [], acc => some (acc, s)
  | k :: r, acc => match s.allot none with
    | none => none
    | some (f, s) => s.freshFrames r (Sparse.put acc k f)

/-- Holds a page for a reservation that does not hold it yet, giving it a frame when it is AWAY (R178, R179). -/
def State.holdPage (s : State) (mine : List Nat) (key : Nat) : Option State :=
  let s' := if (s.pte key).state = .away then s.startUp key else some s
  s'.map (fun s =>
    if mine.contains key then s
    else
      let p := s.pte key
      let s := s.setPte key { p with holds := p.holds + 1 }
      if p.holds = 0 then s.bump F.MEM_FRAMES_HELD 1 else s)

def State.holdPages (s : State) (mine : List Nat) : List Nat → Option State
  | [] => some s
  | k :: r => match s.holdPage mine k with
    | none => none
    | some s => s.holdPages mine r

/-- Grants a reservation whole; none when frames are wanting (R177). -/
def State.grant (s : State) (i : QItem) : Option State :=
  let up := s.upNeed i
  match s.holdPages i.held up with
  | none => none
  | some s' => match s'.freshFrames (freshNeed i) i.fresh with
    | none => none
    | some (fresh, s') =>
      let i' := { i with granted := true, grantedAt := s.now, waited := !up.isEmpty, held := (i.held ++ up).dedup, fresh := fresh }
      some (({ s' with dsp := { s'.dsp with items := s'.dsp.items.map (fun (x : QItem) => if x.id == i.id then i' else x) } }).bump F.MEM_FRAMES_HELD
        (freshNeed i).length)

/-! ### Eviction (R186, R187) -/

/-- A page that may be evicted. -/
def State.evictable (s : State) (p : Pte) : Bool :=
  p.state == .resident && p.dirty == 0 && !p.pinned && !p.homeLost && !p.cleaning && p.holds == 0 && !s.pinned p.frame && p.home != .none

/-- A page leaves its frame for its home. -/
def State.toHome (s : State) (key : Nat) : State :=
  let p := s.pte key
  (s.setPte key { p with state := .away, frame := 0 }).freeFrame p.frame

/-- Records MEM_NO_FRAME when FREE is 0 and no page can be evicted, once until FREE has risen above FREE_LOW (R187). -/
def State.noFrame (s : State) : State :=
  if s.tier.noFrame ∨ s.get F.MEM_FREE_FREE ≠ 0 ∨ s.tier.pages.any (fun p => s.evictable p.2) then s else { s with tier := { s.tier with noFrame := true } }.event evMemNoFrame .warning none 0 0

/-! ### Lost frames (R175, R347) -/

/-- A KV page was lost: the blocks of live requests that it holds are recomputed (R347). -/
def State.loseBlocks (s : State) (key : Nat) : State :=
  { s with gen := { s.gen with reqs := s.gen.reqs.map (fun p => match s.inst p.2.blk.inst with
    | none => p
    | some x =>
      let hit := (List.range p.2.blocks.length).filter (fun b => (p.2.blocks.getD b []).any (fun q =>
        pageKey x.tid ((x.desc.kvPoolVa + q * subBytes) / pageBytes) == key))
      (p.1, { p.2 with lost := (p.2.lost ++ hit).dedup })) } }

/-- The state of a page that lost its frame (R175). A write-back that has read it goes on. -/
def losePage (key : Nat) (p : Pte) : Pte :=
  let p := { p with frame := 0 }
  if p.durable then { p with state := .away }
  else if 2048 ≤ key / 2 ^ 27 then { p with state := .away, dirty := 0, redirty := 0 }
  else if p.dirty ≠ 0 ∨ p.home = .none then { p with state := .lost, dirty := 0, redirty := 0 }
  else { p with state := .away }

/-- Items in whose pins a frame stands. -/
def readsFrame (f : Nat) (i : QItem) : Bool := i.frames.any (fun p => p.2 == f)

/-- Marks a lost frame in an item's pins. -/
def markFrame (f : Nat) (i : QItem) : QItem := { i with frames := i.frames.map (fun p => if p.2 == f then (p.1, 0) else p) }

/-- A superseded version was lost: the commands that pinned it end FAILED with PAGE_LOST (R175). -/
def State.loseVersion (s : State) (f : Nat) : State :=
  let hit := s.dsp.running.filter (fun p => readsFrame f p.2)
  let s := hit.foldl (fun s p => match s.core p.1 with
    | some k => if k.ended.isSome then s else s.endRun p.1 p.2 k (.failed 0x0703) ⟨s.now, 0, [], [], 0, 0, 0, []⟩
    | none => s) s
  (s.dsp.items.filter (readsFrame f)).foldl (fun s i => s.failItem i (.failed 0x0703)) s

/-- A frame is lost (R175): its page is restated by its contents, and commands that read it are killed and requeued. -/
def State.loseFrame (s : State) (f : Nat) : State := match Sparse.find s.tier.frames f with
  | none => s
  | some none =>
    let fresh := s.dsp.items.any (fun i => i.fresh.any (fun p => p.2 == f)) || s.dsp.running.any (fun r => r.2.fresh.any (fun p => p.2 == f))
    if fresh then
      let s := { s with dsp := { s.dsp with items := s.dsp.items.map (fun (i : QItem) =>
        { i with fresh := i.fresh.filter (fun p => !(p.2 == f)), granted := i.granted && !(i.fresh.any (fun p => p.2 == f)) }) } }
      (s.killCores ((s.dsp.running.filter (fun r => r.2.fresh.any (fun p => p.2 == f))).map (fun r => r.1)))
    else s.loseVersion f
  | some (some key) =>
    let s := s.killCores ((s.dsp.running.filter (fun p => readsFrame f p.2)).map (fun p => p.1))
    let p := losePage key (s.pte key)
    let s := s.setPte key p
    let s := { s with
      tier := { s.tier with frames := Sparse.erase s.tier.frames f }
      dsp := { s.dsp with items := s.dsp.items.map (markFrame f), running := s.dsp.running.map (fun r => (r.1, markFrame f r.2)) } }
    if p.state = .lost then s.loseBlocks key else s

/-! ### The part's own tables (R439) -/

/-- The compute die of a stack: eight stacks each, on PNV-9310 one stack for one. -/
def State.dieOf (s : State) (k : Nat) : Nat := if s.bays = 4 then k else k / 8

/-- A stack in service for a copy whose twin lies on some stack: on another compute die where one is in service, else another stack. -/
def State.copyStack (s : State) (lost : Nat) (twin : Option Nat) : Option Nat :=
  let up := (List.range s.stacks).filter (fun k => s.stackUp k && k != lost && twin != some k)
  match up.find? (fun k => twin.all (fun t => s.dieOf t != s.dieOf k)) with
  | some k => some k
  | none => up.head?

/-- The tables as start-up places them: first copies of the page tables, command queues and Bezel memory in the reserved frames; the others
in frames in service; the flash map in one copy (log entry 94: DESIGN CHOICE, unsafe). -/
def State.placeTables (s : State) : State := match s.copyStack s.stacks none with
  | none => s
  | some a =>
    let two := fun (t : PartTable) (reserved : Bool) =>
      [(⟨t, reserved, a⟩ : TableCopy)] ++ ((s.copyStack s.stacks (some a)).map (fun b => (⟨t, false, b⟩ : TableCopy))).toList
    { s with tier := { s.tier with
      copies := two .pages true ++ two .queues true ++ two .kvMaps false ++ two .bezel true ++ (if s.hasGeode then [⟨.flashMap, false, a⟩] else []) } }

/-- A copy is lost: it is rebuilt from its twin on another stack, the flash map from the map checkpoint and the units' spare areas. -/
def State.rebuildCopy (s : State) (c : TableCopy) : State :=
  let rest := s.tier.copies.filter (fun y => y != c)
  let twin := (rest.find? (fun y => y.table == c.table)).map (fun y => y.stack)
  let made := if twin.isSome ∨ c.table = .flashMap then ((s.copyStack c.stack twin).map (fun k => (⟨c.table, false, k⟩ : TableCopy))).toList else []
  { s with tier := { s.tier with copies := rest ++ made } }

/-- The copies on a stack that satisfy `p` are lost. -/
def State.loseCopies (s : State) (stack : Nat) (p : TableCopy → Bool) : State :=
  (s.tier.copies.filter (fun c => c.stack == stack && p c)).foldl (fun s c => s.rebuildCopy c) s

/-- The frames of a stack that hold something. -/
def State.framesOf (s : State) (stack : Nat) : List Nat :=
  (s.tier.frames.map (fun p => p.1)).filter (fun f => f / framesPerStack == stack)

/-- A stack leaves service: its frames are lost one by one, its free frames are no longer counted, and TOTAL falls by its
tenant frames (R175, R438); tables that it held are rebuilt elsewhere (R439). -/
def State.dropStack (s : State) (stack state : Nat) : State :=
  let per := framesPerStack - s.reservedPerStack
  let mine := s.framesOf stack
  let s := (s.put (F.HBM_CTL_RETIRE stack) 1).put (F.HBM_STAT_STATE stack) state
  let s := (s.drop F.MEM_FRAMES_TOTAL per).drop F.MEM_FREE_FREE (per - mine.length)
  let s := mine.foldl (fun s f => s.loseFrame f) s
  let left := s.framesOf stack
  { s with tier := { s.tier with frames := s.tier.frames.filter (fun p => !left.contains p.1) } }.loseCopies stack (fun _ => true)

/-! ### Shared objects (R198 to R200) -/

/-- The page keys of an object that are listed. -/
def State.objPages (s : State) (o : Nat) : List Nat := (s.tier.pages.map (fun p => p.1)).filter (fun k => k / 2 ^ 27 == objCtx o)

/-- Contexts that map an object (MAP_COUNT). -/
def State.mapCount (s : State) (o : Nat) : Nat :=
  (((s.tier.pages.filter (fun p => p.2.state == .shared && p.2.loc == o)).map (fun p => p.1 / 2 ^ 27)).dedup).length

/-- Whether an item declares a page of an object. -/
def State.declares (s : State) (o : Nat) (i : QItem) : Bool := i.pages.any (fun k => s.governing k / 2 ^ 27 == objCtx o)

/-- Ends the commands and requests that wait on an object (R200). -/
def State.failWaiters (s : State) (o : Nat) : State :=
  (s.dsp.items.filter (fun i => i.pins.isNone && s.declares o i)).foldl (fun s i =>
    if s.dsp.items.any (fun y => y.id == i.id) then
      s.failItem i (if (s.req i.e.job.handle).isSome then ⟨stModelUnavailable, 0x0703, 0⟩ else .failed 0x0703)
    else s) s

/-- An object becomes POISONED: its pages without a source, the event, and the requests that wait on it (R198 to
R200). -/
def State.poison (s : State) (o : Nat) (x : Obj) (bad : List Nat) : State :=
  let s := bad.foldl (fun s k =>
    let p := s.pte k
    (s.setPte k { p with state := .poisoned, frame := 0 }).freeFrame p.frame) s
  let s := s.setObject o { x with state := .poisoned, episode := 0, altSince := none, altPages := [] }
  (s.event evObjPoisoned .error none o 0).failWaiters o

/-- An episode ends when every page of the object can be read again: one event names the furthest step (R199). -/
def State.endEpisode (s : State) (o : Nat) : State := match s.object o with
  | none => s
  | some x =>
    if x.altPages.isEmpty && x.episode != 0 then
      let s := s.setObject o { x with episode := 0, altSince := none }
      if x.episode = 3 then s.event evObjAltUsed .warning none o 3
      else if x.episode = 2 then s.event evObjReconstructed .notice none o 2 else s
    else s

/-- A page's logical page is free again. -/
def State.freeLpages (s : State) (key : Nat) : State := match Sparse.find s.geo.pages key with
  | none => s
  | some p => { s with geo := { s.geo with
      pages := Sparse.erase s.geo.pages key
      map := s.geo.map.filter (fun m => m.1 / unitsPerPage != p) } }

/-- A running write-back of a page is given up: the stripes that it was to fill hold nothing valid. -/
def State.dropWriteBack (s : State) (key : Nat) : State :=
  { s with geo := { s.geo with stripes := s.geo.stripes.map (fun p => (p.1, if p.2.work == some (FlashWork.writeBack key) then { p.2 with work := none } else p.2)) } }

/-- Every mapping of a page range ends (UNMAP, KEY_DESTROY): the entry, the frame when its last pin has ended, and the
contents (R206, R457). -/
def State.unmapPage (s : State) (key : Nat) : State :=
  let p := s.pte key
  let s := if p.state = .resident ∨ p.state = .moving then s.leaveFrame p.frame else s
  let s := if p.holds = 0 then s else s.drop F.MEM_FRAMES_HELD 1
  let s := ((s.setPte key Pte.none).freeLpages key).dropWriteBack key
  if p.state = .shared then s
  else { s with
    mem := Sparse.splice s.mem (key * pageBytes) pageBytes []
    tier := { s.tier with homes := Sparse.splice s.tier.homes (key * pageBytes) pageBytes [] } }

/-- Queued commands that declare an unmapped page end FAILED with PAGE_UNMAPPED (UNMAP). -/
def State.failUnmapped (s : State) (keys : List Nat) : State :=
  (s.dsp.items.filter (fun i => i.pins.isNone && i.pages.any (fun k => keys.contains k))).foldl (fun s i =>
    if s.dsp.items.any (fun y => y.id == i.id) then s.failItem i (.failed 0x0701) else s) s

/-- Objects that wait to be retired and are mapped no longer become FREE (OBJ_RETIRE). -/
def State.finishRetire (s : State) : State :=
  s.tier.objs.foldl (fun s p => match p.2.retire with
    | some (id, completion) =>
      if s.mapCount p.1 = 0 then
        let keys := s.objPages p.1
        let s := keys.foldl (fun s k => s.unmapPage k) s
        ({ s with tier := { s.tier with objs := Sparse.erase s.tier.objs p.1 } }).opEnd 8 id completion stDone 0 p.2.pages 0
      else s
    | none => s) s

end Sys2Proof.Machine
end

