-- ==== Sys2Proof/Machine/Extent.lean ====
section
/-! DEFINITION. Flash extents (spec/08 table "Extent entry (16 bytes)"), as the extent table in the service context lists them. -/

namespace Sys2Proof.Machine

/-- An extent: its first logical page, its logical pages, owner and the address of unit 0. -/
structure Extent where
  first : Nat
  pages : Nat
  tid : Nat
  va : Nat
deriving DecidableEq, Repr

/-- The VALID extent of an index of the table that GEO_EXT_TABLE names. -/
def State.extent (s : State) (i : Nat) : Option Extent :=
  let size := s.get F.GEO_EXT_TABLE_SIZE
  if size = 0 ∨ 2 ^ size ≤ i then none
  else
    let a := s.get F.GEO_EXT_TABLE_BASE + 16 * i
    let w := s.word svc a 8
    if bitsOf w 63 63 = 0 then none
    else some ⟨bitsOf w 31 0, bitsOf w 52 32, bitsOf w 62 53, bitsOf (s.word svc (a + 8) 8) 47 0⟩

/-- The VALID extents of the table, with their indices. -/
def State.extents (s : State) : List (Nat × Extent) :=
  let size := s.get F.GEO_EXT_TABLE_SIZE
  if size = 0 then [] else (List.range (2 ^ size)).filterMap (fun i => (s.extent i).map (fun e => (i, e)))

/-- The units of an extent. -/
def Extent.units (e : Extent) : Nat := unitsPerPage * e.pages

end Sys2Proof.Machine
end

