-- ==== Sys2Proof/Machine/Aes.lean ====
section
/-! DEFINITION. AES-256-XTS as IEEE 1619 defines it, for the inline engines (spec/07 R202, R203), and the arithmetic of GF(2^8) that it
shares with the Reed-Solomon parity of a stripe (spec/08 R217). Bytes are numbers below 256. -/

namespace Sys2Proof.Machine

/-! ### GF(2^8) -/

/-- Multiplies by g = 2 modulo a polynomial of degree 8. -/
def gfDouble (poly a : Nat) : Nat := if a < 128 then 2 * a else (2 * a) ^^^ poly

/-- The product of two bytes, bit by bit of the second. -/
def gfTimes (poly : Nat) : Nat → Nat → Nat → Nat
  | 0, _, _ => 0
  | bits + 1, a, b => (if b % 2 = 1 then a else 0) ^^^ gfTimes poly bits (gfDouble poly a) (b / 2)

def gfMul (poly a b : Nat) : Nat := gfTimes poly 8 a b

/-- The product of x^2, x^4, ... over `n` squarings: for n = 7 it is x^254, the inverse of x. -/
def gfSquares (poly : Nat) : Nat → Nat → Nat
  | 0, _ => 1
  | n + 1, x => let q := gfMul poly x x; gfMul poly q (gfSquares poly n q)

/-- g to a power. -/
def gfPower (poly : Nat) : Nat → Nat
  | 0 => 1
  | n + 1 => gfDouble poly (gfPower poly n)

/-! ### AES-256 -/

/-- The polynomial of AES. -/
def aesPoly : Nat := 0x11B

def spin (x k : Nat) : Nat := (x * 2 ^ k + x / 2 ^ (8 - k)) % 256

/-- SubBytes of one byte: the inverse, then the affine map. -/
def aesSub (x : Nat) : Nat :=
  let y := if x = 0 then 0 else gfSquares aesPoly 7 x
  y ^^^ spin y 1 ^^^ spin y 2 ^^^ spin y 3 ^^^ spin y 4 ^^^ 0x63

/-- The byte whose SubBytes is `y`. -/
def aesUnsub (y : Nat) : Nat := ((List.range 256).find? (fun x => aesSub x == y)).getD 0

def xorAll (a b : List Nat) : List Nat := List.zipWith (· ^^^ ·) a b

/-- The next eight key words of a key schedule, after eight words and with their round constant. -/
def nextKeys (rcon : Nat) (ws : List (List Nat)) : List (List Nat) :=
  let last := ws.getD 7 []
  let turned := xorAll ((last.drop 1 ++ last.take 1).map aesSub) [rcon, 0, 0, 0]
  let chain := fun (first : List Nat) (l : List (List Nat)) => (l.foldl (fun (acc : List (List Nat)) w => acc ++ [xorAll w (acc.getLastD first)]) ([] : List (List Nat)))
  let low := chain turned (ws.take 4)
  low ++ chain ((low.getD 3 []).map aesSub) (ws.drop 4)

/-- The key schedule: `n` more groups of eight words. -/
def keyGroups : Nat → Nat → List (List Nat) → List (List Nat)
  | 0, _, ws => ws
  | n + 1, rcon, ws => ws ++ keyGroups n (gfDouble aesPoly rcon) (nextKeys rcon ws)

/-- A list in pieces of `k`. -/
def inPieces (k : Nat) : Nat → List Nat → List (List Nat)
  | 0, _ => []
  | n + 1, l => l.take k :: inPieces k n (l.drop k)

/-- The fifteen round keys of a 256-bit key. -/
def roundKeys (key : List Nat) : List (List Nat) := inPieces 16 15 (keyGroups 7 1 (inPieces 4 8 key)).flatten

/-- ShiftRows, `k` = 1, and its inverse, `k` = 3: row r of a state held column by column moves by k * r columns. -/
def shiftRows (k : Nat) (st : List Nat) : List Nat :=
  (List.range 16).map (fun i => st.getD (4 * ((i / 4 + k * (i % 4)) % 4) + i % 4) 0)

/-- MixColumns with the coefficients of a row. -/
def mixColumns (row : List Nat) (st : List Nat) : List Nat :=
  (List.range 16).map (fun i =>
    (List.range 4).foldl (fun n j => n ^^^ gfMul aesPoly (st.getD (4 * (i / 4) + (i % 4 + j) % 4) 0) (row.getD j 0)) 0)

/-- The rounds of encryption under the round keys left, the last of them without MixColumns. -/
def aesRounds : List (List Nat) → List Nat → List Nat
  | [], st => st
  | [k], st => xorAll (shiftRows 1 (st.map aesSub)) k
  | k :: r, st => aesRounds r (xorAll (mixColumns [2, 3, 1, 1] (shiftRows 1 (st.map aesSub))) k)

/-- AES-256 encryption of a 16-byte block. -/
def aesEncrypt (keys : List (List Nat)) (block : List Nat) : List Nat := match keys with
  | [] => block
  | k :: r => aesRounds r (xorAll block k)

/-- The rounds of decryption, under the round keys in falling order. -/
def aesUnrounds : List (List Nat) → List Nat → List Nat
  | [], st => st
  | [k], st => xorAll st k
  | k :: r, st => aesUnrounds r ((shiftRows 3 (mixColumns [14, 11, 13, 9] (xorAll st k))).map aesUnsub)

/-- AES-256 decryption of a 16-byte block. -/
def aesDecrypt (keys : List (List Nat)) (block : List Nat) : List Nat := match keys.reverse with
  | [] => block
  | k :: r => aesUnrounds r ((shiftRows 3 (xorAll block k)).map aesUnsub)

/-! ### XTS over a 64-byte data unit -/

/-- The number that 16 bytes hold, the first the lowest. -/
def numberOf (l : List Nat) : Nat := l.foldr (fun b n => b + 256 * n) 0

/-- The `k` low bytes of a number. -/
def bytesOf (k n : Nat) : List Nat := (List.range k).map (fun i => n / 256 ^ i % 256)

/-- Multiplies a tweak by the primitive element of GF(2^128). -/
def tweakNext (t : Nat) : Nat := if t < 2 ^ 127 then 2 * t else (2 * t - 2 ^ 128) ^^^ 0x87

/-- The blocks of a data unit in turn, each between two additions of its tweak. -/
def xtsBlocks (cipher : List Nat → List Nat) : Nat → Nat → List Nat → List Nat
  | 0, _, _ => []
  | n + 1, t, data =>
    let mask := bytesOf 16 t
    xorAll (cipher (xorAll (data.take 16) mask)) mask ++ xtsBlocks cipher n (tweakNext t) (data.drop 16)

/-- AES-256-XTS of `n` blocks under a 512-bit key, data key first, and a 128-bit tweak; `back` decrypts. -/
def xts (back : Bool) (key : List Nat) (tweak n : Nat) (data : List Nat) : List Nat :=
  let t := numberOf (aesEncrypt (roundKeys (key.drop 32)) (bytesOf 16 tweak))
  let ks := roundKeys (key.take 32)
  xtsBlocks (if back then aesDecrypt ks else aesEncrypt ks) n t data

end Sys2Proof.Machine
end

