-- ==== Sys2Proof/Machine/Inline.lean ====
section
/-! DEFINITION. Inline encryption (spec/07 R202 to R205) and the home copies of pages. `State.mem` and `Tier.homes` hold what the stored
bytes decrypt to; every stored line of a frame, of the Geode tier and of a home is what `State.stored` makes of it. -/

namespace Sys2Proof.Machine

/-- Bytes of a line, the XTS data unit (R203). -/
def lineBytes : Nat := 64

/-- The 512-bit key of a context's lines: its tenant's key slot, its object's KEY_SLOT, or the service key (R203, R458). The bytes of a
key are Onyx's (log entry 7: DESIGN CHOICE, safe). -/
def State.engineKey (s : State) (ctx : Nat) : List Nat :=
  let slot := fun (n : Nat) => (List.range 64).map (fun i => (Config.slotKey n (s.get (F.ONX_SLOT_KCV_KCV n)) i).toNat)
  if ctx < svc then slot ctx
  else if ctx < objCtx 0 then (List.range 64).map (fun i => (Config.serviceKey (s.get F.ONX_STAT_EPOCH) i).toNat)
  else slot (1024 + ((s.object (ctx - objCtx 0)).map (fun o => o.keySlot)).getD 0)

/-- The tweak of the line at an offset of a context's range (R203). -/
def tweakOf (ctx off : Nat) : Nat :=
  off / lineBytes * lineBytes % 2 ^ 48 + (if ctx < svc then ctx * 2 ^ 48 else if ctx < objCtx 0 then 0 else (ctx - objCtx 0) * 2 ^ 48 + 2 ^ 63)

/-- Bytes of a context's range as the engines store them, line by line from a line's offset on. -/
def State.stored (s : State) (ctx : Nat) : Nat → Nat → List Byte → List Byte
  | 0, _, _ => []
  | lines + 1, off, bs =>
    (xts false (s.engineKey ctx) (tweakOf ctx off) 4 ((bs.take lineBytes).map (fun b => b.toNat))).map (fun n => BitVec.ofNat 8 n)
      ++ s.stored ctx lines (off + lineBytes) (bs.drop lineBytes)

/-- Stored bytes as the engines read them (R202). -/
def State.unstored (s : State) (ctx : Nat) : Nat → Nat → List Byte → List Byte
  | 0, _, _ => []
  | lines + 1, off, bs =>
    (xts true (s.engineKey ctx) (tweakOf ctx off) 4 ((bs.take lineBytes).map (fun b => b.toNat))).map (fun n => BitVec.ofNat 8 n)
      ++ s.unstored ctx lines (off + lineBytes) (bs.drop lineBytes)

/-- The offset of a page key's byte in its context's range. -/
def rangeOff (key off : Nat) : Nat := key % 2 ^ 27 * pageBytes + off

/-- What a line of a frame holds: ciphertext under the key of its page (R202); none of a frame that holds no current page. -/
def State.frameLine (s : State) (f line : Nat) : Option (List Byte) := match Sparse.find s.tier.frames f with
  | some (some key) =>
    some (s.stored (key / 2 ^ 27) 1 (rangeOff key (lineBytes * line)) (Sparse.read 0 s.mem (key * pageBytes + lineBytes * line) lineBytes))
  | _ => none

/-- What the home of a page holds from a line's offset on: ciphertext, or plaintext with ENC_HOME 0 (R202, R204). -/
def State.homeForm (s : State) (key off lines : Nat) : List Byte :=
  let plain := Sparse.read 0 s.tier.homes (key * pageBytes + off) (lineBytes * lines)
  if (s.pte key).encHome || (s.pte key).home == .geode then s.stored (key / 2 ^ 27) lines (rangeOff key off) plain else plain

/-- What a read of a tenant frame or of a home copy by privileged software through the tier manager returns: ciphertext (R205). -/
def State.managerRead (s : State) (key line : Nat) : List Byte :=
  let plain := if (s.pte key).state == .resident then Sparse.read 0 s.mem (key * pageBytes + lineBytes * line) lineBytes
    else Sparse.read 0 s.tier.homes (key * pageBytes + lineBytes * line) lineBytes
  s.stored (key / 2 ^ 27) 1 (rangeOff key (lineBytes * line)) plain

/-- Subpages of a page are copied into its home (R184). -/
def State.copyHome (s : State) (key : Nat) (subs : BitVec 32) : State :=
  { s with tier := { s.tier with
    homes := ((List.range 32).filter (fun i => subs.getLsbD i)).foldl (fun h i =>
      let at_ := key * pageBytes + i * subBytes
      Sparse.splice h at_ subBytes (Sparse.slice s.mem at_ subBytes)) s.tier.homes } }

/-- The puts that carry subpages to a fabric home, in stored form and moved without decryption unless ENC_HOME is 0 (R184, R204). A
window that is not VALID takes none. -/
def State.putHome (s : State) (key : Nat) (subs : BitVec 32) : State := match Sparse.find s.ktr.map (s.pte key).loc with
  | none => s
  | some w =>
    if w.valid = false then s
    else ((List.range 32).filter (fun i => subs.getLsbD i)).foldl (fun s i =>
      s.putHall (w.base + (s.pte key).page * pageBytes + i * subBytes) w.key w.tc (s.homeForm key (i * subBytes) (subBytes / lineBytes)) (.tier key)) s

/-- Whether puts of a page's write-back are not all acknowledged. -/
def State.putsOut (s : State) (key : Nat) : Bool := s.ktr.ops.any (fun o => o.issuer == .tier key)

end Sys2Proof.Machine
end

