-- ==== Sys2Proof/Machine/Sha256.lean ====
section
/-! DEFINITION. SHA-256 (FIPS 180-4), which Onyx's measurement registers use (spec/18 R453), and CRC-32C over the bytes of an event
record (spec/19). -/

namespace Sys2Proof.Machine

/-- The largest number of at most `bits` binary digits, added to `low`, whose `k`-th power does not pass `n`: the
digits are tried from the highest down. -/
def rootFloor (k n : Nat) : Nat → Nat → Nat
  | 0, low => low
  | bits + 1, low => rootFloor k n bits (if (low + 2 ^ bits) ^ k ≤ n then low + 2 ^ bits else low)

/-- The numbers below 312 that no smaller number above 1 divides: 64 of them. -/
def smallPrimes : List Nat :=
  (List.range 312).filter (fun p => decide (2 ≤ p) && (List.range p).all (fun d => decide (d < 2) || p % d != 0))

/-- The first 32 bits behind the point of the `k`-th root of `p`. -/
def rootFraction (k p : Nat) : BitVec 32 := BitVec.ofNat 32 (rootFloor k (p * 2 ^ (32 * k)) 38 0)

/-- The exclusive or of a word turned right by each of the distances. -/
def turned (x : BitVec 32) (by_ : List Nat) : BitVec 32 := by_.foldl (fun r n => r ^^^ x.rotateRight n) 0

/-- Where a block stands between two rounds: the last four values of each of the two running words, newest first,
and the sixteen message words that come next. -/
structure ShaRow where
  left : List (BitVec 32)
  right : List (BitVec 32)
  window : List (BitVec 32)
deriving DecidableEq, Repr

/-- The word that enters the window as its first word leaves it. -/
def ShaRow.newest (r : ShaRow) : BitVec 32 :=
  match r.window with
  | w :: x :: _ =>
    let z := r.window.getD 14 0
    w + r.window.getD 9 0 + (turned x [7, 18] ^^^ x >>> 3) + (turned z [17, 19] ^^^ z >>> 10)
  | _ => 0

/-- The row after one round with the round's constant. -/
def ShaRow.advance (r : ShaRow) (k : BitVec 32) : ShaRow :=
  match r.left, r.right with
  | [l1, l2, l3, l4], [r1, r2, r3, r4] =>
    let common := k + r.window.headD 0 + r4 + (r3 ^^^ (r1 &&& (r2 ^^^ r3))) + turned r1 [6, 11, 25]
    ⟨[common + turned l1 [2, 13, 22] + ((l1 &&& (l2 ||| l3)) ||| (l2 &&& l3)), l1, l2, l3],
      [common + l4, r1, r2, r3], r.window.tail ++ [r.newest]⟩
  | _, _ => r

def beWord (bs : List Byte) : BitVec 32 := BitVec.ofNat 32 (bs.foldl (fun n b => n * 256 + b.toNat) 0)

/-- The eight words of a digest after the block of 64 bytes at the front, one round for each of the primes, whose cube
roots give the constants. -/
def shaBlock (h : List (BitVec 32)) (bs : List Byte) : List (BitVec 32) :=
  let start : ShaRow := ⟨h.take 4, h.drop 4, (List.range 16).map (fun i => beWord ((bs.drop (4 * i)).take 4))⟩
  let last := smallPrimes.foldl (fun r p => r.advance (rootFraction 3 p)) start
  List.zipWith (fun x y => x + y) h (last.left ++ last.right)

/-- The digest words after `n` blocks. -/
def shaBlocks : Nat → List (BitVec 32) → List Byte → List (BitVec 32)
  | 0, h, _ => h
  | n + 1, h, bs => shaBlocks n (shaBlock h bs) (bs.drop 64)

def beBytes (n v : Nat) : List Byte := ((List.range n).map (fun i => BitVec.ofNat 8 (v / 256 ^ i))).reverse

/-- SHA-256 of a message: closed by a one bit, zeros to 56 bytes modulo 64 and the length in bits; the square roots
of the first eight primes start the digest. -/
def sha256 (msg : List Byte) : List Byte :=
  let zeros := 63 - (msg.length + 8) % 64
  let padded := msg ++ BitVec.ofNat 8 128 :: List.replicate zeros 0 ++ beBytes 8 (8 * msg.length)
  (shaBlocks (padded.length / 64) ((smallPrimes.take 8).map (rootFraction 2)) padded).flatMap (fun w => beBytes 4 w.toNat)

def crcBit (c : BitVec 32) : BitVec 32 := if c.getLsbD 0 then c >>> 1 ^^^ 0x82F63B78 else c >>> 1

def crcByte (c : BitVec 32) (b : Byte) : BitVec 32 :=
  let x := c ^^^ b.zeroExtend 32
  crcBit (crcBit (crcBit (crcBit (crcBit (crcBit (crcBit (crcBit x)))))))

/-- CRC-32C (Castagnoli), as usually written: reflected, with all ones at the start and inverted at the end. -/
def crc32c (bs : List Byte) : BitVec 32 := ~~~ (bs.foldl crcByte (BitVec.allOnes 32))

end Sys2Proof.Machine
end

