-- ==== Sys2Proof/Machine/GeoOps.lean ====
section
/-! DEFINITION. The flash translation layer, the channels, the bays and the tier's state (spec/08). -/

namespace Sys2Proof.Machine

/-! ### Bays and stripes (R211, R217, R219) -/

def Bay.none : Bay := ⟨Option.none, [], false, 0, 0, 0⟩
def State.bay (s : State) (b : Nat) : Bay := (Sparse.find s.geo.bays b).getD Bay.none
def State.setBay (s : State) (b : Nat) (x : Bay) : State := { s with geo := { s.geo with bays := Sparse.put s.geo.bays b x } }
def State.bayState (s : State) (b : Nat) : Nat := s.get (F.GEO_BAY_STAT_STATE b)

/-- Data units of a stripe: 6 over 8 bays, 2 over 4 (section "Layout across bays"). -/
def State.dataUnits (s : State) : Nat := s.bays - 2

/-- Bays that new stripes are written to: IN_SERVICE, RESYNC and REBUILDING. -/
def State.written (s : State) (b : Nat) : Bool := let st := s.bayState b; st == 4 || st == 5 || st == 6

def State.stripe (s : State) (id : Nat) : Option GStripe := Sparse.find s.geo.stripes id

/-- Changes a stripe that is there. -/
def State.modStripe (s : State) (id : Nat) (f : GStripe → GStripe) : State := match s.stripe id with
  | some x => { s with geo := { s.geo with stripes := Sparse.put s.geo.stripes id (f x) } }
  | none => s

/-- The bay of data slot `i` of a stripe, or of P and Q as slots `d` and `d + 1` (R217). -/
def GStripe.bayOf (x : GStripe) (b d i : Nat) : Nat :=
  let rho := (x.row + x.channel) % b
  if i < d then (rho + 2 + i) % b else (rho + (i - d)) % b

/-- Whether a slot of a stripe holds a programmed unit: data slots as far as it is filled, a journal stripe's all, and the parity. -/
def GStripe.filled (x : GStripe) (d i : Nat) : Bool := decide (d ≤ i) || x.jrn.isSome || decide (i < x.slots.length)

/-- Whether a bay's unit of a stripe can be read: the bay takes part, and the unit has been written to it. A rebuild or resync reads
and writes behind its cursor like any other (R225). -/
def State.unitThere (s : State) (x : GStripe) (b : Nat) : Bool := s.written b && !x.missing.contains b && x.work.isNone

/-- Whether the other bays hold enough units of a stripe to reconstruct a bay's: any D of them (R219). An unfilled data slot is known to
be empty and needs no read. -/
def State.canRebuild (s : State) (x : GStripe) (b : Nat) : Bool :=
  let slots := (List.range s.bays).filter (fun i => x.bayOf s.bays s.dataUnits i != b)
  decide (s.dataUnits ≤ (slots.filter (fun i => !x.filled s.dataUnits i || s.unitThere x (x.bayOf s.bays s.dataUnits i))).length)

/-- The bytes of a logical unit as the tier stores them (R202): a unit of a page's home, or of an extent. -/
def State.unitBytes_ (s : State) (u : Nat) : List Byte :=
  let p := u / unitsPerPage
  match s.geo.pages.find? (fun x => x.2 == p) with
  | some (key, _) => s.homeForm key (u % unitsPerPage * unitBytes) (unitBytes / lineBytes)
  | none => match s.extents.find? (fun e => decide (e.2.first ≤ p) && decide (p < e.2.first + e.2.pages)) with
    | some (_, e) =>
      let va := e.va + (u - unitsPerPage * e.first) * unitBytes
      s.stored e.tid (unitBytes / lineBytes) va (s.load e.tid va unitBytes)
    | none => List.replicate unitBytes 0

/-- The parity units of a stripe over its data units, byte by byte: P their sum, Q their sum weighted by the powers of g (R217). -/
def parityP (units : List (List Byte)) : List Byte :=
  units.foldl (fun p u => List.zipWith (· ^^^ ·) p u) (List.replicate unitBytes 0)

def parityQ (units : List (List Byte)) : List Byte :=
  (units.mapIdx (fun i u => (i, u))).foldl (fun q (x : Nat × List Byte) =>
    List.zipWith (fun a b => a ^^^ BitVec.ofNat 8 (gfMul 0x11D (gfPower 0x11D x.1) b.toNat)) q x.2) (List.replicate unitBytes 0)

/-- The data units of a stripe as its members hold them; a slot that is not filled counts as zeros. -/
def State.stripeUnits (s : State) (x : GStripe) : List (List Byte) :=
  (List.range s.dataUnits).map (fun i => match x.slots[i]? with
    | some u => s.unitBytes_ u
    | none => List.replicate unitBytes 0)

/-- The bytes of a slot of a stripe that holds logical units. -/
def State.slotBytes (s : State) (x : GStripe) (i : Nat) : List Byte :=
  let us := s.stripeUnits x
  if i < s.dataUnits then us.getD i [] else if i = s.dataUnits then parityP us else parityQ us

/-! ### Channels (R180, R212, R214, R215) -/

/-- The class of an operation by what it is for (table of R180; R212, R214, R215, R225, R227, R485; spec/09 "Committing an update"). -/
def FlashWork.cls : FlashWork → Nat
  | .bringUp _ | .reconstruct _ _ | .journal _ | .program _ _ | .update _ => 1
  | .scan | .fetch _ => 2
  | .prefetch _ | .writeBack _ | .fold _ | .patrol | .rebuild | .collect | .relocate => 3

def FlashOp.cls (o : FlashOp) : Nat := FlashWork.cls o.work

def State.chan (s : State) (c : Nat) : Chan := (Sparse.find s.geo.chans c).getD ⟨none, none, []⟩

/-- The state of a channel that GEO_CH_STAT shows. -/
def Chan.code (x : Chan) : Nat := match x.cur, x.suspended with
  | none, none => 1
  | none, some _ => 5
  | some _, some _ => 5
  | some o, none => o.kind

/-- The operations that a channel holds. -/
def Chan.ops (x : Chan) : List FlashOp := x.cur.toList ++ x.suspended.toList ++ x.queue

/-- GEO_CH_STAT follows its channel. -/
def State.setChan (s : State) (c : Nat) (x : Chan) : State :=
  let n := fun (k : Nat) => (x.queue.filter (fun o => FlashOp.cls o == k)).length
  (((({ s with geo := { s.geo with chans := if x.ops.isEmpty then Sparse.erase s.geo.chans c else Sparse.put s.geo.chans c x } }.put
    (F.GEO_CH_STAT_STATE c) x.code).put (F.GEO_CH_STAT_Q1 c) (n 1)).put (F.GEO_CH_STAT_Q2 c) (n 2)).put (F.GEO_CH_STAT_Q3 c) (n 3)).settleIdle

/-- The channel of a slot of a stripe. -/
def State.chanOf (s : State) (x : GStripe) (slot : Nat) : Nat := 8 * x.bayOf s.bays s.dataUnits slot + x.channel

/-- An operation joins the queue of its channel. -/
def State.queueOp (s : State) (x : GStripe) (o : FlashOp) : State :=
  let c := s.chanOf x o.slot
  let y := s.chan c
  s.setChan c { y with queue := y.queue ++ [o] }

/-- Whether programs of a work are not all done (R190, R215). -/
def State.programming (s : State) (w : FlashWork) : Bool := s.geo.chans.any (fun p => p.2.ops.any (fun o => o.kind == 3 && o.work == w))

/-- The reads of the other units that reconstruct a unit, D of them, join their channels in class 1 (R219, R220). -/
def State.queueRebuild (s : State) (id : Nat) (x : GStripe) (slot : Nat) : State :=
  let b := x.bayOf s.bays s.dataUnits slot
  let others := (List.range s.bays).filter (fun i => x.bayOf s.bays s.dataUnits i != b && x.filled s.dataUnits i && s.unitThere x (x.bayOf s.bays s.dataUnits i))
  (others.take s.dataUnits).foldl (fun s i => s.queueOp x ⟨2, .reconstruct id slot, id, i, 0⟩) s

/-- Whether reads of a page's units, or of units that reconstruct one of them, are outstanding (R170). -/
def State.readingPage (s : State) (key : Nat) : Bool :=
  s.geo.chans.any (fun p => p.2.ops.any (fun o => match o.work with
    | .bringUp k | .prefetch k => k == key
    | .reconstruct id slot => ((s.stripe id).bind (fun x => x.slots[slot]?)).any (fun u => Sparse.find s.geo.pages key == some (u / unitsPerPage))
    | _ => false))

/-! ### Wear (R228) -/

/-- LIFE_USED of a bay. -/
def Bay.life (x : Bay) : Nat :=
  let rated := (x.cart.map (fun c => c.ratedTb)).getD 0
  Nat.min (Nat.max (if rated = 0 then 0 else x.bytes * 1000 / (rated * 10 ^ 12)) x.worn) 0xFFFF

/-- GEO_BAY_WEAR follows; GEO_LIFE_WARN is recorded at 900 and again at 1,000 and beyond. -/
def State.showWear (s : State) (b : Nat) : State :=
  let x := s.bay b
  let old := s.get (F.GEO_BAY_WEAR_LIFE_USED b)
  let life := x.life
  let s := (s.put (F.GEO_BAY_WEAR_LIFE_USED b) life).put (F.GEO_BAY_WEAR_PROGRAMMED_GB b) (x.bytes / 10 ^ 9)
  if (900 ≤ life ∧ old < 900) ∨ (1000 ≤ life ∧ old < life) then s.event evGeoLifeWarn .warning none b life else s

/-- A unit is programmed into a bay's cartridge. -/
def State.wear (s : State) (b : Nat) : State := (s.setBay b { s.bay b with bytes := (s.bay b).bytes + unitBytes }).showWear b

/-- A stripe has been written without a bay's unit: it joins the bay's pending list, or that overflows (R221). -/
def State.leaveOut (s : State) (id b : Nat) : State :=
  let y := s.bay b
  if y.pending.length < 2 ^ 24 then s.setBay b { y with pending := y.pending ++ [id] } else s.setBay b { y with overflow := true }

/-! ### Writing logical units (R212, R217, R218, R221) -/

/-- Places one stripe: fresh, on the next channel index, without the units of absent bays, which is noted in their lists. Programs join
the channels where something awaits them (`work`). -/
def State.placeStripe (s : State) (folded : Bool) (units : List Nat) (jrn : Option Nat) (work : Option FlashWork) : State :=
  let id := s.geo.nextStripe
  let c := s.geo.rotor
  let x : GStripe := ⟨c, Sparse.get 0 s.geo.rows c, units, folded, (List.range s.bays).filter (fun b => !s.written b), jrn, work⟩
  let s := { s with geo := { s.geo with
    stripes := Sparse.put s.geo.stripes id x
    nextStripe := id + 1
    rotor := (c + 1) % 8
    rows := addAt s.geo.rows c 1 } }
  (List.range s.bays).foldl (fun s i =>
    let b := x.bayOf s.bays s.dataUnits i
    if x.missing.contains b then s.leaveOut id b
    else if x.filled s.dataUnits i then match work with
      | some w => (s.wear b).queueOp x ⟨3, w, id, i, 0⟩
      | none => s.wear b
    else s) s

/-- Places logical units, stripe by stripe. -/
def State.placeUnits (s : State) (folded : Bool) (work : Option FlashWork) : Nat → List Nat → State
  | 0, _ => s
  | fuel + 1, us => if us.isEmpty then s
    else (s.placeStripe folded (us.take s.dataUnits) none work).placeUnits folded work fuel (us.drop s.dataUnits)

/-- Logical units are remapped to the slots of a stripe (R215). -/
def State.mapStripe (s : State) (id : Nat) : State := match s.stripe id with
  | none => s
  | some x => { s with geo := { s.geo with
      map := (x.slots.mapIdx (fun i u => (u, id, i))).foldl (fun m p => Sparse.put m p.1 p.2) s.geo.map } }

/-- Writes logical units to fresh locations; with a `work` that awaits the programs they are remapped when it is acknowledged. -/
def State.geoPlace (s : State) (folded : Bool) (work : Option FlashWork) (us : List Nat) : State :=
  if s.bays < 3 then s else s.placeUnits folded work us.length us

/-- Writes logical units within a step that ends with their programs. -/
def State.geoWrite (s : State) (folded : Bool) (us : List Nat) : State :=
  let first := s.geo.nextStripe
  let t := s.geoPlace folded none us
  (List.range (t.geo.nextStripe - first)).foldl (fun s i => s.mapStripe (first + i)) t

/-- A work is acknowledged: the logical units of its stripes are remapped, in the order in which they were placed. -/
def State.ackWork (s : State) (w : FlashWork) : State :=
  ((s.geo.stripes.filter (fun p => p.2.work == some w)).map (fun p => p.1)).foldl (fun s id =>
    (s.modStripe id (fun x => { x with work := none })).mapStripe id) s

/-- Whether the unit in a slot of a stripe is valid. -/
def State.unitValid (s : State) (stripe slot u : Nat) : Bool := Sparse.find s.geo.map u == some (stripe, slot)

/-- The valid logical units of a stripe. -/
def State.validUnits (s : State) (id : Nat) (x : GStripe) : List Nat :=
  ((x.slots.mapIdx (fun i u => (i, u))).filter (fun p => s.unitValid id p.1 p.2)).map (fun p => p.2)

/-- A stripe is freed: no list names it any more (R225). -/
def State.freeStripe (s : State) (id : Nat) : State :=
  { s with geo := { s.geo with
    stripes := Sparse.erase s.geo.stripes id
    bays := s.geo.bays.map (fun p => (p.1, { p.2 with pending := p.2.pending.filter (fun n => n != id) }))
    rebuild := s.geo.rebuild.map (fun r => (r.1, r.2.filter (fun n => n != id))) } }

/-- A stripe with a unit that carries a correctable error is relocated, in class 3 (R214): the valid logical unit alone, or, for a unit of
parity or of the journal, the stripe. -/
def State.relocate (s : State) (id slot : Nat) : State := match s.stripe id with
  | none => s
  | some x =>
    if x.work.isSome then s
    else if x.jrn.isSome then (s.placeStripe false [] x.jrn none).freeStripe id
    else match x.slots[slot]? with
      | some u => if s.unitValid id slot u then s.geoWrite false [u] else s
      | none => (s.geoWrite x.folded (s.validUnits id x)).freeStripe id

/-! ### Bays that leave and return (R211, R220 to R222, R225) -/

/-- GEN is raised, and every member in service notes it (R211, "The cartridge"). -/
def State.raiseGen (s : State) : State :=
  let s := s.bump F.GEO_TIER_GEN 1
  let gen := s.get F.GEO_TIER_GEN
  (List.range s.bays).foldl (fun s b =>
    let x := s.bay b
    if s.bayState b = 4 then s.setBay b { x with cart := x.cart.map (fun (c : Cartridge) => { c with member := some (⟨true, b, gen⟩ : MemberRec) }) } else s) s

/-- GEO_TIER follows the bays, and the tier's loss of redundancy or of itself is recorded (R211, R222). -/
def State.refreshTier (s : State) : State :=
  let bs := List.range s.bays
  let up := bs.filter (fun b => s.bayState b == 4)
  let absent := s.bays - up.length
  let old := s.get F.GEO_TIER_STATE
  let st := if old = 0 ∧ bs.any (fun b => s.written b) = false then 0 else Nat.min absent 3 + 1
  let s := (s.put F.GEO_TIER_BAYS_IN ((up.map (fun b => 2 ^ b)).foldl (· + ·) 0)).put F.GEO_TIER_STATE st
  let s := if st = 3 ∧ old < 3 then s.event evGeoNoRedundancy .error none absent 0 else s
  if st = 4 ∧ old ≠ 4 then s.event evGeoTierOffline .error none absent 0 else s

/-- A rebuild or resync starts, the lower bay first, when none runs (R225, table "Events during a rebuild"): over a snapshot of the
stripes whose unit the bay lacks. -/
def State.startRebuild (s : State) : State :=
  if s.geo.rebuild.isSome then s
  else match (List.range s.bays).find? (fun b => s.bayState b == 5 || s.bayState b == 6) with
    | none => s.put F.GEO_TIER_REBUILD_BAY 0xF
    | some b =>
      let todo := (s.geo.stripes.filter (fun p => p.2.missing.contains b)).map (fun p => p.1)
      let s := { s with geo := { s.geo with rebuild := some (b, todo) } }
      ((s.put F.GEO_TIER_REBUILD_BAY b).put F.GEO_REBUILD_TOTAL todo.length).put F.GEO_REBUILD_DONE 0

/-- A bay takes a state; the channels of one that takes no part hold nothing but, while it is being removed, its programs. -/
def State.setBayState (s : State) (b st reason : Nat) : State :=
  let s := (s.put (F.GEO_BAY_STAT_STATE b) st).put (F.GEO_BAY_STAT_REASON b) reason
  (List.range 8).foldl (fun s i =>
    let c := 8 * b + i
    let x := s.chan c
    if s.written b then s.setChan c x
    else if st = 7 then
      let keep := fun (o : FlashOp) => o.kind != 2
      s.setChan c ⟨x.cur.filter keep, x.suspended, x.queue.filter keep⟩
    else (s.setChan c ⟨none, none, []⟩).put (F.GEO_CH_STAT_STATE c) 0) s

/-- The operations outstanding on a bay's channels. -/
def State.bayOps (s : State) (b : Nat) : List FlashOp := (List.range 8).flatMap (fun i => (s.chan (8 * b + i)).ops)

/-- What was outstanding on a bay that is gone (R59, R220): reads are reissued as reconstructions, and the programs of its units leave
them to its pending list, their stripes being whole but for them (R221). -/
def State.reissue (s : State) (b : Nat) (ops : List FlashOp) : State :=
  ops.foldl (fun s o => match s.stripe o.stripe with
    | none => s
    | some x =>
      if o.kind = 2 then (match o.work with
        | .patrol => s
        | _ => s.queueRebuild o.stripe x o.slot)
      else if o.kind = 3 ∧ x.missing.contains b = false then (s.modStripe o.stripe (fun x => { x with missing := x.missing ++ [b] })).leaveOut o.stripe b
      else s) s

/-- Every stripe lacks a bay's unit: its cartridge is blank, or does not know what it missed (R210). -/
def State.missAll (s : State) (b : Nat) : State :=
  { s with geo := { s.geo with stripes := s.geo.stripes.map (fun p =>
    (p.1, if p.2.missing.contains b then p.2 else { p.2 with missing := p.2.missing ++ [b] })) } }

/-- A rebuild of a bay is abandoned; a cartridge that was being rebuilt is not known to hold anything. -/
def State.dropRebuild (s : State) (b : Nat) : State :=
  let was := s.bayState b
  let s := if was = 6 then s.setBay b { s.bay b with overflow := true } else s
  if s.geo.rebuild.any (fun r => r.1 == b) then { s with geo := { s.geo with rebuild := none } } else s

/-- A bay is gone: pulled, or taken out of service by the part (R220). -/
def State.bayGone (s : State) (b : Nat) (failed : Bool) : State :=
  let was := s.bayState b
  let member := was == 4 || was == 5 || was == 6
  let ops := s.bayOps b
  let s := ((s.dropRebuild b).setBayState b (if failed then 9 else 0) 0).reissue b ops
  let s := if member then s.raiseGen else s
  let s := if failed then s.event evGeoFailed .error none b 0 else if member || was == 7 then s.event evGeoRemoved .warning none b 0 else s
  s.refreshTier.startRebuild

/-! ### Logical pages (HOME_LOC) -/

/-- The lowest logical page from `p` on that neither a page nor an extent holds. -/
def freeLpage (held : Nat → Bool) : Nat → Nat → Nat
  | 0, p => p
  | fuel + 1, p => if held p then freeLpage held fuel (p + 1) else p

/-- The logical page of a page whose home is GEODE; one is given to it where it has none (which one is the model's choice, log entry
27). -/
def State.lpageOf (s : State) (key : Nat) : Nat × State := match Sparse.find s.geo.pages key with
  | some p => (p, s)
  | none =>
    let taken := s.geo.pages.map (fun p => p.2)
    let exts := s.extents
    let held := fun p => taken.contains p || exts.any (fun e => decide (e.2.first ≤ p) && decide (p < e.2.first + e.2.pages))
    let p := freeLpage held (taken.length + (exts.map (fun e => e.2.pages)).foldl (· + ·) 0) 0
    (p, { s with geo := { s.geo with pages := Sparse.put s.geo.pages key p } })

/-- The logical units of subpages of a logical page: four each. -/
def subUnits (p : Nat) (subs : BitVec 32) : List Nat :=
  ((List.range 32).filter (fun i => subs.getLsbD i)).flatMap (fun i => (List.range 4).map (fun j => unitsPerPage * p + 4 * i + j))

/-- Writes subpages of a page home (R184): four units each to the Geode tier, or puts to a fabric home. With a `work` that awaits the
programs they are remapped when it is acknowledged. -/
def State.writeHome (s : State) (key : Nat) (subs : BitVec 32) (work : Option FlashWork) : State := match (s.pte key).home with
  | .geode =>
    let (p, s) := (s.copyHome key subs).lpageOf key
    match work with
    | some w => s.geoPlace false (some w) (subUnits p subs)
    | none => s.geoWrite false (subUnits p subs)
  | .fabric => (s.copyHome key subs).putHome key subs
  | .none => s

/-- Writes subpages of a page home within a step. -/
def State.homeWrite (s : State) (key : Nat) (subs : BitVec 32) : State := s.writeHome key subs none

/-! ### The journal's stripes (R189 to R191, R194, R196) -/

/-- Data bytes of a journal stripe: six units of 16 KiB, or two on PNV-9310. -/
def State.stripeBytes (s : State) : Nat := if s.bays = 4 then 32768 else 98304

/-- The stripes that records fill: each holds the records that end in it. -/
def cutStripes (size : Nat) : Nat → List JRec → List JRec → List (List JRec)
  | _, cur, [] => if cur.isEmpty then [] else [cur]
  | at_, cur, r :: rest =>
    if (at_ + r.bytes) / size = at_ / size then cutStripes size (at_ + r.bytes) (cur ++ [r]) rest
    else (if cur.isEmpty then [] else [cur]) ++ cutStripes size (at_ + r.bytes) [r] rest

/-- The page of a record. -/
def JRec.key (r : JRec) : Nat := pageKey r.ctx (r.va / pageBytes)

/-- The header of a record with a CRC (table "Journal record header (64 bytes)"). -/
def JRec.head (r : JRec) (crc : Nat) : List Byte :=
  let subs := ((List.range 32).filter (fun i => r.subpages.getLsbD i)).length
  leBytes 8 (1 + 1 * 2 ^ 8 + b2n r.last * 2 ^ 12 + b2n (r.ctx == svc) * 2 ^ 13 + (if r.ctx = svc then 0 else r.ctx % 1024) * 2 ^ 14 + r.subpages.toNat * 2 ^ 32)
    ++ leBytes 8 r.jseq ++ leBytes 8 r.pub ++ leBytes 8 (r.va % 2 ^ 48) ++ leBytes 4 (subBytes * subs) ++ leBytes 4 crc ++ List.replicate 24 0

/-- The payload of a record as it is stored: ciphertext, subpage by subpage. -/
def State.recPayload (s : State) (r : JRec) : List Byte :=
  ((List.range 32).filter (fun i => r.subpages.getLsbD i)).flatMap (fun i =>
    s.stored r.ctx (subBytes / lineBytes) (r.va + i * subBytes) (Sparse.fill 0 subBytes 0 (r.payload.filterMap (fun c =>
      if i * subBytes ≤ c.1 ∧ c.1 < (i + 1) * subBytes then some (c.1 - i * subBytes, c.2) else none))))

/-- A record as the journal holds it, padded to 4 KiB. -/
def State.recImage (s : State) (r : JRec) : List Byte :=
  let body := s.recPayload r
  let bs := r.head (crc32c (r.head 0 ++ body)).toNat ++ body
  bs ++ List.replicate (r.bytes - bs.length) 0

/-- The puts that carry a stripe's records to the window that MEM_JRN_WIN names, each after the one before in a ring over the window's
pages (R196; log entry 83: DESIGN CHOICE, unsafe). -/
def State.journalPut (s : State) (n : Nat) (recs : List JRec) : State := match Sparse.find s.ktr.map (s.get F.MEM_JRN_WIN_WINDOW) with
  | none => s
  | some w =>
    recs.foldl (fun s r =>
      let pos := s.tier.jrnPos
      let start := if w.pages * pageBytes < pos % Nat.max (w.pages * pageBytes) 1 + r.bytes then 0 else pos % Nat.max (w.pages * pageBytes) 1
      { s with tier := { s.tier with jrnPos := start + r.bytes } }.putHall (w.base + start) w.key w.tc (s.recImage r) (.journal n)) s

/-- The gathered records are written into stripes: placed in the Geode tier, their programs awaited unless `done`, or put into the window
(R190, R196, R217). -/
def State.writeGroup (s : State) (done : Bool) : State :=
  let cut := (cutStripes s.stripeBytes 0 [] s.tier.gathered).mapIdx (fun i (rs : List JRec) =>
    (s.tier.nextStripe + i, rs.map (fun (r : JRec) => { r with stripe := s.tier.nextStripe + i })))
  let s := { s with tier := { s.tier with
    gathered := []
    full := false
    stripes := s.tier.stripes ++ cut
    nextStripe := s.tier.nextStripe + cut.length } }
  cut.foldl (fun s (x : Nat × List JRec) =>
    if s.hasGeode then s.placeStripe false [] (some x.1) (if done then none else some (.journal x.1)) else s.journalPut x.1 x.2) s

/-- Journal stripes whose records are all retired are free. -/
def State.freeJournal (s : State) : State :=
  let held := s.tier.stripes.map (fun p => p.1) ++ s.tier.covered.map (fun r => r.stripe)
  ((s.geo.stripes.filter (fun p => p.2.work.isNone && p.2.jrn.any (fun n => !held.contains n))).map (fun p => p.1)).foldl (fun s id => s.freeStripe id) s

/-- Whether a journal stripe is not whole in the journal: a program of it, or a put, is outstanding (R190, R196). -/
def State.journaling (s : State) (n : Nat) : Bool := s.programming (.journal n) || s.ktr.ops.any (fun o => o.issuer == .journal n)

end Sys2Proof.Machine
end

