-- ==== Sys2Proof/Machine/FtbOps.lean ====
section
/-! DEFINITION. Rows of feature tables: directory, heaps, widening and narrowing, the reduction of updates (spec/11
R288, R294, R295, R299, R303, R304). -/

namespace Sys2Proof.Machine

/-- The element format of a width. -/
def widthFmt (w : Nat) : Nat := if w = 1 then Fmt.f32 else if w = 2 then Fmt.b16 else if w = 3 then Fmt.p8 else Fmt.i8

/-- The widths of a table whose heaps exist, from F32 on (the width ladder). -/
def Table.ladder (t : Table) : List Nat := ([1, 2, 3, 4] : List Nat).filter (fun w => t.desc.heapVa.getD (w - 1) 0 != 0 && t.desc.slots.getD (w - 1) 0 != 0)

def Table.ctx (t : Table) : Nat := tableCtx t.desc

/-- The row descriptor of a row: its width (0: ABSENT) and slot. -/
def State.rowDesc (s : State) (t : Table) (r : Nat) : Nat × Nat :=
  let w := s.word t.ctx (t.desc.dirVa + 8 * r) 8
  (bitsOf w 2 0, bitsOf w 63 32)

def Table.rowVa (t : Table) (w slot : Nat) : Nat := t.desc.heapVa.getD (w - 1) 0 + slot * heapRow t.desc.dim w

/-- Widens the bytes of a heap row to F32 (R288). -/
def widenRow (dim w : Nat) (bs : List Byte) : List F32 :=
  if w = 1 then f32s dim bs
  else if w = 2 then (elemCodes Fmt.b16 dim bs).map (Fmt.widen Fmt.b16)
  else
    let scale := BitVec.ofNat 32 (leNat (bs.take 4))
    (elemCodes (widthFmt w) dim (bs.drop 4)).map (fun c => Fp.mul scale (Fmt.widen (widthFmt w) c))

/-- A row as F32; an ABSENT one is +0 in every element. -/
def State.rowOf (s : State) (t : Table) (r : Nat) : List F32 :=
  let (w, slot) := s.rowDesc t r
  if w = 0 then List.replicate t.desc.dim 0 else widenRow t.desc.dim w (s.load t.ctx (t.rowVa w slot) (heapRow t.desc.dim w))

/-- The counter of a row's stochastic rounding: the top bit (0 an update, 1 a migration's copy), PUB, row and element. -/
def rowCtr (top pub r e : Nat) : BitVec 64 := BitVec.ofNat 64 (top * 2 ^ 63 + pub % 2 ^ 19 * 2 ^ 44 + r * 2 ^ 12 + e)

/-- Narrows a row into the bytes of a width, and counts saturated elements (R299). -/
def Table.narrowRow (t : Table) (w top pub r : Nat) (v : List F32) : List Byte × Nat :=
  let draw := fun e => if t.desc.round = 1 then some (Fmt.draw16 t.desc.seed (rowCtr top pub r e)) else none
  let pad := fun (bs : List Byte) => bs ++ List.replicate (heapRow t.desc.dim w - bs.length) 0
  if w = 1 then (pad (v.flatMap (fun x => leBytes 4 x.toNat)), 0)
  else
    let fmt := widthFmt w
    let a := v.foldl (fun m x => Fp.maxNum m (Fp.abs x)) 0
    let scale := if w = 2 then Fp.one else if Fp.isZero a then Fp.one else Fmt.scaleUp a fmt
    let ns := v.mapIdx (fun e x => Fmt.narrow (if w = 2 then x else if Fp.isZero a then 0 else Fp.div x scale) fmt (draw e))
    let bs := packElems fmt (ns.map (fun n => n.code))
    (pad (if w = 2 then bs else leBytes 4 scale.toNat ++ bs), (ns.filter (fun n => n.sat)).length)

/-- Present rows with width and slot, as the directory lists them. -/
def State.dirRows (s : State) (t : Table) : List (Nat × Nat × Nat) :=
  let cells := s.cellsOf t.ctx t.desc.dirVa (8 * t.desc.rows)
  (((cells.map (fun c => c.1 / 8)).dedup).map (fun r => (r, s.rowDesc t r))).filter (fun x => x.2.1 != 0)

/-- Slots of a width that hold a row or are allotted to a migration (FTB_HEAP_USE.USED). -/
def State.usedSlots (s : State) (t : Table) (w : Nat) : List Nat :=
  (((s.dirRows t).filter (fun x => x.2.1 == w)).map (fun x => x.2.2)
    ++ (t.migs.filter (fun m => m.dst == w)).map (fun m => m.slot)
    ++ (t.migs.filter (fun m => m.src == w)).map (fun m => m.old)).dedup

/-- The lowest free slot of a width. -/
def State.freeSlot (s : State) (t : Table) (w : Nat) : Option Nat :=
  let used := s.usedSlots t w
  if used.length < t.desc.slots.getD (w - 1) 0 then (List.range (used.length + 1)).find? (fun n => !used.contains n) else none

/-- The width and slot that a row takes as it first becomes present: DEFAULT_WIDTH, narrower widths, wider widths (R299). -/
def State.firstHeap (s : State) (t : Table) : Option (Nat × Nat) :=
  let d := t.desc.defaultWidth
  let order := (d :: (t.ladder.filter (fun w => decide (d < w)))) ++ (t.ladder.filter (fun w => decide (w < d))).reverse
  order.findSome? (fun w => (s.freeSlot t w).map (fun n => (w, n)))

/-- A write of some bytes of a range at a publication. -/
def patch (va : Nat) (bs : List Byte) : OutBuf := ⟨kKvAppend, va, bs.length, Sparse.cells 0 0 bs, [(0, bs.length)]⟩

/-- The bytes of a row descriptor. -/
def rowDescBytes (w slot : Nat) : List Byte := leBytes 8 (w + slot * 2 ^ 32)

/-- Row numbers with their delta rows, in ascending order, stable (R299). -/
def sortRows (l : List (Nat × List F32)) : List (Nat × List F32) := l.mergeSort (fun a b => decide (a.1 ≤ b.1))

/-- The reduced sum of one row's deltas, in order, from +0 (R299). -/
def sumRows (dim : Nat) (l : List (List F32)) : List F32 := l.foldl (fun s d => List.zipWith Fp.add s d) (List.replicate dim 0)

/-- The state that a publication's writes so far would leave, for reading alone. -/
def State.ahead (s : State) (ctx : Nat) (outs : List OutBuf) : State := outs.foldl (fun s o => s.publishOut (fun _ => true) ctx o) s

/-- Applies one reduced sum to a row (R299): the writes, and the elements that saturated. -/
def State.applyRow (s : State) (t : Table) (pub r : Nat) (sum : List F32) : List OutBuf × Nat :=
  let v := List.zipWith Fp.add (s.rowOf t r) sum
  let (w, slot) := s.rowDesc t r
  if w ≠ 0 then
    let (bs, sat) := t.narrowRow w 0 pub r v
    ([patch (t.rowVa w slot) bs], sat)
  else match s.firstHeap t with
    | none => ([], 0)
    | some (w, slot) =>
      let (bs, sat) := t.narrowRow w 0 pub r v
      ([patch (t.rowVa w slot) bs, patch (t.desc.dirVa + 8 * r) (rowDescBytes w slot)], sat)

/-- The logs of running migrations take a reduced sum (table "Migration of row r from width a to width b", step 3). -/
def logSum (pub r : Nat) (sum : List F32) (m : Migration) : Migration :=
  if m.row = r ∧ m.switched = false then { m with log := m.log ++ [(pub, sum)] } else m

/-- Queues a migration of a row unless one is queued or runs. -/
def Table.wish (t : Table) (row width : Nat) (opId : Option Nat) (completion : Nat) : Table :=
  if t.queued.any (fun q => q.row == row && q.opId.isNone && opId.isNone) || t.migs.any (fun m => m.row == row && opId.isNone) then t
  else { t with queued := t.queued ++ [⟨row, width, opId, completion⟩] }

/-- The width one place wider or narrower on the ladder. -/
def Table.wider (t : Table) (w : Nat) : Option Nat := (t.ladder.filter (fun x => decide (x < w))).getLast?
def Table.narrower (t : Table) (w : Nat) : Option Nat := (t.ladder.filter (fun x => decide (w < x))).head?

/-- Whether the engine queues migrations by popularity (R303). -/
def State.autoMig (s : State) (t : Table) : Bool := t.desc.autoMig && s.on F.FTB_CTL_MIG_EN

/-- A gather counts a unique row (R302), and may queue its promotion (R303). -/
def State.hitRow (s : State) (t : Table) (r : Nat) : Table :=
  if t.desc.shared then t
  else
    let n := Sparse.get 0 t.hits r
    let n' := Nat.min (n + 1) 255
    let t' := { t with hits := Sparse.set 0 t.hits r n' }
    let w := (s.rowDesc t r).1
    if s.autoMig t ∧ n < t.desc.promoteHits ∧ t.desc.promoteHits ≤ n' ∧ w ≠ 0 then match t.wider w with
      | some b => t'.wish r b none 0
      | none => t'
    else t'

/-- Whether a publication that awaits its effect, other than `self`, writes a table: the engine then takes no further one of it (R300). -/
def State.tableBusyBut (s : State) (self : Nat) (t : Table) : Bool :=
  s.tier.pubs.any (fun p => p.id != self && p.ctx == t.ctx && p.outs.any (fun o => (tableRanges t.desc).any (fun r => rangesMeet o.va o.length r.1 r.2)))

def State.tableBusy (s : State) (t : Table) : Bool := s.tableBusyBut 0 t

/-- The engine waits for pages of a table that have left HBM: those AWAY start to be brought up (R290); none when every page is there. -/
def State.tableAway (s : State) (t : Table) : Option State :=
  let gone := (t.keys.map (fun k => s.governing k)).filter (fun k => (s.pte k).state == .away || (s.pte k).state == .moving)
  if gone.isEmpty then none else some (gone.foldl (fun s k => if (s.pte k).state = .away then (s.startUp k).getD s else s) s)

/-- A dropped table goes once its publications and migrations have ended: its pages are unpinned (R308). -/
def State.sweepTables (s : State) : State :=
  (s.ftb.tables.filter (fun p => p.2.dropping && !(s.ftb.pending.any (fun u => u.table == p.1)) && p.2.migs.isEmpty && !s.tableBusy p.2)).foldl (fun s p =>
    let s := (p.2.keys.map (fun k => s.governing k)).foldl (fun s k => if (s.pte k).state = .unmapped then s else s.setPte k { s.pte k with pinned := false }) s
    { s with ftb := { s.ftb with tables := Sparse.erase s.ftb.tables p.1 } }) s

/-- Migrations that run in the part. -/
def State.migsRunning (s : State) : Nat := (s.ftb.tables.map (fun p => p.2.migs.length)).foldl (· + ·) 0

/-- A migration ends without its switch: the new slot is free (R306). -/
def State.dropMig (s : State) (n : Nat) (row : Nat) : State := match s.table n with
  | none => s
  | some t => s.setTable n { t with migs := t.migs.filter (fun m => !(m.row == row)) }

/-- The migrations whose logs have outgrown 64 entries are abandoned (R306). -/
def State.abandonMigs (s : State) (n : Nat) : State := match s.table n with
  | none => s
  | some t => (t.migs.filter (fun m => decide (64 < m.log.length))).foldl (fun s m =>
      let s := (s.dropMig n m.row).bumpSat (F.FTB_MIG_ABORTS n) 1
      match m.opId with
      | some id => s.opEnd 13 id m.completion stFailed 0 0 0
      | none => s) s

/-- The command that a gather or TXU job stands for in its publication. -/
def jobDesc (handle cmdId tid : Nat) : CmdDesc := { CmdDesc.none with format := 1, reqHandle := handle, cmdId := cmdId, tid := tid }

/-- A gather or TXU job publishes its output (R292, R309). -/
def State.publishJob (s : State) (i : QItem) (outs : List OutBuf) : State :=
  let d := jobDesc i.e.job.handle i.e.job.cmdId (if i.runCtx = svc then i.e.chargeTid else i.runCtx)
  let s := s.setJob i.e.job.handle i.e.job.cmdId .publishing
  let s := s.drop F.MEM_FRAMES_HELD i.fresh.length
  (s.publish i.runCtx d outs i.fresh (s.durablePages i.runCtx outs) false false).unpinFrames i.frames

/-- Runs a step of an operation of a block's ring where it may run: the entry is taken, and `f` acts (R206, R387). -/
def State.ringStep (s : State) (block opId completion : Nat) (long bad : Bool) (f : State → Res) : Res :=
  match s.opDead block opId completion with
  | some s => .next s
  | none =>
  if s.opRuns block opId then
    let s := s.opStart block opId long completion 0
    if bad then .next (s.opEnd block opId completion stInvalidEncoding 0 0 0) else f s
  else .next s

/-! ### Gathers (R293 to R295) -/

/-- A gather's unique valid rows in ascending order, and the positions of each distinct index. -/
def gatherRows (rows : Nat) (idx : List Nat) : List Nat := ((idx.filter (fun r => decide (r < rows))).dedup).mergeSort (fun a b => decide (a ≤ b))

/-- A row of the output, padded, and its saturated elements (R294). -/
def gatherRow (fmt : Nat) (v : List F32) : List Byte × Nat :=
  let pad := fun (bs : List Byte) => bs ++ List.replicate ((bs.length + 63) / 64 * 64 - bs.length) 0
  if fmt = 0 then (pad (v.flatMap (fun x => leBytes 4 x.toNat)), 0)
  else
    let ns := v.map (fun x => Fmt.narrow x Fmt.b16 none)
    (pad (packElems Fmt.b16 (ns.map (fun n => n.code))), (ns.filter (fun n => n.sat)).length)

/-- The bytes that a gather writes, and its saturated elements (R295). -/
def State.gatherOut (s : State) (t : Table) (d : GatherDesc) (idx : List Nat) : List Byte × Nat :=
  let uniq := gatherRows t.desc.rows idx
  let made := uniq.map (fun r => (r, gatherRow d.outFmt (s.rowOf t r)))
  let sat := (made.map (fun x => x.2.2)).foldl (· + ·) 0
  let invalid := (idx.filter (fun r => decide (t.desc.rows ≤ r))).length
  let head := leBytes 4 idx.length ++ leBytes 4 uniq.length ++ leBytes 4 invalid ++ List.replicate 52 0
  let zero := (gatherRow d.outFmt (List.replicate t.desc.dim 0)).1
  let pad := fun (bs : List Byte) => bs ++ List.replicate ((bs.length + 63) / 64 * 64 - bs.length) 0
  if d.outMode = 0 then (head ++ idx.flatMap (fun r => ((made.find? (fun x => x.1 == r)).map (fun x => x.2.1)).getD zero), sat)
  else
    let map := idx.flatMap (fun r => leBytes 4 (if r < t.desc.rows then uniq.idxOf r else 0xFFFFFFFF))
    (head ++ pad map ++ made.flatMap (fun x => x.2.1), sat)

/-- The output size of a gather (R295). -/
def gatherSize (dim : Nat) (d : GatherDesc) (uniq : Nat) : Nat :=
  let rs := ((if d.outFmt = 0 then 4 else 2) * dim + 63) / 64 * 64
  if d.outMode = 0 then 64 + d.count * rs else 64 + (4 * d.count + 63) / 64 * 64 + uniq * rs

/-- Whether a context may read a table (R291, R293). -/
def State.readsTable (s : State) (t : Table) (ctx : Nat) : Bool :=
  if t.desc.shared then s.tier.pages.any (fun p => p.1 / 2 ^ 27 == ctx && p.2.state == .shared && p.2.loc == t.obj) else t.desc.tid == ctx

end Sys2Proof.Machine
end

