-- ==== Sys2Proof/Machine/TxuOps.lean ====
section
/-! DEFINITION. Text and tokens: UTF-8 repair, greedy longest match, detokenisation, the stop matcher, packing, and the images
of dictionaries and grammars (spec/12). -/

namespace Sys2Proof.Machine

/-! ### UTF-8 (R315, R316) -/

/-- The range of the byte that continues a proper prefix of a well-formed sequence; none when the bytes are no such prefix
(table "Well-formed UTF-8 sequences"). -/
def utfNext (p : List Byte) : Option (Nat × Nat) :=
  let b := p.map (fun x => x.toNat)
  let first := b.headD 0
  let len := if 0xC2 ≤ first ∧ first ≤ 0xDF then 2 else if 0xE0 ≤ first ∧ first ≤ 0xEF then 3 else if 0xF0 ≤ first ∧ first ≤ 0xF4 then 4 else 0
  if b.isEmpty ∨ len ≤ b.length then none
  else if b.length = 1 then
    some (if first = 0xE0 then (0xA0, 0xBF) else if first = 0xED then (0x80, 0x9F) else if first = 0xF0 then (0x90, 0xBF)
      else if first = 0xF4 then (0x80, 0x8F) else (0x80, 0xBF))
  else some (0x80, 0xBF)

/-- A piece of repaired input: well-formed bytes, or a maximal subpart. -/
structure Piece where
  good : Bool
  bytes : List Byte
deriving DecidableEq, Repr

/-- The piece that a byte makes at the start of a sequence, or the prefix that it begins. -/
def utfStart (b : Byte) : List Piece × List Byte :=
  if b.toNat < 0x80 then ([⟨true, [b]⟩], []) else if (utfNext [b]).isSome then ([], [b]) else ([⟨false, [b]⟩], [])

/-- Splits input into well-formed sequences and maximal subparts; what is left is a proper prefix (R315, R316). -/
def utfSplit : List Byte → List Byte → List Piece × List Byte
  | cur, [] => ([], cur)
  | cur, b :: r => match utfNext cur with
    | none =>
      let (p, cur) := utfStart b
      let (ps, c) := utfSplit cur r
      (p ++ ps, c)
    | some (lo, hi) =>
      if lo ≤ b.toNat ∧ b.toNat ≤ hi then
        let cur' := cur ++ [b]
        if (utfNext cur').isSome then utfSplit cur' r
        else
          let (ps, c) := utfSplit [] r
          (⟨true, cur'⟩ :: ps, c)
      else
        let (p, cur') := utfStart b
        let (ps, c) := utfSplit cur' r
        (⟨false, cur⟩ :: (p ++ ps), c)

/-- The pieces of a buffer and the carry after it; at LAST a carry is a maximal subpart (R316). -/
def utfRepair (carry input : List Byte) (last : Bool) : List Piece × List Byte :=
  let (ps, c) := utfSplit carry input
  if last && !c.isEmpty then (ps ++ [⟨false, c⟩], []) else (ps, c)

/-- U+FFFD. -/
def replacement : List Byte := [0xEF, 0xBF, 0xBD]

/-! ### The trie (R312) -/

/-- A trie node: its token if it is VALID, its edges' count and first index. -/
def State.trieNode (s : State) (d : Dict) (n : Nat) : Option Nat × Nat × Nat :=
  let w := s.word d.ctx (d.base + d.nodeOff + 8 * n) 8
  (if bitsOf w 18 18 = 1 then some (bitsOf w 17 0) else none, bitsOf w 27 19, bitsOf w 63 32)

/-- The edges of a node: byte and child. -/
def State.trieEdges (s : State) (d : Dict) (n : Nat) : List (Nat × Nat) :=
  let (_, count, first) := s.trieNode d n
  (words 4 count (s.load d.ctx (d.base + d.edgeOff + 4 * first) (4 * count))).map (fun e => (bitsOf e 7 0, bitsOf e 31 8))

/-- One walk from a node: the best token with its length, the steps taken, and whether the bytes ran out at a node with edges, so that a
further byte could carry the walk on. Log entry 66: DEDUCED, unsafe. -/
def State.walk (s : State) (d : Dict) : Nat → List Byte → Nat → Option (Nat × Nat) → Option (Nat × Nat) × Nat × Bool
  | node, [], j, best => (best, j, (s.trieNode d node).2.1 != 0)
  | node, b :: r, j, best => match (s.trieEdges d node).find? (fun e => e.1 == b.toNat) with
    | none => (best, j, false)
    | some e => s.walk d e.2 r (j + 1) (match (s.trieNode d e.2).1 with
        | some t => some (t, j + 1)
        | none => best)

/-- What a run of the tokeniser gives: tokens, bytes still pending, steps already taken over them, steps counted, and
unmatched bytes. -/
structure TokRun where
  toks : List Nat
  pending : List Byte
  walked : Nat
  steps : Nat
  noMatch : Nat
deriving DecidableEq, Repr

/-- Greedy longest match over pending bytes (R312). `final`: no further byte can follow; otherwise a walk that reaches the
end waits. `walked` steps of the first walk were counted before. -/
def State.tokenise (s : State) (d : Dict) (final : Bool) : Nat → TokRun → TokRun
  | 0, r => r
  | fuel + 1, r =>
    if r.pending.isEmpty then r
    else
      let (best, j, atEnd) := s.walk d 0 r.pending 0 none
      let steps := r.steps + (j - r.walked)
      if atEnd && !final then { r with walked := j, steps := steps }
      else match best with
        | some (t, n) => s.tokenise d final fuel { r with toks := r.toks ++ [t], pending := r.pending.drop n, walked := 0, steps := steps }
        | none =>
          let b := (r.pending.headD 0).toNat
          s.tokenise d final fuel { r with
            toks := r.toks ++ [if d.byteTokens then d.byteBase + b else d.unk]
            pending := r.pending.drop 1, walked := 0, steps := steps, noMatch := r.noMatch + b2n (!d.byteTokens) }

/-- Takes one piece into a stream: in replacement mode a subpart becomes U+FFFD; in byte-fallback mode it ends the walk and
gives its byte tokens (R312, R315). -/
def State.takePiece (s : State) (d : Dict) (byteMode : Bool) (r : TokRun) (p : Piece) : TokRun :=
  if p.good then { r with pending := r.pending ++ p.bytes }
  else if byteMode then
    let r := s.tokenise d true r.pending.length r
    { r with toks := r.toks ++ p.bytes.map (fun b => d.byteBase + b.toNat), pending := [], walked := 0 }
  else { r with pending := r.pending ++ replacement }

/-- Tokenises the pieces of a buffer. -/
def State.tokPieces (s : State) (d : Dict) (byteMode last : Bool) (ps : List Piece) (r : TokRun) : TokRun :=
  let r := ps.foldl (fun r p => s.takePiece d byteMode r p) r
  s.tokenise d last r.pending.length r

/-- The tokens of a whole text in replacement mode (R19, R313, R335). -/
def State.textTokens (s : State) (d : Dict) (text : List Byte) : List Nat :=
  (s.tokPieces d false true (utfRepair [] text true).1 ⟨[], [], 0, 0, 0⟩).toks

/-! ### Detokenisation and stop strings (R321 to R323) -/

/-- The text of a token; SPECIAL tokens and tokens beyond VOCAB have none. -/
def State.tokenText (s : State) (d : Dict) (t : Nat) : List Byte :=
  if d.vocab ≤ t then []
  else
    let w := s.word d.ctx (d.base + d.detokOff + 8 * t) 8
    if bitsOf w 41 41 = 1 then [] else s.load d.ctx (d.base + d.textOff + bitsOf w 31 0) (bitsOf w 40 32)

/-- The lowest-numbered string that ends a text. -/
def endsWith (strings : List (List Byte)) (text : List Byte) : Option Nat :=
  (List.range strings.length).find? (fun i =>
    let x := strings.getD i []
    !x.isEmpty && x.length ≤ text.length && text.drop (text.length - x.length) == x)

/-- The first completion of a stop string in a text, looked for at the ends of its prefixes from length `n` + 1 on: the
string and the length at which it ends (R321). -/
def firstStop (strings : List (List Byte)) (text : List Byte) : Nat → Nat → Option (Nat × Nat)
  | 0, _ => none
  | fuel + 1, n => if text.length ≤ n then none else match endsWith strings (text.take (n + 1)) with
    | some i => some (i, n + 1)
    | none => firstStop strings text fuel (n + 1)

/-- The length of the held suffix: the longest suffix that is a proper prefix of some stop string (R322). -/
def heldSuffix (strings : List (List Byte)) (text : List Byte) : Nat :=
  ((List.range 64).filter (fun n => decide (n ≤ text.length) && strings.any (fun x => decide (n < x.length) && x.take n == text.drop (text.length - n)))).foldl
    Nat.max 0

/-! ### Packing (R334, R335) -/

/-- Whether a pack descriptor holds a reserved value. -/
def PackDesc.bad (d : PackDesc) : Bool := d.resv || d.format != 1 || d.budget == 0 || decide (131072 < d.budget) || decide (4096 < d.maxPassages)

/-- The passages that fit, in rank order, and how many were skipped (R334). -/
def choosePassages (truncate : Bool) (pre post : Nat) : Nat → List (List Nat) → List (List Nat) × Nat
  | _, [] => ([], 0)
  | room, p :: r =>
    let cost := pre + p.length + post
    if cost ≤ room then
      let (c, k) := choosePassages truncate pre post (room - cost) r
      (p :: c, k)
    else if truncate then (if pre + post < room then [p.take (room - pre - post)] else [], 0)
    else
      let (c, k) := choosePassages truncate pre post room r
      (c, k + 1)

/-- The prompt of R334, and the passages skipped; none when the fixed part exceeds BUDGET. -/
def packPrompt (d : PackDesc) (head mid tail pre post q : List Nat) (ps : List (List Nat)) : Option (List Nat × Nat) :=
  let fixed := head.length + q.length + mid.length + tail.length
  if d.budget < fixed then none
  else
    let (chosen, skipped) := choosePassages d.truncate pre.length post.length (d.budget - fixed) (ps.take d.maxPassages)
    let chosen := if d.bestLast then chosen.reverse else chosen
    some (head ++ q ++ mid ++ chosen.flatMap (fun c => pre ++ c ++ post) ++ tail, skipped)

/-- Token numbers at an address of a range. -/
def State.tokensAt (s : State) (ctx va n : Nat) : List Nat := words 4 n (s.load ctx va (4 * n))

/-- Whether a context may use a dictionary or grammar: its own, or one in an object that its range maps. -/
def State.mayRead (s : State) (shared : Bool) (owner image ctx : Nat) : Bool :=
  if shared then s.tier.pages.any (fun p => p.1 / 2 ^ 27 == ctx && p.2.state == .shared && objCtx p.2.loc == image) else owner == ctx

/-- A loaded dictionary that a context may use; an unloading one takes no new users. -/
def State.usableDict (s : State) (ctx id : Nat) : Option Dict := (s.dict id).filter (fun d => !d.unloading && s.mayRead d.shared d.tid d.ctx ctx)

/-- A passage's tokens for a dictionary: its token form when that dictionary made it, else its text tokenised (R335). -/
def State.passageTokens (s : State) (dictId : Nat) (p : Passage) : List Nat :=
  if p.dict = dictId then p.toks else match s.dict dictId with
    | some d => s.textTokens d p.text
    | none => []

/-! ### Images (R311, R327) -/

/-- Reads a dictionary image's header: none when a field is out of its range. -/
def State.dictHeader (s : State) (shared : Bool) (tid ctx base : Nat) : Option Dict :=
  let w := fun i => s.word ctx (base + 8 * i) 8
  let d : Dict := ⟨false, shared, tid, ctx, base, bitsOf (w 0) 8 8 == 1, bitsOf (w 0) 63 32, bitsOf (w 1) 31 0, bitsOf (w 1) 63 32,
    bitsOf (w 2) 17 0, bitsOf (w 2) 49 32, bitsOf (w 3) 31 0, bitsOf (w 3) 63 32, bitsOf (w 4) 31 0, bitsOf (w 4) 63 32, bitsOf (w 5) 31 0⟩
  let zeros := bitsOf (w 0) 31 9 == 0 && bitsOf (w 2) 31 18 == 0 && bitsOf (w 2) 63 50 == 0 && bitsOf (w 5) 63 32 == 0 && w 6 == 0 && w 7 == 0
  if bitsOf (w 0) 7 0 = 1 ∧ zeros ∧ 1 ≤ d.vocab ∧ d.vocab ≤ 262144 ∧ 1 ≤ d.nodes ∧ d.nodes ≤ 2 ^ 24 ∧ d.nodeOff % 64 = 0
      ∧ (d.byteTokens ∨ d.byteBase = 0) then some d else none

/-- The bytes of a dictionary image. -/
def Dict.bytes (d : Dict) : Nat :=
  ([64, d.nodeOff + 8 * d.nodes, d.edgeOff + 4 * d.edges, d.detokOff + 8 * d.vocab, d.textOff + d.textBytes] : List Nat).foldl Nat.max 0

def ascending : List Nat → Bool
  | a :: b :: r => decide (a < b) && ascending (b :: r)
  | _ => true

/-- Nodes at growing depth with their paths, `fuel` levels deep; the nodes left after the last level are too deep. -/
def State.triePaths (s : State) (d : Dict) : Nat → List (Nat × List Byte) → List (Nat × List Byte) × List (Nat × List Byte)
  | 0, f => ([], f)
  | fuel + 1, f =>
    let next := f.flatMap (fun x => (s.trieEdges d x.1).map (fun e => (e.2, x.2 ++ [BitVec.ofNat 8 e.1])))
    let (l, rest) := s.triePaths d fuel next
    (f ++ l, rest)

/-- Whether a dictionary image keeps the conditions of R311. -/
def State.dictValid (s : State) (d : Dict) : Bool :=
  let nodes := List.range d.nodes
  let edges := nodes.map (fun n => s.trieEdges d n)
  let inside := nodes.all (fun n => let x := s.trieNode d n; decide (x.2.1 ≤ 256) && decide (x.2.2 + x.2.1 ≤ d.edges))
  let sorted := edges.all (fun es => ascending (es.map (fun e => e.1)) && es.all (fun e => decide (e.2 < d.nodes)))
  let once := (edges.flatten.map (fun e => e.2)).mergeSort (fun a b => decide (a ≤ b)) == (List.range (d.nodes - 1)).map (fun n => n + 1)
  let spelled := fun (_ : Unit) =>
    let (paths, deep) := s.triePaths d 257 [(0, [])]
    deep.isEmpty && paths.all (fun x => match (s.trieNode d x.1).1 with
      | none => true
      | some t => decide (t < d.vocab) && bitsOf (s.word d.ctx (d.base + d.detokOff + 8 * t) 8) 41 41 == 0 && s.tokenText d t == x.2)
  decide (d.unk < d.vocab) && (!d.byteTokens || decide (d.byteBase + 255 < d.vocab)) && inside && sorted && once && spelled ()

/-- Reads a grammar image's header. -/
def State.gramHeader (s : State) (shared : Bool) (tid ctx base : Nat) : Option Gram :=
  let w := fun i => s.word ctx (base + 8 * i) 8
  let g : Gram := ⟨.loading, shared, tid, ctx, base, bitsOf (w 0) 63 32, bitsOf (w 1) 20 0, bitsOf (w 1) 51 32, bitsOf (w 2) 20 0,
    bitsOf (w 2) 63 32, bitsOf (w 3) 31 0, bitsOf (w 3) 63 32, bitsOf (w 4) 39 0⟩
  let zeros := bitsOf (w 0) 31 8 == 0 && bitsOf (w 1) 31 21 == 0 && bitsOf (w 1) 63 52 == 0 && bitsOf (w 2) 31 21 == 0 && bitsOf (w 4) 63 40 == 0
    && w 5 == 0 && w 6 == 0 && w 7 == 0
  if bitsOf (w 0) 7 0 = 1 ∧ zeros ∧ 1 ≤ g.states ∧ g.states ≤ 2 ^ 20 ∧ 1 ≤ g.masks ∧ g.masks ≤ g.states ∧ g.maskOff % 32768 = 0
      ∧ g.vocab ≤ 262144 then some g else none

def Gram.bytes (g : Gram) : Nat :=
  ([64, g.stateOff + 16 * g.states, g.rangeOff + 8 * g.ranges, g.maskOff + 32768 * g.masks] : List Nat).foldl Nat.max 0

/-- A state entry: MASK_ID, FINAL, and its ranges as (LO, HI, NEXT). -/
def State.gramState (s : State) (g : Gram) (n : Nat) : Nat × Bool × List (Nat × Nat × Nat) :=
  let a := s.word g.ctx (g.base + g.stateOff + 16 * n) 8
  let b := s.word g.ctx (g.base + g.stateOff + 16 * n + 8) 8
  let first := bitsOf b 31 0
  let count := bitsOf b 63 32
  (bitsOf a 19 0, bitsOf a 20 20 == 1,
    (words 8 count (s.load g.ctx (g.base + g.rangeOff + 8 * first) (8 * count))).map (fun r => (bitsOf r 17 0, bitsOf r 35 18, bitsOf r 55 36)))

/-- The tokens that a mask allows. -/
def State.maskTokens (s : State) (g : Gram) (m : Nat) : List Nat :=
  (s.cellsOf g.ctx (g.base + g.maskOff + 32768 * m) 32768).flatMap (fun c =>
    ((List.range 8).filter (fun i => c.2.getLsbD i)).map (fun i => 8 * c.1 + i))

/-- Ranges ascending and disjoint. -/
def rangesRise : List (Nat × Nat × Nat) → Bool
  | a :: b :: r => decide (a.2.1 < b.1) && rangesRise (b :: r)
  | _ => true

/-- Whether a grammar image keeps the conditions of R327. -/
def State.gramValid (s : State) (g : Gram) : Bool :=
  decide (g.start < g.states) && (List.range g.states).all (fun n =>
    let (m, final, rs) := s.gramState g n
    rangesRise rs && rs.all (fun r => decide (r.1 ≤ r.2.1) && decide (r.2.1 < g.vocab) && decide (r.2.2 < g.states)) && decide (m < g.masks)
      && (final || !rs.isEmpty)
      && (let bits := s.maskTokens g m
          bits.length == (rs.map (fun r => r.2.1 - r.1 + 1)).foldl (· + ·) 0 && bits.all (fun t => rs.any (fun r => decide (r.1 ≤ t) && decide (t ≤ r.2.1)))))

/-- The state that a token leads to. -/
def State.gramNext (s : State) (g : Gram) (n t : Nat) : Option Nat :=
  ((s.gramState g n).2.2.find? (fun r => decide (r.1 ≤ t) && decide (t ≤ r.2.1))).map (fun r => r.2.2)

end Sys2Proof.Machine
end

