-- ==== Sys2Proof/Machine/IdxOps.lean ====
section
/-! DEFINITION. What an index computes and holds: assignment and codes, item and passage stores, visibility, committing an
update, and the partitions that a fold writes (spec/09 R230 to R255, R483). -/

namespace Sys2Proof

open Sys2Proof.Machine

/-- C, the code bytes of a record. -/
def IdxDesc.c (d : IdxDesc) : Nat := 16 * 2 ^ d.codeBytes

/-- G, the records of a full group. -/
def IdxDesc.group (d : IdxDesc) : Nat := 16384 / d.c

/-- A, the units of an attribute area (table "Attribute area of a group"). -/
def IdxDesc.area (d : IdxDesc) : Nat :=
  let g := d.group
  (round4k (16 * g) + round4k (8 * g) + round4k (16 * g) + 4096 + 16383) / 16384

/-- The format of full vectors. -/
def IdxDesc.vecFmt (d : IdxDesc) : Nat := if d.vecP8 then Fmt.p8 else Fmt.b16

/-- Bytes of a vector, padded to 64. -/
def IdxDesc.vecBytes (d : IdxDesc) : Nat := (d.dim * (if d.vecP8 then 1 else 2) + 63) / 64 * 64

/-- Bytes of an item slot: two copies. -/
def IdxDesc.slotBytes (d : IdxDesc) : Nat := 2 * (64 + d.vecBytes)

/-- The side list's capacity. -/
def IdxDesc.sideCap (d : IdxDesc) : Nat := 2 ^ d.sideLog2

/-- A full vector widened to F32 (R127). -/
def IdxDesc.widen (d : IdxDesc) (bs : List Byte) : List F32 := (elemCodes d.vecFmt d.dim bs).map (Fmt.widen d.vecFmt)

/-- The pairing of a centroid tile, the K slices of a column and the columns' tiles. -/
def IdxDesc.tilePair (d : IdxDesc) : Pairing := if d.centB16 then ⟨Fmt.b16, Fmt.b16, 128, 32768, 0⟩ else ⟨Fmt.p8, Fmt.p8, 256, 32768, 1024⟩
def IdxDesc.slices (d : IdxDesc) : Nat := (d.dim + 127) / 128
def IdxDesc.tiles (d : IdxDesc) : Nat := (d.partitions + d.tilePair.n - 1) / d.tilePair.n * d.slices

/-- The address of the tile of column block `b` and slice `k`; the norm array follows the tiles. -/
def IdxDesc.tileVa (d : IdxDesc) (b k : Nat) : Nat := d.centVa + (b * d.slices + k) * tileBytes d.tilePair
def IdxDesc.normVa (d : IdxDesc) : Nat := d.centVa + d.tiles * tileBytes d.tilePair

/-- The bytes of a group in the member store: its code unit and attribute area. -/
def IdxDesc.groupSpan (d : IdxDesc) : Nat := 1 + d.area

/-- The extent of a store, where STORE is 0, and its address, where STORE is 1. -/
def IdxDesc.ext (d : IdxDesc) : IdxStore → Nat
  | .member => d.memberExt
  | .item => d.itemExt
  | .passage => d.passageExt
def IdxDesc.rangeVa (d : IdxDesc) : IdxStore → Nat
  | .member => d.memberVa
  | .item => d.itemVa
  | .passage => d.passageVa

/-- The bytes of an update entry with its payload. -/
def IdxDesc.entryBytes (d : IdxDesc) (e : UpdEntry) : Nat :=
  if e.op = 2 then 64 else 64 + d.vecBytes + (e.textBytes + 63) / 64 * 64 + (4 * e.tokens + 63) / 64 * 64

/-- Whether an F32 attribute is NaN, or a length exceeds its limit. -/
def IdxDesc.badAttr (d : IdxDesc) (e : UpdEntry) : Bool :=
  e.op == 1 && ((List.range 4).any (fun a => d.numTypes.getD a 0 == 2 && Fp.isNaN (BitVec.ofNat 32 (e.nums.getD a 0)))
    || decide (65535 < e.textBytes) || decide (16384 < e.tokens))

/-- The journal records of a change of an index's region: `n` bytes, taken as lying from its start (log entry 17: DESIGN CHOICE, safe). -/
def IdxDesc.pages (d : IdxDesc) (n : Nat) : List (Nat × BitVec 32) :=
  (pagesOf d.tid d.regionVa (Nat.max n 1)).map (fun k => (k, subMask (k % 2 ^ 27) d.regionVa (Nat.max n 1)))

/-- Bytes of a side-list entry. -/
def IdxDesc.sideBytes (d : IdxDesc) : Nat := 64 + (d.c + 63) / 64 * 64

end Sys2Proof

namespace Sys2Proof.Machine

def dIdxAbsent : Nat := 0x0901
def dIdxIdRange : Nat := 0x0902
def dIdxDup : Nat := 0x0903
def dIdxAttr : Nat := 0x0904
def dIdxBatch : Nat := 0x0905
def dIdxSchema : Nat := 0x0906
def dIdxBusy : Nat := 0x0907
def dIdxFull : Nat := 0x0908
def dDictAbsent : Nat := 0x0C0B

/-! ### Coarse distances (R483) -/

/-- The query as it enters coarse scoring: activations and row factor. -/
def narrowQuery (centB16 : Bool) (q : List F32) : List F32 × F32 :=
  if centB16 then (q.map (fun x => Fmt.widen Fmt.b16 (Fmt.narrow x Fmt.b16 none).code), Fp.one)
  else
    let a := q.foldl (fun m x => Fp.maxNum m (Fp.abs x)) 0
    let scale := if Fp.isZero a then Fp.one else Fmt.scaleUp a Fmt.p8
    (q.map (fun x => Fmt.widen Fmt.p8 (Fmt.narrow (Fmt.scaleIn x scale 0 false) Fmt.p8 none).code), scale)

/-- A centroid tile that holds a reserved scale ends the command that loads it INVALID_ENCODING (R128). -/
def State.badTiles (s : State) (d : IdxDesc) : Bool :=
  let p := d.tilePair
  (List.range (d.tiles)).any (fun t => (s.load d.tid (d.centVa + t * tileBytes p + p.wbytes) p.sbytes).any (fun b => b == 0xFF))

/-- The weights of a centroid tile. -/
def State.centTile (s : State) (d : IdxDesc) (b k : Nat) : List (Nat × F32) :=
  let p := d.tilePair
  let a := d.tileVa b k
  tileWeights p (elemCodes p.wfmt (128 * p.n) (s.load d.tid a p.wbytes)) ((s.load d.tid (a + p.wbytes) p.sbytes).map (fun x => x.toNat)) []

/-- The inner products of the columns of block `b`, the slices from `k` on summed with ACCUM. -/
def State.columnDots (s : State) (d : IdxDesc) (rowf : F32) (b : Nat) : Nat → Nat → List F32 → List F32 → List F32
  | 0, _, _, acc => acc
  | m + 1, k, act, acc =>
    let w := s.centTile d b k
    let t := (List.range d.tilePair.n).map (fun n => Fp.mul (dotRow w n 0 (act.take 128) Fp.posZero) rowf)
    s.columnDots d rowf b m (k + 1) (act.drop 128) (if k = 0 then t else List.zipWith Fp.add acc t)

/-- The coarse distance from the norm n(p) and inner product t(p) of a centroid. -/
def coarseOf (metric : Nat) (n t : F32) : F32 :=
  if metric = 0 then Fp.sub n (Fp.mul 0x40000000#32 t) else if metric = 2 then Fp.negA (Fp.mul t n) else Fp.negA t

/-- The coarse distance of every partition. Log entry 69: DEDUCED, unsafe. -/
def State.coarse (s : State) (d : IdxDesc) (q : List F32) : List F32 :=
  let (act, rowf) := narrowQuery d.centB16 q
  let blocks := (d.partitions + d.tilePair.n - 1) / d.tilePair.n
  let dots := ((List.range blocks).flatMap (fun b => s.columnDots d rowf b d.slices 0 act [])).take d.partitions
  let norms := f32s d.partitions (s.load d.tid d.normVa (4 * d.partitions))
  List.zipWith (coarseOf d.metric) norms dots

/-- A distance with the number that breaks ties: smaller first under the key of R158, then the lower number. -/
def before (a b : F32 × Nat) : Bool :=
  let ka := selKey true a.1
  let kb := selKey true b.1
  decide (kb < ka) || (ka == kb && decide (a.2 ≤ b.2))

/-- The first `n` numbers of a list of distances in ascending order; SELK selects no NaN (R157). -/
def nearest (n : Nat) (l : List F32) : List Nat :=
  ((((l.mapIdx (fun i v => (v, i))).filter (fun x => !Fp.isNaN x.1)).mergeSort before).take n).map (fun x => x.2)

/-! ### Assignment and codes (R232, R233) -/

/-- Partitions of an item: primary, secondary, and whether it has a border copy (R232). -/
def State.assign (s : State) (d : IdxDesc) (v : List F32) : Nat × Nat × Bool :=
  let ds := s.coarse d v
  match nearest 2 ds with
  | p1 :: p2 :: _ =>
    let d1 := ds.getD p1 0
    let border := Fp.lt 0 d.borderEps && Fp.le (Fp.sub (ds.getD p2 0) d1) (Fp.mul d.borderEps (Fp.abs d1))
    (p1, if border then p2 else 0, border)
  | p1 :: _ => (p1, 0, false)
  | [] => (0, 0, false)

/-- The sum of squared differences, each step one FMA (R483). -/
def sqDist (a b : List F32) : F32 := (a.zip b).foldl (fun t p => let e := Fp.sub p.1 p.2; Fp.fma e e t) 0

/-- Codeword `b` of subquantiser `j`. -/
def State.codeword (s : State) (d : IdxDesc) (j b : Nat) : List F32 :=
  let n := d.dim / d.c
  f32s n (s.load d.tid (d.bookVa + (j * 256 + b) * n * 4) (4 * n))

/-- Packs sign bits (above +0), the lowest dimension first. -/
def signBits (v : List F32) : List Byte :=
  (List.range (v.length / 8)).map (fun i => BitVec.ofNat 8 ((List.range 8).foldl (fun n b => n + b2n (Fp.lt 0 (v.getD (8 * i + b) 0)) * 2 ^ b) 0))

/-- The code of a vector (R233). -/
def State.codeOf (s : State) (d : IdxDesc) (v : List F32) : List Byte :=
  if d.binary then signBits v
  else
    let n := d.dim / d.c
    (List.range d.c).map (fun j =>
      let x := (v.drop (j * n)).take n
      BitVec.ofNat 8 ((nearest 1 ((List.range 256).map (fun b => sqDist x (s.codeword d j b)))).headD 0))

/-! ### Item and passage stores (R237 to R240) -/

def ItemCopy.empty : ItemCopy := ⟨0, 0, 0, 0, [], [], false⟩

/-- The two copies of an item. -/
def Index.copies (x : Index) (item : Nat) : ItemCopy × ItemCopy := (Sparse.find x.items item).getD (ItemCopy.empty, ItemCopy.empty)

/-- The copy that a reader under snapshot `snap` uses (R238); none when the item is lost to it (R255). -/
def Index.copyUnder (x : Index) (item snap : Nat) : Option ItemCopy :=
  let (a, b) := x.copies item
  let ok := [a, b].filter (fun c => c.version != 0 && decide (c.version ≤ snap))
  let best := match ok with
    | [c, e] => some (if c.version < e.version then e else c)
    | c :: _ => some c
    | [] => none
  best.filter (fun c => !c.bad)

/-- Whether a write of an item's copy waits: a live query of the index holds a snapshot below the VERSION of the other
copy (R239). -/
def State.copyWaits (s : State) (x : Index) (item : Nat) : Bool :=
  let (a, b) := x.copies item
  (s.idxUsers x.desc.index).any (fun q => decide (q.snap < Nat.max a.version b.version))

/-- The length of a passage record in units of 64 bytes. -/
def passUnits (text toks : Nat) : Nat := 1 + (text + 63) / 64 + (4 * toks + 63) / 64

/-- Passage places that are named by a copy. -/
def Index.named (x : Index) : List Nat := x.items.flatMap (fun p => ([p.2.1, p.2.2].filter (fun c => c.version != 0)).map (fun c => c.passOff))

/-- Places of the ring that hold a record: offset and length. -/
def Index.taken (x : Index) : List (Nat × Nat) := x.passages.map (fun p => (p.1, passUnits p.2.text.length p.2.toks.length))

/-- The first place of `len` units at or after `p` around the ring that meets none of `taken`. -/
def ringGap (size p len : Nat) (taken : List (Nat × Nat)) : Option Nat :=
  let ends := (taken.map (fun t => t.1 + t.2)).mergeSort (fun a b => decide (a ≤ b))
  let cands := p :: (ends.filter (fun e => decide (p ≤ e))) ++ (0 :: ends.filter (fun e => decide (e < p)))
  cands.find? (fun c => decide (c + len ≤ size) && !(taken.any (fun t => decide (c < t.1 + t.2) && decide (t.1 < c + len))))

/-- Drops records that no copy names any longer, but at old places that a query may still read (R240). -/
def Index.tidy (x : Index) (live : List Nat) : Index :=
  let named := x.named
  let moved := x.moved.filter (fun m => m.2.2.any (fun h => live.contains h))
  { x with passages := x.passages.filter (fun p => named.contains p.1 || moved.any (fun m => m.1 == p.1)), moved := moved }

/-- Copies a record forward out of the way of the write point: both places hold the same bytes until every query admitted
before has ended (R240). -/
def Index.forward (x : Index) (live : List Nat) (fromPoint : Nat) (off : Nat) : Index := match Sparse.find x.passages off with
  | none => x
  | some r =>
    let len := passUnits r.text.length r.toks.length
    match ringGap x.passSize fromPoint len x.taken with
    | none => x
    | some q =>
      let fix := fun (c : ItemCopy) => if c.version != 0 && c.passOff == off then { c with passOff := q } else c
      { x with
        passages := Sparse.put (if live.isEmpty then Sparse.erase x.passages off else x.passages) q r
        items := x.items.map (fun p => (p.1, fix p.2.1, fix p.2.2))
        moved := if live.isEmpty then x.moved else x.moved ++ [(off, len, live)] }

/-- Writes a passage record at the write point, records in the way being copied forward first; none while the ring is full
(R240). -/
def Index.writePassage (x : Index) (live : List Nat) (r : PassRec) : Option (Nat × Index) :=
  let x := x.tidy live
  let len := passUnits r.text.length r.toks.length
  let p := if x.passPoint + len ≤ x.passSize then x.passPoint else 0
  let named := x.named
  let inWay := (x.passages.filter (fun y => named.contains y.1 && decide (p < y.1 + passUnits y.2.text.length y.2.toks.length) && decide (y.1 < p + len))).map (fun y => y.1)
  let x := inWay.foldl (fun x off => x.forward live (p + len) off) x
  (ringGap x.passSize p len x.taken).map (fun q => (q, { x with passages := Sparse.put x.passages q r, passPoint := q + len }))

/-- Writes an item's copy of version `v` and its passage: over the copy with the lower VERSION (R239). -/
def Index.writeItem (x : Index) (live : List Nat) (v : Nat) (p : Prep) : Option Index :=
  (x.writePassage live ⟨p.e.item, v, if p.toks.isEmpty then 0xFFFF else x.desc.dictId, p.e.text, p.toks, false⟩).map (fun (off, x) =>
    let c : ItemCopy := ⟨v, off, passUnits p.e.text.length p.toks.length, p.e.bitmap, p.e.nums, p.e.vec, false⟩
    let (a, b) := x.copies p.e.item
    { x with items := Sparse.put x.items p.e.item (if b.version < a.version then (a, c) else (c, b)) })

/-! ### The bytes of the stores (R235; spec/09 "Partition storage", "Item store and passage store") -/

/-- Bytes padded with zeros to a length. -/
def padded (n : Nat) (bs : List Byte) : List Byte := bs ++ List.replicate (n - bs.length) 0

/-- A group: its code unit, then the columns of its attribute area, each from a 4 KiB boundary on, and the trailer. -/
def Group.bytes (d : IdxDesc) (part gen : Nat) (g : Group) : List Byte :=
  let n := d.group
  let cols := padded (round4k (16 * n)) (g.recs.flatMap (fun m => leBytes 8 (m.item + b2n m.second * 2 ^ 40) ++ leBytes 8 m.version))
    ++ padded (round4k (8 * n)) (g.recs.flatMap (fun m => leBytes 8 m.bitmap.toNat))
    ++ padded (round4k (16 * n)) (g.recs.flatMap (fun m => (List.range 4).flatMap (fun a => leBytes 4 (m.nums.getD a 0))))
  let vs := g.recs.map (fun m => m.version)
  let low := vs.foldl Nat.min (vs.headD 0)
  let fields := [1, d.index, part, g.recs.length, gen, low, vs.foldl Nat.max 0, (crc32c cols).toNat]
  padded (d.groupSpan * unitBytes) (padded unitBytes (g.recs.flatMap (fun m => m.code)) ++ cols ++ (List.range 64).map (Config.groupTrailer fields))

/-- An item copy: its header with the CRC, and the vector. -/
def ItemCopy.image (d : IdxDesc) (item : Nat) (c : ItemCopy) : List Byte :=
  let vec := padded d.vecBytes c.vec
  let head := fun (crc : Nat) => leBytes 8 item ++ leBytes 8 c.version ++ leBytes 8 (c.passOff + c.passLen * 2 ^ 40) ++ leBytes 8 c.bitmap.toNat
    ++ (List.range 4).flatMap (fun a => leBytes 4 (c.nums.getD a 0)) ++ leBytes 4 crc ++ List.replicate 12 0
  head (crc32c (head 0 ++ vec)).toNat ++ vec

/-- A passage record: its header, text and token form. -/
def PassRec.image (r : PassRec) : List Byte :=
  (List.range 64).map (Config.passageHeader [r.item, r.version, r.text.length, r.toks.length, r.dict])
    ++ padded ((r.text.length + 63) / 64 * 64) r.text ++ padded ((4 * r.toks.length + 63) / 64 * 64) (r.toks.flatMap (leBytes 4))

/-- What differs between two forms of an index in its item and passage stores, as it is written. -/
def Index.newWrites (x y : Index) : List StoreWrite :=
  let d := y.desc
  let per := unitBytes / d.slotBytes
  let copy := fun (item k : Nat) (old new : ItemCopy) => if old = new then [] else
    [(⟨.item, item / per * unitBytes + item % per * d.slotBytes + k * (64 + d.vecBytes), new.image d item⟩ : StoreWrite)]
  y.items.flatMap (fun p => copy p.1 0 (x.copies p.1).1 p.2.1 ++ copy p.1 1 (x.copies p.1).2 p.2.2)
    ++ (y.passages.filter (fun p => Sparse.find x.passages p.1 != some p.2)).map (fun p => ⟨.passage, p.1 * 64, p.2.image⟩)

/-- The programs of a fold that is undone go on for nothing: their stripes are free. -/
def State.dropWork (s : State) (w : FlashWork) : State :=
  ((s.geo.stripes.filter (fun p => p.2.work == some w)).map (fun p => p.1)).foldl (fun s id => s.freeStripe id) s

/-- Groups of a partition as they are written. -/
def groupWrites (d : IdxDesc) (part gen : Nat) (gs : List Group) : List StoreWrite :=
  gs.map (fun g => ⟨.member, g.unit * unitBytes, g.bytes d part gen⟩)

/-- The logical units of an extent that a write touches. -/
def StoreWrite.units (e : Extent) (w : StoreWrite) : List Nat :=
  (List.range ((w.off + w.bytes.length + unitBytes - 1) / unitBytes - w.off / unitBytes)).map (fun i => unitsPerPage * e.first + w.off / unitBytes + i)

/-- Writes into extents (R215, R485): the bytes, and the programs of their logical units in fresh locations, awaited where there is a
`work`. -/
def State.flashWrites (s : State) (d : IdxDesc) (work : Option FlashWork) (ws : List StoreWrite) : State :=
  let at_ := ws.filterMap (fun w => (s.extent (d.ext w.store)).map (fun e => (w, e)))
  let s := at_.foldl (fun s (p : StoreWrite × Extent) => s.store d.tid (p.2.va + p.1.off) p.1.bytes) s
  let us := (at_.flatMap (fun p => p.1.units p.2)).dedup
  match work with
  | some w => s.geoPlace false (some w) us
  | none => s.geoWrite false us

/-- Writes into ranges as outputs of a publication. -/
def rangeOuts (d : IdxDesc) (ws : List StoreWrite) : List OutBuf :=
  ws.map (fun w => ⟨kKvAppend, d.rangeVa w.store + w.off, w.bytes.length, Sparse.cells 0 0 w.bytes, [(0, w.bytes.length)]⟩)

/-- The pages of writes into ranges. -/
def rangePages (d : IdxDesc) (ws : List StoreWrite) : List Nat :=
  (ws.flatMap (fun w => pagesOf d.tid (d.rangeVa w.store + w.off) w.bytes.length)).dedup

/-- Publishes a change of an index's region, of `n` bytes, with the outputs that go into its ranges, as durable data (R229, R485); the
publication's number. -/
def State.idxPublish (s : State) (d : IdxDesc) (n : Nat) (outs : List OutBuf) : Nat × State :=
  (s.tier.nextPub, s.publish d.tid { CmdDesc.none with tid := d.tid } outs [] (d.pages n ++ s.durablePages d.tid outs) true false)

/-- A change of an index's region that nothing awaits is published. -/
def State.idxNote (s : State) (d : IdxDesc) (n : Nat) : State := (s.idxPublish d n []).2

/-! ### Generations, keys and visibility (R236, R245, R265) -/

def Part.none : Part := ⟨0, 0, 0, 0, false, []⟩
def Gen.part (g : Gen) (p : Nat) : Part := (Sparse.find g.parts p).getD Part.none

/-- The generation that a query pinned to `g` reads. -/
def Index.gen (x : Index) (g : Nat) : Gen := if x.cur.num = g then x.cur else x.prev.getD x.cur

/-- Whether the key of record `r` of a partition is live to generation `g`: ALIVE, or DYING when `g` is not the index's
DYING_GEN. -/
def Index.keyLive (x : Index) (g : Nat) (p : Part) (r : Nat) : Bool := match Sparse.find x.keys (p.keyBase + r) with
  | none => false
  | some k => k.state == .alive || (k.state == .dying && g != x.dyingGen)

/-- The records of a partition with their numbers, over its groups from record `n` on. -/
def numbered (n : Nat) : List Group → List (Nat × Member)
  | [] => []
  | g :: r => (g.recs.mapIdx (fun i m => (n + i, m))) ++ numbered (n + g.recs.length) r

/-- The newest side-list entry of an item with F < SEQ ≤ S. -/
def Index.newest (x : Index) (item f snap : Nat) : Option SideEntry :=
  (x.side.filter (fun e => e.item == item && decide (f < e.seq) && decide (e.seq ≤ snap))).getLast?

/-- Partitions of a generation that hold a live record of an item. -/
def Index.holders (x : Index) (g : Gen) (item : Nat) : List Nat :=
  (g.parts.filter (fun p => (numbered 0 p.2.groups).any (fun m => m.2.item == item && decide (m.1 < p.2.records) && x.keyLive g.num p.2 m.1))).map (fun p => p.1)

/-- Whether an item is visible to (S, g) (R245). -/
def Index.visible (x : Index) (item snap : Nat) (g : Gen) : Bool := match x.newest item g.point snap with
  | some e => e.insert
  | none => !(x.holders g item).isEmpty

/-- The count of a partition (R250). -/
def Index.partCount (x : Index) (p : Nat) : Nat :=
  let e := x.cur.part p
  e.records - e.dead + (x.side.filter (fun e => e.insert && (e.part0 == p || (e.border && e.part1 == p)))).length

def maxRecords : Nat := 2 ^ 24

/-- The code units of partitions' groups, and their key ranges. -/
def partUnits (ps : List (Nat × Part)) : List Nat := ps.flatMap (fun p => p.2.groups.map (fun g => g.unit))
def partKeys (ps : List (Nat × Part)) : List (Nat × Nat) := (ps.filter (fun p => p.2.keyCap != 0)).map (fun p => (p.2.keyBase, p.2.keyCap))

/-- Partition entries that hold storage: of both generations and of a fold. -/
def Index.entries (x : Index) : List (Nat × Part) :=
  x.cur.parts ++ (match x.prev with
    | some g => g.parts
    | none => []) ++ (match x.fold with
    | some f => f.parts
    | none => [])

/-- The lowest `n` free places of groups in the member store. -/
def Index.freshUnits (x : Index) (n : Nat) : List Nat :=
  let used := partUnits x.entries
  (((List.range (used.length + n)).map (fun i => i * x.desc.groupSpan)).filter (fun u => !used.contains u)).take n

/-- The lowest free range of `n` entries of the key array. -/
def Index.freshKeys (x : Index) (n : Nat) : Nat :=
  let taken := partKeys x.entries
  let ends := (taken.map (fun t => t.1 + t.2)).mergeSort (fun a b => decide (a ≤ b))
  ((0 :: ends).find? (fun c => !(taken.any (fun t => decide (c < t.1 + t.2) && decide (t.1 < c + n))))).getD 0

/-- Keys beyond the records of every partition entry are free. -/
def Index.dropKeys (x : Index) : Index :=
  let es := x.entries
  { x with keys := x.keys.filter (fun k => es.any (fun p => decide (p.2.keyBase ≤ k.1) && decide (k.1 < p.2.keyBase + p.2.records))) }

/-- The logical units of groups that one form of an index names and a later one does not are free: the flash translation layer maps
them no longer. -/
def State.freeUnits (s : State) (x y : Index) : State := match s.extent x.desc.memberExt with
  | none => s
  | some e =>
    if x.desc.ranges then s
    else
      let kept := partUnits y.entries
      let gone := ((partUnits x.entries).dedup.filter (fun u => !kept.contains u)).flatMap (fun u =>
        (List.range x.desc.groupSpan).map (fun i => unitsPerPage * e.first + u + i))
      { s with geo := { s.geo with map := gone.foldl (fun m u => Sparse.erase m u) s.geo.map } }

/-- The groups of a partition that an earlier form of it does not have. -/
def newGroups (old new : Part) : List Group := new.groups.filter (fun g => !(old.groups.any (fun y => y.unit == g.unit)))

/-- Whether the member store has room for the groups of a partition (R230): its extent, or its range up to the next page that is not
mapped. -/
def State.memberRoom (s : State) (d : IdxDesc) (gs : List Group) : Bool :=
  gs.all (fun g => if d.ranges then (pagesOf d.tid (d.memberVa + g.unit * unitBytes) (d.groupSpan * unitBytes)).all (fun k => (s.pte k).state != .unmapped)
    else (s.extent d.memberExt).any (fun e => decide (g.unit + d.groupSpan ≤ e.units)))

/-! ### Checking and preparing a batch (R232 to R234, R241) -/

/-- The token form of an entry: the tenant's, or the text's under the index's dictionary; none when that is not loaded. -/
def State.tokenForm (s : State) (d : IdxDesc) (e : UpdEntry) : Option (List Nat) :=
  if e.op ≠ 1 then some [] else if e.tokens ≠ 0 then some e.toks else if d.dictId = 0xFFFF then some []
  else match s.dict d.dictId with
    | none => none
    | some t => if t.unloading then none else some (s.textTokens t e.text)

/-- An entry with its partitions and code. -/
def State.prepare (s : State) (d : IdxDesc) (e : UpdEntry) : Prep :=
  if e.op = 1 then
    let v := d.widen e.vec
    let (p0, p1, b) := s.assign d v
    ⟨e, (s.tokenForm d e).getD [], p0, p1, b, s.codeOf d v⟩
  else ⟨e, [], 0, 0, false, []⟩

/-- Whether inserts would raise a partition's count above 2^24 (R250). -/
def Index.overfull (x : Index) (ps : List Prep) : Bool :=
  let named := (ps.filter (fun p => p.e.op == 1)).flatMap (fun p => p.part0 :: (if p.border then [p.part1] else []))
  named.dedup.any (fun p => decide (maxRecords < x.partCount p + named.count p))

/-- The first condition of R241 that a batch meets, in the order of its table; else the prepared entries. Log entry 71: DEDUCED, unsafe. -/
def State.checkBatch (s : State) (x : Index) (batch : List UpdEntry) : Except Nat (List Prep) :=
  let d := x.desc
  if batch.any (fun e => decide (d.idLimit ≤ e.item)) then .error dIdxIdRange
  else if (batch.map (fun e => e.item)).dedup.length < batch.length then .error dIdxDup
  else if batch.any d.badAttr then .error dIdxAttr
  else if 4096 < batch.length ∨ 2 ^ 24 < (batch.map d.entryBytes).foldl (· + ·) 0 ∨ d.sideCap < batch.length then .error dIdxBatch
  else
    let ps := batch.map (s.prepare d)
    if x.overfull ps then .error dIdxFull
    else if batch.any (fun e => (s.tokenForm d e).isNone) then .error dDictAbsent
    else if ps.any (fun p => decide (16384 < p.toks.length)) then .error dIdxAttr
    else .ok ps

/-- Whether a batch holds a reserved encoding (R9). -/
def badBatch (d : IdxDesc) (batch : List UpdEntry) : Bool :=
  batch.any (fun e => e.resv || (e.op != 1 && e.op != 2) || e.entryBytes != d.entryBytes e)

/-! ### Committing (R239, R242 to R244) -/

/-- The side-list entry of a prepared entry. -/
def sideOf (seq : Nat) (p : Prep) : SideEntry :=
  if p.e.op = 1 then ⟨p.e.item, true, seq, p.part0, p.part1, p.border, p.e.bitmap, p.e.nums, p.code⟩
  else ⟨p.e.item, false, seq, 0, 0, false, 0, [], []⟩

/-- Entries of a batch that append to the side list: deletes of items that are not visible write no tombstone (R243). -/
def Index.effective (x : Index) (ps : List Prep) : List Prep := ps.filter (fun p => p.e.op == 1 || x.visible p.e.item (2 ^ 48) x.cur)

/-- Writes the copies of the inserts; none when the passage ring has no room. -/
def Index.writeItems (x : Index) (live : List Nat) (v : Nat) : List Prep → Option Index
  | [] => some x
  | p :: r => if p.e.op = 1 then (x.writeItem live v p).bind (fun x => x.writeItems live v r) else x.writeItems live v r

/-- An update takes its sequence: copies and passages are written and its side-list entries appended (R242, R244); none
while the side list or the passage ring has no room. -/
def Index.commit (x : Index) (live : List Nat) (u : Update) : Option (Update × Index) :=
  let ps := x.effective u.preps
  if x.desc.sideCap < x.side.length + ps.length then none
  else (x.writeItems live x.nextSeq ps).map (fun y =>
    ({ u with seq := x.nextSeq, notFound := u.preps.length - ps.length },
     { y with side := y.side ++ ps.map (sideOf x.nextSeq), nextSeq := x.nextSeq + 1 }))

/-- Live queries of an index, by handle. -/
def State.liveQueries (s : State) (i : Nat) : List Nat := (s.idxUsers i).map (fun q => q.handle)

/-- An update takes its sequence (R242): its copies and passages are written, into extents with programs in class 1 that its publication
awaits, and its side-list entries are appended; none while the side list, the passage ring or the frames of its ranges have no room. -/
def State.commitUpdate (s : State) (x : Index) (u : Update) : Option State :=
  match x.commit (s.liveQueries x.desc.index) u with
  | none => none
  | some (u, y) =>
    let ws := x.newWrites y
    let put := fun (s : State) (u : Update) => s.setIndex { y with updates := y.updates.map (fun z => if z.handle == u.handle then u else z) }
    if x.desc.ranges then (s.pagesReady (rangePages x.desc ws)).map (fun s => put s { u with writes := ws })
    else some (put (s.flashWrites x.desc (some (.update u.handle)) ws) u)

/-- Tries to commit the updates that wait for nothing else, in order: a copy write that a live query holds back waits (R239); one that finds
no room holds back those behind it; one that would now overfill a partition fails (R250), and one whose centroid tiles hold a reserved scale
(R128, R32). -/
def State.commitUpdates (s : State) (i : Nat) : List Update → State
  | [] => s
  | u :: r => match s.index i with
    | none => s
    | some x =>
      if u.seq ≠ 0 ∨ u.waits ≠ [] ∨ x.state ≠ .ready ∨ u.jobs.all (fun j => s.jobState u.handle j == some .committed) = false then s.commitUpdates i r
      else
        let fail := fun (detail : Nat) =>
          (s.setIndex { x with updates := x.updates.filter (fun y => y.handle != u.handle) }).endReq u.handle stFailed detail
        if u.preps.any (fun p => p.e.op == 1) ∧ s.badTiles x.desc then (fail dStageAdmission).commitUpdates i r
        else if x.overfull u.preps then (fail dIdxFull).commitUpdates i r
        else
          let waits := ((u.preps.filter (fun p => p.e.op == 1)).map (fun p => p.e.item)).filter (fun n => s.copyWaits x n)
          if waits ≠ [] then
            ((s.setIndex { x with updates := x.updates.map (fun y => if y.handle == u.handle then { u with waits := waits } else y) }).bumpSat
              (F.IDX_PIN_WAIT_COUNT i) waits.length).commitUpdates i r
          else match s.commitUpdate x u with
            | none => s
            | some s => s.commitUpdates i r

/-- Publishes the side-list entries of updates whose programs are done, in the order of their sequences (R242). -/
def State.publishUpdates (s : State) (i : Nat) : List Update → State
  | [] => s
  | u :: r => match s.index i with
    | none => s
    | some x =>
      if s.programming (.update u.handle) then s
      else
        let (pub, s) := (s.ackWork (.update u.handle)).idxPublish x.desc (u.preps.length * x.desc.sideBytes) (rangeOuts x.desc u.writes)
        match s.index i with
        | none => s
        | some x => (s.setIndex { x with updates := x.updates.map (fun y => if y.handle == u.handle then { u with pub := some pub, writes := [] } else y) }).publishUpdates i r

/-- Updates that hold their sequence and have not published, lowest first. -/
def Index.unpublished (x : Index) : List Update :=
  (x.updates.filter (fun u => u.seq != 0 && u.pub.isNone)).mergeSort (fun a b => decide (a.seq ≤ b.seq))

/-- The side list gains room, pins end, commands or programs are done: updates that wait are tried again. -/
def State.stirIndex (s : State) (i : Nat) : State := match s.index i with
  | none => s
  | some x =>
    let s := s.commitUpdates i x.updates
    match s.index i with
    | none => s
    | some x => s.publishUpdates i x.unpublished

/-- The updates of every index are tried again, as commands or programs of one may be done (R234). -/
def State.stirAll (s : State) : State := (s.idx.indices.map (fun p => p.1)).foldl (fun s i => s.stirIndex i) s

/-! ### Fold and repair (R248 to R254) -/

/-- Whether the fold set replaces the member records of an item: its newest entry at or below F. -/
def Index.foldItems (x : Index) (f : Nat) : List SideEntry :=
  let set := x.side.filter (fun e => decide (e.seq ≤ f))
  set.filter (fun e => (set.filter (fun y => y.item == e.item)).getLast? == some e)

/-- The partitions that a fold set touches, in ascending order. -/
def Index.touched (x : Index) (f : Nat) : List Nat :=
  let es := x.foldItems f
  ((es.flatMap (fun e => (if e.insert then e.part0 :: (if e.border then [e.part1] else []) else []) ++ x.holders x.cur e.item)).dedup).mergeSort
    (fun a b => decide (a ≤ b))

/-- The new records of a partition in a fold, in ascending SEQ (R248, R249). -/
def foldRecords (es : List SideEntry) (p : Nat) : List Member :=
  (es.filter (fun e => e.insert)).flatMap (fun e =>
    (if e.part0 = p then [(⟨e.item, false, e.seq, e.bitmap, e.nums, e.code⟩ : Member)] else [])
      ++ (if e.border ∧ e.part1 = p then [(⟨e.item, true, e.seq, e.bitmap, e.nums, e.code⟩ : Member)] else []))

/-- Rebuilds a record from its item's copy under snapshot `snap` (R248, R254); none when no copy can be read. -/
def State.rebuildRec (s : State) (x : Index) (snap : Nat) (m : Member) : Option Member :=
  (x.copyUnder m.item snap).map (fun c => { m with version := c.version, bitmap := c.bitmap, nums := c.nums, code := s.codeOf x.desc (x.desc.widen c.vec) })

/-- Cuts records into groups of `n`, in the places given. -/
def makeGroups (n : Nat) : List Nat → List Member → List Group
  | [], _ => []
  | u :: us, ms => if ms.isEmpty then [] else ⟨u, false, ms.take n⟩ :: makeGroups n us (ms.drop n)

/-- Groups of records in fresh places of an index's member store. -/
def Index.freshGroups (x : Index) (ms : List Member) : List Group :=
  let n := x.desc.group
  makeGroups n (x.freshUnits ((ms.length + n - 1) / n)) ms

/-- Sets the state of a key. -/
def Index.markKey (x : Index) (k : Nat) (st : KeyState) : Index := match Sparse.find x.keys k with
  | none => x
  | some y => { x with keys := Sparse.put x.keys k { y with state := st } }

/-- Writes the keys of records from key `k` on. -/
def Index.writeKeys (x : Index) (k : Nat) (ms : List Member) : Index :=
  { x with keys := (ms.mapIdx (fun i m => (k + i, (⟨m.item, m.second, .alive⟩ : Key)))).foldl (fun l p => Sparse.put l p.1 p.2) x.keys }

/-- Rebuilds records that a rewrite takes out of a LOST group: the records with their numbers, and the numbers of those whose
item has no readable copy. -/
def State.rebuildAll (s : State) (x : Index) (snap : Nat) (live : Nat → Bool) (ms : List (Nat × Member)) : List (Nat × Member) × List Nat :=
  let one := fun (m : Nat × Member) => if live m.1 then (match s.rebuildRec x snap m.2 with
    | some r => ((m.1, r), true)
    | none => (m, false)) else (m, true)
  ((ms.map (fun m => (one m).1)), (ms.filter (fun m => !(one m).2)).map (fun m => m.1))

/-- A compaction of a partition: the surviving records, then the new ones, in fresh groups and a fresh key range (R248). -/
def State.compact (s : State) (x : Index) (f : Fold) (p : Nat) (new : List Member) : Index × Part × Nat :=
  let old := x.cur.part p
  let g := x.desc.group
  let alive := fun r => match Sparse.find x.keys (old.keyBase + r) with
    | some k => k.state == .alive
    | none => false
  let kept := ((numbered 0 old.groups).filter (fun m => decide (m.1 < old.records))).filter (fun m => alive m.1)
  let lostAt := fun (r : Nat) => ((old.groups.getD (r / g) ⟨0, false, []⟩).lost)
  let (made, gone) := s.rebuildAll x f.point (fun r => lostAt r) kept
  let ms := ((made.filter (fun m => !gone.contains m.1)).map (fun m => m.2)) ++ new
  let groups := x.freshGroups ms
  let cap := Nat.min (2 * ms.length) maxRecords
  let base := x.freshKeys cap
  let x := gone.foldl (fun (x : Index) r => x.markKey (old.keyBase + r) .dead) x
  (x.writeKeys base ms, ⟨base, cap, ms.length, 0, false, groups⟩, gone.length)

/-- An append to a partition: every record keeps its slot, and the last group is written anew when it takes new records (R237,
R248). `dead` counts its dead and newly dying records. -/
def State.append (s : State) (x : Index) (f : Fold) (p : Nat) (new : List Member) (dead : Nat) : Index × Part × Nat :=
  let old := x.cur.part p
  let g := x.desc.group
  let full := old.records / g
  let keep := old.groups.take full
  let tail := old.groups.drop full
  let tailRecs := ((numbered (full * g) tail).filter (fun m => decide (m.1 < old.records)))
  if new.isEmpty then (x, { old with dead := dead, damaged := old.groups.any (fun y => y.lost) }, 0)
  else
    let alive := fun r => match Sparse.find x.keys (old.keyBase + r) with
      | some k => k.state == .alive
      | none => false
    let (made, gone) := if tail.any (fun y => y.lost) then s.rebuildAll x f.point alive tailRecs else (tailRecs, [])
    let groups := keep ++ x.freshGroups (made.map (fun m => m.2) ++ new)
    let x := gone.foldl (fun (x : Index) r => x.markKey (old.keyBase + r) .dead) x
    (x.writeKeys (old.keyBase + old.records) new,
     ⟨old.keyBase, old.keyCap, old.records + new.length, dead + gone.length, groups.any (fun y => y.lost), groups⟩, gone.length)

/-- A fold does one partition: superseded and deleted keys become DYING, and its entry for g + 1 is written (step 2). -/
def State.foldPart (s : State) (x : Index) (f : Fold) (p : Nat) : Index :=
  let es := x.foldItems f.point
  let old := x.cur.part p
  let dying := ((numbered 0 old.groups).filter (fun m => decide (m.1 < old.records) && es.any (fun e => e.item == m.2.item))).filter (fun m =>
    match Sparse.find x.keys (old.keyBase + m.1) with
    | some k => k.state == .alive
    | none => false)
  let x := dying.foldl (fun (x : Index) m => x.markKey (old.keyBase + m.1) .dying) x
  let new := foldRecords es p
  let dead := old.dead + dying.length
  let after := old.records + new.length
  let (x, e, lost) := if f.compactPct * after < dead * 100 ∨ old.keyCap < after ∨ maxRecords < after then s.compact x f p new
    else s.append x f p new dead
  { x with fold := some { f with
      todo := f.todo.filter (fun q => q != p), parts := Sparse.put f.parts p e
      marked := f.marked ++ dying.map (fun m => old.keyBase + m.1), lostKeys := f.lostKeys + lost } }

/-- A repair does one partition: its LOST groups are rebuilt in fresh units, every record keeping its slot (R254). A record whose copy is
newer than the fold point is hidden by that copy's side-list entry; its VERSION stays within R246 (log entry 90: DESIGN CHOICE, safe). -/
def State.repairPart (s : State) (x : Index) (f : Fold) (p : Nat) : Index :=
  let old := x.cur.part p
  let alive := fun r => match Sparse.find x.keys (old.keyBase + r) with
    | some k => k.state == .alive
    | none => false
  let fresh := x.freshUnits (old.groups.filter (fun g => g.lost)).length
  let step := fun (st : List Group × Nat × List Nat × List Nat) (g : Group) =>
    let (done, n, units, gone) := st
    if g.lost then
      let (made, g') := s.rebuildAll x x.committed alive (numbered n [g])
      (done ++ [⟨units.headD 0, false, made.map (fun m => { m.2 with version := Nat.min m.2.version f.point })⟩], n + g.recs.length, units.tail, gone ++ g')
    else (done ++ [g], n + g.recs.length, units, gone)
  let (groups, _, _, gone) := old.groups.foldl step ([], 0, fresh, [])
  let x := gone.foldl (fun (x : Index) r => x.markKey (old.keyBase + r) .dead) x
  { x with fold := some { f with
      todo := f.todo.filter (fun q => q != p), lostKeys := f.lostKeys + gone.length
      parts := Sparse.put f.parts p { old with groups := groups, damaged := false, dead := old.dead + gone.length } } }

/-- The groups that a fold or repair has written for a partition. -/
def Index.written (x : Index) (p : Nat) : List Group := match x.fold with
  | some f => newGroups (x.cur.part p) ((Sparse.find f.parts p).getD Part.none)
  | none => []

/-- A fold or repair does one partition: its groups are written, into extents in class 3 or as a publication into the ranges, and its keys,
group list and table entry are published with them (R229, R485). None while the store or its frames have no room. -/
def State.foldOne (s : State) (x : Index) (f : Fold) (p : Nat) : Option (State × Index) :=
  let y := if f.repair then s.repairPart x f p else s.foldPart x f p
  let gs := y.written p
  let ws := groupWrites x.desc p (x.cur.num + 1) gs
  if s.memberRoom x.desc gs = false then none
  else
    let ready := if x.desc.ranges then s.pagesReady (rangePages x.desc ws) else some (s.flashWrites x.desc (some (.fold x.desc.index)) ws)
    ready.map (fun s =>
      let (pub, s) := s.idxPublish x.desc (32 + 16 * (gs.flatMap (fun g => g.recs)).length) (if x.desc.ranges then rangeOuts x.desc ws else [])
      (s, { y with fold := y.fold.map (fun f => { f with pubs := f.pubs ++ [pub] }) }))

/-- Does the next `n` partitions of a fold or repair, as far as there is room. -/
def State.foldParts (s : State) : Nat → Index → State × Index
  | 0, x => (s, x)
  | n + 1, x => match x.fold with
    | none => (s, x)
    | some f => match f.todo with
      | [] => (s, x)
      | p :: _ => match s.foldOne x f p with
        | none => (s, x)
        | some (s, x) => s.foldParts n x

/-- Folds every partition that is left within one step, as a new index does with its load batch (R231). -/
def State.foldAll (s : State) : Nat → Index → Index
  | 0, x => x
  | n + 1, x => match x.fold with
    | none => x
    | some f => match f.todo with
      | [] => x
      | p :: _ => s.foldAll n (s.foldPart x f p)

/-- Step 1: a fold or repair begins (R248, R252, R254). -/
def Index.beginFold (x : Index) (repair : Bool) (pct : Nat) (opId : Option Nat) (completion : Nat) : Index :=
  let f := if repair then x.cur.point else x.committed
  let todo := if repair then (x.cur.parts.filter (fun p => p.2.damaged)).map (fun p => p.1) else x.touched f
  { x with fold := some ⟨repair, 2, f, pct, todo, todo.length, [], [], [], 0, opId, completion, none, []⟩, dyingGen := x.cur.num + 1 }

/-- Step 4 takes effect: g + 1 is current, g the one before it, and untouched partitions are those of g. -/
def Index.publishGen (x : Index) (f : Fold) : Index :=
  { x with
    prev := some x.cur
    cur := ⟨x.cur.num + 1, f.point, f.parts.foldl (fun l p => Sparse.put l p.1 p.2) x.cur.parts⟩
    fold := some { f with step := 5, pub := none } }

/-- Step 5: DYING keys become DEAD, superseded groups and key ranges are free, and the fold set leaves the side list (R252). -/
def Index.reclaim (x : Index) (f : Fold) : Index :=
  let y := f.marked.foldl (fun (x : Index) k => x.markKey k .dead) x
  ({ y with prev := none, side := if f.repair then y.side else y.side.filter (fun e => decide (f.point < e.seq)), fold := none } : Index).dropKeys

/-- A cancelled fold clears its DYING marks and frees what it wrote (R251). -/
def Index.undoFold (x : Index) (f : Fold) : Index :=
  let y := f.marked.foldl (fun (x : Index) k => x.markKey k .alive) x
  ({ y with fold := none, dyingGen := 0 } : Index).dropKeys

/-- Whether an index's COMPACT_PCT is none of its reserved values. -/
def State.compactOk (s : State) (i : Nat) : Bool := let p := s.get (F.IDX_TUNE_COMPACT_PCT i); decide (1 ≤ p) && decide (p ≤ 100)

/-- A fold starts when the side list's fill reaches AUTO_FOLD_PCT and none runs (R244); reserved values of IDX_TUNE start none (R9). -/
def State.autoFold (s : State) (i : Nat) : State := match s.index i with
  | none => s
  | some x =>
    let pct := s.get (F.IDX_TUNE_AUTO_FOLD_PCT i)
    if x.fold.isNone && x.state == .ready && pct != 0 && decide (pct ≤ 100) && s.compactOk i && decide (pct * x.desc.sideCap ≤ x.side.length * 100)
    then s.setIndex (x.beginFold false (s.get (F.IDX_TUNE_COMPACT_PCT i)) none 0) else s

/-- COMMITTED advances to the last sequence at or below which every update has taken effect (R242). -/
def Index.advance (x : Index) : Index :=
  let waiting := (x.updates.filter (fun u => u.seq != 0)).map (fun u => u.seq)
  { x with committed := waiting.foldl (fun m q => Nat.min m (q - 1)) (if x.nextSeq = 2 then x.committed else x.nextSeq - 1) }

/-- A fold whose publication has taken effect (step 4): the cancels that awaited it find it finished (R251). -/
def State.settleFold (s : State) (out : Nat → Bool) (x : Index) : State × Index := match x.fold with
  | none => (s, x)
  | some f => match f.pub with
    | none => (s, x)
    | some p =>
      if out p then (f.cancels.foldl (fun (s : State) (c : Nat × Nat) => s.opEnd 12 c.1 c.2 stAlreadyFinished 0 0 0) s, x.publishGen { f with cancels := [] })
      else (s, x)

/-- The changes of an index whose publications have taken effect: its creation, its updates (R242) and the publication of a
fold's generation (step 4). -/
def State.settleIndex (s : State) (i : Nat) : State := match s.index i with
  | none => s
  | some x =>
    let out := fun p => !(s.tier.pubs.any (fun q => q.id == p))
    let (s, x) := match x.creating with
      | some (pub, opId, completion) => if out pub then (s.opEnd 12 opId completion stDone 0 0 0, { x with creating := none, state := if x.state == IdxState.creating then IdxState.ready else x.state })
        else (s, x)
      | none => (s, x)
    let done := x.updates.filter (fun u => match u.pub with
      | some p => out p
      | none => false)
    let x := ({ x with updates := x.updates.filter (fun u => !(done.any (fun y => y.handle == u.handle))) } : Index).advance
    let (s, x) := s.settleFold out x
    let s := done.foldl (fun (s : State) (u : Update) => (s.modReq u.handle (fun r => { r with tally := { r.tally with notFound := u.notFound } })).endReq u.handle stDone 0) (s.setIndex x)
    ((s.autoFold i).stirIndex i).sweep

/-- Settles every index. -/
def State.settleIdx (s : State) : State := (s.idx.indices.map (fun p => p.1)).foldl (fun s i => s.settleIndex i) s

/-! ### Damage (R253) -/

/-- Marks the group that names a unit of the member store LOST. -/
def Part.loseUnit (u span : Nat) (p : Part) : Part :=
  let hit := fun (g : Group) => decide (g.unit ≤ u) && decide (u < g.unit + span)
  if p.groups.any hit then { p with damaged := true, groups := p.groups.map (fun g => if hit g then { g with lost := true } else g) } else p

/-- A unit of the member store of an index is lost (R253). -/
def State.loseMemberUnit (s : State) (i u : Nat) : State := match s.index i with
  | none => s
  | some x =>
    let fix := fun (g : Gen) => { g with parts := g.parts.map (fun p => (p.1, p.2.loseUnit u (1 + x.desc.area))) }
    let y := { x with cur := fix x.cur, prev := x.prev.map fix
                      fold := x.fold.map (fun f => { f with parts := f.parts.map (fun p => (p.1, p.2.loseUnit u (1 + x.desc.area))) }) }
    ((s.setIndex y).idxNote x.desc 8).event evIdxDamaged .error (some x.desc.tid) i u

/-- Units of the item and passage stores are lost: their copies and records cannot be read (R255). -/
def State.loseItemUnit (s : State) (i u : Nat) : State := match s.index i with
  | none => s
  | some x =>
    let per := 16384 / x.desc.slotBytes
    let bad := fun (c : ItemCopy) => { c with bad := true }
    s.setIndex { x with items := x.items.map (fun p => if p.1 / per = u then (p.1, bad p.2.1, bad p.2.2) else p) }
def State.losePassUnit (s : State) (i u : Nat) : State := match s.index i with
  | none => s
  | some x => s.setIndex { x with passages := x.passages.map (fun p =>
      if p.1 * 64 < (u + 1) * unitBytes ∧ u * unitBytes < (p.1 + passUnits p.2.text.length p.2.toks.length) * 64 then (p.1, { p.2 with bad := true }) else p) }

/-- An index in ranges as the pages of its ranges leave it: what lies in a LOST or POISONED page cannot be read (R253, R255). -/
def State.readIndex (s : State) (x : Index) : Index :=
  if x.desc.ranges = false then x
  else
    let d := x.desc
    let gone := fun (st : IdxStore) (off n : Nat) => (pagesOf d.tid (d.rangeVa st + off) n).any (fun k => (s.pte k).state == .lost || (s.pte k).state == .poisoned)
    let per := unitBytes / d.slotBytes
    let group := fun (g : Group) => { g with lost := g.lost || gone .member (g.unit * unitBytes) (d.groupSpan * unitBytes) }
    let fix := fun (g : Gen) => { g with parts := g.parts.map (fun p =>
      let gs := p.2.groups.map group
      (p.1, { p.2 with groups := gs, damaged := p.2.damaged || gs.any (fun y => y.lost) })) }
    let bad := fun (item : Nat) (c : ItemCopy) => { c with bad := c.bad || gone .item (item / per * unitBytes + item % per * d.slotBytes) d.slotBytes }
    { x with
      cur := fix x.cur
      prev := x.prev.map fix
      items := x.items.map (fun p => (p.1, bad p.1 p.2.1, bad p.1 p.2.2))
      passages := x.passages.map (fun p => (p.1, { p.2 with bad := p.2.bad || gone .passage (p.1 * 64) (64 * passUnits p.2.text.length p.2.toks.length) })) }

end Sys2Proof.Machine
end

