-- ==== Sys2Proof/Machine/Dispatcher.lean ====
section
/-! DEFINITION. The dispatcher's commands (spec/03 "YIELD, kill and core faults", spec/14). -/

namespace Sys2Proof.Machine

/-- COMMAND_DISPATCH: a ready command is placed on a core that may take it: its operand versions are fixed and the core
starts at its reset state (R61, R69, R78, R79). -/
def execCommandDispatch (item core time : Nat) (s : State) : Res := match s.dsp.items.find? (fun i => i.id == item) with
  | none => .next s
  | some i => match i.e.job, s.window core (match i.e.job with
      | .command d => d.facetUnits
      | _ => 0) with
    | .command d, some w =>
      if s.ready i && s.mayRun i && (s.coreSet i.e.ctx).contains core && s.coreFree core && !s.barred core i.e.ctx && decide (s.now ≤ time) then
        .next (s.placeItem i d core time w)
      else .next s
    | _, _ => .next s

/-- PLACEMENT: the dispatcher chooses a tenant and places its first ready command on the lowest-numbered free core
of its set (R371, R373, R379); entries whose pages cannot be had end first (R169). -/
def execPlacement (time : Nat) (s : State) : Res :=
  if s.now ≤ time then
    let s := (s.tick time).noteEmpty.examineAll.markReady
    match s.choose with
    | none => .next s
    | some (_, i, c) => match i.e.job with
      | .command d => .next (s.placeItem i d c time ((s.window c d.facetUnits).getD 0))
      | _ => .next s
  else .next s

/-- COMMAND_END: the core whose command has ended is free; the run is charged, and an EXTERNAL overrun becomes debt
(R375 to R378); an update that awaited the command goes on (R234). Log entry 16: DESIGN CHOICE, safe. -/
def execCommandEnd (core : Nat) (m : Sample) (s : State) : Res := match s.core core, Sparse.find s.dsp.running core with
  | some k, some i => match k.ended with
    | some x => if s.now ≤ m.free then .next (((s.tick m.free).endRun core i k x m).stirAll).markReady else .next s
    | none => .next s
  | _, _ => .next s

/-- Notes a core fault in CORE_FAULT and counts the error (R91, R434). -/
def State.noteFault (s : State) (core kind source detail : Nat) : State :=
  (((s.errors source 0 1).put (F.CORE_FAULT_VALID core) 1).put (F.CORE_FAULT_KIND core) kind).put (F.CORE_FAULT_DETAIL core) detail

/-- CORE_FAULT: the running command is killed, the core retired and the command re-run elsewhere, with nothing charged
(R91, R95, R378, R435). A command that has published stands; an idle core is retired at once. `kind` is CORE_FAULT.KIND, or 5 for a
mismatch of the rotating column check, which is made while COLCHK_EN is 1 and reported with KIND 3 (R119). -/
def execCoreFault (core kind source detail : Nat) (m : Sample) (s : State) : Res :=
  if core < s.cores_ ∧ 1 ≤ kind ∧ kind ≤ 5 ∧ source < 4 ∧ (kind = 5 → s.on (F.MX_CTL_COLCHK_EN core) = true) then
    let kind := if kind = 5 then 3 else kind
    let s := s.noteFault core kind source detail
    match s.core core, Sparse.find s.dsp.running core with
    | some k, some i =>
      if s.now ≤ m.free then
        let s := (s.tick m.free).retireCore core kind
        match k.ended with
        | some ⟨0, d, c⟩ => match s.withdraw core i k with
          | some (i, s) => .next ((s.killRun core i k false m).markReady)
          | none => .next ((s.endRun core i k ⟨0, d, c⟩ m).markReady)
        | _ => .next ((s.killRun core i k false m).markReady)
      else .next s
    | _, _ => .next ((s.retireCore core kind).settleCore core)
  else .next s

/-- EXTERNAL_OVERRUN_TIMEOUT: an EXTERNAL command not out of its commit phase 200 µs after its start ends FAILED with
EXTERNAL_OVERRUN (R94). -/
def execExternalOverrunTimeout (core time : Nat) (m : Sample) (s : State) : Res := match s.core core, Sparse.find s.dsp.running core with
  | some k, some i =>
    if k.d.external ∧ k.ended.isNone ∧ k.placed + 20000 ≤ time ∧ s.now ≤ time ∧ time ≤ m.free then
      .next (((s.tick m.free).endRun core i k (.failed dExternalOverrun) m).markReady)
    else .next s
  | _, _ => .next s

/-- A write to a Staged field of a core that is running waits for the end of its command; an idle core takes it at
once (spec/03 "CORE_ registers"). -/
def State.coreField (s : State) (core : Nat) (f : RF) (v : Nat) : State :=
  if (s.core core).isSome then { s with staged := s.staged ++ [⟨f, v, .commit, core⟩] } else (s.put f v).settleCore core

/-- CORE_RETIRE: a write of CORE_CTL.RETIRE. 0 is ignored; the first 1 locks the field, and the core leaves service after
any running command; a later one is dropped (R10, R11). -/
def execCoreRetire (core v : Nat) (s : State) : Res :=
  let f := F.CORE_CTL_RETIRE core
  if s.cores_ ≤ core ∨ v % 2 = 0 then .next s
  else if s.locks.contains f.id then .next (s.cfgDropped f)
  else .next ({ s with locks := f.id :: s.locks }.coreField core f 1)

/-- CORE_OFFLINE: a write of CORE_CTL.OFFLINE removes the core from placement after any running command, or returns it. -/
def execCoreOffline (core v : Nat) (s : State) : Res :=
  if s.cores_ ≤ core then .next s else .next (s.coreField core (F.CORE_CTL_OFFLINE core) (v % 2))

/-- FACET_DRAIN: a write of FCT_CTL.DRAIN; no new command is placed on the facet's cores while it is 1 (R98). -/
def execFacetDrain (facet v : Nat) (s : State) : Res :=
  if s.cores_ ≤ 4 * facet then .next s else .next (s.put (F.FCT_CTL_DRAIN facet) (v % 2))

/-- SLICE_END: an occupancy reaches its slice. With no other tenant waiting for the core a new slice begins at that
instant; otherwise YIELD is signalled (R88, R375). -/
def execSliceEnd (core time : Nat) (s : State) : Res := match Sparse.find s.dsp.occ core, s.core core with
  | some o, some _ =>
    if o.yielded = false ∧ o.start + o.slice ≤ time ∧ s.now ≤ time then
      let s := s.tick time
      if s.rivals core o.ctx then
        .next ({ s with dsp := { s.dsp with occ := Sparse.put s.dsp.occ core { o with yielded := true } } }.put (F.CORE_STAT_YIELD_PENDING core) 1)
      else .next (s.newSlice core o.ctx (o.start + o.slice))
    else .next s
  | _, _ => .next s

/-- GRACE_WINDOW_END: a killable command that is not in its commit phase is killed and requeued as a pre-emption; an
EXTERNAL command runs on, and a committed one keeps its work (R90, R93, R375, R376). -/
def execGraceWindowEnd (core time : Nat) (m : Sample) (s : State) : Res :=
  match Sparse.find s.dsp.occ core, s.core core, Sparse.find s.dsp.running core with
  | some o, some k, some i =>
    if o.yielded = true ∧ o.start + o.slice + o.grace ≤ time ∧ s.now ≤ time ∧ time ≤ m.free then
      if k.d.external ∨ k.ended.isSome then .next (s.tick time) else .next (((s.tick m.free).killRun core i k true m).markReady)
    else .next s
  | _, _, _ => .next s

/-- Tenants below `n` from whose registers the period's refill is taken. -/
def State.refill (s : State) (t : Nat) : State :=
  if s.weighted t then s
  else s.setCredits t (min (s.credits t + s.get (F.DSP_TNT_BUDGET_REFILL t)) (s.get (F.DSP_TNT_BUDGET_CAP t)))

/-- The count accounting records of the period that ends (R382). -/
def State.countAccounts (s : State) : State :=
  s.dsp.periodJobs.foldl (fun s p =>
    if p.1 < svc ∧ s.on (F.DSP_TNT_CFG_ACCT p.1) = false ∧ 0 < p.2 then
      s.account (countRecord p.1 s.dsp.periodNo p.2 (Sparse.get 0 s.dsp.periodReqs p.1))
    else s) s

/-- PERIOD_BOUNDARY: count accounting records are written, the staged fields apply, budget tenants are refilled and the
served figures return to zero (R379, R382, R388). Log entry 40: DEDUCED, unsafe. -/
def execPeriodBoundary (time : Nat) (s : State) : Res :=
  if s.dsp.periodAt + s.get F.DSP_PERIOD_PERIOD_US * 100 ≤ time ∧ s.now ≤ time then
    let s := ((s.tick time).countAccounts).boundary .period 0
    let s := (List.range 1024).foldl (fun s t => s.refill t) s
    .next { s with dsp := { s.dsp with
      served := [], wUsed := 0, bUsed := 0, periodNo := s.dsp.periodNo + 1, periodAt := time, periodJobs := [], periodReqs := [] } }
  else .next s

/-- The quotient of two natural numbers as F32, rounded to nearest-even; a zero divisor leaves an open value `v`
(R383; log entry 23: DESIGN CHOICE, safe). -/
def ratio (a b v : Nat) : F32 :=
  if b = 0 then BitVec.ofNat 32 v
  else
    let q := a * 2 ^ 64 / b
    Fp.round .nearest false q (-64) (decide (a * 2 ^ 64 % b ≠ 0))

/-- The slow-down of a context in a window (R383). -/
def Loupe.slowdown (l : Loupe) (v : Nat) : F32 := ratio ((l.busy + l.stalls.foldl (· + ·) 0) * 4096) l.scaled v

/-- The 64 bytes of a Loupe report (R384). -/
def Loupe.report (l : Loupe) (window : Nat) (slow rows : F32) : List Byte :=
  leBytes 8 (1 + (if l.ctx = svc then 0 else l.ctx) * 2 ^ 8 + b2n (l.ctx == svc) * 2 ^ 18 + window % 2 ^ 32 * 2 ^ 32)
  ++ leBytes 8 l.busy ++ (List.range 4).flatMap (fun i => leBytes 8 (l.stalls.getD i 0)) ++ leBytes 4 slow.toNat ++ leBytes 4 rows.toNat
  ++ leBytes 4 l.commands ++ leBytes 2 (Nat.min l.kills 0xFFFF) ++ leBytes 2 0

/-- One tenant's report: written into the ring, or discarded and counted when the ring is full; LPE_SLOW (R384), for which a reserved
SLOW_THRESH gives no threshold (R9). -/
def State.loupeReport (s : State) (l : Loupe) : State :=
  let (v, s) := s.draw
  let (w, s) := s.draw
  let slow := l.slowdown v
  let rows := ratio l.rows l.tiles w
  let size := s.get F.LPE_RING_SIZE
  let tail := s.get F.LPE_PTR_TAIL
  let s :=
    if s.on F.LPE_CTL_EN = false ∨ size = 0 then s
    else if 2 ^ size ≤ (tail + 2 ^ 32 - s.get F.LPE_PTR_HEAD) % 2 ^ 32 then s.bumpSat F.LPE_LOST_COUNT 1
    else (s.store svc (s.get F.LPE_RING_BASE + tail % 2 ^ size * 64) (l.report (s.get F.LPE_WINDOW_WINDOW) slow rows)).put F.LPE_PTR_TAIL (tail + 1)
  if s.on F.LPE_CTL_EVT_EN && s.get F.LPE_CTL_SLOW_THRESH != 0 && Fp.le (ratio (s.get F.LPE_CTL_SLOW_THRESH) 256 0) slow then
    s.event evLpeSlow .notice (some l.ctx) l.ctx slow.toNat
  else s

/-- LOUPE_WINDOW_END: one report for each context that ran a command in the window (R383, R384). -/
def execLoupeWindowEnd (time : Nat) (s : State) : Res :=
  if (s.get F.LPE_WINDOW_WINDOW + 1) * 10000000 ≤ time ∧ s.now ≤ time then
    let s := s.tick time
    let s := (s.dsp.loupe.mergeSort (fun a b => decide (a.ctx ≤ b.ctx))).foldl (fun s l => s.loupeReport l) s
    .next ({ s with dsp := { s.dsp with loupe := [] } }.bump F.LPE_WINDOW_WINDOW 1)
  else .next s

/-- The number of a descriptor of a ring, as a key of doorbell times. -/
def bellKey (ring n : Nat) : Nat := ring * 2 ^ 32 + n % 2 ^ 32

/-- The exported window of KIND BRIXUX of a tenant (R391). -/
def State.brixuxWin (s : State) (tid : Nat) : Option ExpWin :=
  (s.ktr.exp.map (fun p => p.2)).find? (fun w => w.valid && w.brixux && !w.service && w.tid == tid)

/-- A doorbell: TAIL of a ring is set, unless it lies more than 2^SIZE beyond HEAD (R365, R366). An absent ring has no TAIL word. -/
def State.doorbell (s : State) (tid ring tail : Nat) : State :=
  let r := completionKey tid ring
  let size := s.get (F.DSP_RING_WIN_SIZE r)
  let head := s.get (F.DSP_RING_PTR_HEAD r)
  let old := s.get (F.DSP_RING_PTR_TAIL r)
  let far := (tail + 2 ^ 32 - head) % 2 ^ 32
  if size = 0 then s
  else if 2 ^ size < far then s.event evBrxRingOverrun .warning (some tid) ring far
  else
    let posted := List.range (Nat.min ((tail + 2 ^ 32 - old) % 2 ^ 32) (2 ^ size))
    let bells := posted.foldl (fun l i => Sparse.put l (bellKey r (old + i)) s.now) s.dsp.bells
    { s with dsp := { s.dsp with bells := bells } }.put (F.DSP_RING_PTR_TAIL r) (tail % 2 ^ 32)

/-- BRX_DOORBELL: a host write to a ring's TAIL word. -/
def execBrxDoorbell (tid ring tail time : Nat) (s : State) : Res :=
  if tid < svc ∧ ring < 4 ∧ s.now ≤ time then .next ((s.tick time).doorbell tid ring tail) else .next s

/-- Whether records of a request still wait that must be written before its completion record (R370). -/
def State.streamWaits (s : State) (handle : Nat) : Bool :=
  s.dsp.hostRings.any (fun h => h.queue.any (fun r => match r with
    | .completion _ => false
    | .stream x _ _ _ => x == handle
    | .results x _ _ => x == handle))

/-- Whether stream records of a request that went to another node than its completion record are not all acknowledged (R396). -/
def State.streamUnacked (s : State) (handle addr : Nat) : Bool :=
  s.ktr.ops.any (fun o => o.issuer == .host (streamKey handle) && o.node != nodeOf addr)

/-- HOST_RECORD_WRITE: the oldest record that waits for a host ring is written into it; a result list goes to its own address before the
completion record, and is no record of the ring (R278, R369, R370, R396). -/
def execHostRecordWrite (key : Nat) (s : State) : Res := match s.dsp.hostRings.find? (fun h => h.key == key) with
  | none => .next s
  | some h => match h.queue with
    | [] => .next s
    | r :: rest =>
      let written := match r with
        | .results _ _ _ => h.written
        | _ => h.written + 1
      let s' := { s with dsp := { s.dsp with hostRings := s.dsp.hostRings.map (fun (x : HostRing) => if x.key == key then { h with queue := rest, written := written } else x) } }
      let addr := h.addr + h.written % 2 ^ h.log2 * 64
      match r with
      | .completion c =>
        if h.full || s.streamWaits c.handle || s.streamUnacked c.handle addr then .next s
        else .next (s'.putHall addr (s.get (F.DSP_RING_CKEY_KEY key)) 6 (c.bytes h.written) (.host key))
      | .stream x seq tokens payload =>
        if h.full then .next s
        else .next (s'.putHall addr (((s.req x).map (fun (q : Req) => q.d.streamKey)).getD 0) 6 (streamBytes x seq tokens payload) (.host key))
      | .results x a bytes =>
        .next (s'.putHall a (((s.req x).map (fun (q : Req) => s.get (F.DSP_RING_CKEY_KEY (completionKey q.tid q.ring)))).getD 0) 6 bytes (.host key))

/-- HOST_HEAD_POLL: while a host ring is full, HOST_HEAD is read again (R369). -/
def execHostHeadPoll (key head time : Nat) (s : State) : Res := match s.dsp.hostRings.find? (fun h => h.key == key) with
  | none => .next s
  | some h =>
    if h.full ∧ s.now ≤ time then
      .next ({ s with dsp := { s.dsp with hostRings := s.dsp.hostRings.map (fun (x : HostRing) => if x.key == key then { h with head := head % 2 ^ 64 } else x) } }.tick time)
    else .next s

/-- Held descriptors of a tenant, oldest first. -/
def State.heldOf (s : State) (tid : Nat) : List Req := s.liveReqs.filter (fun r => r.tid == tid && r.state == .held)

/-- TENANT_ENABLE: a write of DSP_TNT_CFG.ENABLED: 1 needs an ACTIVE key slot and sets the credits of a tenant not yet
enabled; 0 completes its held descriptors (R379, R388, R456). Log entry 42: DEDUCED, unsafe. -/
def execTenantEnable (tid v : Nat) (s : State) : Res :=
  let f := F.DSP_TNT_CFG_ENABLED tid
  if svc ≤ tid then .next s
  else if v % 2 = 1 then
    if s.get (F.ONX_SLOT_STAT_STATE tid) ≠ 1 then .next (s.cfgDropped f)
    else if s.on f then .next s
    else .next ((s.put f 1).setCredits tid (min (s.get (F.DSP_TNT_BUDGET_REFILL tid)) (s.get (F.DSP_TNT_BUDGET_CAP tid))))
  else .next ((s.heldOf tid).foldl (fun s r => s.endReq r.handle stRejectedPolicy 0x0E03) (s.put f 0))

/-- DSP_POST_TAIL: Bezel appends the queue entries that stand before TAIL; they run in the service context (R458). A part
without the ring appends nothing. -/
def execDspPostTail (tail : Nat) (entries : List QEntry) (s : State) : Res :=
  let size := s.get F.DSP_POST_RING_SIZE
  let t := tail % 2 ^ 16
  if size = 0 then .next (s.put F.DSP_POST_TAIL_TAIL t)
  else if entries.length = (t + 2 ^ 16 - s.dsp.postTail) % 2 ^ size ∧ entries.all (fun e => s.queueRoom e.ctx entries.length) then
    .next (({ s with dsp := { s.dsp with postTail := t } }.put F.DSP_POST_TAIL_TAIL t).enqueueAll true entries).markReady
  else .next s

end Sys2Proof.Machine
end

