-- ==== Sys2Proof/Machine/Ports.lean ====
section
/-! DEFINITION. The commands of the ports: frames, gate lists, port time and queue sampling (spec/15 "Traffic classes and egress" to
"MACsec", log entry 28: DESIGN CHOICE, unsafe). -/

namespace Sys2Proof.Machine

def State.port (s : State) (p : Nat) : Port := (Sparse.find s.ktr.ports p).getD Port.reset
def State.setPort (s : State) (p : Nat) (x : Port) : State := { s with ktr := { s.ktr with ports := Sparse.put s.ktr.ports p x } }

/-- Port time (R47), in ns. -/
def State.portNow (s : State) (p : Nat) : Nat := s.get (F.KTR_PORT_TIME_NS p)
def State.portTick (s : State) (p ns : Nat) : State := s.put (F.KTR_PORT_TIME_NS p) (Nat.max (s.portNow p) ns)

/-! ### Gate lists (R407 to R410) -/

/-- The active list of a port: gates and interval of each entry. -/
def State.gateList (s : State) (p : Nat) : List (Nat × Nat) :=
  (List.range (s.get (F.SHP_GATE_ACTIVE_COUNT p))).map (fun n => (s.get (F.SHP_GATE_ENTRY_ACTIVE_GATES p n), s.get (F.SHP_GATE_ENTRY_ACTIVE_INTERVAL p n)))

/-- The pending list of a port, as its Staged entries stand now (R14): none where COUNT is beyond the 256 entries (R9). -/
def State.pendingList (s : State) (p : Nat) : Option (List (Nat × Nat)) :=
  let count := s.get (F.SHP_GATE_CTL_COUNT p)
  if 256 < count then none else some ((List.range count).map (fun n => (s.get (F.SHP_GATE_ENTRY_GATES p n), s.get (F.SHP_GATE_ENTRY_INTERVAL p n))))

def cycleOf (l : List (Nat × Nat)) : Nat := (l.map (fun e => e.2)).foldl (· + ·) 0

/-- The entry in which an offset of the cycle lies, and the offset at which that entry ends. -/
def entryAt : Nat → Nat → List (Nat × Nat) → Nat → Nat × Nat
  | i, at_, [], _ => (i, at_)
  | i, at_, e :: r, off => if off < at_ + e.2 then (i, at_ + e.2) else entryAt (i + 1) (at_ + e.2) r off

/-- How far port time `ns` lies in the cycle of a list with base time `b`. -/
def cycleOffset (b cycle ns : Nat) : Nat := if cycle = 0 then 0 else if b ≤ ns then (ns - b) % cycle else (cycle - (b - ns) % cycle) % cycle

/-- The entry that the active list of a port stands in at a port time, and the time at which that entry ends. -/
def State.gateAt (s : State) (p ns : Nat) : Nat × Nat :=
  let l := s.gateList p
  let off := cycleOffset (s.get (F.SHP_GATE_BASE_BASE_TIME p)) (cycleOf l) ns
  let e := entryAt 0 0 l off
  (e.1, ns + (e.2 - off))

/-- The port time at which a class's gate, open in entry `i` which ends at `at_`, closes (R408); none when it stays open. -/
def gateCloses (l : List (Nat × Nat)) (tc : Nat) : Nat → Nat → Nat → Option Nat
  | 0, _, _ => none
  | fuel + 1, i, at_ =>
    let n := (i + 1) % Nat.max l.length 1
    let e := l.getD n (0xFF, 0)
    if e.1.testBit tc then gateCloses l tc fuel n (at_ + e.2) else some at_

/-- Whether MODE of a port is a defined encoding (table "Port modes", R9). -/
def State.modeOk (s : State) (p : Nat) : Bool := decide (s.get (F.KTR_PORT_CTL_MODE p) < 2)

/-- Bytes that a port of a defined MODE sends in one ns (table "Port modes"). -/
def State.portRate (s : State) (p : Nat) : Nat := if s.get (F.KTR_PORT_CTL_MODE p) = 0 then 100 else 50

/-- Whether a frame of a class may start at a port time (R408): its gate is open, and it completes before the gate closes. -/
def State.gateOpen (s : State) (p tc bytes ns : Nat) : Bool :=
  let l := s.gateList p
  let done := ns + (bytes + s.portRate p - 1) / s.portRate p
  let cut := match (s.port p).gates, s.pendingList p with
    | some t, some (e :: _) => e.1.testBit tc || decide (done ≤ t)
    | _, _ => true
  if l.isEmpty then cut
  else
    let e := s.gateAt p ns
    cut && (l.getD e.1 (0xFF, 0)).1.testBit tc && (match gateCloses l tc l.length e.1 e.2 with
      | none => true
      | some t => decide (done ≤ t))

/-- A list takes over at its time, which becomes its base time. -/
def State.switchGates (s : State) (p : Nat) (l : List (Nat × Nat)) (t : Nat) : State :=
  let s := s.setPort p { s.port p with gates := none, entry := 0 }
  let s := (((s.put (F.SHP_GATE_ACTIVE_COUNT p) l.length).put (F.SHP_GATE_ACTIVE_CYCLE_NS p) (cycleOf l)).put (F.SHP_GATE_BASE_BASE_TIME p) t).put (F.SHP_GATE_CTL_PENDING p) 0
  (l.mapIdx (fun n e => (n, e))).foldl (fun s (x : Nat × Nat × Nat) =>
    (s.put (F.SHP_GATE_ENTRY_ACTIVE_GATES p x.1) x.2.1).put (F.SHP_GATE_ENTRY_ACTIVE_INTERVAL p x.1) x.2.2) s

/-- The pending list takes over as it stands at that instant, the boundary of its Staged fields (R14); a COUNT beyond the entries, a
reserved encoding, lets nothing take over (R9). Log entry 80: DESIGN CHOICE, safe. -/
def State.takeList (s : State) (p t : Nat) : State := match s.pendingList p with
  | some l => s.switchGates p l t
  | none => (s.setPort p { s.port p with gates := none }).put (F.SHP_GATE_CTL_PENDING p) 0

/-- GATE_GO: a write of SHP_GATE_CTL at port time `ns` (R15, R409). -/
def execGateGo (port v ns : Nat) (s : State) : Res :=
  if 16 ≤ port then .next s
  else
    let s := (s.portTick port ns).put (F.SHP_GATE_CTL_COUNT port) (v % 512)
    let count := s.get (F.SHP_GATE_CTL_COUNT port)
    let now := s.portNow port
    if v.testBit 31 = false then .next s
    else if 256 < count then .next s
    else
      let t := s.get (F.SHP_GATE_SWITCH_SWITCH_TIME port)
      let cycle := cycleOf (s.gateList port)
      let pend := fun (s : State) (t : Nat) => (s.setPort port { s.port port with gates := some t }).put (F.SHP_GATE_CTL_PENDING port) 1
      if now < t then .next (pend s t)
      else
        let s := s.event evLateGate .warning none port 0
        if cycle = 0 then .next (s.takeList port now)
        else .next (pend s (now + (cycle - cycleOffset (s.get (F.SHP_GATE_BASE_BASE_TIME port)) cycle now)))

/-- GATE_SWITCH: port time has reached the time at which the pending list takes over (R409). -/
def execGateSwitch (port ns : Nat) (s : State) : Res := match (s.port port).gates with
  | none => .next s
  | some t => if t ≤ ns ∧ s.portNow port ≤ ns then .next ((s.portTick port ns).takeList port t) else .next s

/-- GATE_ENTRY_END: an interval of the active list has ended, and the next entry is in force (R408). -/
def execGateEntryEnd (port ns : Nat) (s : State) : Res :=
  if port < 16 ∧ s.gateList port ≠ [] ∧ s.portNow port ≤ ns then
    let s := s.portTick port ns
    .next (s.setPort port { s.port port with entry := (s.gateAt port ns).1 })
  else .next s

/-- PTP_LOCK: the port steps its time once, forward or back, and the active list moves with it (R407, R410). `offset` is signed. -/
def execPtpLock (port ns offset path : Nat) (s : State) : Res :=
  if port < 16 ∧ s.on (F.KTR_PTP_CTL_EN port) = true ∧ s.on (F.KTR_PORT_STAT_PTP_LOCKED port) = false then
    let s := ((s.put (F.KTR_PORT_STAT_PTP_LOCKED port) 1).put (F.KTR_PTP_STAT_OFFSET_NS port) offset).put (F.KTR_PTP_STAT_PATH_NS port) path
    let s := s.put (F.KTR_PORT_TIME_NS port) ns
    .next (s.setPort port { s.port port with entry := (s.gateAt port ns).1 })
  else .next s

/-- PTP_MASTER_LOST: port time free-runs (R407). -/
def execPtpMasterLost (port ns : Nat) (s : State) : Res :=
  if port < 16 ∧ s.on (F.KTR_PORT_STAT_PTP_LOCKED port) = true ∧ s.portNow port ≤ ns then
    .next (((s.portTick port ns).put (F.KTR_PORT_STAT_PTP_LOCKED port) 0).event evPtpUnlocked .warning none port 0)
  else .next s

/-! ### Egress (R404, R405, R413) -/

/-- What a token bucket holds at a port time, in units of 1/8,000 byte: filled at `rate` Mb/s to `depth` bytes. -/
def topUp (rate depth tokens at_ ns : Nat) : Nat := Nat.min (depth * 8000) (tokens + rate * (ns - at_))

/-- The tokens of a tenant's egress bucket of a port; a bucket not used yet is full. -/
def State.tokensOf (s : State) (p ctx ns : Nat) : Nat :=
  let depth := s.get (F.SHP_SHAPE_BURST ctx)
  match Sparse.find (s.port p).tokens ctx with
  | none => depth * 8000
  | some (n, t) => topUp (s.get (F.SHP_SHAPE_RATE ctx)) depth n t ns

/-- Whether a frame is shaped (R404). -/
def State.shaped (s : State) (f : Frame) : Bool := decide (f.ctx < svc) && f.tc != 7 && s.get (F.SHP_SHAPE_RATE f.ctx) != 0

def State.passes (s : State) (p ns : Nat) (f : Frame) : Bool := !s.shaped f || decide (f.bytes * 8000 ≤ s.tokensOf p f.ctx ns)

/-- The first frame of each context of a class. -/
def headsOf (tc : Nat) (waiting : List Frame) : List Frame :=
  (waiting.filter (fun f => f.tc == tc)).foldl (fun l f => if l.any (fun x => x.ctx == f.ctx) then l else l ++ [f]) []

/-- The context after `c` in rising order, cyclically. -/
def nextCtx (heads : List Frame) (c : Nat) : Nat :=
  let after := (heads.map (fun f => f.ctx)).filter (fun x => decide (c < x))
  let low := fun (l : List Nat) => l.foldl Nat.min 4096
  if after.isEmpty then low (heads.map (fun f => f.ctx)) else low after

/-- Deficit round robin with a quantum of 8,192 bytes (R404): the frame that is sent, and the deficits afterwards. -/
def drr (heads : List Frame) : Nat → Nat → List (Nat × Nat) → Option (Frame × List (Nat × Nat))
  | 0, _, _ => none
  | fuel + 1, c, d => match heads.find? (fun f => f.ctx == c) with
    | some f =>
      let n := Sparse.get 0 d c
      if f.bytes ≤ n then some (f, Sparse.set 0 d c (n - f.bytes))
      else let c' := nextCtx heads c; drr heads fuel c' (addAt d c' 8192)
    | none => let c' := nextCtx heads c; drr heads fuel c' (addAt d c' 8192)

/-- The deficits of a class: keyed by class times 4,096, plus the context. -/
def deficitsOf (l : List (Nat × Nat)) (tc : Nat) (heads : List Frame) : List (Nat × Nat) :=
  (l.filter (fun p => p.1 / 4096 == tc && heads.any (fun f => f.ctx == p.1 % 4096))).map (fun p => (p.1 % 4096, p.2))

/-- The frame that a port sends next: from the highest class with one that may be sent. -/
def State.nextFrame (s : State) (p ns : Nat) (waiting : List Frame) : Nat → Option (Frame × List (Nat × Nat))
  | 0 => none
  | tc + 1 =>
    let heads := (headsOf tc waiting).filter (fun f => s.passes p ns f && s.gateOpen p tc f.bytes ns)
    if heads.isEmpty then s.nextFrame p ns waiting tc
    else
      let x := s.port p
      drr heads (4 * heads.length + 4) (Sparse.get 0 x.turns tc) (deficitsOf x.deficits tc heads)

/-- Whether a port can send: its link is up, its frames can be protected, and its packet numbers are not used up (R413). -/
def State.canSend (s : State) (p : Nat) : Bool :=
  s.get (F.KTR_PORT_STAT_LINK p) == 2 && s.modeOk p && !(s.port p).exhausted && (s.on (F.KTR_PORT_STAT_MACSEC_UP p) || !s.on (F.KTR_PORT_CTL_MACSEC_REQ p))

/-- A frame leaves a port. -/
def State.sendFrame (s : State) (p ns : Nat) (f : Frame) (deficits : List (Nat × Nat)) : State :=
  let x := s.port p
  let kept := x.deficits.filter (fun q => q.1 / 4096 != f.tc)
  let tokens := if s.shaped f then Sparse.put x.tokens f.ctx (s.tokensOf p f.ctx ns - f.bytes * 8000, ns) else x.tokens
  (s.setPort p { x with
    deficits := deficits.foldl (fun l q => Sparse.set 0 l (f.tc * 4096 + q.1) q.2) kept
    turns := Sparse.set 0 x.turns f.tc f.ctx
    tokens := tokens
    sent := addAt x.sent f.tc f.bytes
    maxDelay := Sparse.set 0 x.maxDelay f.tc (Nat.max (Sparse.get 0 x.maxDelay f.tc) (Nat.min (ns - f.since) (2 ^ 32 - 1))) }).bump (F.KTR_TX_BYTES_BYTES p) f.bytes

/-- FRAME_SEND: a port sends one of the frames that wait, oldest first; with its last packet number the association stops (R404, R405,
R408, R413). -/
def execFrameSend (port ns : Nat) (waiting : List Frame) (lastPn : Bool) (s : State) : Res :=
  if port < 16 ∧ s.portNow port ≤ ns ∧ waiting.all (fun f => decide (f.bytes ≤ 9216) && decide (f.ctx ≤ svc)) then
    let s := s.portTick port ns
    match (if s.canSend port then s.nextFrame port ns waiting 8 else none) with
    | none => .next s
    | some (f, d) =>
      let s := s.sendFrame port ns f d
      .next (if lastPn then (s.setPort port { s.port port with exhausted := true }).event evMacsecPnExhausted .error none port 0 else s)
  else .next s

/-! ### Ingress (R406, R412) -/

/-- The colour that the meter of RFC 2698 gives `n` bytes entering as colour `c` (0 green, 1 yellow, 2 red), and both buckets
afterwards. -/
def meterColour (n c tc tp : Nat) : Nat × Nat × Nat :=
  if c = 2 ∨ tp < n * 8000 then (2, tc, tp)
  else if c = 1 ∨ tc < n * 8000 then (1, tc, tp - n * 8000)
  else (0, tc - n * 8000, tp - n * 8000)

/-- The colour that a DSCP enters with, in colour-aware mode. -/
def State.dscpColour (s : State) (dscp : Nat) : Nat := s.get (F.SHP_DSCP_COLOUR_COLOUR (dscp / 32)) / 4 ^ (dscp % 32) % 4

/-- Whether a datagram's metering would use a reserved value: a DSCP's colour 3, or a PIR below the CIR (R9). -/
def State.policeBad (s : State) (ctx : Nat) (f : RxFrame) : Bool :=
  (s.on (F.SHP_POLICE_CTL_AWARE ctx) && s.dscpColour f.dscp == 3) || decide (s.get (F.SHP_POLICE_PIR_RATE ctx) < s.get (F.SHP_POLICE_CIR_RATE ctx))

/-- Meters a datagram to an exported window of a tenant (R406). A metering that a reserved value would enter is rejected, and nothing is
counted or taken from a bucket (R9; log entry 80: DESIGN CHOICE, safe). -/
def State.police (s : State) (p ns ctx : Nat) (f : RxFrame) : State :=
  if s.policeBad ctx f then s else
  let cbs := s.get (F.SHP_POLICE_CIR_SIZE ctx)
  let pbs := s.get (F.SHP_POLICE_PIR_SIZE ctx)
  let x := s.port p
  let (tc, tp) := match Sparse.find x.meters ctx with
    | none => (cbs * 8000, pbs * 8000)
    | some (c, q, t) => (topUp (s.get (F.SHP_POLICE_CIR_RATE ctx)) cbs c t ns, topUp (s.get (F.SHP_POLICE_PIR_RATE ctx)) pbs q t ns)
  let into := if s.on (F.SHP_POLICE_CTL_AWARE ctx) then s.dscpColour f.dscp else 0
  let (colour, tc', tp') := meterColour f.ipBytes into tc tp
  let s := s.setPort p { x with meters := Sparse.put x.meters ctx (tc', tp', ns) }
  if colour = 2 then s.bumpSat F.SHP_POLICE_CNT_RED 1
  else if colour = 1 ∧ s.get F.SHP_INGRESS_YELLOW_LIMIT ≤ f.fill then s.bumpSat F.SHP_POLICE_CNT_YELLOW 1
  else s

/-- FRAME_RECEIVE: MACsec, then policing by colour (R406, R412). -/
def execFrameReceive (port ns : Nat) (f : RxFrame) (s : State) : Res :=
  if port < 16 ∧ s.portNow port ≤ ns then
    let s := (s.portTick port ns).bump (F.KTR_RX_BYTES_BYTES port) f.bytes
    let drop := (s.on (F.KTR_PORT_CTL_MACSEC_REQ port) && !f.secured && !f.eapol) || (f.secured && !f.intact)
    if drop then .next (s.bumpSat (F.KTR_LINK_ERR_MACSEC_DROP port) 1)
    else match f.ctx with
      | none => .next s
      | some ctx => .next (if ctx < svc ∧ s.on (F.SHP_POLICE_CTL_EN ctx) then s.police port ns ctx f else s)
  else .next s

/-! ### Queue sampling (R411) -/

/-- Table "Sampling record (32 bytes)". -/
def sampleBytes (port tc depth ns head most sent : Nat) : List Byte :=
  leBytes 8 (port + 16 * tc + depth % 2 ^ 32 * 2 ^ 32) ++ leBytes 8 ns ++ leBytes 8 (Nat.min head (2 ^ 32 - 1) + most * 2 ^ 32) ++ leBytes 8 sent

/-- Writes a sampling record, or counts it lost. -/
def State.pushSample (s : State) (bytes : List Byte) : State :=
  let size := s.get F.SHP_SAMPLE_RING_SIZE
  let tail := s.get F.SHP_SAMPLE_PTR_TAIL
  if 2 ^ size ≤ (tail + 2 ^ 32 - s.get F.SHP_SAMPLE_PTR_HEAD) % 2 ^ 32 then s.bumpSat F.SHP_SAMPLE_LOST_LOST 1
  else (s.store svc (s.get F.SHP_SAMPLE_RING_BASE + 32 * (tail % 2 ^ size)) bytes).put F.SHP_SAMPLE_PTR_TAIL (tail + 1)

/-- QUEUE_SAMPLE: a port's record of each traffic class; `queues` are the bytes queued and the age of the head frame, by class. -/
def execQueueSample (port ns : Nat) (queues : List (Nat × Nat)) (s : State) : Res :=
  let x := s.port port
  if port < 16 ∧ s.on F.SHP_SAMPLE_CTL_SAMPLE_EN = true ∧ s.portNow port ≤ ns ∧ x.sampledAt + s.get F.SHP_SAMPLE_CTL_SAMPLE_US * 1000 ≤ ns then
    let s := (s.portTick port ns).setPort port { x with sampledAt := ns, sent := [], maxDelay := [] }
    if s.get F.SHP_SAMPLE_RING_SIZE = 0 then .next s
    else .next ((List.range 8).foldl (fun s tc =>
      let q := queues.getD tc (0, 0)
      s.pushSample (sampleBytes port tc q.1 ns q.2 (Sparse.get 0 x.maxDelay tc) (Sparse.get 0 x.sent tc))) s)
  else .next s

end Sys2Proof.Machine
end

