-- ==== Sys2Proof/Machine/KtrIn.lean ====
section
/-! DEFINITION. How the part takes and applies the operations of other nodes (spec/15 "Operations" and "Delivery", log entry 28: DESIGN CHOICE, unsafe). -/

namespace Sys2Proof

/-! ### What an operation does (table "Keator operations") -/

def KBody.isLoad : KBody → Bool
  | .load => true
  | _ => false

def KBody.isAtomic : KBody → Bool
  | .fadd _ => true
  | .swap _ => true
  | .cas _ _ => true
  | _ => false

/-- Whether the size and alignment of an operation are those of its row (table "Keator operations"). -/
def KBody.fits (b : KBody) (addr len : Nat) : Bool := match b with
  | .load => decide (8 ≤ len) && decide (len ≤ 8192) && addr % 8 == 0
  | .store bs => decide (1 ≤ len) && decide (len ≤ 8192) && bs.length == len
  | .put bs => decide (1 ≤ len) && decide (len ≤ 8192) && bs.length == len && addr % 64 == 0 && len % 64 == 0
  | _ => len == 8 && addr % 8 == 0

/-- What an operation writes, given the eight bytes that stand at its address. -/
def KBody.bytes (b : KBody) (old : Nat) : List Byte := match b with
  | .load => []
  | .store bs => bs
  | .put bs => bs
  | .fadd v => Machine.leBytes 8 ((old + v.toNat) % 2 ^ 64)
  | .swap v => Machine.leBytes 8 v.toNat
  | .cas c v => if old = c.toNat then Machine.leBytes 8 v.toNat else Machine.leBytes 8 old

end Sys2Proof

namespace Sys2Proof.Machine

/-! ### Flows from other nodes (R399, R403) -/

/-- The SEQ `seq`, counted on past 2^32 from `base`; none when it lies before `base`. -/
def seqFrom (base seq : Nat) : Option Nat :=
  let d := (seq + 2 ^ 32 - base % 2 ^ 32) % 2 ^ 32
  if d < 2 ^ 31 then some (base + d) else none

/-- Notes a number in a set that is kept as everything below `lo` and a list. -/
def noteSeq : Nat → Nat → List Nat → Nat × List Nat
  | 0, lo, l => (lo, l)
  | fuel + 1, lo, l => if l.contains lo then noteSeq fuel (lo + 1) (l.filter (fun x => x != lo)) else (lo, l)

def FlowIn.receive (f : FlowIn) (n : Nat) : FlowIn :=
  let p := noteSeq (f.gotMore.length + 1) f.got (n :: f.gotMore)
  { f with got := p.1, gotMore := p.2 }

def FlowIn.apply (f : FlowIn) (n : Nat) : FlowIn :=
  let p := noteSeq (f.appliedMore.length + 1) f.applied (n :: f.appliedMore)
  { f with applied := p.1, appliedMore := p.2 }

def FlowIn.fresh (node tc epoch : Nat) : FlowIn := ⟨node, tc, epoch, 0, [], 0, [], [], []⟩

def State.inFlow (s : State) (node tc : Nat) : Option FlowIn := s.ktr.inFlows.find? (fun f => f.node == node && f.tc == tc)

def State.setInFlow (s : State) (f : FlowIn) : State :=
  { s with ktr := { s.ktr with inFlows := s.ktr.inFlows.filter (fun x => !(x.node == f.node && x.tc == f.tc)) ++ [f] } }

/-- Sends an operation again, whole, on a new flow (R403). -/
def State.resend (s : State) (o : KOp) : State := (segments (o.bytes / 8192 + 1) o.bytes).foldl (fun s m => s.sendDgram o.node o.tc o.id m) s

/-- A node has restarted: its flows end; its operations not acknowledged are sent again, but for atomics, which end KTR_NODE_RESTARTED
(R403). -/
def State.restarted (s : State) (node : Nat) : State :=
  let mine := s.ktr.ops.filter (fun o => o.node == node)
  let s := { s with ktr := { s.ktr with
    flows := s.ktr.flows.filter (fun f => f.node != node)
    inFlows := s.ktr.inFlows.filter (fun f => f.node != node)
    ops := s.ktr.ops.filter (fun o => !(o.node == node && o.atomic)) } }
  mine.foldl (fun s o => if o.atomic then match o.issuer with
    | .shipRec h => s.stopReq h stFailed 0x0F04
    | _ => s
    else s.resend o) s

/-- A datagram of a node has come, showing its EPOCH (R402, R403). -/
def State.hear (s : State) (node epoch : Nat) : State :=
  let old := Sparse.find s.ktr.epochs node
  let s := { s with ktr := { s.ktr with
    heard := Sparse.put s.ktr.heard node s.now
    silent := s.ktr.silent.filter (fun n => n != node)
    epochs := Sparse.put s.ktr.epochs node epoch } }
  if old.any (fun e => e != epoch) then s.restarted node else s

/-! ### Refusals (R397) -/

/-- A received operation is refused; KTR_ACCESS_DENIED is recorded at most once per second. -/
def State.nack (s : State) (node opId reason : Nat) : State :=
  let s := (((s.bumpSat F.KTR_DENIED_COUNT 1).put F.KTR_DENIED_LAST_REASON reason).put F.KTR_DENIED_LAST_NODE node).emit (.nack node opId reason)
  if s.ktr.deniedAt.any (fun t => decide (s.now < t + 100000000)) then s
  else { s with ktr := { s.ktr with deniedAt := some s.now } }.event evKtrAccessDenied .warning none node reason

/-- Whether a window admits a node. -/
def ExpWin.admits (w : ExpWin) (node : Nat) : Bool := node &&& w.srcMask == w.srcNode &&& w.srcMask

def ExpWin.ctx (w : ExpWin) : Nat := if w.service then svc else w.tid

/-- The register space as other nodes see it (R464): its first offset and its bytes. -/
def regBase : Nat := 0x0F0000000000
def regBytes : Nat := 0x2000000

/-- Whether a page of an operation refuses it: UNMAPPED, POISONED, or read-only for a write. -/
def State.pageRefuses (s : State) (write : Bool) (key : Nat) : Bool :=
  let p := s.pte key
  let g := s.pte (s.governing key)
  p.state == .unmapped || g.state == .unmapped || g.state == .poisoned || (write && (p.state == .shared || !p.writable))

/-- The window of an operation, or why it is refused (table "NACK reasons"). -/
def State.windowOf (s : State) (h : KHead) (b : KBody) : Except Nat ExpWin :=
  let off := h.addr % 2 ^ 44
  match (s.ktr.exp.map (fun p => p.2)).find? (fun w => w.valid && decide (w.offset ≤ off) && decide (off + h.len ≤ w.offset + w.pages * pageBytes)) with
  | none => .error 1
  | some w =>
    if nodeOf h.addr ≠ s.get F.KTR_NODE_NODE then .error 1
    else if w.key ≠ h.key then .error 2
    else if !(if b.isLoad then w.read else if b.isAtomic then w.atomic else w.write) then .error 3
    else if w.admits h.node = false then .error 4
    else if (pagesOf w.ctx (w.va + (off - w.offset)) h.len).any (fun k => s.pageRefuses (!b.isLoad) k) then .error 5
    else .ok w

/-! ### Applying operations (R393 to R395) -/

/-- The TAIL words of the rings of a tenant: address in its range, by ring. -/
def State.tailWords (s : State) (ctx : Nat) : List (Nat × Nat) := match (if ctx < svc then s.brixuxWin ctx else none) with
  | none => []
  | some w => ((List.range 4).filter (fun r => s.get (F.DSP_RING_WIN_SIZE (completionKey ctx r)) != 0)).map (fun r =>
      (r, w.va + s.get (F.DSP_RING_WIN_OFFSET (completionKey ctx r))))

/-- A write that changes the TAIL word of a ring is its doorbell (R391). -/
def State.ringBells (s : State) (ctx va n : Nat) : State :=
  ((s.tailWords ctx).filter (fun w => decide (va < w.2 + 4) && decide (w.2 < va + n))).foldl (fun s w =>
    let tail := s.word ctx w.2 4
    if tail = s.get (F.DSP_RING_PTR_TAIL (completionKey ctx w.1)) then s else s.doorbell ctx w.1 tail) s

/-- Writes bytes of an operation: at once, or as a publication through the journal, whose number is answered (R393). -/
def State.inWrite (s : State) (ctx va : Nat) (bs : List Byte) : Option (State × Option Nat) :=
  let keys := pagesOf ctx va bs.length
  match s.fillZero keys with
  | none => none
  | some s =>
    if keys.any (fun k => (s.pte k).durable) then
      if s.get F.PWR_HOLDUP_FLUSH_MIB * 2 ^ 20 < s.unacked then none else
      let o : OutBuf := ⟨kKvAppend, va, bs.length, Sparse.cells 0 0 bs, [(0, bs.length)]⟩
      some (s.publish ctx CmdDesc.none [o] [] (s.durablePages ctx [o]) true false, some s.tier.nextPub)
    else some (((s.store ctx va bs).soil ctx va bs.length).ringBells ctx va bs.length, none)

/-- Whether an operation of a flow may be applied now, as to order (R395). -/
def State.inTurn (s : State) (f : FlowIn) (x : Inbound) : Bool :=
  if x.h.order || x.body.isAtomic || x.body.isLoad then f.applied == x.seq
  else decide (x.seq < f.got) && !(s.ktr.held.any (fun y => y.h.node == x.h.node && y.h.tc == x.h.tc && decide (y.seq < x.seq)
    && decide (y.h.addr < x.h.addr + x.h.len) && decide (x.h.addr < y.h.addr + y.h.len)))

/-- Whether two held entries are one operation. -/
def Inbound.same (x y : Inbound) : Bool := x.h.node == y.h.node && x.h.tc == y.h.tc && x.seq == y.seq

/-- An operation is applied: its RESP is sent; that of a PUT once every segment is applied. -/
def State.inDone (s : State) (f : FlowIn) (x : Inbound) (data : List Byte) : State :=
  let f := f.apply x.seq
  let f := match x.body with
    | .put _ => if x.h.last then { f with puts := f.puts ++ [(x.h.opId, x.seq)] } else f
    | _ => f
  let s := match x.body with
    | .put _ => s
    | _ => s.emit (.resp x.h.node x.h.opId data)
  let done := f.puts.filter (fun p => decide (p.2 < f.applied))
  let s := done.foldl (fun s p => s.emit (.resp x.h.node p.1 [])) s
  let s := s.setInFlow { f with puts := f.puts.filter (fun p => decide (f.applied ≤ p.2)) }
  { s with ktr := { s.ktr with held := s.ktr.held.filter (fun y => !(x.same y)) } }

/-- Advances one accepted operation; none while it must wait. -/
def State.tryApply (s : State) (x : Inbound) : Option State :=
  let f := (s.inFlow x.h.node x.h.tc).getD (FlowIn.fresh x.h.node x.h.tc x.h.epoch)
  let first := ((f.atomics.find? (fun p => p.1 == x.seq)).map (fun p => leBytes 8 p.2)).getD []
  match x.pub with
  | some id => if s.tier.pubs.any (fun p => p.id == id) then none else some ((s.inDone f x first).ringBells x.ctx x.va x.h.len)
  | none =>
    let keys := pagesOf x.ctx x.va x.h.len
    if keys.any (fun k => s.pageRefuses (!x.body.isLoad) k) then some ((s.inDone f { x with body := .put [], h := { x.h with last := false } } []).nack x.h.node x.h.opId 5)
    else if (s.inTurn f x && keys.all (fun k => s.pageHere k)) = false then none
    else if x.body.isLoad then some (s.inDone f x (s.load x.ctx x.va x.h.len))
    else
      let old := s.word x.ctx x.va 8
      let f := if x.body.isAtomic then { f with atomics := (f.atomics ++ [(x.seq, old)]).drop (f.atomics.length + 1 - 1024) } else f
      match s.inWrite x.ctx x.va (x.body.bytes old) with
      | none => none
      | some (s, none) => some (s.inDone f x (if x.body.isAtomic then leBytes 8 old else []))
      | some (s, some id) => some ({ s.setInFlow f with ktr := { (s.setInFlow f).ktr with
          held := s.ktr.held.map (fun y => if x.same y then { x with pub := some id } else y) } })

/-- Pages of held operations that are AWAY are brought up (R393). -/
def State.liftHeld (s : State) : State :=
  (s.ktr.held.filter (fun x => x.pub.isNone)).foldl (fun s x => (pagesOf x.ctx x.va x.h.len).foldl (fun s k =>
    let g := s.governing k
    if (s.pte g).state = .away then (s.startUp g).getD s else s) s) s

/-- Held operations are applied while one can be. -/
def State.settleHeld : Nat → State → State
  | 0, s => s
  | fuel + 1, s => match s.ktr.held.findSome? (fun x => s.tryApply x) with
    | none => s
    | some s => State.settleHeld fuel s

def State.settleInbound (s : State) : State :=
  let s := s.liftHeld
  State.settleHeld (2 * s.ktr.held.length) s

/-! ### Receiving an operation -/

/-- Operations of a context that wait on pages (R393). -/
def State.waitsOnPages (s : State) (ctx : Nat) : Nat :=
  (s.ktr.held.filter (fun x => x.ctx == ctx && x.pub.isNone && !((pagesOf x.ctx x.va x.h.len).all (fun k => s.pageHere k)))).length

/-- A LOAD of the register space (R464): its data, or why it is refused. -/
def State.regLoad (s : State) (h : KHead) (b : KBody) : Except Nat (List Byte) :=
  let off := h.addr % 2 ^ 44 - regBase
  if b.isLoad = false then .error 3
  else
    let ws := (s.ktr.exp.map (fun p => p.2)).filter (fun w => w.valid && w.brixux && !w.service && w.key == h.key)
    if ws.isEmpty then .error 2
    else if ws.any (fun w => w.admits h.node) = false then .error 4
    else .ok ((List.range ((h.len + 7) / 8)).flatMap (fun i => leBytes 8 (s.tenantWord (off + 8 * i))))

/-- An operation that its flow has not received before. -/
def State.accept (s : State) (f : FlowIn) (n : Nat) (h : KHead) (b : KBody) : State :=
  let refuse := fun (r : Nat) => (s.setInFlow ((f.receive n).apply n)).nack h.node h.opId r
  if h.resv ∨ b.fits h.addr h.len = false then refuse 7
  else if regBase ≤ h.addr % 2 ^ 44 ∧ h.addr % 2 ^ 44 < regBase + regBytes then match s.regLoad h b with
    | .error r => refuse r
    | .ok d => (s.setInFlow ((f.receive n).apply n)).emit (.resp h.node h.opId d)
  else match s.windowOf h b with
    | .error r => refuse r
    | .ok w =>
      let va := w.va + (h.addr % 2 ^ 44 - w.offset)
      let x : Inbound := ⟨h, b, n, w.ctx, va, none⟩
      let wait := !((pagesOf w.ctx va h.len).all (fun k => s.pageHere k))
      if wait && decide (w.ctx < svc) && decide (256 ≤ s.waitsOnPages w.ctx) then s
      else
        let s := s.setInFlow (f.receive n)
        { s with ktr := { s.ktr with held := s.ktr.held ++ [x] } }.settleInbound

/-- An operation of a flow that was received before: an atomic is answered again with what it returned, any other not. -/
def State.repeated (s : State) (h : KHead) (f : FlowIn) (n : Nat) : State := match f.atomics.find? (fun p => p.1 == n) with
  | some p => s.emit (.resp h.node h.opId (leBytes 8 p.2))
  | none => s

/-- A received operation (R393, R397, R399, R403). A part without a node number accepts none. -/
def State.inbound (s : State) (h : KHead) (b : KBody) : State :=
  if s.get F.KTR_NODE_NODE = 0 then s
  else
    let stale := (s.inFlow h.node h.tc).any (fun f => f.epoch != h.epoch)
    let s := s.hear h.node h.epoch
    if stale then s.nack h.node h.opId 6
    else
      let f := (s.inFlow h.node h.tc).getD (FlowIn.fresh h.node h.tc h.epoch)
      match seqFrom f.got h.seq with
      | none => s.repeated h f (f.got - (f.got + 2 ^ 32 - h.seq) % 2 ^ 32)
      | some n => if f.gotMore.contains n then s.repeated h f n else s.accept f n h b

end Sys2Proof.Machine
end

