-- ==== Sys2Proof/Machine/Tier.lean ====
section
/-! DEFINITION. The tier manager's commands: reservations, bring-up, write-back, eviction, lost frames, the journal
but for its acknowledgement, objects, and tier operations (spec/07). -/

namespace Sys2Proof.Machine

/-- Whether an item wants a reservation: one that it has not, pages that have come to want bringing up, a held one AWAY again among them, or
output pages whose frame is lost (R175 to R177). -/
def State.wants (s : State) (i : QItem) : Bool :=
  i.entered != 0 && (!i.granted || (s.upNeed i).any (fun k => !i.held.contains k || (s.pte k).state == .away) || !(freshNeed i).isEmpty)

/-- RESERVATION_GRANT: the first command in order of entry that lacks a reservation gets it whole, within HELD_MAX and
FRAME_MAX; one whose need alone exceeds them ends FAILED; with no frame to be had it waits, and MEM_NO_FRAME is recorded when FREE is 0
and no page can be evicted (R176, R177, R187). The pages it declares are examined first (R169). A reserved HELD_MAX ends it
INVALID_ENCODING (R9). -/
def execReservationGrant (item time : Nat) (s : State) : Res := match s.dsp.items.find? (fun i => i.id == item) with
  | none => .next s
  | some i =>
    if s.now ≤ time ∧ s.wants i = true ∧ s.dsp.items.all (fun x => decide (i.entered ≤ x.entered) || !s.wants x) then
      let s := s.tick time
      match s.examine i with
      | some x => .next (s.failItem i x)
      | none =>
        if s.heldMaxOk = false then .next (s.failItem i .invalid)
        else if s.needTooLarge i then .next (s.failItem i (.failed 0x0704))
        else if s.get F.MEM_FRAMES_HELD + s.heldNeed i ≤ s.heldMax ∧ s.frameRoom i.runCtx (s.ownNeed i) then match s.grant i with
          | some s' => .next s'.markReady
          | none => .next (s.noFrame)
        else .next s
    else .next s

/-- Notes the wait of the commands whose last page has come up (MEM_WAIT). -/
def State.endWaits (s : State) : State :=
  s.dsp.items.foldl (fun s i =>
    if i.waited && i.held.all (fun k => s.pageHere k) then
      let us := usUp (s.now - i.grantedAt)
      let s := (s.bumpSat F.MEM_WAIT_WAITS 1).raise F.MEM_WAIT_WAIT_MAX us
      { s with dsp := { s.dsp with items := s.dsp.items.map (fun (x : QItem) => if x.id == i.id then { x with waited := false } else x) } }
    else s) s

/-- PAGE_BRING_UP_DONE: a MOVING page has all its subpages and becomes RESIDENT (R170). A page that the alternate
delivered is written back to the Geode tier later, and may end its object's episode (R198, R199). -/
def execPageBringUpDone (key time : Nat) (s : State) : Res :=
  if (s.pte key).state = .moving ∧ (s.pte key).homeLost = false ∧ s.now ≤ time ∧ s.readingPage key = false
      ∧ ((s.pte key).home = .geode → s.tierOffline = false) then
    let s := ((s.tick time).arrive key)
    let s := match s.object (key / 2 ^ 27 - 2048) with
      | some x => if 2048 ≤ key / 2 ^ 27 ∧ x.altPages.contains key then
          ((s.setPte key { s.pte key with dirty := BitVec.allOnes 32, dirtyAt := s.now }).setObject (key / 2 ^ 27 - 2048)
            { x with altPages := x.altPages.filter (fun k => !(k == key)) }).endEpisode (key / 2 ^ 27 - 2048)
        else s
      | none => s
    .next s.settleInbound.endWaits.markReady
  else .next s

/-- Whether a page is due to be written back: it has stayed dirty for CLEAN_AGE; FREE is below FREE_LOW, or frames are wanted that only its
eviction can give; or an object's alternate delivered it (R185, table "Recovery of a shared object page"). -/
def State.cleanDue (s : State) (key : Nat) (p : Pte) : Bool :=
  let age := s.get F.MEM_CLEAN_CLEAN_AGE
  let full := match s.frameMax (key / 2 ^ 27) with
    | none => false
    | some m => decide (m ≤ s.residentOf (key / 2 ^ 27))
  (age != 0 && decide (p.dirtyAt + age * 100000 ≤ s.now)) || decide (s.get F.MEM_FREE_FREE < s.get F.MEM_FREE_FREE_LOW)
    || s.get F.MEM_FREE_FREE == 0 || full || decide (2048 ≤ key / 2 ^ 27)

/-- WRITE_BACK: a page that is due has its dirty subpages read and sent to its home: placed in the flash translation layer, or as puts;
CLEANING is 1 (R184, R185). -/
def execWriteBack (key time : Nat) (s : State) : Res :=
  let p := s.pte key
  if p.state = .resident ∧ p.dirty ≠ 0 ∧ p.cleaning = false ∧ p.home ≠ .none ∧ p.homeLost = false ∧ s.now ≤ time then
    let t := s.tick time
    if t.cleanDue key p then
      .next ((t.setPte key { p with cleaning := true, writing := p.dirty, redirty := 0 }).writeHome key p.dirty (some (.writeBack key)))
    else .next s
  else .next s

def popCount (m : BitVec 32) : Nat := ((List.range 32).filter (fun i => m.getLsbD i)).length

/-- Whether a write-back's programs are done and its puts acknowledged. -/
def State.writtenBack (s : State) (key : Nat) : Bool := !s.programming (.writeBack key) && !s.putsOut key

/-- WRITE_BACK_DONE: DIRTY clears for the subpages not replaced meanwhile, whose logical units are remapped (R184); a failed write-back to a
fabric home leaves the page dirty and pinned until SET_HOME (R188). -/
def execWriteBackDone (key : Nat) (ok : Bool) (time : Nat) (s : State) : Res :=
  let p := s.pte key
  if p.cleaning = true ∧ s.now ≤ time ∧ (if ok then s.writtenBack key = true else p.home = .fabric) ∧ (p.home = .geode → s.tierOffline = false) then
    let s := s.tick time
    if ok then
      .next (((s.setPte key { p with cleaning := false, dirty := p.dirty &&& p.redirty, redirty := 0, writing := 0, dirtyAt := s.now }).bump
        F.MEM_WB_SUBPAGES (popCount p.writing)).ackWork (.writeBack key))
    else
      .next ((s.setPte key { p with cleaning := false, redirty := 0, writing := 0, homeLost := true }).event evFabricHomeLost .error
        (if key / 2 ^ 27 ≤ svc then some (key / 2 ^ 27) else none) p.loc 0)
  else .next s

/-- Whether a context stands at its FRAME_MAX. -/
def State.atFrameMax (s : State) (ctx : Nat) : Bool := match s.frameMax ctx with
  | none => false
  | some m => decide (m ≤ s.residentOf ctx)

/-- The pages from which the next to be evicted is taken: those of tenants at their FRAME_MAX first, else all that may be (R186). -/
def State.evictFrom (s : State) : List (Nat × Pte) :=
  let all := s.tier.pages.filter (fun q => s.evictable q.2)
  let own := all.filter (fun q => s.atFrameMax (q.1 / 2 ^ 27))
  if own.isEmpty then all else own

/-- Whether a page is the next to be evicted: the oldest STAMP of those (R186). -/
def State.evictNext (s : State) (key : Nat) : Bool :=
  let from_ := s.evictFrom
  from_.any (fun q => q.1 == key) && from_.all (fun q => decide ((s.pte key).stamp ≤ q.2.stamp))

/-- PAGE_EVICT: a clean, unpinned, unheld page goes to its home, oldest first; when no frame is free and no page can be
evicted, MEM_NO_FRAME (R186, R187). -/
def execPageEvict (key time : Nat) (s : State) : Res :=
  if s.now ≤ time then
    let s := s.tick time
    if s.evictNext key then .next (s.toHome key) else .next s.noFrame
  else .next s

/-- A stack is retired as failed: its frames are lost, and STACK_RETIRED is recorded (R438). -/
def State.failStack (s : State) (stack : Nat) : State :=
  if s.get (F.HBM_STAT_STATE stack) = 6 then s
  else
    let s := if s.on (F.HBM_CTL_RETIRE stack) then s.put (F.HBM_STAT_STATE stack) 6 else s.dropStack stack 6
    s.event evStackRetired .error none stack 0

/-- An uncorrectable line loses its frame, or the copies of tables in a reserved one (R439); with STACK_UE_MAX of them in an hour, the stack has failed (R175, R434, R438, R443). -/
def State.ueLine (s : State) (stack line : Nat) : State :=
  let s := s.errors 4 0 1
  let s := ((s.bumpSat (F.HBM_UE_COUNT stack) 1).put (F.HBM_ERR_ADDR_VALID stack) 1).put (F.HBM_ERR_ADDR_LINE stack) line
  let s := { s with ras := { s.ras with lines := addAt s.ras.lines stack 1 } }
  let frame := line / 32768
  let s := (s.loseFrame (stack * framesPerStack + frame)).loseCopies stack (fun c => c.reserved && Nat.blt frame s.reservedPerStack)
  if s.get F.RAS_CTL_STACK_UE_MAX ≠ 0 ∧ s.get F.RAS_CTL_STACK_UE_MAX ≤ Sparse.get 0 s.ras.lines stack then s.failStack stack else s

/-- HBM_UE_LINE: an uncorrectable line is found. -/
def execHbmUeLine (stack line time : Nat) (s : State) : Res :=
  if stack < s.stacks ∧ line < 2 ^ 30 ∧ s.now ≤ time then .next (((s.tick time).ueLine stack line).markReady)
  else .next s

/-! ### The journal (R189 to R195) -/

/-- JOURNAL_GROUP_FLUSH: gathered records are written into stripes; a full journal holds them and JRN_FULL is recorded once
per episode (R190, R195). -/
def execJournalGroupFlush (time : Nat) (s : State) : Res :=
  if s.tier.gathered.isEmpty ∨ time < s.now then .next s
  else
    let s := s.tick time
    let more := s.tier.gathered.foldl (fun n r => n + r.bytes) 0
    if journalBytes < s.tier.used + more then
      if s.tier.full then .next s
      else .next (({ s with tier := { s.tier with full := true } }.bumpSat F.MEM_JRN_STAT_FULL_EPISODES 1).event evJrnFull .warning none 0 0)
    else .next (s.writeGroup false)

/-- Journal fill in per cent (MEM_JRN_STAT.FILL). -/
def Tier.fill (t : Tier) : Nat := t.used * 100 / journalBytes

/-- Whether a checkpoint writes a durable page home: it is dirty, and it has a home that takes it (R188, R193). -/
def toCheckpoint (p : Pte) : Bool := p.durable && p.dirty != 0 && p.home != .none && !p.homeLost && (p.state == .resident || p.state == .away)

/-- A durable page is written home whole, from its frame or, where it lost its frame, from its home and the journal (R175, R193). -/
def State.checkpointPage (s : State) (key : Nat) : State :=
  let p := s.pte key
  (((s.setPte key { p with dirty := 0, cleaning := false, redirty := 0, writing := 0 }).dropWriteBack key).bump F.MEM_WB_SUBPAGES
    (popCount p.dirty)).homeWrite key p.dirty

/-- CHECKPOINT: beyond CKPT_PCT, or when CKPT_PERIOD has passed, every durable page is written home and the records covered are
retired (R193). Those of a page that no home takes stay, as do those of publications not yet in effect. -/
def execCheckpoint (time : Nat) (s : State) : Res :=
  if s.now ≤ time ∧ s.tierOffline = false ∧ (s.get F.MEM_JRN_CTL_CKPT_PCT < s.tier.fill ∨ s.tier.ckptAt + s.get F.MEM_JRN_CTL_CKPT_PERIOD * 100000000 ≤ time) then
    let s := s.tick time
    let s := ((s.tier.pages.filter (fun p => toCheckpoint p.2)).map (fun p => p.1)).foldl (fun s k => s.checkpointPage k) s
    let waiting := s.tier.pubs.map (fun p => p.id)
    .next ({ s with tier := { s.tier with
      ckptAt := time
      covered := s.tier.covered.filter (fun r => waiting.contains r.pub || ((s.pte r.key).durable && (s.pte r.key).dirty != 0)) } }.freeJournal)
  else .next s

/-! ### Objects (R198 to R201) -/

/-- The fates of pages of an object whose bring-up has failed: each was read again (step 1), reconstructed (2), is asked of the
alternate (3), or has no source (4) (R198). Without an alternate step 3 fails. -/
def State.recoverPages (s : State) (obj : Nat) (x : Obj) (pages : List (Nat × Nat)) : State :=
  let fate := fun (n : Nat) => if n = 3 ∧ x.altAddr = 0 then 4 else n
  let bad := (pages.filter (fun p => fate p.2 == 4)).map (fun p => p.1)
  let s := (pages.filter (fun p => decide (fate p.2 < 3))).foldl (fun s p => s.arrive p.1) s
  let alt := (pages.filter (fun p => fate p.2 == 3)).map (fun p => p.1)
  let x := { x with
    episode := pages.foldl (fun m p => Nat.max m (fate p.2)) x.episode
    altPages := x.altPages ++ alt
    altSince := if alt.isEmpty then x.altSince else some s.now }
  if bad.isEmpty then ((s.setObject obj x).endEpisode obj).endWaits.markReady
  else (s.poison obj x (bad ++ x.altPages)).markReady

/-- OBJ_PAGE_RECOVERY: bring-ups of an object's pages have failed (R198). -/
def execObjPageRecovery (obj : Nat) (pages : List (Nat × Nat)) (time : Nat) (s : State) : Res := match s.object obj with
  | none => .next s
  | some x =>
    if s.now ≤ time ∧ pages ≠ [] ∧ pages.all (fun p => p.1 / 2 ^ 27 == objCtx obj && (s.pte p.1).state == .moving && decide (1 ≤ p.2) && decide (p.2 ≤ 4)) then
      .next ((s.tick time).recoverPages obj x pages)
    else .next s

/-- ALT_FETCH_TIMEOUT: an alternate fetch not done within ALT_TIMEOUT fails, and the object becomes POISONED (R198). -/
def execAltFetchTimeout (obj time : Nat) (s : State) : Res := match s.object obj with
  | none => .next s
  | some x => match x.altSince with
    | none => .next s
    | some t =>
      if t + x.altTimeout * 100000 ≤ time ∧ s.now ≤ time ∧ x.altPages ≠ [] then .next (((s.tick time).poison obj x x.altPages).markReady)
      else .next s

/-! ### Tier operations (R206, R207) -/

def TierOp.ctx (o : TierOp) : Nat := if o.service then svc else o.tid

/-- The page keys of an operation. -/
def TierOp.keys (o : TierOp) : List Nat := (List.range o.pages).map (fun i => pageKey (TierOp.ctx o) (o.va / pageBytes + i))

/-- Whether R206 refuses a descriptor. -/
def TierOp.bad (o : TierOp) : Bool :=
  o.resv || o.va % pageBytes != 0 || o.pages == 0 || decide (2 ^ 27 < o.pages) || decide (2 ^ 48 < o.va + o.pages * pageBytes)

/-- The home that a HOME field names. -/
def homeOf (n : Nat) : Home := if n = 1 then .geode else if n = 2 then .fabric else .none

/-- Where page `i` of an operation lies in its home: a window and a page of it (FABRIC), nothing otherwise. -/
def TierOp.place (o : TierOp) (i : Nat) : Nat × Nat :=
  if o.home = 2 then (o.arg % 4096, o.arg / 4096 % 2 ^ 20 + i) else (0, 0)

/-- An operation of the tier ring that is not long, in one step: the entry is taken, R206 is checked, then `f` acts. Log entry 76: DEDUCED, unsafe. -/
def State.tierOp (s : State) (o : TierOp) (f : State → State × Nat × Nat × Nat) : State :=
  let s := s.opStart 8 o.opId false o.completion 0
  if TierOp.bad o then s.opEnd 8 o.opId o.completion stInvalidEncoding 0 0 0
  else
    let (s', status, detail, pages) := f s
    s'.opEnd 8 o.opId o.completion status detail pages 0

/-- Runs an operation's step where it may run (R387). -/
def State.tierStep (s : State) (o : TierOp) (r : State) : Res :=
  if s.opRuns 8 o.opId then .next r.markReady else .next s

/-- MAP: UNMAPPED pages become ZERO with the attributes given; any mapped page fails the whole (R196, R206, R480). -/
def execMap (o : TierOp) (s : State) : Res :=
  s.tierStep o (s.tierOp o (fun s =>
    if o.home = 3 then (s, stInvalidEncoding, 0, 0)
    else if o.home = 1 ∧ s.hasGeode = false then (s, stNotPresent, 0, 0)
    else if (TierOp.keys o).any (fun k => (s.pte k).state != .unmapped) then (s, stFailed, 0x0706, 0)
    else
      let serial := s.tier.serial + 1
      let s := { s with tier := { s.tier with serial := serial } }
      let s := (List.range o.pages).foldl (fun s i =>
        s.setPte (pageKey (TierOp.ctx o) (o.va / pageBytes + i)) { Pte.none with
          state := .zero, home := homeOf o.home, durable := o.cls == 1, writable := o.writable, encHome := o.encHome,
          loc := (TierOp.place o i).1, page := (TierOp.place o i).2, serial := serial }) s
      (s, stDone, 0, o.pages)))

/-- UNMAP: the pages are UNMAPPED for every later dispatch, queued commands that declare them fail, and objects that waited
for their last mapping are retired (R206, R480). Log entry 45: DEDUCED, unsafe. -/
def execUnmap (o : TierOp) (s : State) : Res :=
  s.tierStep o (s.tierOp o (fun s =>
    let s := (TierOp.keys o).foldl (fun s k => s.unmapPage k) s
    (((s.failUnmapped (TierOp.keys o)).finishRetire), stDone, 0, o.pages)))

/-- A page with entry `p` takes its new home, and `n` of its sub-pages are written there. -/
def State.setHome (s : State) (o : TierOp) (i : Nat) (p : Pte) (n : Nat) : State :=
  let key := pageKey (TierOp.ctx o) (o.va / pageBytes + i)
  let home := homeOf o.home
  let s := if home = .geode then s else s.freeLpages key
  let p := { p with
    home := home
    encHome := o.encHome
    loc := (TierOp.place o i).1
    page := (TierOp.place o i).2
    homeLost := false
    cleaning := false
    redirty := 0
    dirty := if home = .none then p.dirty else 0 }
  (((s.dropWriteBack key).setPte key p).bump F.MEM_WB_SUBPAGES n).homeWrite key (if n = 0 then 0 else BitVec.allOnes 32)

/-- One page of SET_HOME: its contents are written to the new home, then HOME switches; none while it must wait. -/
def State.rehome (s : State) (o : TierOp) (i : Nat) : Option (State × Option Nat) :=
  let key := pageKey (TierOp.ctx o) (o.va / pageBytes + i)
  let p := s.pte key
  let home := homeOf o.home
  if home = .geode ∧ s.tierOffline then none else
  match p.state with
  | .unmapped => some (s, some 0x0701)
  | .shared => some (s, some 0x0702)
  | .poisoned | .lost => some (s, some 0x0703)
  | .moving =>
    if p.homeLost then some (s.setHome o i (if home = .none then { p with dirty := BitVec.allOnes 32 } else p) 0, none) else none
  | .zero => some (s.setHome o i p 0, none)
  | .resident =>
    some (if home = .none then s.setHome o i { p with dirty := BitVec.allOnes 32 } 0 else s.setHome o i p 32, none)
  | .away =>
    if home = .none then (s.bringUp key).map (fun s => (s.setHome o i { s.pte key with dirty := BitVec.allOnes 32 } 0, none))
    else some (s.setHome o i p 32, none)

/-- Whether one page more fits FRAME_MAX as it was when a PREFETCH began (R13, R177). -/
def State.prefetchRoom (s : State) (o : TierOp) : Bool :=
  let m := ((s.op 8 o.opId).bind (fun x => x.limit)).getD 0xFFFFFFFF
  o.service || m == 0xFFFFFFFF || decide (s.residentOf (TierOp.ctx o) + 1 ≤ m)

/-- One page of PREFETCH. -/
def State.prefetchPage (s : State) (o : TierOp) (i : Nat) : Option (State × Option Nat) :=
  let key := pageKey (TierOp.ctx o) (o.va / pageBytes + i)
  let g := s.governing key
  match (s.pte g).state with
  | .unmapped => some (s, some 0x0701)
  | .poisoned | .lost => some (s, some 0x0703)
  | .moving => none
  | .away => if s.prefetchRoom o then (s.bringUp g).map (fun s => (s, none)) else some (s, some 0x0704)
  | _ => some (s, none)

/-- One page of EVICT: written back and freed, unless it is pinned, held, or has no home (R186, R187). -/
def State.evictPage (s : State) (o : TierOp) (i : Nat) : Option (State × Option Nat) :=
  let key := pageKey (TierOp.ctx o) (o.va / pageBytes + i)
  let p := s.pte key
  match p.state with
  | .unmapped => some (s, some 0x0701)
  | .resident =>
    if s.evictable { p with dirty := 0, cleaning := false } then
      some (((((s.dropWriteBack key).setPte key { p with dirty := 0, cleaning := false, redirty := 0, writing := 0 }).bump F.MEM_WB_SUBPAGES (popCount p.dirty)).homeWrite key p.dirty).toHome key, none)
    else some (s, none)
  | _ => some (s, none)

/-- Pages from `i` on of an operation, `n` of them at the most: the state, the pages done, and the detail code of the page
that failed; none while one must wait. -/
def runPages (f : State → Nat → Option (State × Option Nat)) : Nat → Nat → State → Option (State × Nat × Option Nat)
  | 0, i, s => some (s, i, none)
  | n + 1, i, s => match f s i with
    | none => none
    | some (s, some x) => some (s, i, some x)
    | some (s, none) => runPages f n (i + 1) s

/-- A step of SET_HOME, PREFETCH or EVICT over its next `n` pages; over more than 64 pages it is a long operation (R207). Log entry 51: DESIGN CHOICE, safe. -/
def State.longStep (s : State) (o : TierOp) (n : Nat) (f : State → Nat → Option (State × Option Nat)) : Res :=
  match s.opDead 8 o.opId o.completion with
  | some s => .next s
  | none =>
  if s.opRuns 8 o.opId = false then .next s
  else
    let s := (s.opStart 8 o.opId (decide (64 < o.pages)) o.completion o.pages).opFor 8 o.opId (if o.service then svc else o.tid)
    if TierOp.bad o then .next (s.opEnd 8 o.opId o.completion stInvalidEncoding 0 0 0)
    else
      let pos := s.opPos 8 o.opId
      let n := if 64 < o.pages then Nat.min n (o.pages - pos) else o.pages - pos
      match runPages f n pos s with
      | none => .next s
      | some (s, i, some x) => .next (s.opEnd 8 o.opId o.completion stFailed x i 0).markReady
      | some (s, i, none) =>
        if i = o.pages then .next (s.opEnd 8 o.opId o.completion stDone 0 i 0).markReady
        else match s.op 8 o.opId with
          | none => .next s
          | some y => .next (s.setOp { y with pos := i }).markReady

/-- Whether a control entry has cancelled an operation before its first step. -/
def State.opCancelled (s : State) (o : TierOp) : Bool := (s.op 8 o.opId).any (fun x => x.status == .cancelled)

/-- SET_HOME (R185, R188, R196, R207). -/
def execSetHome (o : TierOp) (n : Nat) (s : State) : Res :=
  if o.home = 1 ∧ s.hasGeode = false ∧ TierOp.bad o = false ∧ s.opCancelled o = false then s.tierStep o (s.tierOp o (fun s => (s, stNotPresent, 0, 0)))
  else s.longStep { o with resv := o.resv || o.home == 3 } n (fun s i => s.rehome o i)

/-- PREFETCH: pages are brought up in class 3, which waits while PREFETCH_EN is 0 (R207, MEM_CTL); a malformed descriptor and a cancelled
operation end all the same. -/
def execPrefetch (o : TierOp) (n : Nat) (s : State) : Res :=
  if s.on F.MEM_CTL_PREFETCH_EN || TierOp.bad o || s.opCancelled o then s.longStep o n (fun s i => s.prefetchPage o i)
  else .next s

/-- EVICT (R186, R207). -/
def execEvict (o : TierOp) (n : Nat) (s : State) : Res := s.longStep o n (fun s i => s.evictPage o i)

/-- PIN: pages are brought up and pinned, within PIN_MAX; a need beyond it fails with none pinned (log entry 24: DEDUCED, unsafe). While a frame
is wanting the operation waits. -/
def execPin (o : TierOp) (s : State) : Res :=
  let keys := (TierOp.keys o).map (fun k => s.governing k)
  let bad := keys.findSome? (fun k => match (s.pte k).state with
    | .unmapped => some 0x0701
    | .poisoned | .lost => some 0x0703
    | _ => none)
  let more := (keys.filter (fun k => !(s.pte k).pinned)).length
  let tooMany := !o.service && decide (s.get (F.MEM_TNT_QUOTA_PIN_MAX o.tid) < s.pinnedOf o.tid + more)
  if TierOp.bad o then s.tierStep o (s.tierOp o (fun s => (s, stInvalidEncoding, 0, 0)))
  else match bad with
    | some x => s.tierStep o (s.tierOp o (fun s => (s, stFailed, x, 0)))
    | none =>
      if tooMany then s.tierStep o (s.tierOp o (fun s => (s, stFailed, 0x0704, 0)))
      else if keys.any (fun k => (s.pte k).state == .moving) then .next s
      else match s.bringAll keys with
        | none => .next s
        | some s' => s.tierStep o (s'.tierOp o (fun s => (keys.foldl (fun s k => s.setPte k { s.pte k with pinned := true }) s, stDone, 0, o.pages)))

/-- UNPIN (R206). -/
def execUnpin (o : TierOp) (s : State) : Res :=
  s.tierStep o (s.tierOp o (fun s =>
    let keys := (TierOp.keys o).map (fun k => s.governing k)
    if keys.any (fun k => (s.pte k).state == .unmapped) then (s, stFailed, 0x0701, 0)
    else (keys.foldl (fun s k => s.setPte k { s.pte k with pinned := false }) s, stDone, 0, o.pages)))

/-- MAP_SHARED: pages of a READY object are mapped as SHARED, never writable (R197); what stops it is log entry 24: DEDUCED, unsafe. -/
def execMapShared (o : TierOp) (s : State) : Res :=
  s.tierStep o (s.tierOp o (fun s =>
    let obj := o.arg % 4096
    let first := o.arg / 4096 % 2 ^ 20
    match s.object obj with
    | none => (s, stFailed, 0, 0)
    | some x =>
      if x.state = .poisoned then (s, stPoisoned, 0, 0)
      else if x.state ≠ .ready then (s, stFailed, 0, 0)
      else if x.pages < first + o.pages then (s, stFailed, 0x0701, 0)
      else if (TierOp.keys o).any (fun k => (s.pte k).state != .unmapped) then (s, stFailed, 0x0706, 0)
      else
        let serial := s.tier.serial + 1
        let s := { s with tier := { s.tier with serial := serial } }
        let s := (List.range o.pages).foldl (fun s i =>
          s.setPte (pageKey (TierOp.ctx o) (o.va / pageBytes + i)) { Pte.none with state := .shared, loc := obj, page := first + i, serial := serial }) s
        (s, stDone, 0, o.pages)))

/-- OBJ_REGISTER: a FREE object enters LOADING under an ACTIVE key slot, its pages ZERO (R456). -/
def execObjRegister (o : TierOp) (s : State) : Res :=
  s.tierStep o (s.tierOp o (fun s =>
    let d := o.obj
    if d.resv ∨ 4096 ≤ d.objId ∨ 64 ≤ d.keySlot ∨ d.pages = 0 ∨ 2 ^ 20 < d.pages ∨ d.altTimeout = 0 ∨ 60000 < d.altTimeout then
      (s, stInvalidEncoding, 0, 0)
    else if (s.object d.objId).isSome then (s, stFailed, 0, 0)
    else if s.get (F.ONX_SLOT_STAT_STATE (1024 + d.keySlot)) ≠ 1 then (s, stFailed, 0x1202, 0)
    else
      let s := s.setObject d.objId ⟨.loading, d.altPlain, d.keySlot, 0, d.pages, d.altTimeout, d.altAddr, d.altKey, 0, none, [], none⟩
      let home : Home := if s.hasGeode then .geode else .none
      let s := (List.range d.pages).foldl (fun s i => s.setPte (pageKey (objCtx d.objId) i) { Pte.none with
        state := .zero, home := home, encHome := true, serial := s.tier.serial }) s
      (s, stDone, 0, d.pages)))

/-- OBJ_SET_ALT: the alternate of a registered object (R198). -/
def execObjSetAlt (o : TierOp) (s : State) : Res :=
  s.tierStep o (s.tierOp o (fun s =>
    let d := o.obj
    if d.resv ∨ d.altTimeout = 0 ∨ 60000 < d.altTimeout then (s, stInvalidEncoding, 0, 0)
    else match s.object d.objId with
      | none => (s, stFailed, 0, 0)
      | some x => (s.setObject d.objId { x with altPlain := d.altPlain, altTimeout := d.altTimeout, altAddr := d.altAddr, altKey := d.altKey }, stDone, 0, 0)))

/-- OBJ_SEAL: every page of a LOADING object is written home to the Geode tier, and the object becomes READY (R197, R201). -/
def execObjSeal (o : TierOp) (s : State) : Res :=
  if s.tierOffline && !TierOp.bad o then .next s else
  s.tierStep o (s.tierOp o (fun s => match s.object o.obj.objId with
    | none => (s, stFailed, 0, 0)
    | some x =>
      if s.hasGeode = false then (s, stNotPresent, 0, 0)
      else if x.state ≠ .loading then (s, stFailed, 0, 0)
      else
        let s := (s.objPages o.obj.objId).foldl (fun s k =>
          let p := s.pte k
          (((s.dropWriteBack k).setPte k { p with dirty := 0, redirty := 0, cleaning := false, home := .geode }).bump F.MEM_WB_SUBPAGES (popCount p.dirty)).homeWrite k p.dirty) s
        (s.setObject o.obj.objId { x with state := .ready }, stDone, 0, x.pages)))

/-- OBJ_REWRITE: a READY or POISONED object returns to LOADING and GEN rises by one; its mappings stay (R201). Pages without a
source are ZERO until they are written. -/
def execObjRewrite (o : TierOp) (s : State) : Res :=
  s.tierStep o (s.tierOp o (fun s => match s.object o.obj.objId with
    | none => (s, stFailed, 0, 0)
    | some x =>
      if x.state ≠ .ready ∧ x.state ≠ .poisoned then (s, stFailed, 0, 0)
      else
        let s := (s.objPages o.obj.objId).foldl (fun s k => if (s.pte k).state = .poisoned then s.setPte k { s.pte k with state := .zero } else s) s
        (s.setObject o.obj.objId { x with state := .loading, gen := (x.gen + 1) % 2 ^ 32 }, stDone, 0, 0)))

/-- OBJ_RETIRE: waits, RETIRING, until MAP_COUNT is 0; the object is then FREE (R206). -/
def execObjRetire (o : TierOp) (s : State) : Res :=
  if TierOp.bad o then s.tierStep o (s.tierOp o (fun s => (s, stInvalidEncoding, 0, 0)))
  else match s.object o.obj.objId with
    | none => s.tierStep o (s.tierOp o (fun s => (s, stFailed, 0, 0)))
    | some x =>
      if x.retire.isSome then s.tierStep o (s.tierOp o (fun s => (s, stFailed, 0, 0)))
      else
        let s' := s.opStart 8 o.opId false o.completion 0
        s.tierStep o (s'.setObject o.obj.objId { x with state := .retiring, retire := some (o.opId, o.completion) }).finishRetire

/-! ### Stacks (R175, R438) -/

/-- HBM_RETIRE: a write of HBM_CTL.RETIRE. 0 is ignored; the first 1 locks the field, and the stack's pages are moved away and
its frames withdrawn; a later one is dropped (R10, R175). Log entry 44: DEDUCED, unsafe. -/
def execHbmRetire (stack v : Nat) (s : State) : Res :=
  let f := F.HBM_CTL_RETIRE stack
  if s.stacks ≤ stack ∨ v % 2 = 0 then .next s
  else if s.locks.contains f.id then .next (s.event evCfgWriteDropped .warning none (f.id / 64 % 2 ^ 25) (f.id % 64))
  else
    let s := { s with locks := f.id :: s.locks }
    if s.on f then .next s else .next ((s.dropStack stack 5).markReady)

/-- STACK_FAIL: a stack has failed (R438). -/
def execStackFail (stack time : Nat) (s : State) : Res :=
  if stack < s.stacks ∧ s.now ≤ time ∧ s.get (F.HBM_STAT_STATE stack) ≠ 6 then .next (((s.tick time).failStack stack).markReady)
  else .next s

end Sys2Proof.Machine
end

