-- ==== Sys2Proof/Machine/Journal.lean ====
section
/-! DEFINITION. The acknowledgement of journal stripes (spec/07 R85, R190 to R192). -/

namespace Sys2Proof.Machine

/-- Records of a stripe are in the journal: publications whose LAST record is there are acknowledged (R189, R190). -/
def State.coverStripe (s : State) (stripe : Nat) (recs : List JRec) : State :=
  let done := (recs.filter (fun r => r.last)).map (fun r => r.pub)
  let s := { s with tier := { s.tier with
    stripes := s.tier.stripes.filter (fun p => p.1 != stripe)
    covered := s.tier.covered ++ recs
    pubs := s.tier.pubs.map (fun (p : Pub) => if done.contains p.id then { p with acked := true } else p) } }
  s.put F.MEM_JRN_SEQ_JSEQ (recs.foldl (fun m r => Nat.max m r.jseq) (s.get F.MEM_JRN_SEQ_JSEQ))

/-- JOURNAL_STRIPE_ACK: every unit of the oldest stripe that is destined for a bay in service is programmed, or the remote node has
acknowledged its puts, and the publications that it completes take effect (R85, R190 to R192, R196, R242). -/
def execJournalStripeAck (stripe time : Nat) (s : State) : Res := match s.tier.stripes with
  | [] => .next s
  | (n, recs) :: _ =>
    if n = stripe ∧ s.now ≤ time ∧ s.tierOffline = false ∧ s.journaling n = false then
      let s := ((s.tick time).ackWork (.journal n)).coverStripe stripe recs
      .next ((State.settlePubs s.tier.pubs.length s).settleIdx.sweepTables.settleInbound.markReady)
    else .next s

end Sys2Proof.Machine
end

