-- ==== Sys2Proof/Machine/Geode.lean ====
section
/-! DEFINITION. The Geode tier's commands: channels, unit reads, programs, garbage collection, patrol, bays and rebuilds (spec/08, log
entry 27). -/

namespace Sys2Proof.Machine

/-! ### Channels (R180) -/

/-- The oldest operation of the highest class, and the others. -/
def pickOp (l : List FlashOp) : Option (FlashOp × List FlashOp) :=
  let best := l.foldl (fun m o => Nat.min m (FlashOp.cls o)) 9
  (l.find? (fun o => FlashOp.cls o == best)).map (fun o => (o, eraseFirst (fun x => FlashOp.cls x == best) l))

/-- The oldest class 1 read, which suspends a program, and the others. -/
def pickRead (l : List FlashOp) : Option (FlashOp × List FlashOp) :=
  let urgent := fun (o : FlashOp) => o.kind == 2 && FlashOp.cls o == 1
  (l.find? urgent).map (fun o => (o, eraseFirst urgent l))

/-- What a channel does next: it starts the oldest operation of the highest class; a class 1 read suspends a program in progress, which goes
on when none waits (R180). A channel that is busy goes on. -/
def Chan.next (x : Chan) (time : Nat) : Chan := match x.cur, x.suspended with
  | none, none => match pickOp x.queue with
    | none => x
    | some (o, rest) => ⟨some { o with started := time }, none, rest⟩
  | none, some q => match pickRead x.queue with
    | none => ⟨some { q with started := time }, none, x.queue⟩
    | some (o, rest) => ⟨some { o with started := time }, some q, rest⟩
  | some q, none => match (if q.kind = 3 then pickRead x.queue else none) with
    | none => x
    | some (o, rest) => ⟨some { o with started := time }, some q, rest⟩
  | some _, some _ => x

/-- Works whose reads a unit of the part asks a channel for; the others' operations join the channels within the steps that cause them. -/
def FlashWork.asked : FlashWork → Bool
  | .bringUp _ | .prefetch _ | .scan | .fetch _ | .patrol | .rebuild | .collect | .relocate => true
  | .reconstruct _ _ | .journal _ | .program _ _ | .writeBack _ | .update _ | .fold _ => false

/-- Whether an operation may be asked of a channel: a read of a programmed unit that lies there, for a bring-up one of its page; or a program
or erase of a rebuild, of garbage collection or of a relocation. -/
def State.opFits (s : State) (c : Nat) (o : FlashOp) : Bool := FlashWork.asked o.work && (match s.stripe o.stripe with
  | none => (o.kind == 3 || o.kind == 4) && FlashOp.cls o == 3
  | some x =>
    decide (o.slot < s.bays) && s.chanOf x o.slot == c && x.filled s.dataUnits o.slot
      && (if o.kind = 2 then s.unitThere x (c / 8) && (match o.work with
            | .bringUp key | .prefetch key => (x.slots[o.slot]?).any (fun u => Sparse.find s.geo.pages key == some (u / unitsPerPage))
            | _ => true)
          else (o.kind == 3 || o.kind == 4) && FlashOp.cls o == 3))

/-- FLASH_OP_START: operations join a channel's queue, which is in State; the program or erase in progress is `done` or not, and an update that
awaited it goes on; and the channel takes its next operation (R51, R180). -/
def execFlashOpStart (channel : Nat) (done : Bool) (arrivals : List FlashOp) (time : Nat) (s : State) : Res :=
  let st := s.bayState (channel / 8)
  if channel < 8 * s.bays ∧ s.now ≤ time ∧ (s.written (channel / 8) = true ∨ st = 7 ∧ arrivals = [])
      ∧ s.on (F.EDG_ISL_STAT_IN_RESET (32 + channel)) = false ∧ arrivals.all (fun o => s.opFits channel o) = true then
    let s := (s.tick time).wake (32 + channel)
    let x := s.chan channel
    let x : Chan := ⟨if done then x.cur.filter (fun o => o.kind == 2) else x.cur, x.suspended, x.queue ++ arrivals⟩
    let s := s.setChan channel (x.next time)
    .next (if done then s.stirAll else s).markReady
  else .next s

/-! ### Reading units (R213, R214, R219, R223) -/

/-- Queued commands that wait on a page that becomes POISONED end FAILED (R181). -/
def State.failPoisoned (s : State) (key : Nat) : State :=
  (s.dsp.items.filter (fun i => i.pins.isNone && i.pages.contains key)).foldl (fun s i =>
    if s.dsp.items.any (fun y => y.id == i.id) then s.failItem i (.failed 0x0703) else s) s

/-- A page that no source holds becomes POISONED. -/
def State.poisonPage (s : State) (key : Nat) : State :=
  let p := s.pte key
  let s := s.setPte key { p with state := .poisoned, frame := 0, dirty := 0 }
  (if p.state = .moving then s.freeFrame p.frame else s).failPoisoned key

/-- A unit of an extent is reported to the indices whose extent it is. -/
def State.loseExtentUnit (s : State) (i u : Nat) : State :=
  (s.idx.indices.map (fun p => p.1)).foldl (fun s n => match s.index n with
    | none => s
    | some x =>
      if x.desc.ranges then s
      else
        let s := if x.desc.memberExt = i then s.loseMemberUnit n u else s
        let s := if x.desc.itemExt = i then s.loseItemUnit n u else s
        if x.desc.passageExt = i then s.losePassUnit n u else s) s

/-- A logical unit cannot be reconstructed (R223). -/
def State.loseUnit (s : State) (u : Nat) : State :=
  let p := u / unitsPerPage
  match s.geo.pages.find? (fun x => x.2 == p) with
  | some (key, _) =>
    let e := s.pte key
    if e.state = .resident then s.homeWrite key (BitVec.allOnes 32)
    else match s.object (key / 2 ^ 27 - 2048), decide (2048 ≤ key / 2 ^ 27) with
      | some x, true => (if e.state = .away then (s.startUp key).getD s else s).recoverPages (key / 2 ^ 27 - 2048) x [(key, 3)]
      | _, _ => (s.poisonPage key).event evGeoUnitLost .error (some (key / 2 ^ 27)) p u
  | none => match s.extents.find? (fun e => decide (e.2.first ≤ p) && decide (p < e.2.first + e.2.pages)) with
    | some (i, e) => (s.event evGeoUnitLost .error (some e.tid) p u).loseExtentUnit i (u - unitsPerPage * e.first)
    | none => s.event evGeoUnitLost .error none p u

/-- Whether a result of decoding a bay's unit can be: soft re-reads come before a reconstruction, which needs enough other units of the
stripe (R213, R219). -/
def State.canRead (s : State) (x : GStripe) (b : Nat) (r : ReadResult) : Bool :=
  decide (r.result ≤ 2) && (r.result == 0 || r.soft != 0) && (r.result != 1 || s.canRebuild x b)

/-- Whether a unit carries a correctable error (R214). A reserved REFRESH_BITS names no number of bits: soft re-reads alone count (R9). -/
def State.correctable (s : State) (r : ReadResult) : Bool :=
  let n := s.get F.GEO_CTL_REFRESH_BITS
  r.soft != 0 || (decide (1 ≤ n) && decide (n ≤ 200) && decide (n < r.corrected))

/-- Whether a unit is one to relocate: valid data, a journal stripe's, or parity (R214, R227). -/
def State.relocatable (s : State) (x : GStripe) (id slot : Nat) : Bool :=
  x.work.isNone && (x.jrn.isSome || (match x.slots[slot]? with
    | some u => s.unitValid id slot u
    | none => true))

/-- A unit of a stripe has been decoded or reconstructed, or cannot be: its counts, and its relocation (R213, R214, R434). -/
def State.unitRead (s : State) (id slot : Nat) (r : ReadResult) : State := match s.stripe id with
  | none => s
  | some x =>
    let b := x.bayOf s.bays s.dataUnits slot
    let bad := s.correctable r
    let s := s.bumpSat (F.GEO_BAY_LDPC_SOFT b) r.soft
    let s := if r.result = 1 then s.bumpSat (F.GEO_BAY_LDPC_FAILED b) 1 else s
    let s := if bad then s else s.setBay b { s.bay b with rawBits := (s.bay b).rawBits + r.corrected }
    let s := s.errors 5 (b2n bad) (b2n (r.result == 2))
    let s := if bad && r.result != 2 && s.relocatable x id slot then (s.relocate id slot).bumpSat F.GEO_PATROL_RELOCATED 1 else s
    if r.result = 2 then match (x.slots[slot]?).filter (fun u => s.unitValid id slot u) with
      | some u => s.loseUnit u
      | none => s
    else s

/-- A unit that was read or reconstructed for a scan is at its CSU (R219, R484, R285). -/
def State.noteScan (s : State) (o : FlashOp) (r : ReadResult) : State :=
  if o.work = .scan ∧ r.result ≠ 2 then match (s.stripe o.stripe).bind (fun x => x.slots[o.slot]?) with
    | some u => { s with idx := { s.idx with read := s.idx.read ++ [u] } }
    | none => s
  else s

/-- FLASH_UNIT_READ: the read in progress of a channel completes; a suspended program goes on (R180, R213, R214, R219, R223). -/
def execFlashUnitRead (channel : Nat) (r : ReadResult) (time : Nat) (s : State) : Res :=
  let x := s.chan channel
  match x.cur with
  | none => .next s
  | some o =>
    if o.kind = 2 ∧ s.now ≤ time ∧ (s.stripe o.stripe).all (fun y => s.canRead y (channel / 8) r) = true then
      let s := (s.tick time).setChan channel (Chan.next ⟨none, x.suspended, x.queue⟩ time)
      .next ((s.noteScan o r).unitRead o.stripe o.slot r).markReady
    else .next s

/-! ### Programs and garbage collection (R212, R215) -/

/-- An external operation of a core's command is acknowledged (R81): a FENCE waits no longer once none is left. -/
def State.ackExt (s : State) (c id : Nat) : State := match s.core c with
  | none => s
  | some k =>
    let left := k.ext.filter (fun e => e.id != id)
    s.setCore c { k with ext := left, waiting := k.waiting && !left.isEmpty }

/-- GEO_PROGRAM_ACK: every unit of a Geode program's stripes that is destined for a bay in service is programmed, and the logical units are
remapped (R215). -/
def execGeoProgramAck (item ext time : Nat) (s : State) : Res :=
  match s.geo.progs.find? (fun p => p.item == item && p.ext == ext) with
  | none => .next s
  | some p =>
    if s.now ≤ time ∧ s.tierOffline = false ∧ s.programming (.program item ext) = false then
      let s := ((s.tick time).store p.tid p.va p.bytes).ackWork (.program item ext)
      let s := { s with geo := { s.geo with progs := s.geo.progs.filter (fun q => !(q.item == item && q.ext == ext)) } }
      .next ((s.cores.filter (fun k => k.2.ext.any (fun e => e.id == ext && e.geo))).foldl (fun s k => s.ackExt k.1 ext) s)
    else .next s

/-- The stripes of a group that garbage collection takes: placed on one channel index, with nothing outstanding. -/
def State.collectable (s : State) (ids : List Nat) : Bool := match ids.map (fun id => s.stripe id) with
  | some x :: rest => x.work.isNone && rest.all (fun y => y.any (fun y => y.channel == x.channel && y.work.isNone))
  | _ => false

/-- GARBAGE_COLLECT: the valid units of a stripe group, `stripes`, are moved, in three-bit mode where they are folded, a journal stripe that
still counts whole; its blocks are then erased, and a cartridge whose spare blocks are exhausted leaves service (R212, R228). `worn` gives
mean erase counts, in per mille, and spare blocks in per cent by bay. -/
def execGarbageCollect (stripes : List Nat) (fold : Bool) (worn : List (Nat × Nat × Nat)) (time : Nat) (s : State) : Res :=
  if s.now ≤ time ∧ s.tierOffline = false ∧ s.collectable stripes = true ∧ worn.all (fun w => decide (w.1 < s.bays)) then
    let s := (s.tick time).freeJournal
    let group := stripes.filterMap (fun id => (s.stripe id).map (fun x => (id, x)))
    let s := s.geoWrite fold (group.flatMap (fun p => s.validUnits p.1 p.2))
    let s := (group.filter (fun p => p.2.jrn.isSome)).foldl (fun s p => s.placeStripe false [] p.2.jrn none) s
    let s := group.foldl (fun s p => s.freeStripe p.1) s
    .next (worn.foldl (fun (s : State) (w : Nat × Nat × Nat) =>
      let s := ((s.setBay w.1 { s.bay w.1 with worn := w.2.1 }).showWear w.1).put (F.GEO_BAY_WEAR_SPARE_PCT w.1) w.2.2
      if w.2.2 = 0 ∧ s.written w.1 then s.bayGone w.1 true else s) s)
  else .next s

/-! ### Patrol (R227) -/

/-- The programmed units that the running pass has not read, in order of stripe and slot, parity and the journal included: those of bays that
take part, of stripes placed before the pass began. -/
def State.patrolUnits (s : State) (from_ : Nat × Nat) (top : Nat) : List (Nat × Nat) :=
  (s.geo.stripes.filter (fun p => decide (from_.1 ≤ p.1) && decide (p.1 < top))).flatMap (fun p =>
    ((List.range s.bays).filter (fun i => (from_.1 != p.1 || decide (from_.2 ≤ i)) && p.2.filled s.dataUnits i
      && s.unitThere p.2 (p.2.bayOf s.bays s.dataUnits i))).map (fun i => (p.1, i)))

/-- The period of a pass that begins: PATROL_DAYS is sampled then (R13); a reserved value leaves the last one (R9). -/
def State.passDays (s : State) : Nat :=
  let n := s.get F.GEO_CTL_PATROL_DAYS
  if 1 ≤ n ∧ n ≤ 365 then n else s.geo.patrolDays

/-- A patrol pass begins: its units, and its period. -/
def State.beginPass (s : State) : State :=
  { s with geo := { s.geo with
    patrolPos := 0
    patrolTotal := (s.patrolUnits (0, 0) s.geo.nextStripe).length
    patrolNext := (0, 0)
    patrolTop := s.geo.nextStripe
    patrolDays := s.passDays
    patrolAt := s.now
    patrolLate := false } }

/-- A patrol pass has read a unit; after its last the pass is complete, and the next begins. -/
def State.patrolOn (s : State) (id slot : Nat) : State :=
  if (s.patrolUnits (id, slot + 1) s.geo.patrolTop).isEmpty then
    (s.beginPass.bump F.GEO_PATROL_PASSES 1).put F.GEO_PATROL_POS_PCT 0
  else
    let pos := s.geo.patrolPos + 1
    { s with geo := { s.geo with patrolPos := pos, patrolNext := (id, slot + 1) } }.put F.GEO_PATROL_POS_PCT
      (Nat.min 99 (pos * 100 / Nat.max s.geo.patrolTotal 1))

/-- A pass that has not read a unit yet takes in what has been programmed so far. -/
def State.openPass (s : State) : State :=
  if s.geo.patrolPos = 0 ∧ s.geo.patrolNext = (0, 0) then { s.beginPass with geo := { s.beginPass.geo with patrolAt := s.geo.patrolAt, patrolLate := s.geo.patrolLate } } else s

/-- PATROL_READ: the next programmed unit is read. -/
def execPatrolRead (r : ReadResult) (time : Nat) (s : State) : Res :=
  if s.on F.GEO_CTL_PATROL_EN = true ∧ s.now ≤ time then
    let t := (s.tick time).openPass
    match t.patrolUnits t.geo.patrolNext t.geo.patrolTop with
    | [] => .next s
    | (id, slot) :: _ => match t.stripe id with
      | none => .next s
      | some x =>
        if t.canRead x (x.bayOf t.bays t.dataUnits slot) r then .next (((t.unitRead id slot r).patrolOn id slot).markReady)
        else .next s
  else .next s

/-- Dispatcher time of one day. -/
def dayTicks : Nat := 8640000000000

/-- PATROL_PERIOD_END: a pass has overrun its period, which is recorded once for a pass. -/
def execPatrolPeriodEnd (time : Nat) (s : State) : Res :=
  if s.on F.GEO_CTL_PATROL_EN = true ∧ s.geo.patrolLate = false ∧ s.now ≤ time ∧ s.geo.patrolAt + s.geo.patrolDays * dayTicks ≤ time then
    let s := s.tick time
    .next ({ s with geo := { s.geo with patrolLate := true } }.event evGeoPatrolLate .notice none s.geo.patrolPos s.geo.patrolTotal)
  else .next s

/-! ### Cartridges (R208 to R211, R220 to R222) -/

/-- Whether the CRC of an identity block passes (R208, table "Identity block (256 bytes, read over the sideband)"). -/
def CartInfo.crcOk (c : CartInfo) : Bool :=
  c.identity.length == 256 && leNat ((c.identity.drop 0xF8).take 4) == (crc32c (c.identity.take 0xF8)).toNat

/-- The cartridge that an identity block describes: SERIAL and RATED_TB. -/
def CartInfo.cart (c : CartInfo) : Cartridge := ⟨leNat ((c.identity.drop 8).take 8), leNat ((c.identity.drop 0x10).take 4), c.member⟩

/-- The bay state and REASON that the table "Admission of a cartridge" gives. -/
def State.admission (s : State) (b : Nat) (c : CartInfo) : Nat × Nat :=
  if CartInfo.crcOk c = false then (2, 1)
  else if c.certOk = false then (2, 2)
  else match c.member with
    | none => (if s.on F.GEO_CTL_AUTO_REBUILD then 6 else 3, 0)
    | some m =>
      if m.own = false then (3, 0)
      else if m.bay ≠ b then (2, 3)
      else if m.gen = s.get F.GEO_TIER_GEN then (4, 0)
      else if (s.bay b).overflow then (6, 0) else (5, 0)

/-- A blank cartridge joins a position: it is erased, given a member record that is not current until its rebuild ends (R226), and rebuilt
(R210). -/
def State.adopt (s : State) (b : Nat) : State :=
  let x := s.bay b
  s.setBay b { x with
    pending := []
    overflow := true
    cart := x.cart.map (fun (c : Cartridge) => { c with member := some (⟨true, b, (s.get F.GEO_TIER_GEN + 0xFFFF) % 2 ^ 16⟩ : MemberRec) }) }

/-- A cartridge is present in a bay, with what its label area says. -/
def State.present (s : State) (b : Nat) (c : CartInfo) : State :=
  let s := (s.setBay b { s.bay b with cart := some (CartInfo.cart c), bytes := c.bytes, worn := c.worn }).showWear b
  ((s.put (F.GEO_BAY_WEAR_SPARE_PCT b) c.spare).put (F.GEO_BAY_STAT_PRESENT b) 1).put (F.GEO_BAY_SERIAL_SERIAL b) (CartInfo.cart c).serial

/-- A cartridge takes the state that the admission table gives it; one that is to be rebuilt holds no unit of its position. -/
def State.admitCart (s : State) (b : Nat) (c : CartInfo) : State :=
  let (st, reason) := s.admission b c
  let s := if st = 6 ∧ c.member.isNone then s.adopt b else s
  let s := if st = 6 then s.missAll b else s
  s.setBayState b st reason

/-- CARTRIDGE_INSERT: the cartridge is identified and admitted (R208, R209). -/
def execCartridgeInsert (bay : Nat) (c : CartInfo) (time : Nat) (s : State) : Res :=
  if bay < s.bays ∧ s.bayState bay = 0 ∧ s.now ≤ time then
    let s := ((s.tick time).present bay c).admitCart bay c
    let s := if s.bayState bay = 4 then s.raiseGen else s
    .next s.refreshTier.startRebuild.markReady
  else .next s

/-- A member position that a start-up finds without its cartridge is gone (R220): GEN rises for a member that was in service. -/
def State.foundGone (s : State) (top b : Nat) : State :=
  let was := (s.bay b).cart.any (fun c => c.member.any (fun m => m.own && m.bay == b && m.gen == top))
  let s := s.setBay b { s.bay b with cart := none, bytes := 0, worn := 0 }
  if was then s.raiseGen.event evGeoRemoved .warning none b 0 else s

/-- The tier at start-up (R211): it comes up from the members that share the highest GEN where they are enough. -/
def State.startTier (s : State) (carts : List (Nat × CartInfo)) : State :=
  if s.bays < 3 then s
  else
    let carts := carts.filter (fun p => decide (p.1 < s.bays))
    let mine := carts.filter (fun p => CartInfo.crcOk p.2 && p.2.certOk && p.2.member.any (fun m => m.own && m.bay == p.1))
    let gen := fun (p : Nat × CartInfo) => (p.2.member.map (fun m => m.gen)).getD 0
    let top := mine.foldl (fun m p => Nat.max m (gen p)) 0
    let s := s.put F.GEO_TIER_GEN top
    let s := carts.foldl (fun s p => (s.present p.1 p.2).admitCart p.1 p.2) s
    let away := (List.range s.bays).filter (fun b => !carts.any (fun p => p.1 == b))
    let enough := decide (s.dataUnits ≤ (mine.filter (fun p => gen p == top)).length)
    let s := if enough then away.foldl (fun s b => s.foundGone top b) s else s
    let s := if mine.isEmpty then (s.put F.GEO_TIER_STATE 4).event evGeoTierOffline .error none s.bays 0 else s.refreshTier
    s.startRebuild

/-- CARTRIDGE_REMOVED: loss of sideband presence (R220). -/
def execCartridgeRemoved (bay time : Nat) (s : State) : Res :=
  if s.get (F.GEO_BAY_STAT_PRESENT bay) = 1 ∧ bay < s.bays ∧ s.now ≤ time then
    let s := (s.tick time).bayGone bay false
    let s := s.setBay bay { s.bay bay with cart := none, bytes := 0, worn := 0, rawBits := 0 }
    .next (((((s.put (F.GEO_BAY_STAT_PRESENT bay) 0).put (F.GEO_BAY_SERIAL_SERIAL bay) 0).put (F.GEO_BAY_WEAR_LIFE_USED bay) 0).put
      (F.GEO_BAY_WEAR_SPARE_PCT bay) 0).put (F.GEO_BAY_WEAR_PROGRAMMED_GB bay) 0).markReady
  else .next s

/-- CHANNEL_UNANSWERED: an operation is unanswered for 5 ms, and the bay is taken out of service as FAILED (R220). -/
def execChannelUnanswered (channel time : Nat) (s : State) : Res := match (s.chan channel).cur with
  | none => .next s
  | some o =>
    let st := s.bayState (channel / 8)
    if o.started + 500000 ≤ time ∧ s.now ≤ time ∧ 4 ≤ st ∧ st ≤ 7 then .next ((s.tick time).bayGone (channel / 8) true).markReady
    else .next s

/-- BAY_EJECT: a write of GEO_BAY_CTL with EJECT; refused without FORCE while another bay is absent or rebuilding (R224). The bay takes no new
units, its programs in flight complete, and its reads are reissued as reconstructions (section "Leaving and joining"). -/
def execBayEject (bay v : Nat) (s : State) : Res :=
  let st := s.bayState bay
  if s.bays ≤ bay ∨ v.testBit 31 = false ∨ ¬(st = 4 ∨ st = 5 ∨ st = 6) then .next s
  else if v.testBit 30 = false ∧ (List.range s.bays).any (fun b => b != bay && s.bayState b != 4) then
    .next (s.event evGeoEjectRefused .warning none bay 0)
  else
    let reads := (s.bayOps bay).filter (fun o => o.kind == 2)
    .next ((((s.dropRebuild bay).setBayState bay 7 0).reissue bay reads).raiseGen.refreshTier.startRebuild)

/-- BAY_READY_TO_PULL: the programs of a removing bay have completed, and its indicator is lit (table "Bay states"). -/
def execBayReadyToPull (bay time : Nat) (s : State) : Res :=
  if s.bayState bay = 7 ∧ s.now ≤ time ∧ (s.bayOps bay).isEmpty = true then .next (((s.tick time).setBayState bay 8 0).emit (.indicator bay)) else .next s

/-- BAY_ADMIT: a write of GEO_BAY_CTL with ADMIT on a BLANK bay; a cartridge of another tier needs ERASE too (R210). -/
def execBayAdmit (bay v : Nat) (s : State) : Res :=
  if s.bays ≤ bay ∨ v.testBit 29 = false ∨ s.bayState bay ≠ 3 then .next s
  else if v.testBit 28 = false ∧ (s.bay bay).cart.any (fun c => c.member.isSome) then .next (s.event evGeoEjectRefused .warning none bay 1)
  else .next (((s.adopt bay).missAll bay).setBayState bay 6 0).refreshTier.startRebuild

/-! ### Rebuild (R225, R226) -/

/-- A rebuild or resync ends (R226). -/
def State.endRebuild (s : State) (b : Nat) : State :=
  let s := s.setBay b { s.bay b with pending := [], overflow := false }
  let s := { s with geo := { s.geo with rebuild := none } }
  let s := ((s.setBayState b 4 0).raiseGen).event evGeoRebuildDone .notice none b 0
  s.refreshTier.startRebuild

/-- A bay's unit of a stripe is written. -/
def State.fillStripe (s : State) (b id : Nat) : State := match s.stripe id with
  | none => s
  | some x =>
    let y := s.bay b
    let s := s.setBay b { y with pending := y.pending.filter (fun n => n != id) }
    let slot := ((List.range s.bays).find? (fun i => x.bayOf s.bays s.dataUnits i == b)).getD 0
    let s := if x.filled s.dataUnits slot then s.wear b else s
    (s.modStripe id (fun x => { x with missing := x.missing.filter (fun n => n != b) })).bump F.GEO_REBUILD_DONE 1

/-- REBUILD_STRIPE: the next stripe of the rebuild or resync of a bay is written from its other units; one of which too few are left waits,
as the tier does (R222). After the last it ends. -/
def execRebuildStripe (bay time : Nat) (s : State) : Res := match s.geo.rebuild with
  | none => .next s
  | some (b, todo) =>
    if b = bay ∧ s.now ≤ time then
      let s := s.tick time
      match todo with
      | [] => .next (s.endRebuild b).markReady
      | id :: rest =>
        if (s.stripe id).all (fun x => s.canRebuild x b) then
          let s := { s with geo := { s.geo with rebuild := some (b, rest) } }.fillStripe b id
          .next (if rest.isEmpty then (s.endRebuild b).markReady else s)
        else .next s
    else .next s

end Sys2Proof.Machine
end

