-- ==== Sys2Proof/Machine/SearchOps.lean ====
section
/-! DEFINITION. What a search computes: its checks, distance programs, filters, probe order and tables, partial lists, the
merge, and its result list (spec/10). -/

namespace Sys2Proof.Machine

def dSearchParam : Nat := 0x0A01
def dProgEmpty : Nat := 0x0A02
def dProgTable : Nat := 0x0A03
def dProgRange : Nat := 0x0A04
def dFilterForm : Nat := 0x0A05

/-! ### Distance programs (R267 to R269) -/

def parseProg (w : Nat) : ProgWord := ⟨bitsOf w 31 26, bitsOf w 25 23, bitsOf w 22 20, bitsOf w 19 17, bitsOf w 16 0⟩

/-- FIRST and CNT of LUTSUM and XORPOP. -/
def ProgWord.first (w : ProgWord) : Nat := bitsOf w.imm 16 10
def ProgWord.count (w : ProgWord) : Nat := bitsOf w.imm 9 3 + 1

/-- Whether an operation is defined, with every field that it does not use zero (table "Program operations", R267). -/
def ProgWord.legal (w : ProgWord) : Bool :=
  let noSrc := w.da == 0 && w.db == 0
  match w.op with
  | 0x00 => w.dd == 0 && noSrc && w.imm == 0
  | 0x01 => w.da == 0 && decide (w.db < 2) && w.imm % 8 == 0
  | 0x02 => noSrc && w.imm % 8 == 0
  | 0x03 => noSrc && decide (w.imm < 4)
  | 0x04 => noSrc && w.imm == 0
  | 0x05 => noSrc && decide (w.imm < 16)
  | 0x06 => noSrc
  | 0x08 | 0x09 | 0x0A | 0x0B | 0x0C | 0x0D | 0x13 => w.imm == 0
  | 0x0E | 0x0F | 0x10 | 0x11 | 0x12 => w.db == 0 && w.imm == 0
  | _ => false

/-- The cost of an instruction in steps. -/
def ProgWord.cost (w : ProgWord) : Nat := if w.op = 0 then 0 else if w.op = 1 ∨ w.op = 2 then (w.count + 15) / 16 else 1

/-- The inputs that a program reads: table A, table B, bitmap, numeric attributes, query code. -/
def usesA (p : List ProgWord) : Bool := p.any (fun w => w.op == 1 && w.db == 0)
def usesB (p : List ProgWord) : Bool := p.any (fun w => w.op == 1 && w.db == 1)
def usesBitmap (p : List ProgWord) : Bool := p.any (fun w => w.op == 4)
def usesNum (p : List ProgWord) : Bool := p.any (fun w => w.op == 3)
def usesQcode (p : List ProgWord) : Bool := p.any (fun w => w.op == 2)

/-- Whether a program reads code bytes beyond C. -/
def readsBeyond (c : Nat) (p : List ProgWord) : Bool := p.any (fun w => (w.op == 1 || w.op == 2) && decide (c < w.first + w.count))

/-- The IMM of an operation over code bytes 0 to C - 1. -/
def wholeCode (c : Nat) : Nat := (c - 1) * 8

/-- Table "Built-in programs", at C code bytes. -/
def builtin (slot c : Nat) : List ProgWord :=
  if slot = 2 then
    [⟨1, 1, 0, 0, wholeCode c⟩, ⟨1, 2, 0, 1, wholeCode c⟩, ⟨0x11, 2, 2, 0, 0⟩, ⟨0x0A, 1, 1, 2, 0⟩, ⟨5, 3, 0, 0, 0⟩, ⟨0x0A, 1, 1, 3, 0⟩,
      ⟨6, 4, 0, 0, 1⟩, ⟨8, 0, 4, 1, 0⟩, ⟨0, 0, 0, 0, 0⟩]
  else if slot = 3 then [⟨2, 0, 0, 0, wholeCode c⟩, ⟨0, 0, 0, 0, 0⟩]
  else [⟨1, 0, 0, 0, wholeCode c⟩, ⟨0, 0, 0, 0, 0⟩]

/-- The program in a slot; none when it is empty. -/
def State.program (s : State) (slot c : Nat) : Option (List ProgWord) := if slot < 5 then some (builtin slot c) else Sparse.find s.idx.progs slot

/-- The slot that a block's PROG runs over an index (R263). -/
def progSlot (prog metric : Nat) : Nat := if prog = 0x1F then metric else prog

/-- What a program reads of a record and its query. -/
structure ProgIn where
  code : List Byte
  qcode : List Byte
  bitmap : BitVec 64
  boost : BitVec 64
  nums : List Nat
  numTypes : List Nat
  params : List F32
  tabA : List (Nat × F32)
  tabB : List (Nat × F32)
deriving DecidableEq, Repr

def popByte (b : Byte) : Nat := (List.range 8).foldl (fun n i => n + b2n (b.getLsbD i)) 0
def pop64 (b : BitVec 64) : Nat := (List.range 64).foldl (fun n i => n + b2n (b.getLsbD i)) 0

/-- A numeric attribute as F32. -/
def attrF32 (type v : Nat) : F32 :=
  if type = 2 then BitVec.ofNat 32 v else if type = 1 then Fp.ofInt (BitVec.ofNat 32 v).toInt else Fp.ofInt (v : Int)

/-- One instruction over registers D0 to D7 (table "Program operations"). -/
def ProgWord.run (x : ProgIn) (w : ProgWord) (d : List F32) : List F32 :=
  let a := d.getD w.da 0
  let b := d.getD w.db 0
  let span := (x.code.drop w.first).take w.count
  let r : F32 := match w.op with
    | 0x01 =>
      let t := if w.db = 0 then x.tabA else x.tabB
      (span.mapIdx (fun i c => Sparse.get 0 t (256 * (w.first + i) + c.toNat))).foldl Fp.add 0
    | 0x02 => Fp.ofInt (((span.zip ((x.qcode.drop w.first).take w.count)).map (fun p => popByte (p.1 ^^^ p.2))).foldl (· + ·) 0 : Nat)
    | 0x03 => attrF32 (x.numTypes.getD w.imm 0) (x.nums.getD w.imm 0)
    | 0x04 => Fp.ofInt (pop64 (x.bitmap &&& x.boost) : Nat)
    | 0x05 => x.params.getD w.imm 0
    | 0x06 => Fp.ofInt (BitVec.ofNat 17 w.imm).toInt
    | 0x08 => Fp.add a b
    | 0x09 => Fp.sub a b
    | 0x0A => Fp.mul a b
    | 0x0B => Fp.fma a b (d.getD w.dd 0)
    | 0x0C => Fp.minNum a b
    | 0x0D => Fp.maxNum a b
    | 0x0E => Fp.absA a
    | 0x0F => Fp.negA a
    | 0x10 => Fp.sqrt a
    | 0x11 => Fp.rsqrt a
    | 0x12 => Fp.rcp a
    | 0x13 => if Fp.lt a 0 then b else d.getD w.dd 0
    | _ => d.getD w.dd 0
  d.set w.dd r

/-- The score of a record: D0 at END, or after the last instruction. -/
def runProg (x : ProgIn) : List ProgWord → List F32 → F32
  | [], d => d.getD 0 0
  | w :: r, d => if w.op = 0 then d.getD 0 0 else runProg x r (w.run x d)

/-! ### Filters (R272, R273) -/

/-- Whether a node holds a reserved encoding that does not depend on the index. -/
def FilterNode.reserved (n : FilterNode) : Bool :=
  n.resv || (match n.op with
    | 0 | 8 | 9 | 10 => n.attr != 0 || n.cmp != 0 || n.value != 0
    | 1 | 2 | 3 => n.attr != 0 || n.cmp != 0
    | 4 => decide (5 < n.cmp) || decide (2 ^ 32 ≤ n.value)
    | 5 => n.cmp != 0
    | _ => true)

/-- Whether a numeric term's F32 operand is NaN (R273). -/
def FilterNode.nanOperand (types : List Nat) (n : FilterNode) : Bool :=
  (n.op == 4 || n.op == 5) && types.getD n.attr 0 == 2
    && (Fp.isNaN (BitVec.ofNat 32 n.value) || (n.op == 5 && Fp.isNaN (BitVec.ofNat 32 (n.value / 2 ^ 32))))

/-- Whether attribute value `a` is below `b` as its type states. -/
def numLt (type a b : Nat) : Bool :=
  if type = 2 then Fp.lt (BitVec.ofNat 32 a) (BitVec.ofNat 32 b)
  else if type = 1 then decide ((BitVec.ofNat 32 a).toInt < (BitVec.ofNat 32 b).toInt) else decide (a < b)
def numEq (type a b : Nat) : Bool := if type = 2 then Fp.eq (BitVec.ofNat 32 a) (BitVec.ofNat 32 b) else a == b

/-- The truth value of a term node. -/
def FilterNode.term (types : List Nat) (bitmap : BitVec 64) (nums : List Nat) (n : FilterNode) : Bool :=
  let mask := BitVec.ofNat 64 n.value
  let t := types.getD n.attr 0
  let v := nums.getD n.attr 0
  let lo := n.value % 2 ^ 32
  match n.op with
  | 0 => true
  | 1 => bitmap &&& mask == mask
  | 2 => bitmap &&& mask != 0
  | 3 => bitmap &&& mask == 0
  | 4 => (match n.cmp with
    | 0 => numEq t v lo
    | 1 => !numEq t v lo
    | 2 => numLt t v lo
    | 3 => numLt t v lo || numEq t v lo
    | 4 => numLt t lo v
    | _ => numLt t lo v || numEq t v lo)
  | _ => (numLt t lo v || numEq t v lo) && (numLt t v (n.value / 2 ^ 32) || numEq t v (n.value / 2 ^ 32))

/-- Evaluates a postfix list; none when it is not well formed (R272). -/
def evalFilter (term : FilterNode → Bool) : List FilterNode → List Bool → Option Bool
  | [], st => match st with
    | [v] => some v
    | _ => none
  | n :: r, st =>
    let st' : Option (List Bool) := match n.op, st with
      | 8, a :: b :: t => some ((a && b) :: t)
      | 9, a :: b :: t => some ((a || b) :: t)
      | 10, a :: t => some ((!a) :: t)
      | 8, _ => none
      | 9, _ => none
      | 10, _ => none
      | _, t => some (term n :: t)
    match st' with
    | some l => if l.length ≤ 8 then evalFilter term r l else none
    | none => none

/-- Whether a record passes a filter; with no nodes every record does. -/
def passes (f : List FilterNode) (types : List Nat) (bitmap : BitVec 64) (nums : List Nat) : Bool :=
  f.isEmpty || (evalFilter (fun n => FilterNode.term types bitmap nums n) f []).getD false

/-! ### The checks of R259 -/

/-- A reserved encoding of a search block and its nodes that does not depend on the index. -/
def badBlock (b : SearchBlock) (generate : Bool) : Bool :=
  b.resv || !b.aligned || (decide (15 < b.prog) && b.prog != 0x1F) || b.nprobe == 0 || decide (4096 < b.nprobe) || decide (4096 < b.maxProbes)
    || (!b.widen && b.maxProbes != 0) || b.cand == 0 || decide (4096 < b.cand) || decide (16 < b.filter.length)
    || b.filter.any FilterNode.reserved || (generate && b.resultAddr != 0)

/-- Whether the part ends a request's search before it runs: status and detail, in the order of R259. -/
def State.searchStop (s : State) (tid : Nat) (r : ReqDesc) : Option (Nat × Nat) :=
  let b := r.search
  if badBlock b r.generate then some (stInvalidEncoding, 0)
  else match s.index b.index with
    | none => some (stFailed, dIdxAbsent)
    | some x =>
      let d := x.desc
      let slot := progSlot b.prog d.metric
      if x.state ≠ .ready ∨ d.tid ≠ tid then some (stFailed, dIdxAbsent)
      else if b.filter.any (FilterNode.nanOperand d.numTypes) then some (stInvalidEncoding, 0)
      else if (b.widen ∧ b.maxProbes < b.nprobe) ∨ b.cand < b.rescoreKeep ∨ (r.generate = false ∧ r.rerank = false ∧ b.resultAddr = 0) then
        some (stFailed, dSearchParam)
      else match s.program slot d.c with
        | none => some (stFailed, dProgEmpty)
        | some p =>
          let badA := if slot < 4 then b.tableAVa != 0 else usesA p && b.tableAVa == 0
          let badB := if slot < 5 then b.tableBVa != 0 else usesB p && b.tableBVa == 0
          if badA || badB then some (stFailed, dProgTable)
          else if readsBeyond d.c p || (decide (slot < 3) && d.binary) || (slot == 3 && !d.binary) then some (stFailed, dProgRange)
          else if b.filter ≠ [] ∧ (evalFilter (fun _ => true) b.filter []).isNone then some (stFailed, dFilterForm) else none

/-- The query of an admitted request: its snapshot and generation (R22, R245, R258, R260). -/
def newQuery (h order : Nat) (b : SearchBlock) (x : Index) : Query :=
  let n := Nat.min b.nprobe x.desc.partitions
  let m := if b.widen then Nat.min b.maxProbes x.desc.partitions else n
  { handle := h, order := order, blk := b, index := b.index, snap := x.committed, gen := x.cur.num, point := x.cur.point, pinned := true,
    clamped := decide (x.desc.partitions < Nat.max b.nprobe b.maxProbes), nprobe := n, maxProbes := m, step := .order, q := [], q0 := b.q.headD 0,
    qcode := [], tabA := [], tabB := [], probes := [], scanned := 0, upto := 0, rounds := 0, seen := [], lists := [], side := [], sideDone := false,
    matches_ := 0, nan := 0, sideNan := [], candNan := 0, dups := 0, distinct := 0, merged := [], cands := [], fetched := false, rescored := false,
    damaged := false, jobs := [], arrived := none }

/-- Admits a query (R22). -/
def State.admitQuery (s : State) (h order : Nat) (b : SearchBlock) : State := match s.index b.index with
  | none => s
  | some x => s.setQuery (newQuery h order b x)

/-! ### Probe order and tables (R262, R263, R483) -/

/-- The tables that a slot builds: entry [j][b] at 256 j + b. -/
def State.buildTable (s : State) (d : IdxDesc) (f : List F32 → List F32 → F32) (q : List F32) : List (Nat × F32) :=
  let n := d.dim / d.c
  Sparse.cells 0 0 ((List.range d.c).flatMap (fun j => (List.range 256).map (fun b => f ((q.drop (j * n)).take n) (s.codeword d j b))))

def dotF32 (a b : List F32) : F32 := (a.zip b).foldl (fun t p => Fp.fma p.1 p.2 t) 0

/-- Tables A and B and Q0 of a query (R263). -/
def State.tables (s : State) (d : IdxDesc) (b : SearchBlock) (q : List F32) : List (Nat × F32) × List (Nat × F32) × F32 :=
  let slot := progSlot b.prog d.metric
  let q0 := b.q.headD 0
  let read := fun va => if va = 0 then [] else Sparse.cells 0 0 (f32s (256 * d.c) (s.load d.tid va (1024 * d.c)))
  if slot = 0 then (s.buildTable d sqDist q, [], q0)
  else if slot = 1 then (s.buildTable d (fun x c => Fp.negA (dotF32 x c)) q, [], q0)
  else if slot = 2 then (s.buildTable d (fun x c => Fp.negA (dotF32 x c)) q, s.buildTable d (fun _ c => dotF32 c c) q, Fp.rsqrt (dotF32 q q))
  else (read b.tableAVa, read b.tableBVa, q0)

/-- The query vector: at QVEC_VA, or at `emb`, where the embedding stage published it as F32. -/
def State.queryVector (s : State) (d : IdxDesc) (b : SearchBlock) (emb : Nat) : List F32 :=
  if b.qvecGiven then
    (if b.qvecB16 then (elemCodes Fmt.b16 d.dim (s.load d.tid b.qvecVa (2 * d.dim))).map (Fmt.widen Fmt.b16) else f32s d.dim (s.load d.tid b.qvecVa (4 * d.dim)))
  else f32s d.dim (s.load d.tid emb (4 * d.dim))

/-! ### Scoring (R265, R268, R274, R275) -/

def Query.input (q : Query) (types : List Nat) (code : List Byte) (bitmap : BitVec 64) (nums : List Nat) : ProgIn :=
  ⟨code, q.qcode, bitmap, q.blk.boostMask, nums, types, q.q0 :: q.blk.q.drop 1, q.tabA, q.tabB⟩

def Query.score (q : Query) (p : List ProgWord) (types : List Nat) (code : List Byte) (bitmap : BitVec 64) (nums : List Nat) : F32 :=
  runProg (q.input types code bitmap nums) p (List.replicate 8 0)

/-- The order of entries: score under the key of R158 with SMALLEST, then ascending ITEM_ID. -/
def entryBefore (a b : PEntry) : Bool :=
  let ka := selKey true a.score
  let kb := selKey true b.score
  decide (kb < ka) || (ka == kb && decide (a.item ≤ b.item))

/-- Of two entries of one item, the one that the merge rule keeps: the greater VERSION, then the lower SOURCE, then the primary record, so
that the order of reads does not show (R287; log entry 91: DESIGN CHOICE, unsafe). -/
def keepOf (a b : PEntry) : PEntry :=
  if a.version < b.version then b
  else if a.version = b.version ∧ (b.source < a.source ∨ b.source = a.source ∧ a.second = true ∧ b.second = false) then b else a

/-- Takes an entry into a list of distinct items, ordered, of at most `cand` (R274). -/
def takeEntry (cand : Nat) (e : PEntry) (l : List PEntry) : List PEntry := match l.find? (fun x => x.item == e.item) with
  | some x => (insertBy entryBefore (keepOf x e) (l.filter (fun y => y.item != e.item))).take cand
  | none => (insertBy entryBefore e l).take cand

/-- Whether a member record is hidden from a query (R265). -/
def Index.hides (x : Index) (q : Query) (p : Part) (r : Nat) (m : Member) : Bool :=
  !x.keyLive q.gen p r || (x.side.any (fun e => e.item == m.item && decide (q.point < e.seq) && decide (e.seq ≤ q.snap))) || decide (p.records ≤ r)

/-- The columns that a scan reads: the bitmap only when the program or the filter uses it, the numbers only when either uses a numeric
attribute (R270). -/
def readsBitmap (p : List ProgWord) (f : List FilterNode) : Bool := usesBitmap p || f.any (fun n => n.op == 1 || n.op == 2 || n.op == 3)
def readsNum (p : List ProgWord) (f : List FilterNode) : Bool := usesNum p || f.any (fun n => n.op == 4 || n.op == 5)

/-- The bytes that a scan of a full group reads, code and columns, and whether the program's cost exceeds a quarter of the bytes of a
record (R271). -/
def scanBytes (d : IdxDesc) (p : List ProgWord) (f : List FilterNode) : Nat :=
  16384 + (if readsBitmap p f then round4k (8 * d.group) else 0) + (if readsNum p f then round4k (16 * d.group) else 0)
def slowProgram (d : IdxDesc) (p : List ProgWord) (f : List FilterNode) : Bool :=
  decide (scanBytes d p f < 4 * (p.map (fun w => w.cost)).foldl (· + ·) 0 * d.group)

/-- The units of a group, from its code unit on, that a scan reads (R235, R270). -/
def scanUnits (d : IdxDesc) (p : List ProgWord) (f : List FilterNode) : List Nat :=
  let g := d.group
  let k := round4k (16 * g)
  let n := k + round4k (8 * g)
  let span := fun (at_ len : Nat) => (List.range (1 + d.groupSpan)).filter (fun u => decide (at_ < u * unitBytes) && decide ((u - 1) * unitBytes < at_ + len))
  (0 :: (if readsBitmap p f then span k (8 * g) else []) ++ (if readsNum p f then span n (16 * g) else [])).dedup

/-- What scoring a group does: hidden, visible and passing records, NaN scores, and the channel's list. -/
structure Scored where
  hidden : Nat
  visible : Nat
  passed : Nat
  nan : Nat
  list : List PEntry
deriving DecidableEq, Repr

/-- Scores the records of a group into the list of a channel (R274). -/
def Index.scoreGroup (x : Index) (q : Query) (prog : List ProgWord) (p : Part) (channel first : Nat) (ms : List Member) (l : List PEntry) : Scored :=
  let d := x.desc
  let bits := readsBitmap prog q.blk.filter
  let numbers := readsNum prog q.blk.filter
  let step := fun (st : Nat × Scored) (m : Member) =>
    let (r, t) := st
    let m := { m with bitmap := if bits then m.bitmap else 0, nums := if numbers then m.nums else [] }
    if x.hides q p r m then (r + 1, { t with hidden := t.hidden + 1 })
    else if !passes q.blk.filter d.numTypes m.bitmap m.nums then (r + 1, { t with visible := t.visible + 1 })
    else
      let v := q.score prog d.numTypes m.code m.bitmap m.nums
      let t := { t with visible := t.visible + 1, passed := t.passed + 1 }
      if Fp.isNaN v then (r + 1, { t with nan := t.nan + 1 })
      else (r + 1, { t with list := takeEntry q.blk.cand ⟨v, m.item, 0, channel, m.second, 0⟩ t.list })
  (ms.foldl step (first, ⟨0, 0, 0, 0, l⟩)).2

/-- The lower probe rank of an entry's partitions among the fixed probes. -/
def probeRank (probes : List Nat) (e : SideEntry) : Option Nat :=
  let a := probes.idxOf e.part0
  let b := if e.border then probes.idxOf e.part1 else probes.length
  let r := Nat.min a b
  if r < probes.length then some r else none

/-- The side-list entries that a query considers, with their probe ranks (R275). -/
def Index.sideFound (x : Index) (q : Query) : List (SideEntry × Nat) :=
  let set := x.side.filter (fun e => decide (q.point < e.seq) && decide (e.seq ≤ q.snap))
  (set.filter (fun e => e.insert && (set.filter (fun y => y.item == e.item)).getLast? == some e)).filterMap (fun e => (probeRank q.probes e).map (fun r => (e, r)))

/-- The side-list entries that pass the filter, scored: entries, and the probe ranks of those with NaN scores. -/
def Index.sideScores (x : Index) (q : Query) (prog : List ProgWord) : List PEntry × List Nat :=
  let ok := (x.sideFound q).filter (fun e => passes q.blk.filter x.desc.numTypes e.1.bitmap e.1.nums)
  let scored := ok.map (fun e => (e, q.score prog x.desc.numTypes e.1.code e.1.bitmap e.1.nums))
  ((scored.filter (fun e => !Fp.isNaN e.2)).map (fun e => ⟨e.2, e.1.1.item, e.1.1.seq, 64, false, e.1.2⟩),
   (scored.filter (fun e => Fp.isNaN e.2)).map (fun e => e.1.2))

/-- The channel whose CSU scores a group: of an index in extents the one on which the flash translation layer placed its code unit, of one
in ranges UNIT mod 64 (R484, R217). -/
def State.groupChannel (s : State) (x : Index) (g : Group) : Option Nat :=
  if x.desc.ranges then some (g.unit % 64)
  else match (s.extent x.desc.memberExt).bind (fun e => Sparse.find s.geo.map (unitsPerPage * e.first + g.unit)) with
    | some (id, slot) => (s.stripe id).map (fun y => s.chanOf y slot)
    | none => none

/-- Groups of the probed partitions of a round that are still to be read. -/
def Index.unread (x : Index) (q : Query) : List (Nat × Nat) :=
  let ps := (q.probes.drop q.scanned).take (q.upto - q.scanned)
  (ps.flatMap (fun p => (List.range ((x.gen q.gen).part p).groups.length).map (fun g => (p, g)))).filter (fun g => !q.seen.contains g)

/-! ### Merging and results (R276 to R281) -/

/-- The merge procedure: one entry of each item, in order, the first `cand` of them; duplicates removed and distinct items. -/
def mergeLists (cand : Nat) (entries : List PEntry) : List PEntry × Nat × Nat :=
  let kept := entries.foldl (fun (l : List PEntry) e => match l.find? (fun x => x.item == e.item) with
    | some x => keepOf x e :: l.filter (fun y => y.item != e.item)
    | none => e :: l) []
  ((kept.mergeSort entryBefore).take cand, entries.length - kept.length, kept.length)

/-- The entries of every partial list of every round so far, the side list's with probe ranks below `scanned` (R280), its best
CAND of them. -/
def Query.entries (q : Query) (scanned : Nat) : List PEntry :=
  let side := ((q.side.filter (fun e => decide (e.rank < scanned))).mergeSort entryBefore).take q.blk.cand
  q.lists.flatMap (fun l => l.2) ++ side

/-- MATCHES and NAN_COUNT of a query over the probes scanned. -/
def Query.allMatches (q : Query) : Nat :=
  q.matches_ + (q.side.filter (fun e => decide (e.rank < q.scanned))).length + (q.sideNan.filter (fun r => decide (r < q.scanned))).length
def Query.allNan (q : Query) : Nat := q.nan + (q.sideNan.filter (fun r => decide (r < q.scanned))).length + q.candNan

/-- Result positions of a query. -/
def Query.positions (q : Query) : Nat := if q.blk.rescoreKeep = 0 then q.blk.cand else q.blk.rescoreKeep

/-- The ranked entries with the score that the result list gives. -/
def Query.ranked (q : Query) : List (PEntry × F32) :=
  if q.fetched then q.cands.map (fun c => (c.e, c.score)) else q.merged.map (fun e => (e, e.score))

/-- Whether the search ends SHORT (R279, R281, R283). Log entry 72: DEDUCED, unsafe. -/
def Query.short (q : Query) : Bool := decide (q.distinct < q.blk.cand) || (q.blk.rescoreKeep != 0 && decide (q.ranked.length < q.blk.rescoreKeep))

/-- A result record. -/
def resultRecord (item source : Nat) (second : Bool) (score : F32) : List Byte :=
  leBytes 8 (item + source * 2 ^ 40 + b2n second * 2 ^ 47) ++ leBytes 8 score.toNat

/-- The result list: header and records (R278). SHORT is set as R279 and R283 set it. -/
def Query.resultBytes (q : Query) (ranked : List (PEntry × F32)) : List Byte :=
  let count := ranked.length
  let short := decide (count < q.positions) || (!q.blk.widen && decide (q.distinct < q.blk.cand))
  leBytes 4 count ++ leBytes 4 q.allMatches
  ++ leBytes 8 (q.scanned + q.rounds * 2 ^ 13 + b2n short * 2 ^ 17 + b2n q.damaged * 2 ^ 18 + b2n q.clamped * 2 ^ 19)
  ++ leBytes 8 q.snap ++ leBytes 4 (q.gen % 2 ^ 32) ++ leBytes 4 q.dups ++ leBytes 4 q.allNan ++ List.replicate 28 0
  ++ ranked.flatMap (fun r => resultRecord r.1.item r.1.source r.1.second r.2)
  ++ (List.replicate (q.positions - count) (resultRecord (2 ^ 40 - 1) 0 false 0x7F800000)).flatten

/-- A query ends: its pin ends, and its counts and events follow (MRG registers). -/
def State.queryDone (s : State) (q : Query) : State :=
  let s := s.setQuery { q with step := .done, pinned := false }
  let tid := (s.req q.handle).map (fun r => r.tid)
  let s := if q.short then (let s := s.bump F.MRG_SHORT_COUNT 1
    if s.on F.MRG_CTL_SHORT_EVT_EN then s.event evSearchShort .info tid q.index q.merged.length else s) else s
  let s := if q.damaged then (let s := s.bumpSat F.MRG_DAMAGED_COUNT 1
    if s.on F.MRG_CTL_DAMAGE_EVT_EN then s.event evSearchDamaged .warning tid q.index 0 else s) else s
  (s.modReq q.handle (fun r => { r with tally := { r.tally with damaged := r.tally.damaged || q.damaged, short := r.tally.short || q.short } })).sweep

/-- Writes the result list of a request that generates nothing and ends the request (R278, R279). -/
def State.writeResults (s : State) (q : Query) (ranked : List (PEntry × F32)) : State := match s.req q.handle with
  | none => s
  | some r =>
    let key := completionKey r.tid r.ring
    let s := s.hostPush key (s.get (F.DSP_RING_COMPL_ADDR key)) (s.get (F.DSP_RING_CKEY_LOG2 key)) (.results q.handle q.blk.resultAddr (q.resultBytes ranked))
    s.endReq q.handle (if q.short then stShort else stDone) 0

/-- A search-only request's query ends, and the request with it. -/
def State.finishSearch (s : State) (q : Query) (ranked : List (PEntry × F32)) : State := (s.queryDone q).writeResults q ranked

/-! ### Candidates (R282 to R284) -/

/-- The candidates of the merged list with their copies: those whose copy disagrees or cannot be read are dropped, and the
query is damaged (R255, R282). -/
def Index.candidates (x : Index) (q : Query) : List Cand × Bool :=
  let one := fun (e : PEntry) => (x.copyUnder e.item q.snap).filter (fun c => if e.source = 64 then c.version == e.version else decide (c.version ≤ q.point))
  ((q.merged.filterMap (fun e => (one e).map (fun c => ⟨e, some c, e.score⟩))), q.merged.any (fun e => (one e).isNone))

/-- The full-precision distance (R483). -/
def fullDistance (metric : Nat) (q v : List F32) : F32 :=
  if metric = 0 then sqDist q v
  else if metric = 1 then Fp.negA (dotF32 q v)
  else if metric = 2 then Fp.negA (Fp.mul (Fp.mul (dotF32 q v) (Fp.rsqrt (dotF32 q q))) (Fp.rsqrt (dotF32 v v)))
  else Fp.ofInt (((q.zip v).filter (fun p => Fp.lt 0 p.1 != Fp.lt 0 p.2)).length : Nat)

/-- Rescores candidates: NaN distances are dropped and counted, the rest ordered, RESCORE_KEEP kept (R283). -/
def rescored (d : IdxDesc) (q : Query) : List Cand × Nat :=
  let all := q.cands.map (fun c => { c with score := fullDistance d.metric q.q (d.widen (match c.copy with
    | some y => y.vec
    | none => [])) })
  let ok := all.filter (fun c => !Fp.isNaN c.score)
  ((ok.mergeSort (fun a b => entryBefore { a.e with score := a.score } { b.e with score := b.score })).take q.blk.rescoreKeep, all.length - ok.length)

/-- The passage of a candidate, when its record agrees with the copy and can be read (R284). -/
def Index.passageOf (x : Index) (c : Cand) : Option Passage := match c.copy with
  | none => none
  | some y => match Sparse.find x.passages y.passOff with
    | none => none
    | some r => if r.bad || r.item != c.e.item || r.version != y.version then none else some ⟨r.item, r.version, r.dict, r.text, r.toks⟩

end Sys2Proof.Machine
end

