-- ==== Sys2Proof/Machine/PathOps.lean ====
section
/-! DEFINITION. The stages of a request (spec/01 R19 to R21, R24). -/

namespace Sys2Proof.Machine

/-- The stages that a request's path options and blocks call for, in order (R19). -/
def stagesOf (d : ReqDesc) : List Stage :=
  let embeds := d.retrieve && !d.search.qvecGiven
  (if d.questionLen ≠ 0 then [.tokenisation] else []) ++ (if embeds then [.embedding] else [])
    ++ (if d.retrieve then [.coarse, .scan, .merge] else []) ++ (if d.retrieve ∧ d.search.rescoreKeep ≠ 0 then [.rescoring] else [])
    ++ (if d.retrieve ∧ (d.rerank ∨ d.generate) then [.passageFetch] else []) ++ (if d.rerank then [.rerank] else [])
    ++ (if d.generate then [.packing, .prefill, .decode] else [])

/-- The request state of a stage (table "Stages of the request path"). -/
def stateOf (d : ReqDesc) : Stage → ReqState
  | .tokenisation => .admitted
  | .embedding | .coarse | .scan | .merge => .retrieving
  | .rescoring | .rerank => .reranking
  | .passageFetch => if d.rerank then .reranking else .packing
  | .packing => .packing
  | .prefill => .prefill
  | .decode => .decode

/-- The stage after one, if there is one. -/
def nextStage (d : ReqDesc) (st : Stage) : Option Stage := ((stagesOf d).drop ((stagesOf d).idxOf st + 1)).head?

/-- Whether a request waits in ADMITTED for its grammar to be loaded (R329). -/
def State.waitsGrammar (s : State) (r : Req) : Bool := r.d.generate && r.d.gen.grammarEn && (match s.gram r.d.gen.grammar with
  | some m => m.state == .loading
  | none => false)

/-- A request whose next stage is `st` and that may run it: live, not SUSPENDED and not about to end (R24, R28, R30, R329). -/
def State.atStage (s : State) (h : Nat) (st : Stage) : Option Req :=
  (s.req h).filter (fun r => r.live && !r.suspended && r.ending.isNone && r.state != .held && !s.waitsGrammar r && r.stage == st)

/-- The stage begins: the request is in its state (R21). -/
def State.inStage (s : State) (h : Nat) (st : Stage) : State := s.modReq h (fun r => { r with stage := st, state := stateOf r.d st })

/-- The stage is over; the next one comes. -/
def State.pastStage (s : State) (h : Nat) (st : Stage) : State := s.modReq h (fun r => { r with stage := (nextStage r.d st).getD st, begun := none })

end Sys2Proof.Machine
end

