-- ==== Sys2Proof/Machine/GenOps.lean ====
section
/-! DEFINITION. What generation computes: sampling, steps and their ends, KV blocks, and the forming of passes (spec/13). -/

namespace Sys2Proof.Machine

def dModelInvalid : Nat := 0x0D01
def dModelAbsent : Nat := 0x0D02
def dGenParam : Nat := 0x0D03
def dKvExhausted : Nat := 0x0D04
def dSampleEmpty : Nat := 0x0D05
def dShipRefused : Nat := 0x0D06
def dShipUnreachable : Nat := 0x0D07
def dNotOwner : Nat := 0x0D08
def dGrammarAbsent : Nat := 0x0C07
def dGrammarVocab : Nat := 0x0C08
def dPackBudget : Nat := 0x0C09

/-! ### Roles (spec/01 table "Part roles") -/

def State.isPrefill (s : State) : Bool := s.get F.GEN_ROLE_ROLE == 1
def State.isDecode (s : State) : Bool := s.get F.GEN_ROLE_ROLE == 2

/-! ### Sampling (R351 to R353) -/

/-- The draw u of a token index. -/
def drawU (seed : BitVec 64) (n : Nat) : F32 :=
  let x := (Fmt.draw64 seed (BitVec.ofNat 64 n)).toNat
  Fp.round .nearest false (bitsOf x 63 40) (-24) false

/-- The candidates that are kept: their records with the cumulative sum (R352). -/
def keepRecs (topP total minP p0 : F32) : Nat → F32 → List Elem → List Elem × F32
  | _, cum, [] => ([], cum)
  | i, cum, e :: r =>
    if 0 < i ∧ (Fp.le (Fp.mul topP total) cum ∨ Fp.lt e.val (Fp.mul minP p0)) then ([], cum)
    else
      let (l, c) := keepRecs topP total minP p0 (i + 1) (Fp.add cum e.val) r
      (e :: l, c)

/-- The first kept record whose running sum exceeds the target, else the last. -/
def pickRec (target : F32) : F32 → List Elem → Option Nat
  | _, [] => none
  | _, [e] => some e.idx
  | acc, e :: r =>
    let acc := Fp.add acc e.val
    if Fp.lt target acc then some e.idx else pickRec target acc r

/-- The token of a row and the proportion cut off beyond the best K; none when no token can be sampled (R352, R353). -/
def sampleRow (b : GenBlock) (u : F32) (allowed : Nat → Bool) (z : List F32) : Option (Nat × F32) :=
  let live := (z.mapIdx (fun t v => allowed t && !Fp.isNaN v)).any id
  let z := z.mapIdx (fun t v => if allowed t then v else Fp.negInf)
  let best := fun (l : List F32) (k : Nat) =>
    let inp := selInput false false 0 (l.mapIdx (fun t v => (v, t)))
    (inp.valid, (sortBy selBefore inp.valid).take k)
  if live = false then none
  else if Fp.isZero b.temperature then ((best z 1).2.head?).map (fun e => (e.idx, 0))
  else
    let m := z.foldl Fp.maxNum Fp.negInf
    let c := Fp.div 0x3FB8AA3B#32 b.temperature
    let p := z.map (fun v => Fp.exp2 (Fp.mul (Fp.sub v m) c))
    let (valid, sel) := best p (if b.topK = 0 then 512 else b.topK)
    let byPos := sortBy (fun a b : Elem => decide (a.pos ≤ b.pos)) sel
    let out := valid.filter (fun e => !sel.contains e)
    let sumOut := selSum z.length (elemCells out)
    let total := Fp.add (selSum z.length (elemCells byPos)) sumOut
    let recs := sortBy recBefore sel
    let (kept, cum) := keepRecs b.topP total b.minP ((recs.head?).elim 0 (fun e => e.val)) 0 0 recs
    (pickRec (Fp.mul u cum) 0 kept).map (fun t => (t, Fp.div sumOut total))

/-! ### Grammars and text of a request (R321 to R324, R330) -/

def State.gramOf (s : State) (g : GenReq) : Option Gram := if g.blk.grammarEn then s.gram g.blk.grammar else none

/-- A grammar state after tokens; none behind a token that its mask disallows. -/
def State.gramAfter (s : State) (m : Gram) : Nat → List Nat → Option Nat
  | n, [] => some n
  | n, t :: r => match s.gramNext m n t with
    | none => none
    | some k => s.gramAfter m k r

/-- The committed grammar state, every committed token taken in. -/
def State.gramNow (s : State) (g : GenReq) : Option Nat := (s.gramOf g).bind (fun m => s.gramAfter m g.gram (g.out.drop g.advanced))

/-- Whether a mask allows a token. -/
def State.maskAllows (s : State) (m : Gram) (state t : Nat) : Bool :=
  let id := (s.gramState m state).1
  ((s.load m.ctx (m.base + m.maskOff + 32768 * id + t / 8) 1).headD 0).getLsbD (t % 8)

/-- The mask of the row that follows `fed` after the committed tokens; with no grammar every token is allowed. -/
def State.rowMask (s : State) (g : GenReq) (fed : List Nat) : Nat → Bool := match s.gramOf g with
  | none => fun _ => true
  | some m => match (s.gramNow g).bind (fun n => s.gramAfter m n fed) with
    | some n => s.maskAllows m n
    | none => fun _ => false

/-- The tokens of a step: the samples of rows 0 to a, `a` the drafts accepted (R348); whether a row gave none; the largest cut. -/
def State.stepTokens (s : State) (g : GenReq) (drafts : List Nat) : Nat → List (List F32) → List Nat × Bool × F32
  | _, [] => ([], false, 0)
  | j, z :: r => match sampleRow g.blk (drawU g.blk.seed (g.out.length + j)) (s.rowMask g (drafts.take j)) z with
    | none => ([], true, 0)
    | some (t, cut) =>
      if j < drafts.length ∧ drafts[j]? = some t then
        let (l, bad, c) := s.stepTokens g drafts (j + 1) r
        (t :: l, bad, Fp.maxNum cut c)
      else ([t], false, cut)

/-- What the tokens of a step come to: the tokens up to the first that ends generation, the text so far, and how it ended: the
reason bits, the stop string and the offset of its first byte (R323, R354, R355). -/
structure Ended where
  reasons : Nat
  stop : Nat
  offset : Nat
deriving DecidableEq, Repr

/-- Takes one token in: the text with it, cut at a stop string that completes, and the reasons it meets. -/
def State.tokenEnd (s : State) (g : GenReq) (x : Inst) (idx t : Nat) (before : List Nat) (text : List Byte) : List Byte × Option Ended :=
  let add := match s.dict x.desc.dictId with
    | some d => s.tokenText d t
    | none => []
  let all := text ++ add
  let stop := firstStop g.stop.strings all add.length text.length
  let final := match s.gramOf g with
    | some m => (match (s.gramNow g).bind (fun n => s.gramAfter m n (before ++ [t])) with
      | some n => (s.gramState m n).2.1
      | none => false)
    | none => false
  let bits := b2n (t == x.hdr.endToken && !g.blk.ignoreEnd) + b2n stop.isSome * 2 + b2n final * 4 + b2n (idx + 1 == g.blk.maxNew) * 8
    + b2n (g.prompt.length + idx + 1 == x.hdr.maxContext) * 16
  match stop with
  | some (i, n) =>
    let first := n - (g.stop.strings.getD i []).length
    (all.take (if g.stop.include_ then n else first), some ⟨bits, i, first⟩)
  | none => (all, if bits = 0 then none else some ⟨bits, 0xF, 0⟩)

/-- Takes the tokens of a step in, up to the first that ends generation. -/
def State.takeTokens (s : State) (g : GenReq) (x : Inst) : Nat → List Nat → List Nat → List Byte → List Nat × List Byte × Option Ended
  | _, _, [], text => ([], text, none)
  | idx, before, t :: r, text =>
    let (text', e) := s.tokenEnd g x idx t before text
    match e with
    | some e => ([t], text', some e)
    | none =>
      let (l, tx, e) := s.takeTokens g x (idx + 1) (before ++ [t]) r text'
      (t :: l, tx, e)

/-! ### KV blocks (R344 to R346) -/

/-- B, the pages of a block. -/
def blockPages (h : ModelHdr) : Nat := h.kvTokenBytes / 4096

/-- Cuts pages into blocks of `b`. -/
def cutBlocks (b : Nat) : Nat → List Nat → List (List Nat)
  | 0, _ => []
  | n + 1, l => l.take b :: cutBlocks b n (l.drop b)

/-- Allots a request the blocks for its first `n` positions; none when the pool cannot supply them. Log entry 55: DESIGN CHOICE, safe. -/
def State.growTo (s : State) (i : Nat) (g : GenReq) (n : Nat) : Option (GenReq × State) := match s.inst i with
  | none => none
  | some x =>
    let m := (n + 15) / 16 - g.blocks.length
    (takePages x (m * blockPages x.hdr)).map (fun (ps, x) => ({ g with blocks := g.blocks ++ cutBlocks (blockPages x.hdr) m ps }, s.setInst i x))

/-- The common prefix of two lists. -/
def commonLen : List Nat → List Nat → Nat
  | a :: r, b :: t => if a = b then commonLen r t + 1 else 0
  | _, _ => 0

/-- The leading blocks that a request entering PREFILL shares: of the live request of its instance with the longest common prompt,
full blocks of committed prompt positions, never the whole prompt (R346). -/
def State.sharedBlocks (s : State) (g : GenReq) : List (List Nat) :=
  if g.blk.repro then []
  else
    let donors := (s.gen.reqs.map (fun p => p.2)).filter (fun d => d.handle != g.handle && d.blk.inst == g.blk.inst && !d.blk.repro)
    let count := fun (d : GenReq) => Nat.min (Nat.min (commonLen d.prompt g.prompt) d.kvLen / 16) ((g.prompt.length - 1) / 16)
    donors.foldl (fun l d => if l.length < count d then d.blocks.take (count d) else l) []

/-- A request entering PREFILL: its shared blocks and those of its whole prompt; none when the pool is short (R344, R346). -/
def State.enterKv (s : State) (g : GenReq) : Option (GenReq × State) :=
  if g.blocks ≠ [] then some (g, s)
  else
    let sh := s.sharedBlocks g
    let n := 16 * sh.length
    s.growTo g.blk.inst { g with blocks := sh, shared := sh.length, ran := n, kvLen := n } g.prompt.length

/-- Returns the blocks wholly beyond kv_len to the pool. -/
def State.trimKv (s : State) (h : Nat) : State := match s.greq h with
  | none => s
  | some g =>
    let keep := (g.kvLen + 15) / 16
    (s.setGreq { g with blocks := g.blocks.take keep }).freeBlocks h g.blk.inst (g.blocks.drop keep)

/-! ### Drafts (spec/13 "A step") -/

/-- Whether a list holds `pat` at position `i`. -/
def holdsAt (pat l : List Nat) (i : Nat) : Bool := (l.drop i).take pat.length == pat

/-- Prompt lookup: the tokens that followed the most recent earlier occurrence of the last three tokens, at most `max` of them
(DRAFT_MODE 2). -/
def lookupDrafts (max : Nat) (l : List Nat) : List Nat :=
  if l.length < 4 then []
  else
    let pat := l.drop (l.length - 3)
    match ((List.range (l.length - 3)).filter (fun i => holdsAt pat l i)).getLast? with
    | some i => (l.drop (i + 3)).take max
    | none => []

/-- The drafts that a step takes of those that are ready: no position beyond MAX_CONTEXT. -/
def readyDrafts (x : Inst) (g : GenReq) : List Nat := (g.drafts.take g.blk.draftMax).take (x.hdr.maxContext - g.kvLen - 1)

/-! ### Forming a pass (R342, R344, R345) -/

/-- The requests of an instance that may join a pass, in admission order: none in a pass, SUSPENDED or about to end. A PREFILL part runs no
decode step of a request: it goes on elsewhere after its first token (R37), or has its closing row. -/
def State.joiners (s : State) (i : Nat) : List GenReq :=
  let ok := (s.gen.reqs.map (fun p => p.2)).filter (fun g => g.blk.inst == i && !g.inPass
    && !(s.isPrefill && !g.prefill && !g.closing && g.lost.isEmpty) && (match s.req g.handle with
    | some r => r.live && !r.suspended && r.ending.isNone
    | none => false))
  ok.mergeSort (fun a b => decide (a.order ≤ b.order))

/-- A pass being formed: rows, members and whether the loop has stopped. -/
structure Forming where
  rows : Nat
  members : List PassMember
  stop : Bool
deriving DecidableEq, Repr

/-- A request joins the pass with its blocks, or waits. -/
def State.join (s : State) (f : Forming) (g : GenReq) (m : PassMember) : Forming × State :=
  ({ f with rows := f.rows + m.rows, members := f.members ++ [m] }, s.setGreq { g with inPass := true, waiting := false })

/-- One decode request of `form_pass`: a closing row, or a step with the drafts whose blocks the pool can supply. -/
def State.formDecode (x : Inst) (i : Nat) (st : Forming × State) (g : GenReq) : Forming × State :=
  let (f, s) := st
  if f.stop then st
  else
    let drafts := if g.closing then [] else readyDrafts x g
    let n := 1 + drafts.length
    if x.desc.passRows < f.rows + n ∧ f.members ≠ [] then ({ f with stop := true }, s)
    else
      let kind : RowKind := if g.closing then .closing else .step
      match s.growTo i g (g.kvLen + n) with
      | some (g, s) => s.join f g ⟨g.handle, kind, n, drafts, []⟩
      | none =>
        let room := 16 * g.blocks.length - g.kvLen
        if 0 < room then s.join f g ⟨g.handle, kind, Nat.min n room, drafts.take (room - 1), []⟩
        else (f, s.setGreq { g with waiting := true })

/-- One prefill request of `form_pass`: a chunk. -/
def State.formPrefill (x : Inst) (st : Forming × State) (g : GenReq) : Forming × State :=
  let (f, s) := st
  if f.stop then st
  else
    let room := x.desc.passRows - f.rows
    if g.blk.repro = false ∧ room < x.desc.chunkMin ∧ f.members ≠ [] then ({ f with stop := true }, s)
    else match s.enterKv g with
      | none => (f, s.setGreq { g with waiting := true })
      | some (g, s) =>
        let left := g.prompt.length - g.ran
        let c := if g.blk.repro then Nat.min left x.desc.chunkRepro
          else
            let c := Nat.min left (Nat.max room x.desc.chunkMin)
            if c < left then c / 16 * 16 else c
        let (f, s) := s.join f g ⟨g.handle, .chunk, c, [], []⟩
        ({ f with stop := decide (x.desc.passRows ≤ f.rows) }, s)

/-- The committed tokens of a block that is to be recomputed (R347). -/
def lostRows (g : GenReq) (b : Nat) : Nat := Nat.min 16 (g.kvLen - 16 * b)

/-- A request that lost KV blocks: each is recomputed as a chunk in the instance's next pass, and nothing else of it runs
(R347). -/
def State.formLost (st : Forming × State) (g : GenReq) : Forming × State :=
  let (f, s) := st
  s.join f g ⟨g.handle, .recompute, (g.lost.map (lostRows g)).foldl (· + ·) 0, [], g.lost⟩

/-- `form_pass` for a decoder instance. Log entry 54: DEDUCED, unsafe. -/
def State.formDecoder (s : State) (i : Nat) (x : Inst) : Forming × State :=
  let all := s.joiners i
  let lost := all.filter (fun g => !g.lost.isEmpty)
  let rest := all.filter (fun g => g.lost.isEmpty)
  let st := lost.foldl State.formLost (⟨0, [], false⟩, s)
  let st := (rest.filter (fun g => !g.prefill)).foldl (State.formDecode x i) st
  (rest.filter (fun g => g.prefill)).foldl (State.formPrefill x) ({ st.1 with stop := decide (x.desc.passRows ≤ st.1.rows) }, st.2)

/-- Requests whose present stage runs on an encoder instance, with inputs that no pass has taken, in admission order. -/
def State.encoders (s : State) (i : Nat) : List Req :=
  let ok := s.liveReqs.filter (fun r => !r.suspended && r.ending.isNone && !r.inputs.isEmpty
    && ((r.stage == .embedding && r.d.embedInst == i) || (r.stage == .rerank && r.d.rerankInst == i)))
  ok.mergeSort (fun a b => decide (a.order ≤ b.order))

/-- The inputs that fit a pass: whole ones, at least one. -/
def fitInputs (cap : Nat) : Nat → Bool → List (Nat × Nat) → List (Nat × Nat)
  | _, _, [] => []
  | rows, first, (n, r) :: l => if cap < rows + r ∧ first = false then [] else (n, r) :: fitInputs cap (rows + r) false l

/-- A pass of whole inputs for an encoder instance. -/
def State.formEncoder (s : State) (i : Nat) (x : Inst) : Forming × State :=
  (s.encoders i).foldl (fun (st : Forming × State) r =>
    let (f, s) := st
    let take := fitInputs x.desc.passRows f.rows f.members.isEmpty r.inputs
    if f.stop ∨ take = [] then ({ f with stop := true }, s)
    else
      let rows := (take.map (fun p => p.2)).foldl (· + ·) 0
      ({ f with rows := f.rows + rows, members := f.members ++ [⟨r.handle, .input, rows, [], take.map (fun p => p.1)⟩], stop := decide (take.length < r.inputs.length) },
       s.setReq { r with inputs := r.inputs.drop take.length })) (⟨0, [], false⟩, s)

/-- Forms a pass, first ending the most recently admitted decode requests that wait for blocks while none can be formed otherwise
(R345). -/
def State.formPass (s : State) (i : Nat) (x : Inst) : Nat → Forming × State
  | 0 => s.formDecoder i x
  | fuel + 1 =>
    let (f, s') := s.formDecoder i x
    let decode := (s'.gen.reqs.map (fun p => p.2)).filter (fun g => g.blk.inst == i && !g.prefill)
    if f.members ≠ [] ∨ decode = [] ∨ decode.any (fun g => !g.waiting) then (f, s')
    else match (decode.mergeSort (fun a b => decide (a.order ≤ b.order))).getLast? with
      | none => (f, s')
      | some g => ((s'.bumpSat (F.GEN_KV_EXHAUSTED i) 1).stopReq g.handle stFailed dKvExhausted).formPass i x fuel

/-! ### Checks at admission (R329, R340) -/

/-- Whether a tenant's request may use an instance. -/
def State.usableInst (s : State) (tid i : Nat) : Option Inst := (s.inst i).filter (fun x => !x.unloading && x.tid == tid)

/-- A generation block with a reserved encoding. -/
def badGenBlock (b : GenBlock) : Bool := b.resv || b.draftMode == 3

/-- Whether a numeric field of a generation block lies outside its range. -/
def genRange (b : GenBlock) : Bool :=
  decide (16 < b.draftMax) || b.maxNew == 0 || decide (131072 < b.maxNew) || Fp.isNaN b.temperature || Fp.lt b.temperature 0 || Fp.isNaN b.topP
    || !(Fp.lt 0 b.topP) || !(Fp.le b.topP Fp.one) || Fp.isNaN b.minP || Fp.lt b.minP 0 || !(Fp.lt b.minP Fp.one) || decide (512 < b.topK)

/-- How a request's generation block ends it before any stage runs: status and detail. -/
def State.genStop (s : State) (tid : Nat) (b : GenBlock) : Option (Nat × Nat) :=
  let draft := if b.draftMode = 1 then s.usableInst tid b.draftInst else none
  if badGenBlock b then some (stInvalidEncoding, 0)
  else match s.usableInst tid b.inst with
    | none => some (stFailed, dModelAbsent)
    | some x =>
      if x.hdr.encoder ∨ (b.draftMode = 1 ∧ (match draft with
          | none => true
          | some y => y.hdr.encoder) = true) then some (stFailed, dModelAbsent)
      else if genRange b ∨ (match draft with
          | some y => y.hdr.vocab != x.hdr.vocab
          | none => false) = true ∨ (s.isPrefill ∧ b.shipAddr = 0) then some (stFailed, dGenParam)
      else if b.grammarEn = false then none
      else match s.gram b.grammar with
        | none => some (stFailed, dGrammarAbsent)
        | some m =>
          if m.state = .unloading ∨ s.mayRead m.shared m.tid m.ctx tid = false then some (stFailed, dGrammarAbsent)
          else if (s.dict x.desc.dictId).any (fun d => d.vocab != m.vocab) then some (stFailed, dGrammarVocab) else none

/-- Where a request's own site records lie. -/
def sitesAt (handle : Nat) : Nat := Config.siteRecords handle % 2 ^ 42 * 64

/-- A request in reproducible mode is given its own site records (R141). -/
def State.makeSites (s : State) (r : Req) : State := match s.inst r.d.gen.inst with
  | none => s
  | some x =>
    if r.d.gen.repro = false then s
    else
      let bs := s.freshSites x.tid x.hdr.sites x.desc.siteVa
      (s.store x.tid (sitesAt r.handle) bs).soil x.tid (sitesAt r.handle) bs.length

/-- A request enters generation with its prompt. -/
def State.enterGen (s : State) (r : Req) : State :=
  let s := s.makeSites r
  let start := if r.d.gen.grammarEn then (match s.gram r.d.gen.grammar with
    | some m => m.start
    | none => 0) else 0
  s.setGreq ⟨r.handle, r.tid, r.order, r.d.gen, r.d.stop, r.prompt, [], 0, [], 0, 0, start, 0, [], 0, 0, [], sitesAt r.handle, 0, false, true, false, [], false, 0, [], [],
    [], 0, none, false⟩

end Sys2Proof.Machine
end

