-- ==== Sys2Proof/Machine/Generation.lean ====
section
/-! DEFINITION. The commands of generation (spec/13) and of the token unit that follow a step commit (spec/12 R322 to R333). -/

namespace Sys2Proof.Machine

/-! ### Model instances (R339) -/

def State.genEnd (s : State) (o : GenOp) (status detail : Nat) : Res := .next (s.opEnd 15 o.opId o.completion status detail 0 0)

/-- A numeric or reserved field of an instance descriptor outside its range. -/
def InstDesc.bad (d : InstDesc) : Bool :=
  d.resv || d.imageVa % pageBytes != 0 || d.kvPoolVa % pageBytes != 0 || decide (d.passRows < 16) || decide (1024 < d.passRows) || d.chunkMin % 16 != 0
    || decide (d.chunkMin < 16) || decide (1024 < d.chunkMin) || d.chunkRepro % 16 != 0 || decide (d.chunkRepro < 16) || decide (1024 < d.chunkRepro)
    || d.passes == 0 || decide (2 < d.passes)

/-- A model image header that holds a reserved value. -/
def ModelHdr.bad (h : ModelHdr) : Bool :=
  h.resv || h.format != 1 || h.layers == 0 || h.vocab == 0 || decide (262144 < h.vocab) || h.maxContext == 0 || decide (131072 < h.maxContext)
    || (if h.encoder then h.kvTokenBytes != 0 else h.kvTokenBytes == 0 || h.kvTokenBytes % 4096 != 0 || decide (262144 < h.kvTokenBytes))

/-- The cases in which GEN_MODEL_LOAD fails (R339). -/
def State.modelInvalid (s : State) (o : GenOp) : Bool :=
  let d := o.desc
  let h := o.hdr
  let mapped := fun (va n : Nat) => (pagesOf o.tid va n).all (fun k => (s.pte k).state != .unmapped)
  (s.inst o.inst).isSome || ModelHdr.bad h || (match s.dict d.dictId with
    | some x => x.vocab != h.vocab
    | none => true)
    || (!h.encoder && decide (d.kvPoolPages < blockPages h)) || !(mapped d.imageVa d.imageLen) || !(mapped d.kvPoolVa (d.kvPoolPages * subBytes))
    || !(mapped d.siteVa (64 * h.sites))

/-- GEN_MODEL_LOAD: loads a model instance (R339). -/
def execGenModelLoad (o : GenOp) (s : State) : Res :=
  s.ringStep 15 o.opId o.completion false (o.resv || InstDesc.bad o.desc) (fun s =>
    if s.modelInvalid o then s.genEnd o stFailed dModelInvalid
    else
      let s := s.setInst o.inst ⟨o.tid, o.desc, o.hdr, false, [], []⟩
      let zero := [F.GEN_PASSES_COUNT o.inst, F.GEN_ROWS_DECODE o.inst, F.GEN_ROWS_PREFILL o.inst, F.GEN_SPEC_OFFERED o.inst, F.GEN_SPEC_ACCEPTED o.inst]
      (zero.foldl (fun s f => s.put f 0) s).genEnd o stDone 0)

/-- GEN_MODEL_UNLOAD: new requests are refused; the instance goes when the last request that uses it ends (R339). -/
def execGenModelUnload (o : GenOp) (s : State) : Res :=
  s.ringStep 15 o.opId o.completion false o.resv (fun s => match s.inst o.inst with
    | none => s.genEnd o stFailed dModelAbsent
    | some x => ((s.setInst o.inst { x with unloading := true }).sweep).genEnd o stDone 0)

/-! ### Forming a pass (R342, R344, R345, R359, R373) -/

/-- A PREFILL part claims the pages of the chunks of a pass (R359): those of the blocks up to the chunk's end not claimed yet. -/
def State.claimChunk (s : State) (x : Inst) (m : PassMember) : State := match s.greq m.handle with
  | none => s
  | some g =>
    let upto := (g.ran + m.rows + 15) / 16 * blockPages x.hdr
    if m.kind ≠ .chunk ∨ s.isPrefill = false ∨ upto ≤ g.claimed then s
    else
      let s := s.setGreq { g with claimed := upto }
      s.sendShip g.blk.shipAddr g.blk.shipKey g.handle ⟨1, g.blk.inst, g.tid, upto - g.claimed, s.shipId g.handle,
        s.ownWindow (s.get F.GEN_SHIP_WIN_REPLY_WIN), [], false⟩

/-- Commands that may carry a pass of an instance: the tenant's own, which run in its range and are charged to it (R76), the sampling
commands of a member with its member's handle, SEED and index (R96, R351), and with REPRO and ROUND_NE in reproducible mode (R141), and no
other with the handle of a request that the part has read. -/
def State.passItem (s : State) (x : Inst) (members : List PassMember) (e : QEntry × Option Nat) : Bool := match e.1.job with
  | .command d =>
    d.tid == x.tid && !d.service && e.1.chargeTid == x.tid && !e.1.svcCharge && (match e.2 with
      | none => (s.req d.reqHandle).isNone
      | some h => d.reqHandle == h && members.any (fun m => m.handle == h) && (match s.greq h with
        | none => true
        | some g => d.sampleSeed == g.blk.seed && d.samplePos == BitVec.ofNat 64 g.out.length && (!g.blk.repro || (d.repro && d.roundNe))))
  | _ => false

/-- Whether a request runs in reproducible mode. -/
def State.isRepro (s : State) (h : Nat) : Bool := (s.greq h).any (fun g => g.blk.repro)

/-- The rows of a request in reproducible mode run in its own commands (R141). -/
def State.reproApart (s : State) (members : List PassMember) (items : List (QEntry × Option Nat)) : Bool :=
  members.all (fun m => !s.isRepro m.handle || items.any (fun e => e.2 == some m.handle))
    && (members.any (fun m => !s.isRepro m.handle) || items.all (fun e => e.2.isSome))

/-- A command of a pass as the pass notes it. -/
def passCmd (e : QEntry × Option Nat) : PassCmd := ⟨e.1.job.handle, e.1.job.cmdId, e.2, match e.1.job with
  | .command d => d.outs.any (fun o => o.kind == kQstate)
  | _ => false⟩

/-- FORM_PASS: the sequencer forms a pass of an instance and places its commands in the tenant's queue (R342 to R345). `items` are
the commands of the pass template for it, each with the member whose own it is, if it is one's. Log entry 60: DESIGN CHOICE, safe. -/
def execFormPass (inst : Nat) (items : List (QEntry × Option Nat)) (time : Nat) (s : State) : Res := match s.inst inst with
  | none => .next s
  | some x =>
    if time < s.now ∨ x.desc.passes ≤ x.passes.length then .next s
    else
      let s := s.tick time
      let ft : Forming × State := if x.hdr.encoder then s.formEncoder inst x else s.formPass inst x s.gen.reqs.length
      let (f, t) := ft
      if f.members = [] then .next t
      else if items = [] ∨ items.all (s.passItem x f.members) = false ∨ s.reproApart f.members items = false ∨ t.queueRoom x.tid items.length = false then .next s
      else
        let id := t.gen.nextPass
        let cmds := items.map passCmd
        let t := match t.inst inst with
          | some y => t.setInst inst { y with passes := y.passes ++ [(⟨id, f.members, cmds⟩ : Pass)] }
          | none => t
        let t := { t with gen := { t.gen with nextPass := id + 1 } }
        let t := f.members.foldl (fun s m => s.claimChunk x m) t
        .next (t.enqueueAll false (items.map (fun (e : QEntry × Option Nat) => e.1))).markReady

/-! ### Step commits (R343, R347 to R358) -/

/-- The pages of a request's committed prompt positions that no chunk has shipped or queued yet (R38). -/
def chunkPages (x : Inst) (g : GenReq) : List Nat :=
  (g.blocks.flatten.take ((g.ran + 15) / 16 * blockPages x.hdr)).drop (g.shipped.length + g.toShip.flatten.length)

/-- What a step's tokens do to a request: they are committed, and generation ends or goes on (R348, R349, R353 to R356). `sampled`: the
last token of `toks` was sampled and has no KV yet. -/
def State.commitTokens (s : State) (x : Inst) (g : GenReq) (toks : List Nat) (bad : Bool) (cut : F32) (time : Nat) : State :=
  let (ts, text, e) := s.takeTokens g x g.out.length [] toks g.text
  let a := if bad then toks.length else toks.length - 1
  let drafted := decide (ts.length ≤ a)
  let kv := g.kvLen + ts.length + b2n (e.isSome && drafted)
  let kv := if g.out.isEmpty then g.prompt.length else kv
  let s := s.setGreq { g with
    out := g.out ++ ts, text := text, kvLen := kv, drafts := [], inPass := false, prefill := false, committedAt := time, closing := e.isSome && !drafted }
  let s := (s.bump (F.GEN_SAMPLE_TOKENS g.blk.inst) ts.length).raise (F.GEN_SAMPLE_CUT_MAX g.blk.inst) (if Fp.isNaN cut then 0 else cut.toNat)
  let s := s.modReq g.handle (fun r => { r with tally := { r.tally with
    tokens := r.tally.tokens + ts.length
    stopReasons := (e.map (fun e => e.reasons)).getD r.tally.stopReasons
    stopIndex := (e.map (fun e => e.stop)).getD r.tally.stopIndex
    stopOffset := (e.map (fun e => e.offset)).getD r.tally.stopOffset } })
  let s := if (e.map (fun e => e.reasons.testBit 1)).getD false then s.bump F.TXU_STOP_MATCHES 1 else s
  let s := s.trimKv g.handle
  if e.isSome then (if drafted then s.endReq g.handle stDone 0 else s)
  else if bad then s.stopReq g.handle stFailed dSampleEmpty else s

/-- NaN logits of a member's rows. -/
def nanLogits (o : MemberOut) : Nat := ((o.logits.map (fun z => (z.filter Fp.isNaN).length)).foldl (· + ·) 0)

/-- A re-rank or embedding stage has run its last input: its ranked passages stand, and the next stage comes; a request that
generates nothing is given its list (R278). -/
def State.encoderDone (s : State) (r : Req) (o : MemberOut) : State :=
  if r.stage = .rerank then
    let ranked := o.ranks.filterMap (fun p => (r.passages[p.1]?).map (fun x => (x, p.2)))
    let s := s.modReq r.handle (fun r => { r with passages := ranked.map (fun p => p.1) })
    if r.d.generate then s.pastStage r.handle .rerank
    else match s.query r.handle with
      | some q => s.writeResults q (ranked.filterMap (fun p => (q.cands.find? (fun c => c.e.item == p.1.item)).map (fun c => (c.e, p.2))))
      | none => s.endReq r.handle stDone 0
  else s.pastStage r.handle r.stage

/-- The inputs of an encoder pass are run. -/
def State.commitInputs (s : State) (inst : Nat) (m : PassMember) (o : MemberOut) : State := match s.req m.handle with
  | none => s
  | some r =>
    if r.live = false ∨ r.ending.isSome then s
    else
      let r := { r with inputsRun := r.inputsRun + m.parts.length }
      let s := s.setReq r
      let more := match s.inst inst with
        | some x => x.passes.any (fun p => p.members.any (fun n => n.handle == m.handle))
        | none => false
      if r.inputs.isEmpty && !more then s.encoderDone r o else s

/-- The step commit of one member of a pass (R343). The commit of a request that has ended, or is about to, is discarded. -/
def State.commitMember (s : State) (inst : Nat) (x : Inst) (time : Nat) (m : PassMember) (o : MemberOut) : State :=
  if m.kind = .input then s.commitInputs inst m o
  else match s.greq m.handle, s.req m.handle with
    | some g, some r =>
      if r.ending.isSome then s.setGreq { g with inPass := false }
      else
        let s := s.bumpSat F.GEN_NAN_COUNT (nanLogits o)
        match m.kind with
        | .chunk =>
          let s := s.bump (F.GEN_ROWS_PREFILL inst) m.rows
          let g := { g with ran := g.ran + m.rows, kvLen := g.kvLen + m.rows, inPass := false }
          let g := if s.isPrefill then { g with toShip := g.toShip ++ [chunkPages x g] } else g
          if g.ran < g.prompt.length then s.setGreq g
          else
            let (ts, bad, cut) := s.stepTokens g [] 0 (o.logits.take 1)
            let s := if bad ∨ ts = [] then s.setGreq g else s.inStage g.handle .decode
            s.commitTokens x g ts (bad || ts.isEmpty) cut time
        | .recompute =>
          let s := ((s.bump (F.GEN_ROWS_PREFILL inst) m.rows).bumpSat (F.GEN_KV_RECOMPUTED inst) m.parts.length).event evKvRecomputed .notice (some g.tid) g.handle m.parts.length
          (s.modReq g.handle (fun r => { r with tally := { r.tally with recomputed := true } })).setGreq
            { g with lost := g.lost.filter (fun b => !m.parts.contains b), inPass := false }
        | .closing =>
          ((s.bump (F.GEN_ROWS_DECODE inst) m.rows).setGreq { g with kvLen := g.kvLen + 1, inPass := false }).endReq g.handle stDone 0
        | _ =>
          let (ts, bad, cut) := s.stepTokens g m.drafts 0 (o.logits.take (m.drafts.length + 1))
          let s := (s.bump (F.GEN_ROWS_DECODE inst) m.rows).bump (F.GEN_SPEC_OFFERED inst) m.drafts.length
          let s := s.bump (F.GEN_SPEC_ACCEPTED inst) (if bad then ts.length else ts.length - 1)
          s.commitTokens x g ts bad cut time
    | _, _ => s

/-- Whether every command of a pass has committed but those of members that have ended (R343). -/
def State.passDone (s : State) (p : Pass) : Bool := p.cmds.all (fun c => s.jobState c.handle c.cmdId == some .committed || (match c.owner with
  | some h => (s.greq h).isNone && !((s.req h).any (fun r => r.live))
  | none => false))

/-- PASS_COMMIT: every command of a pass has committed, and its members' step commits are processed in member order (R343). Log entry 19: DESIGN CHOICE, safe. -/
def execPassCommit (inst pass : Nat) (outs : List MemberOut) (time : Nat) (s : State) : Res := match s.inst inst with
  | none => .next s
  | some x => match x.passes.find? (fun p => p.id == pass) with
    | none => .next s
    | some p =>
      if time < s.now ∨ s.passDone p = false ∨ outs.length ≠ p.members.length then .next s
      else
        let s := (s.tick time).setInst inst { x with passes := x.passes.filter (fun y => !(y.id == pass)) }
        let s := s.bump (F.GEN_PASSES_COUNT inst) 1
        .next (((p.members.zip outs).foldl (fun s y => (s.commitMember inst x time y.1 y.2).settleSuspends y.1.handle) s).sweep).markReady

/-! ### After a step commit (R322 to R325, R330 to R333) -/

/-- DETOKENISE: the text of the committed tokens is delivered, but for the held suffix (R322, R325, R356), once the request's stream has
room (R24, R25). A PREFILL part delivers nothing of a request that goes on elsewhere (R39). -/
def execDetokenise (handle time : Nat) (s : State) : Res := match s.greq handle with
  | none => .next s
  | some g =>
    if time < s.now ∨ g.out.isEmpty ∨ s.holdsBack (streamKey handle) ∨ (s.isPrefill ∧ g.closing = false) then .next s
    else
      let held := if g.closing then 0 else heldSuffix g.stop.strings g.text
      .next ((s.tick time).deliver handle (g.text.length - held))

/-- A mask reference (R331). -/
def State.maskRef (s : State) (m : Gram) (state : Nat) (dead : Bool) : List Byte :=
  let (id, final, _) := s.gramState m state
  leBytes 8 ((m.base + m.maskOff + 32768 * id) % 2 ^ 48 + b2n final * 2 ^ 48 + b2n dead * 2 ^ 49) ++ leBytes 8 (state % 2 ^ 20)

/-- Writes mask references into a request's grammar record and publishes them as a job with a CMD_ID; a late one is counted and
recorded (R331, R332). -/
def State.publishMasks (s : State) (g : GenReq) (bytes : List Byte) (cmdId recVa n since : Nat) : State :=
  let s := s.bump F.TXU_MASK_ADVANCES n
  let took := s.now - since
  let s := s.raise F.TXU_MASK_WORST ((took + 9) / 10)
  let s := if 2000 < took then
      (let s := s.bumpSat F.TXU_MASK_LATE 1
       if s.on F.TXU_CTL_MASK_EVT_EN then s.event evTxuMaskLate .warning (some g.tid) g.handle took else s)
    else s
  let s := { s with dsp := { s.dsp with jobs := s.dsp.jobs ++ [(⟨g.handle, cmdId, .publishing⟩ : JobRec)] } }
  (s.publish g.tid (jobDesc g.handle cmdId g.tid) [⟨kFresh, recVa, bytes.length, Sparse.cells 0 0 bytes, []⟩] [] [] false false).markReady

/-- Whether a grammar record can be published there under a CMD_ID: the tenant's writable pages, and a CMD_ID not used yet. -/
def State.recordHere (s : State) (g : GenReq) (cmdId recVa n : Nat) : Bool :=
  cmdId != 0 && (s.jobState g.handle cmdId).isNone && (pagesOf g.tid recVa n).all (fun k => s.pageHere k && (s.pte k).writable)

/-- GRAMMAR_ADVANCE: the grammar state goes through the tokens committed since, and the reference of the next mask is published (R330
to R332). -/
def execGrammarAdvance (handle cmdId recVa time : Nat) (s : State) : Res := match s.greq handle with
  | none => .next s
  | some g => match s.gramOf g, s.gramNow g with
    | some m, some n =>
      let k := g.out.length - g.advanced
      if time < s.now ∨ (k = 0 ∧ g.out ≠ []) ∨ s.recordHere g cmdId recVa 16 = false then .next s
      else
        let s := s.tick time
        let since := if k = 0 then s.now else g.committedAt
        .next ((s.setGreq { g with gram := n, advanced := g.out.length }).publishMasks g (s.maskRef m n false) cmdId recVa k since)
    | _, _ => .next s

/-- The states along draft tokens from a state; from the first that its mask disallows on, none (R333). -/
def State.walkDrafts (s : State) (m : Gram) : Option Nat → List Nat → List (Option Nat)
  | n, [] => [n]
  | n, t :: r => n :: s.walkDrafts m (n.bind (fun k => s.gramNext m k t)) r

/-- DRAFT_WALK: draft tokens are there for a request's next step; with a grammar the unit walks through them from the committed state and
supplies d + 1 mask references, those behind a disallowed draft DEAD (R333). Of prompt lookup, the drafts are those it gives. -/
def execDraftWalk (handle : Nat) (drafts : List Nat) (cmdId recVa time : Nat) (s : State) : Res := match s.greq handle with
  | none => .next s
  | some g =>
    let lookup := g.blk.draftMode != 2 || drafts == lookupDrafts g.blk.draftMax (g.prompt.filter (fun t => decide (t < 2 ^ 18)) ++ g.out)
    if time < s.now ∨ g.inPass ∨ g.prefill ∨ g.closing ∨ g.blk.draftMode = 0 ∨ drafts = [] ∨ g.blk.draftMax < drafts.length ∨ lookup = false then
      .next s
    else
      let s := s.tick time
      let g := { g with drafts := drafts }
      match s.gramOf g, s.gramNow g with
      | some m, some n =>
        let path := s.walkDrafts m (some n) drafts
        let bytes := path.flatMap (fun x => match x with
          | some k => s.maskRef m k false
          | none => leBytes 8 (2 ^ 49) ++ leBytes 8 0)
        if s.recordHere g cmdId recVa bytes.length then .next ((s.setGreq g).publishMasks g bytes cmdId recVa drafts.length s.now)
        else .next s
      | _, _ => .next (s.setGreq g)

/-! ### The stages of a request (R24) -/

/-- Rows of the inputs of a request's stage on an encoder: the question, or the question with each passage (spec/01 "Stages of the
request path"). -/
def State.encoderRows (s : State) (r : Req) (st : Stage) : List (Nat × Nat) :=
  let dict := match s.inst (if st = .embedding then r.d.embedInst else r.d.rerankInst) with
    | some x => x.desc.dictId
    | none => 0
  let q := (((r.tokens.find? (fun p => p.1 == dict)).map (fun p => p.2)).getD []).length
  if st = .embedding then [(0, q)] else r.passages.mapIdx (fun i p => (i, q + (s.passageTokens dict p).length))

/-- Why a prompt cannot be run (R353: a prompt of no token gives no row to sample; R334: one that fills the context leaves no position). Log entry 61: DEDUCED, unsafe. -/
def State.promptStop (s : State) (r : Req) : Option (Nat × Nat) := match s.inst r.d.gen.inst with
  | none => some (stFailed, dModelAbsent)
  | some x => if r.prompt.isEmpty then some (stFailed, dSampleEmpty) else if x.hdr.maxContext ≤ r.prompt.length then some (stFailed, dPackBudget) else none

/-- A TXU job of an entry with an operation. -/
def QEntry.txu (op : Nat) (e : QEntry) : Option TxuJob := match e.job with
  | .txu d => if d.op = op then some d else none
  | _ => none

/-- The jobs that tokenise a question: for each distinct dictionary of the request's models one OPEN, and one FEED of the question with LAST
(R19, spec/12 "Tokenisation"). -/
def State.tokenises (s : State) (r : Req) (items : List QEntry) : Bool :=
  let dicts := s.reqDicts r
  let opens := items.filterMap (QEntry.txu 1)
  let feeds := items.filterMap (QEntry.txu 2)
  opens.length == dicts.length && feeds.length == dicts.length && items.length == 2 * dicts.length
    && dicts.all (fun n => opens.any (fun o => o.dictId == n && feeds.any (fun f =>
      f.stream == o.stream && f.last && f.inLen == r.d.questionLen && (r.d.inline_ || f.inVa == r.d.questionVa))))

/-- The job that packs a prompt, with the generator's dictionary (R19, R334). -/
def State.packs (s : State) (r : Req) (items : List QEntry) : Bool :=
  items.length == 1 && items.all (fun e => (QEntry.txu 3 e).any (fun d => (s.inst r.d.gen.inst).any (fun x => x.desc.dictId == d.dictId)))

/-- The next stage begins (R24): its jobs are queued, its encoder inputs offered, or its prompt handed to the generation sequencer. -/
def State.beginStage (s : State) (r : Req) (items : List QEntry) : Res :=
  match r.stage with
  | .tokenisation | .packing =>
    let mine := items.all (fun e => e.job.handle == r.handle && e.chargeTid == r.tid && !e.svcCharge)
    let right := if r.stage = .packing then s.packs r items else s.tokenises r items
    if r.stage = .tokenisation ∧ s.reqDicts r = [] then .next (s.pastStage r.handle .tokenisation)
    else if mine = false ∨ right = false ∨ s.queueRoom r.tid items.length = false then .next s
    else
      let s := (s.inStage r.handle r.stage).modReq r.handle (fun r => { r with begun := some (items.map (fun e => e.job.cmdId)) })
      .next (s.enqueueAll false items).markReady
  | .embedding | .rerank =>
    let rows := s.encoderRows r r.stage
    let s := s.inStage r.handle r.stage
    if rows = [] then .next (s.encoderDone r ⟨[], []⟩) else .next (s.modReq r.handle (fun r => { r with begun := some [], inputs := rows, inputsRun := 0 }))
  | .prefill => match s.promptStop r with
    | some (status, detail) => .next (s.stopReq r.handle status detail)
    | none => .next ((s.inStage r.handle .prefill).enterGen r)
  | _ => .next s

/-- STAGE_ADVANCE: a unit of the path begins the next stage of a request, once what the stage before it published is there (R24). The
stages of a search begin by their own commands. -/
def execStageAdvance (handle : Nat) (items : List QEntry) (time : Nat) (s : State) : Res := match s.req handle with
  | none => .next s
  | some r =>
    if time < s.now ∨ s.atStage handle r.stage = none ∨ (s.greq handle).isSome then .next s
    else
      let s := s.tick time
      match r.begun with
      | none => s.beginStage r items
      | some jobs =>
        if r.stage = .embedding ∨ r.stage = .rerank ∨ jobs.all (fun j => s.jobState handle j == some .committed) = false then .next s
        else
          let s := s.pastStage handle r.stage
          match s.req handle with
          | none => .next s
          | some r => if r.stage = .embedding ∨ r.stage = .rerank ∨ r.stage = .packing ∨ r.stage = .prefill then s.beginStage r items else .next s

end Sys2Proof.Machine
end

