-- ==== Sys2Proof/Machine/Ship.lean ====
section
/-! DEFINITION. Shipping KV between a PREFILL part and a DECODE part (spec/13 "Shipping KV between parts", spec/01 R37 to R42). -/

namespace Sys2Proof.Machine

/-! ### The pair of a record (R360) -/

def ShipRec.of (r : ShipRec) (tid shipId : Nat) : Bool := r.tid == tid && r.shipId == shipId

/-- The request of a PREFILL part that a record from the DECODE part names. -/
def State.shipReq (s : State) (r : ShipRec) : Option GenReq :=
  (s.gen.reqs.map (fun p => p.2)).find? (fun g => ShipRec.of r g.tid (s.shipId g.handle) && g.claimed != 0)

def State.grantOf (s : State) (tid shipId : Nat) : Option Grant := s.gen.grants.find? (fun g => g.tid == tid && g.shipId == shipId)

/-- Returns pages of an instance to its pool. -/
def State.freePages (s : State) (i : Nat) (pages : List Nat) : State := match s.inst i with
  | none => s
  | some x => s.setInst i { x with used := x.used.filter (fun p => !pages.contains p) }

/-- Frees every page granted to a pair and forgets its claims; pages may now serve other claims (R360 to R362). -/
def State.freeGrant (s : State) (tid shipId : Nat) : State :=
  let pages := match s.grantOf tid shipId with
    | some g => (g.inst, g.pages)
    | none => (0, [])
  let s := { s with gen := { s.gen with
    grants := s.gen.grants.filter (fun g => !(g.tid == tid && g.shipId == shipId))
    claims := s.gen.claims.filter (fun c => !(c.tid == tid && c.shipId == shipId)) } }
  (s.freePages pages.1 pages.2).serveClaims

/-- A ship record of a pair has come (R362). -/
def State.seenShip (s : State) (r : ShipRec) : State :=
  { s with gen := { s.gen with grants := s.gen.grants.map (fun (g : Grant) => if ShipRec.of r g.tid g.shipId then { g with seen := s.now } else g) } }

/-! ### The manifest (table "Manifest") -/

/-- The 64 bytes of a generation block. -/
def genBlockBytes (b : GenBlock) : List Byte :=
  leBytes 8 (b.inst + b.draftInst * 2 ^ 12 + b.draftMode * 2 ^ 24 + b.draftMax * 2 ^ 26 + b2n b.repro * 2 ^ 31 + b.maxNew * 2 ^ 32)
  ++ leBytes 4 b.temperature.toNat ++ leBytes 4 b.topP.toNat
  ++ leBytes 8 (b.minP.toNat + b.topK * 2 ^ 32 + b2n b.streamTokens * 2 ^ 42 + b2n b.ignoreEnd * 2 ^ 43 + b.grammar * 2 ^ 44 + b2n b.grammarEn * 2 ^ 56)
  ++ leBytes 8 b.seed.toNat ++ leBytes 8 b.stopVa ++ leBytes 8 b.shipAddr ++ leBytes 8 b.shipKey ++ leBytes 8 0

/-- The 576 bytes of a stop set (table "Stop set (576 bytes)"). -/
def stopSetBytes (x : StopSet) : List Byte :=
  leBytes 8 (x.strings.length + b2n x.include_ * 2 ^ 4 + ((x.strings.mapIdx (fun i b => b.length * 2 ^ (8 + 7 * i))).foldl (· + ·) 0))
  ++ List.replicate 56 0 ++ padded 512 (x.strings.flatMap (padded 64))

/-- The bytes of a manifest. -/
def Manifest.bytes (m : Manifest) : List Byte :=
  let offs := m.pages.flatMap (leBytes 8)
  leBytes 8 (m.format + b2n m.repro * 2 ^ 8 + m.tid * 2 ^ 16 + m.kvLen * 2 ^ 32) ++ leBytes 8 (m.pages.length + m.firstToken * 2 ^ 32)
  ++ leBytes 8 m.imageId ++ leBytes 8 (m.grammarState + m.bytesOut * 2 ^ 32) ++ leBytes 8 (m.held.length + m.sites.length * 2 ^ 32)
  ++ List.replicate 24 0 ++ genBlockBytes m.gen ++ padded 64 m.held ++ stopSetBytes m.stop
  ++ padded ((offs.length + 63) / 64 * 64) offs ++ m.sites

/-- The bytes of a request's own site records; none outside reproducible mode. -/
def State.siteSize (s : State) (x : Inst) (g : GenReq) : Nat := if g.blk.repro then s.sitesLen g.tid x.hdr.sites g.siteVa else 0

/-- The manifest of a request whose first token is committed, its scale history with it (R37, R42). -/
def State.manifestOf (s : State) (x : Inst) (g : GenReq) : Manifest :=
  let held := heldSuffix g.stop.strings g.text
  ⟨1, g.blk.repro, g.tid, g.kvLen, g.shipped, g.out.headD 0, x.hdr.imageId, (s.gramNow g).getD 0, g.text.length, g.text.drop (g.text.length - held),
    g.blk, g.stop, s.load g.tid g.siteVa (s.siteSize x g)⟩

/-- Pages of 64 KiB that a manifest needs. -/
def State.manifestPages (s : State) (x : Inst) (g : GenReq) : Nat :=
  (0x300 + (8 * g.shipped.length + 63) / 64 * 64 + s.siteSize x g + 65535) / 65536

/-- Puts pieces of 64 KiB at granted offsets of a ship window. -/
def State.putPages (s : State) (g : GenReq) (pieces : List (Nat × List Byte)) (issuer : Issuer) : State :=
  pieces.foldl (fun s p => s.putHall (g.blk.shipAddr + p.1) g.blk.shipKey 5 p.2 issuer) s

/-- Writes the manifest into its granted pages and then the MANIFEST record, once enough pages are granted for it (R361). -/
def State.sendManifest (s : State) (g : GenReq) : State := match g.manifestPages, s.inst g.blk.inst with
  | some n, some x =>
    if g.manifestSent ∨ g.grants.length < n then s
    else
      let bytes := Manifest.bytes (s.manifestOf x g)
      let offs := g.grants.take n
      let s := s.setGreq { g with grants := g.grants.drop n, manifestSent := true }
      let s := s.putPages g (offs.mapIdx (fun i o => (o, (bytes.drop (65536 * i)).take 65536))) (.shipRec g.handle)
      (s.sendShip g.blk.shipAddr g.blk.shipKey g.handle ⟨2, g.blk.inst, g.tid, n, s.shipId g.handle, s.ownWindow (s.get F.GEN_SHIP_WIN_REPLY_WIN),
        offs.take 1, false⟩).bump F.GEN_SHIP_MANIFESTS 1
  | _, _ => s

/-- The target has acknowledged a KV page of a request; after the final chunk's last one the manifest's pages are claimed (R361). -/
def State.pageAcked (s : State) (h : Nat) : State := match s.greq h with
  | none => s
  | some g => match s.inst g.blk.inst with
    | none => s
    | some x =>
      let g := { g with unacked := g.unacked - 1 }
      if g.unacked = 0 ∧ g.toShip.isEmpty ∧ g.prefill = false ∧ g.closing = false ∧ g.manifestPages = none then
        let n := s.manifestPages x g
        (s.setGreq { g with manifestPages := some n, claimed := g.claimed + n }).sendShip g.blk.shipAddr g.blk.shipKey h
          ⟨1, g.blk.inst, g.tid, n, s.shipId h, s.ownWindow (s.get F.GEN_SHIP_WIN_REPLY_WIN), [], false⟩
      else s.setGreq g

/-! ### The commands -/

/-- SHIP_CLAIM: a CLAIM reaches a DECODE part, which grants its pages in the order of claims, or holds it (R359, R360). -/
def execShipClaim (r : ShipRec) (time : Nat) (s : State) : Res :=
  if r.kind = 1 ∧ r.resv = false ∧ s.isDecode ∧ s.now ≤ time then
    let s := (s.tick time).seenShip r
    .next ({ s with gen := { s.gen with claims := s.gen.claims ++ [(⟨r.tid, r.shipId, r.inst, r.count, r.reply⟩ : Claim)] } }).serveClaims
  else .next s

/-- SHIP_GRANT: a GRANT reaches the PREFILL part; the manifest follows when its pages are granted (R359, R361). A grant for a request that
has ended has no effect. -/
def execShipGrant (h : ShipHead) (offsets : List Nat) (time : Nat) (s : State) : Res :=
  let r := h.record offsets
  if r.kind = 8 ∧ r.resv = false ∧ s.now ≤ time ∧ 1 ≤ r.count ∧ r.count ≤ 5 then
    let s := s.tick time
    match s.shipReq r with
    | none => .next s
    | some g =>
      let g := { g with grants := g.grants ++ r.offsets.take r.count }
      .next ((s.setGreq g).sendManifest g)
  else .next s

/-- SHIP_CHUNK: the pages of a committed chunk are put at their granted offsets (R38, R359). -/
def execShipChunk (handle time : Nat) (s : State) : Res := match s.greq handle with
  | none => .next s
  | some g => match g.toShip, s.inst g.blk.inst with
    | c :: rest, some x =>
      if c.length ≤ g.grants.length ∧ s.isPrefill ∧ s.now ≤ time then
        let s := s.tick time
        let offs := g.grants.take c.length
        let g := { g with toShip := rest, grants := g.grants.drop c.length, shipped := g.shipped ++ offs, unacked := g.unacked + c.length }
        .next ((s.setGreq g).putPages g (offs.zip (c.map (fun p => s.load x.tid (x.desc.kvPoolVa + p * subBytes) subBytes))) (.shipPage handle))
      else .next s
    | _, _ => .next s

/-- The page of an instance's pool that a ship-window offset names among granted pages. -/
def Grant.page (g : Grant) (offset : Nat) : Option Nat := g.pages.find? (fun p => Config.shipOffset g.inst p == offset)

/-- The handle of a shipped request, by its TID and the PREFILL part's handle; where another request has it, the tenant's next number above
(log entry 62: DEDUCED, unsafe). -/
def State.shippedHandle (s : State) (tid shipId : Nat) : Nat :=
  let h := tid * 2 ^ 48 + shipId % 2 ^ 44
  if (s.req h).isNone then h else ((s.dsp.reqs.map (fun p => p.1)).filter (fun n => n / 2 ^ 48 == tid)).foldl Nat.max h + 1

/-- A shipped request enters DECODE with its manifest's state, its scale history with it; the positions of its prompt are known, not their
tokens (R39, R42). Log entry 62: DEDUCED, unsafe. -/
def State.admitShipped (s : State) (r : ShipRec) (m : Manifest) (d : ReqDesc) (x : Inst) (pages : List Nat) : State :=
  let handle := s.shippedHandle r.tid r.shipId
  let order := s.gen.nextOrder
  let d := { d with kind := 1, retrieve := false, rerank := false, generate := true, gen := m.gen, stop := m.stop }
  let text := ((match s.dict x.desc.dictId with
    | some y => s.tokenText y m.firstToken
    | none => []).take m.bytesOut)
  let prompt := List.replicate m.kvLen (2 ^ 18)
  let req : Req := ⟨handle, order, r.tid, 0, d, s.now, .decode, .decode, false, none, false, none, [], 0, [], [], prompt,
    { Tally.zero with tokens := 1, prompt := m.kvLen }⟩
  let g : GenReq := ⟨handle, r.tid, order, m.gen, m.stop, prompt, [m.firstToken], m.kvLen, cutBlocks (blockPages x.hdr) (pages.length / blockPages x.hdr) pages, 0,
    m.kvLen, m.grammarState, 1, text, 0, 0, [], sitesAt handle, s.now, false, false, false, [], false, 0, [], [], [], 0, none, false⟩
  let s := { s with gen := { s.gen with nextOrder := order + 1 } }
  let s := if m.gen.repro then (s.store r.tid (sitesAt handle) m.sites).soil r.tid (sitesAt handle) m.sites.length else s
  ((s.setReq req).setGreq g).deliver handle (text.length - m.held.length)

/-- SHIP_MANIFEST: a MANIFEST reaches a DECODE part, which accepts it and answers ACK, or frees every page of the pair and answers NACK
(R39, R361). `m` is the manifest in the pages and `d` what the part knows of the request otherwise (where its stream goes). -/
def execShipManifest (r : ShipRec) (m : Manifest) (d : ReqDesc) (time : Nat) (s : State) : Res :=
  if r.kind = 2 ∧ r.resv = false ∧ s.isDecode ∧ s.now ≤ time then
    let s := (s.tick time).seenShip r
    let reply := fun (s : State) (kind detail : Nat) => s.sendReply r.reply ⟨kind, r.inst, r.tid, 0, r.shipId, detail, [], false⟩
    let good := match (s.inst r.inst).filter (fun x => x.tid == r.tid && x.hdr.imageId == m.imageId), s.grantOf r.tid r.shipId with
      | some x, some g => (m.pages.mapM g.page).map (fun ps => (x, g, ps))
      | _, _ => none
    match good with
    | none => .next (reply ((s.freeGrant r.tid r.shipId).bumpSat F.GEN_SHIP_REFUSED 1) 10 dShipRefused)
    | some (x, g, ps) =>
      let s := { s with gen := { s.gen with grants := s.gen.grants.filter (fun y => !(y.tid == r.tid && y.shipId == r.shipId)) } }
      let s := (s.freePages g.inst (g.pages.filter (fun p => !ps.contains p))).serveClaims
      .next (reply ((s.admitShipped r m d x ps).bump F.GEN_SHIP_MANIFESTS 1) 9 0)
  else .next s

/-- What a PREFILL part holds of a request goes, with no ABORT. -/
def State.dropShipped (s : State) (g : GenReq) : State := s.setGreq { g with claimed := 0 }

/-- SHIP_ACK: the DECODE part owns the request; this copy ends DONE with the hand-off flag (R40). -/
def execShipAck (r : ShipRec) (time : Nat) (s : State) : Res :=
  if r.kind = 9 ∧ r.resv = false ∧ s.now ≤ time then
    let s := s.tick time
    match s.shipReq r with
    | none => .next s
    | some g =>
      let s := (s.dropShipped g).releaseGen g.handle
      .next ((s.modReq g.handle (fun q => { q with tally := { q.tally with handoff := true } })).endReq g.handle stDone 0)
  else .next s

/-- SHIP_NACK: the DECODE part has refused the manifest; the request ends FAILED with the detail it gives (R361). -/
def execShipNack (r : ShipRec) (time : Nat) (s : State) : Res :=
  if r.kind = 10 ∧ r.resv = false ∧ s.now ≤ time then
    let s := (s.tick time).bumpSat F.GEN_SHIP_REFUSED 1
    match s.shipReq r with
    | none => .next s
    | some g => .next ((s.dropShipped g).stopReq g.handle stFailed (r.reply % 2 ^ 16))
  else .next s

/-- SHIP_ABORT: every page granted to the pair is freed (R41, R362). -/
def execShipAbort (r : ShipRec) (time : Nat) (s : State) : Res :=
  if r.kind = 3 ∧ r.resv = false ∧ s.isDecode ∧ s.now ≤ time then .next ((s.tick time).freeGrant r.tid r.shipId) else .next s

/-- ORPHAN_MS_EXPIRY: a pair with granted pages has sent no ship record for ORPHAN_MS: its pages are freed (R362). -/
def execOrphanMsExpiry (tid shipId time : Nat) (s : State) : Res := match s.grantOf tid shipId with
  | none => .next s
  | some g =>
    if s.isDecode ∧ s.now ≤ time ∧ g.seen + s.get F.GEN_SHIP_WIN_ORPHAN_MS * 100000 ≤ time then
      .next ((((s.tick time).freeGrant tid shipId).event evShipOrphan .warning (some tid) shipId g.pages.length).bumpSat F.GEN_SHIP_ORPHANS 1)
    else .next s

end Sys2Proof.Machine
end

