-- ==== Sys2Proof/Machine/Keator.lean ====
section
/-! DEFINITION. The Keator block's commands: received operations, acknowledgements, retransmission, unreachable nodes and windows
(spec/15, log entry 28: DESIGN CHOICE, unsafe). -/

namespace Sys2Proof.Machine

/-! ### Received operations -/

/-- LOAD (R393, R395, R397, R399, R464). -/
def execLoad (h : KHead) (time : Nat) (s : State) : Res :=
  if s.now ≤ time then .next ((s.tick time).inbound h .load).markReady else .next s

/-- STORE (R391, R393 to R399). -/
def execStore (h : KHead) (bytes : List Byte) (time : Nat) (s : State) : Res :=
  if s.now ≤ time then .next ((s.tick time).inbound h (.store bytes)).markReady else .next s

/-- PUT: one segment (R393 to R399). -/
def execPut (h : KHead) (bytes : List Byte) (time : Nat) (s : State) : Res :=
  if s.now ≤ time then .next ((s.tick time).inbound h (.put bytes)).markReady else .next s

/-- FADD64 (R393, R395, R399). -/
def execFadd64 (h : KHead) (v : BitVec 64) (time : Nat) (s : State) : Res :=
  if s.now ≤ time then .next ((s.tick time).inbound h (.fadd v)).markReady else .next s

/-- SWAP64 (R393, R395, R399). -/
def execSwap64 (h : KHead) (v : BitVec 64) (time : Nat) (s : State) : Res :=
  if s.now ≤ time then .next ((s.tick time).inbound h (.swap v)).markReady else .next s

/-- CAS64 (R393, R395, R399). -/
def execCas64 (h : KHead) (compare new : BitVec 64) (time : Nat) (s : State) : Res :=
  if s.now ≤ time then .next ((s.tick time).inbound h (.cas compare new)).markReady else .next s

/-! ### The part's own operations -/

/-- The congestion window after an acknowledgement: it halves at most once per round trip on an ECN mark, and otherwise grows by 8,192
bytes per round trip (R401). -/
def FlowOut.onAck (f : FlowOut) (rtt time : Nat) (ce : Bool) : FlowOut :=
  let f := { f with rtt := rtt }
  if f.changed + rtt ≤ time then
    if ce then { f with window := f.window / 2, changed := time } else { f with window := f.window + 8192, changed := time }
  else f

/-- KTR_ACK: receipt of every datagram up to `ack` of a flow is acknowledged; `rtt` is the flow's smoothed round trip with this
acknowledgement (R400, R401, R403). -/
def execKtrAck (node tc ack rtt epoch : Nat) (ce : Bool) (time : Nat) (s : State) : Res :=
  if s.now ≤ time then
    let s := s.tick time
    let s := s.hear node epoch
    match s.ktr.flows.find? (fun f => f.node == node && f.tc == tc) with
    | none => .next s
    | some f =>
      let f := { f with dgrams := f.dgrams.filter (fun d => (seqFrom (ack + 1) d.seq).isSome) }
      .next (s.setFlow (f.onAck rtt time ce))
  else .next s

/-- KTR_RESP: an operation of the part is acknowledged, and its issuer goes on (R81, R361, R393, R396). -/
def execKtrResp (id epoch time : Nat) (s : State) : Res := match s.ktr.ops.find? (fun o => o.id == id) with
  | none => .next s
  | some o =>
    if s.now ≤ time then
      let s := (s.tick time).hear o.node epoch
      let s := { s with ktr := { s.ktr with
        ops := s.ktr.ops.filter (fun x => x.id != id)
        flows := s.ktr.flows.map (fun (f : FlowOut) => { f with dgrams := f.dgrams.filter (fun d => d.op != id) }) } }
      .next (match o.issuer with
        | .kernel c ext => s.ackExt c ext
        | .shipPage h => s.pageAcked h
        | .shipRec _ => s
        | .host _ => s
        | .tier _ => s
        | .journal _ => s).markReady
    else .next s

/-- A put of a page's write-back is refused, and the write-back has failed (R188). -/
def State.wbRefused (s : State) (key : Nat) : State :=
  let p := s.pte key
  if p.cleaning = true ∧ p.home = .fabric then
    (s.setPte key { p with cleaning := false, redirty := 0, writing := 0, homeLost := true }).event evFabricHomeLost .error
      (if key / 2 ^ 27 ≤ svc then some (key / 2 ^ 27) else none) p.loc 0
  else s

/-- The issuer of a refused operation (R397). The spec names no outcome for a host ring's record nor for the journal's puts: they are gone
(log entry 83: DESIGN CHOICE, unsafe). -/
def State.refusedOp (s : State) (o : KOp) : State :=
  let s := { s with ktr := { s.ktr with
    ops := s.ktr.ops.filter (fun x => x.id != o.id)
    flows := s.ktr.flows.map (fun (f : FlowOut) => { f with dgrams := f.dgrams.filter (fun d => d.op != o.id) }) } }
  let ship := fun (h : Nat) => match s.greq h with
    | some g => (s.dropShipped g).stopReq h stFailed 0x0D06
    | none => s
  match o.issuer with
  | .kernel c ext => match s.core c with
    | some k => if k.ended.isNone && k.ext.any (fun e => e.id == ext) then s.stopCore c k (.failed 0x0F03) else s
    | none => s
  | .shipPage h => ship h
  | .shipRec h => ship h
  | .host _ => s
  | .tier key => s.wbRefused key
  | .journal _ => s

/-- KTR_NACK: a target has refused an operation, and its issuer acts by its kind (R188, R197 and its list). -/
def execKtrNack (a : Nacked) (reason time : Nat) (s : State) : Res :=
  if s.now ≤ time ∧ 1 ≤ reason ∧ reason ≤ 7 then
    let s := s.tick time
    match a with
    | .op id => match s.ktr.ops.find? (fun o => o.id == id) with
      | none => .next s
      | some o => .next (s.refusedOp o).markReady
    | .bringUp key =>
      let p := s.pte key
      if p.state = .moving ∧ p.home = .fabric ∧ p.homeLost = false then
        .next ((s.setPte key { p with homeLost := true }).event evFabricHomeLost .error (if key / 2 ^ 27 ≤ svc then some (key / 2 ^ 27) else none) p.loc 0)
      else .next s
    | .writeBack key => .next (s.wbRefused key)
    | .alternate obj => match s.object obj with
      | none => .next s
      | some x => if x.altPages = [] then .next s else .next (s.poison obj x x.altPages).markReady
  else .next s

/-- The retransmission timeout of a datagram (R400), in dispatcher time. -/
def State.rto (s : State) (f : FlowOut) (d : Dgram) : Nat :=
  Nat.min (Nat.max (s.get F.KTR_CFG_RTO_MIN_US * 100) (2 * f.rtt) * 2 ^ Nat.min d.losses 17) 100000

/-- A datagram is sent again on the next path, from whose port it is counted (R400). -/
def State.resendDgram (s : State) (f : FlowOut) (d : Dgram) : State :=
  let p := s.pathAfter f.node d.port
  let s := s.setFlow { f with dgrams := f.dgrams.map (fun (x : Dgram) => if x.seq == d.seq then { x with port := p, losses := d.losses + 1, sentAt := s.now } else x) }
  if p < 16 then s.bumpSat (F.KTR_LINK_ERR_RETX p) 1 else s

/-- RTO_EXPIRY (R400). -/
def execRtoExpiry (node tc seq time : Nat) (s : State) : Res :=
  match s.ktr.flows.find? (fun f => f.node == node && f.tc == tc) with
  | none => .next s
  | some f => match f.dgrams.find? (fun d => d.seq == seq) with
    | none => .next s
    | some d => if s.now ≤ time ∧ d.sentAt + s.rto f d ≤ time then .next ((s.tick time).resendDgram f d) else .next s

/-- UNREACH_TIMEOUT: operations have been outstanding to a node for UNREACH_MS, in which nothing came from it (R362, R402). -/
def execUnreachTimeout (node time : Nat) (s : State) : Res :=
  let span := s.get F.KTR_CFG_UNREACH_MS * 100000
  let mine := s.ktr.ops.filter (fun o => o.node == node)
  if s.now ≤ time ∧ mine.any (fun o => decide (o.since + span ≤ time)) ∧ Sparse.get 0 s.ktr.heard node + span ≤ time ∧ s.ktr.silent.contains node = false then
    let s := s.tick time
    let s := { s with ktr := { s.ktr with silent := node :: s.ktr.silent } }
    let s := ((s.bumpSat F.KTR_UNREACH_EPISODES 1).put F.KTR_UNREACH_LAST_NODE node).event evKtrNodeUnreachable .warning none node 0
    let hs := (mine.filterMap (fun o => match o.issuer with
      | .shipPage h => some h
      | .shipRec h => some h
      | _ => none)).dedup
    .next (hs.foldl (fun s h => match s.greq h with
      | some g => (s.dropShipped g).stopReq h stFailed 0x0D07
      | none => s) s).markReady
  else .next s

/-- The link of a port is lost: its unacknowledged datagrams are resent on other ports at once (R389), and the idle port takes its staged
fields (R14). -/
def State.dropLink (s : State) (port link : Nat) : State :=
  let s := ((s.put (F.KTR_PORT_STAT_LINK port) link).put (F.KTR_PORT_STAT_MACSEC_UP port) 0).settleIdle
  s.ktr.flows.foldl (fun s f => (f.dgrams.filter (fun d => d.port == port)).foldl (fun s d =>
    s.resendDgram (s.flowTo f.node f.tc) d) s) s

/-- The operations of a port without RESP whose datagrams have all been received go again whole (R59: acknowledged means RESP), but for
atomics, which a second time would not leave as they are. -/
def State.resendOps (s : State) (port : Nat) : State :=
  (s.ktr.ops.filter (fun o => !o.atomic && (s.portsTo o.node).contains port && !(s.ktr.flows.any (fun f => f.dgrams.any (fun d => d.op == o.id))))).foldl (fun s o =>
    (segments (o.bytes / 8192 + 1) o.bytes).foldl (fun s m => s.sendDgram o.node o.tc o.id m) s) s

/-- A port loses its shaper and policer state (table "Reset pairs"). -/
def State.clearPort (s : State) (p : Nat) : State :=
  s.setPort p { s.port p with deficits := [], turns := [], tokens := [], meters := [], sent := [], maxDelay := [], exhausted := false }

/-- What a paired reset does to a Keator port (R59 and table "Reset pairs"): its unacknowledged operations go again on other paths, and its
shaper and policer state is lost. -/
def State.resetPort (s : State) (p link : Nat) : State := ((s.dropLink p link).resendOps p).clearPort p

/-- LINK_DROP (R389): no event is recorded for a port that the power supervisor sheds. -/
def execLinkDrop (port : Nat) (shed : Bool) (time : Nat) (s : State) : Res :=
  if 16 ≤ port then .next s
  else if s.get (F.KTR_PORT_STAT_LINK port) = 2 ∧ s.now ≤ time then
    let s := (s.tick time).dropLink port (if shed then 4 else 3)
    .next (if shed then s else s.event evKtrLinkDown .warning none port 0)
  else .next s

/-! ### Windows (R390, R391, R464) -/

/-- The words of an entry of a window table; none beyond it. -/
def State.winWords (s : State) (size base i : Nat) : Option (List Nat) :=
  if size = 0 ∨ 2 ^ size ≤ i then none else some (words 8 4 (s.load svc (base + 32 * i) 32))

/-- Table "Exported window descriptor (32 bytes)". -/
def parseExp (ws : List Nat) : ExpWin :=
  let a := ws.getD 0 0
  let c := ws.getD 2 0
  let d := ws.getD 3 0
  ⟨bitsOf a 47 0, bitsOf a 57 48, a.testBit 58, a.testBit 59, a.testBit 60, a.testBit 61, a.testBit 62, a.testBit 63, bitsOf (ws.getD 1 0) 43 0,
    bitsOf c 31 0, bitsOf c 63 32, bitsOf d 19 0, bitsOf d 39 20, bitsOf d 42 40⟩

/-- Table "Mapped window descriptor (32 bytes)". -/
def parseMap (ws : List Nat) : MapWin :=
  let b := ws.getD 1 0
  let c := ws.getD 2 0
  ⟨ws.getD 0 0, bitsOf b 31 0, bitsOf b 63 32, bitsOf c 9 0, c.testBit 10, bitsOf c 13 11, c.testBit 15⟩

def ExpWin.meets (w : ExpWin) (off n : Nat) : Bool := decide (w.offset < off + n) && decide (off < w.offset + w.pages * pageBytes)

/-- Whether a new exported window is invalid: it overlaps another VALID one, or the register space. -/
def State.badExp (s : State) (i : Nat) (w : ExpWin) : Bool :=
  w.meets regBase regBytes || s.ktr.exp.any (fun p => p.1 != i && p.2.valid && p.2.meets w.offset (w.pages * pageBytes))

/-- A synced window is invalid: VALID is cleared in its entry (`at_` is the byte that holds it), and the event recorded. -/
def State.badWin (s : State) (at_ bit i : Nat) : State :=
  let old := s.word svc at_ 1
  (s.store svc at_ (leBytes 1 (old - (if old.testBit bit then 2 ^ bit else 0)))).event evKtrWinInvalid .warning (some svc) i 0

/-- KTR_WIN_SYNC: a write of GO re-reads an entry of the exported or the mapped table. -/
def execKtrWinSync (v : Nat) (s : State) : Res :=
  let i := v % 4096
  if v.testBit 31 = false then .next s
  else if v.testBit 30 then match s.winWords (s.get F.KTR_MAP_TABLE_SIZE) (s.get F.KTR_MAP_TABLE_BASE) i with
    | none => .next s
    | some ws =>
      let w := parseMap ws
      let bad := w.valid && nodeOf w.base == s.get F.KTR_NODE_NODE
      let s := { s with ktr := { s.ktr with map := if w.valid && !bad then Sparse.put s.ktr.map i w else Sparse.erase s.ktr.map i } }
      .next (if bad then s.badWin (s.get F.KTR_MAP_TABLE_BASE + 32 * i + 17) 7 i else s)
  else match s.winWords (s.get F.KTR_EXP_TABLE_SIZE) (s.get F.KTR_EXP_TABLE_BASE) i with
    | none => .next s
    | some ws =>
      let w := parseExp ws
      let bad := w.valid && s.badExp i w
      let s := { s with ktr := { s.ktr with exp := if w.valid && !bad then Sparse.put s.ktr.exp i w else Sparse.erase s.ktr.exp i } }
      .next (if bad then s.badWin (s.get F.KTR_EXP_TABLE_BASE + 32 * i + 7) 7 i else s)

end Sys2Proof.Machine
end

