-- ==== Sys2Proof/Machine/PowerOps.lean ====
section
/-! DEFINITION. What the power supervisor does (spec/16): measurements, operating points, surge, shedding, and the loss of power. -/

namespace Sys2Proof.Machine

/-! ### Measurements and accounts (R414, R419, R422) -/

/-- The measurements show in PWR_INPUT and PWR_TEMP; an over-voltage episode ends at 44.0 V. -/
def State.measured (s : State) (m : Meas) : State :=
  let s := (((s.put F.PWR_INPUT_VIN_MV m.vin).put F.PWR_INPUT_IIN m.iin).put F.PWR_INPUT_POWER_W m.power)
  let s := ((s.put F.PWR_TEMP_TJ_C0 m.tj0).put F.PWR_TEMP_TJ_C1 m.tj1).put F.PWR_TEMP_TJ_H m.tjh
  { s with pwr := { s.pwr with high := s.pwr.high && decide (44000 < m.vin) } }

/-- The hottest TJ of any die. -/
def hottest (m : Meas) : Nat := Nat.max (Nat.max m.tj0 m.tj1) m.tjh

/-- Surge credit after a span of dispatcher time: it falls while surge is in force or ramping up, and rises at a tenth of the rate while
the point in force is nominal or economy (R419). -/
def surgeCredit (point goal credit span : Nat) : Nat :=
  if goal = 2 then credit - 10 * span
  else if point = 2 then credit
  else Nat.min (credit + span) 30000000000

/-- Accounts the time up to now: surge credit, seconds at surge, and time with DUTY above 0. -/
def State.account_ (s : State) (t : Nat) : State :=
  let s := s.tick t
  let span := s.now - s.pwr.at_
  let point := s.get F.PWR_STAT_POINT
  let credit := surgeCredit point s.pwr.goal s.pwr.credit span
  let life := s.pwr.lifeRest + (if point = 2 then span else 0)
  let duty := s.pwr.throttleRest + (if 0 < s.get F.PWR_STAT_DUTY then span else 0)
  let s := { s with pwr := { s.pwr with credit := credit, at_ := s.now, lifeRest := life % 100000000, throttleRest := duty % 100 } }
  ((s.put F.PWR_SURGE_CREDIT_MS (credit / 1000000)).bump F.PWR_SURGE_LIFE_S (life / 100000000)).bump F.PWR_THROTTLE_US (duty / 100)

/-- A power event: its time and its measurements. -/
def State.power (s : State) (t : Nat) (m : Meas) : State := (s.account_ t).measured m

/-! ### Operating points and surge (R417 to R421) -/

/-- The rails move to a point (R417). -/
def State.ramp (s : State) (goal : Nat) : State :=
  { s with pwr := { s.pwr with goal := goal } }.put F.PWR_STAT_RAMPING (b2n (s.get F.PWR_STAT_POINT != goal))

/-- Whether surge is in force or being entered. -/
def State.surging (s : State) : Bool := s.pwr.goal == 2

/-- The point that TARGET asks for, surge apart, which is entered under R420; the second thermal step holds economy (R424). -/
def State.basePoint (s : State) : Nat := if 2 ≤ s.pwr.heat ∨ s.get F.PWR_CTL_TARGET = 0 then 0 else 1

/-- Surge is left for a reason, where it is in force (R421). -/
def State.leaveSurge (s : State) (reason : Nat) : State :=
  if s.surging then
    (((s.ramp s.basePoint).put F.PWR_STAT_EXIT_REASON reason).bumpSat F.PWR_EVENTS_SURGE_EXITS 1).event evSurgeExit .notice none 0 reason
  else s

/-- Whether surge may be entered (R420); `hot` is the hottest TJ and `iin` the 10 ms average current. -/
def State.maySurge (s : State) (hot iin : Nat) : Bool :=
  s.get F.PWR_CTL_TARGET == 2 && s.hasSurge && decide (1000 ≤ s.get F.PWR_SURGE_CREDIT_MS) && decide (hot + 3 ≤ s.get F.PWR_THERM_SURGE_TJ)
    && decide (iin < 7500) && s.get F.PWR_STAT_SHED == 0 && s.get F.PWR_STAT_PSM_OK == 0xF && s.pwr.heat == 0

/-- Whether a reason to leave surge holds (R421). -/
def State.surgeEnds (s : State) (reason hot iin : Nat) : Bool := match reason with
  | 1 => s.get F.PWR_SURGE_CREDIT_MS == 0
  | 2 => decide (s.get F.PWR_THERM_SURGE_TJ ≤ hot)
  | 3 => decide (7500 ≤ iin)
  | 4 => s.get F.PWR_STAT_SHED != 0
  | 5 => s.get F.PWR_STAT_PSM_OK != 0xF
  | 6 => s.get F.PWR_CTL_TARGET != 2
  | _ => false

/-- DUTY shows the larger of the two throttles. -/
def State.showDuty (s : State) : State := s.put F.PWR_STAT_DUTY (Nat.max s.pwr.limitDuty s.pwr.heatDuty)

/-! ### Shedding (R426 to R431) -/

def domainBits (l : List Nat) : Nat := (l.map (fun d => 2 ^ (d - 1))).foldl (· + ·) 0

/-- Switches power domains on or off. -/
def State.domains (s : State) (l : List Nat) (on : Bool) : State :=
  let old := s.get F.PWR_DOMAINS_ON
  let keep := old - (old &&& domainBits l)
  let s := s.put F.PWR_DOMAINS_ON (if on then keep + domainBits l else keep)
  (List.range s.cores_).foldl (fun s c => if (s.core c).isSome then s else s.settleCore c) s

/-- The facets that step 4 sheds: the upper half. -/
def State.shedFacets (s : State) : List Nat := (List.range (s.cores_ / 4)).drop (s.cores_ / 8)

/-- Kills and requeues the killable commands of facets; the others run to their ends (R94, R428). -/
def State.killFacets (s : State) (fs : List Nat) : State :=
  s.killCores ((s.cores.filter (fun p => fs.contains (p.1 / 4) && !p.2.d.external && p.2.ended.isNone)).map (fun p => p.1))

/-- The fields that steps 2 and 3 clear. -/
def shedFields : Nat → List RF
  | 2 => [F.MEM_CTL_PREFETCH_EN, F.IDX_CTL_FOLD_EN, F.FTB_CTL_MIG_EN, F.GEO_CTL_PATROL_EN]
  | 3 => [F.DSP_CTL_ADMIT_EN]
  | _ => []

/-- Clears the fields of a step and notes those that were 1 (R427). -/
def State.clearFields (s : State) (fs : List RF) : State :=
  fs.foldl (fun s f => if s.on f then { s.put f 0 with pwr := { s.pwr with cleared := f.id :: s.pwr.cleared } } else s) s

/-- Sets the fields of a step back to 1, but for those that software has written since (R427). -/
def State.restoreFields (s : State) (fs : List RF) : State :=
  fs.foldl (fun s f => if s.pwr.cleared.contains f.id then { s.put f 1 with pwr := { s.pwr with cleared := s.pwr.cleared.filter (fun n => n != f.id) } } else s) s

/-- The domains of all compute, of Bezel and of the TXU, merge and feature table engines. -/
def computeDomains : List Nat := [1, 2, 3, 4, 5, 6, 7, 8, 17, 18]

/-- Durable publications whose commit phase has ended reach the journal, whose programs are done, and take effect (R429, R432). -/
def State.flushJournal (s : State) : State :=
  let s := s.writeGroup true
  let recs := s.tier.stripes.flatMap (fun p => p.2)
  let s := s.tier.stripes.foldl (fun s p => s.ackWork (.journal p.1)) s
  let done := (recs.filter (fun r => r.last)).map (fun r => r.pub)
  let s := { s with tier := { s.tier with
    stripes := []
    covered := s.tier.covered ++ recs
    pubs := s.tier.pubs.map (fun (p : Pub) => if done.contains p.id then { p with acked := true } else p) } }
  let s := s.put F.MEM_JRN_SEQ_JSEQ (recs.foldl (fun m r => Nat.max m r.jseq) (s.get F.MEM_JRN_SEQ_JSEQ))
  (State.settlePubs s.tier.pubs.length s).settleIdx.sweepTables.settleInbound

/-- A mirrored copy of every record of the store (R429, R478). -/
def State.mirrorAll (s : State) : State :=
  let all := s.rec_.store.map (fun (r : EvRec) => { r with mirrored := true })
  { s with rec_ := { s.rec_ with store := all, mirror := all } }

/-- Pages when HBM loses power: every frame is lost (R175). -/
def losePages (l : List (Nat × Pte)) : List (Nat × Pte) :=
  l.map (fun p => (p.1, if p.2.state = .resident ∨ p.2.state = .moving then { (losePage p.1 p.2) with holds := 0, cleaning := false, redirty := 0, writing := 0 } else { (p.2 : Pte) with holds := 0, cleaning := false, redirty := 0, writing := 0 }))

/-- An index when its running work is lost: updates that have not taken effect go, with their copies and side-list entries, and a fold is
undone, or, its generation being published, reclaimed. -/
def loseIndex (x : Index) : Index :=
  let x := match x.fold with
    | some f => if f.step = 5 then x.reclaim f else x.undoFold f
    | none => x
  let gone := (x.updates.filter (fun u => u.seq != 0)).map (fun u => u.seq)
  let keep := fun (c : ItemCopy) => if gone.contains c.version then ItemCopy.empty else c
  { x with
    updates := []
    moved := []
    side := x.side.filter (fun e => !gone.contains e.seq)
    items := x.items.map (fun p => (p.1, keep p.2.1, keep p.2.2)) }

/-- The indices when running work is lost: one not yet created goes. -/
def loseIndices (l : List (Nat × Index)) : List (Nat × Index) :=
  (l.filter (fun p => p.2.creating.isNone)).map (fun p => (p.1, loseIndex p.2))

/-- All live requests and long operations are lost, without completion records (R431, R461, R471); what HBM held is lost with it. -/
def State.loseWork (s : State) : State :=
  { s with
    cores := []
    staged := []
    dsp := { Dsp.reset with nextItem := s.dsp.nextItem, nextEntry := s.dsp.nextEntry, periodAt := s.dsp.periodAt }
    tier := { s.tier with
      pages := losePages s.tier.pages
      frames := []
      pubs := []
      ops := []
      gathered := []
      full := false
      noFrame := false
      copies := []
      objs := s.tier.objs.map (fun p => (p.1, { (p.2 : Obj) with episode := 0, altSince := none, altPages := [], retire := none })) }
    ftb := { s.ftb with pending := [], tables := s.ftb.tables.map (fun p => (p.1, { (p.2 : Table) with queued := [], migs := [] })) }
    txu := ⟨[], [], [], []⟩
    idx := { s.idx with indices := loseIndices s.idx.indices, queries := [], progs := [], read := [] }
    gen := ⟨[], [], s.gen.nextOrder, s.gen.nextPass, [], []⟩
    ktr := { Ktr.reset with nextOp := s.ktr.nextOp }
    geo := { s.geo with progs := [], chans := [], rebuild := none } }

/-- The stacks and ports are off with their domains. -/
def State.unitsOff (s : State) : State :=
  let s := (List.range s.stacks).foldl (fun s k => if s.get (F.HBM_STAT_STATE k) < 5 then s.put (F.HBM_STAT_STATE k) 0 else s) s
  (List.range 16).foldl (fun s p => s.put (F.KTR_PORT_STAT_LINK p) 4) s

/-- Everything but D19 and D20 is off: step 7. -/
def State.stepSeven (s : State) : State :=
  let s := (s.loseWork.domains ((List.range 18).map (fun d => d + 1)) false).unitsOff
  let s := { s with pwr := { s.pwr with flushing := false } }.put F.PWR_STAT_SHED 7
  (s.bumpSat F.PWR_EVENTS_SHEDS 1).event evPowerShed .warning none 0 7

/-- The hub, and with it every domain, loses power: what the recorder has not mirrored is lost (R415, R431, R478). -/
def State.powerLost (s : State) : State :=
  let s := (s.loseWork.domains ((List.range 20).map (fun d => d + 1)) false).unitsOff
  { s with pwr := { s.pwr with off := true, flushing := false }, rec_ := { s.rec_ with store := s.rec_.mirror, hold := [] } }

/-- A shedding step is entered (table "Load-shedding order"). -/
def State.enterStep (s : State) (step : Nat) : State :=
  let s := ((s.put F.PWR_STAT_SHED step).bumpSat F.PWR_EVENTS_SHEDS 1).event evPowerShed .warning none 0 step
  match step with
  | 1 => s.leaveSurge 4
  | 2 => (s.clearFields (shedFields 2)).put F.RAS_SCRUB_STAT_PAUSED 1
  | 3 => s.clearFields (shedFields 3)
  | 4 => (s.killFacets s.shedFacets).domains (s.shedFacets.map (fun f => f + 1)) false
  | 5 => ((List.range 8).foldl (fun s p => (s.resetPort (p + 8) 4).put (F.EDG_ISL_STAT_IN_RESET (24 + p)) 1) s).domains [14] false
  | 6 =>
    let s := (s.killFacets (List.range 8)).domains computeDomains false
    { s with pwr := { s.pwr with flushing := true } }
  | _ => s

/-- A shedding step but the last is left. -/
def State.leaveStep (s : State) (step : Nat) : State :=
  let s := ((s.put F.PWR_STAT_SHED (step - 1)).event evPowerRestored .notice none 0 step)
  match step with
  | 2 => (s.restoreFields (shedFields 2)).put F.RAS_SCRUB_STAT_PAUSED 0
  | 3 => s.restoreFields (shedFields 3)
  | 4 => s.domains (s.shedFacets.map (fun f => f + 1)) true
  | 5 => (List.range 8).foldl (fun s p =>
      let s := s.put (F.EDG_ISL_STAT_IN_RESET (24 + p)) 0
      if s.on (F.KTR_PORT_CTL_EN (p + 8)) then s.put (F.KTR_PORT_STAT_LINK (p + 8)) 1 else s) (s.domains [14] true)
  | 6 =>
    let keep := if s.cores_ = 16 then [1, 2, 17, 18] else [1, 2, 3, 4, 17, 18]
    ({ s with pwr := { s.pwr with flushing := false } }.flushJournal).domains keep true
  | _ => s

/-- Input level in mV below which a step is entered, and that above which it is left. -/
def enterBelow : Nat → Nat
  | 1 => 35500
  | 2 => 35000
  | 3 => 34500
  | 4 => 34000
  | 5 => 33000
  | 6 => 31000
  | _ => 24000

def exitAbove : Nat → Nat
  | 1 => 36000
  | 2 => 35500
  | 3 => 35000
  | 4 => 34500
  | 5 => 33500
  | 6 => 31500
  | _ => 36000

end Sys2Proof.Machine
end

