-- ==== Sys2Proof/Machine/RasOps.lean ====
section
/-! DEFINITION. What the error machinery does with what it finds (spec/17). -/

namespace Sys2Proof.Machine

/-! ### Facet stores (R436) -/

/-- RAS_FACET_UNITS.RETIRED of a facet. -/
def facetUnits (f : Nat) : RF := ⟨F.RAS_FACET_UNITS_RETIRED_0.id + 8 * (f % 8), 8, 0⟩

/-- Whether the facet window of a running command covers a unit of its facet (R70). -/
def coversUnit (facet unit : Nat) (p : Nat × Core) : Bool :=
  p.1 / 4 == facet && unit / 128 == p.1 % 4 && decide (p.2.window ≤ unit % 128) && decide (unit % 128 < p.2.window + p.2.d.facetUnits)

/-- A 64 KiB unit of a facet store is withdrawn, and stands on the retirement list (R436, R437). -/
def State.retireUnit (s : State) (facet unit : Nat) : State :=
  let n := facet * 512 + unit
  if s.ras.units.contains n then s
  else
    let s := { s with ras := { s.ras with units := n :: s.ras.units, listed := (n + 64) :: s.ras.listed.filter (fun x => x != n + 64) } }
    (s.bumpSat (facetUnits facet) 1).event evFacetUnitRetired .warning none facet unit

/-- An uncorrectable error in a facet store: the commands whose windows cover it are killed, and its unit is withdrawn (R436). -/
def State.facetUe (s : State) (facet unit : Nat) : State :=
  let s := s.errors 1 0 1
  (s.killCores ((s.cores.filter (coversUnit facet unit)).map (fun p => p.1))).retireUnit facet unit

/-! ### Die-to-die links (R440) -/

/-- Whether the variant has a die-to-die link: 0 C0–H, 1 C1–H, 2 C0–C1. -/
def State.linkHere (s : State) (l : Nat) : Bool := l == 0 || ((l == 1 || l == 2) && decide (16 < s.cores_))

/-- The facets of a compute die. -/
def State.dieFacets (s : State) (die : Nat) : List Nat := (List.range (s.cores_ / 4)).filter (fun f => f / 4 == die)

/-- A die-to-die link is out of service. Without its link to H, a compute die's facets are shed and its stacks have failed, and its
domains stay off until the next start-up (R440). -/
def State.failLink (s : State) (l : Nat) : State :=
  let s := (s.put (F.RAS_D2D_STATE l) 2).event evD2dFailed .error none l 0
  if l = 2 then s
  else
    let s := s.killFacets (s.dieFacets l)
    let s := ((List.range s.stacks).filter (fun k => k / 8 == l)).foldl (fun s k => s.failStack k) s
    s.domains ((s.dieFacets l).map (fun f => f + 1) ++ [9 + l, 11 + l]) false

/-! ### Scrubbing (R442, R443) -/

/-- The SRAM words of the scrubber's pass: core stores of 16 MiB and facet stores of 32 MiB, in words of 64 bits. -/
def coreWords : Nat := 2 ^ 21
def facetWords : Nat := 2 ^ 22
def State.sramWords (s : State) : Nat := s.cores_ * coreWords + s.cores_ / 4 * facetWords
def State.hbmLines (s : State) : Nat := s.stacks * 2 ^ 30

/-- Progress of the HBM pass, in per cent. -/
def State.hbmPct (s : State) : Nat := if s.hbmLines = 0 then 0 else s.ras.scrubLine * 100 / s.hbmLines

/-- The scrubber's HBM pass goes on to its next line, or a pass ends. -/
def State.nextLine (s : State) : State :=
  let n := s.ras.scrubLine + 1
  let s := if n < s.hbmLines then { s with ras := { s.ras with scrubLine := n } }
    else { s with ras := { s.ras with scrubLine := 0, scrubAt := s.now, hbmLate := false } }.bump F.RAS_SCRUB_STAT_HBM_PASSES 1
  s.put F.RAS_SCRUB_STAT_HBM_POS_PCT s.hbmPct

/-- The scrubber's SRAM pass goes on to its next word, or a pass ends. -/
def State.nextWord (s : State) : State :=
  let n := s.ras.scrubWord + 1
  if n < s.sramWords then { s with ras := { s.ras with scrubWord := n } }
  else { s with ras := { s.ras with scrubWord := 0, storeAt := s.now, storeLate := false } }.bump F.RAS_SCRUB_STAT_STORE_PASSES 1

/-- A correctable error of a source is corrected where it is found (R433, R434). -/
def State.corrected (s : State) (source stack : Nat) : State :=
  let s := s.errors source 1 0
  if source = 4 then s.bumpSat (F.HBM_CE_COUNT stack) 1 else s

end Sys2Proof.Machine
end

