-- ==== Sys2Proof/Machine/Edges.lean ====
section
/-! DEFINITION. The reference oscillator and the clocked edge islands (spec/02 "Where time is kept", "Edge islands", "Paired resets";
log entry 33: DEDUCED, unsafe). -/

namespace Sys2Proof.Machine

/-- Whether an island may stop its clock (table "Edge islands"). -/
def stoppable (i : Nat) : Bool := decide (i < 16) || (decide (32 ≤ i) && decide (i < 99))

/-- The compute dies at the far end of a die-to-die link (R60), by their number; islands 96 to 98 are links 0 to 2. -/
def farDies : Nat → List Nat
  | 0 => [0]
  | 1 => [1]
  | _ => [0, 1]

/-- A facet is drained: DRAIN is set and its cores are idle (R98). -/
def State.drained (s : State) (f : Nat) : Bool :=
  s.on (F.FCT_CTL_DRAIN f) && (List.range 4).all (fun k => (s.core (4 * f + k)).isNone)

/-- REF_OSC_FAULT: dispatcher time moves to the internal oscillator (R48). -/
def execRefOscFault (time : Nat) (s : State) : Res :=
  if s.on F.EDG_REF_STAT_REF_OK = true ∧ s.now ≤ time then
    let s := ((s.tick time).put F.EDG_REF_STAT_REF_OK 0).put F.EDG_REF_STAT_ON_FALLBACK 1
    .next ((s.bumpSat F.EDG_REF_STAT_LOST_COUNT 1).event evRefclkLost .error none 0 0)
  else .next s

/-- REF_OSC_RETURN: REF_OK reads 1 again; dispatcher time stays on the internal oscillator until the next power-on reset. -/
def execRefOscReturn (time : Nat) (s : State) : Res :=
  if s.on F.EDG_REF_STAT_REF_OK = false ∧ s.now ≤ time then .next ((s.tick time).put F.EDG_REF_STAT_REF_OK 1)
  else .next s

/-- ISLAND_CLOCK_STOP: an island with STOP_EN set has been idle for IDLE_TIME, in units of 0.1 µs, with no wake request pending (R50). -/
def execIslandClockStop (i idle time : Nat) (s : State) : Res :=
  let limit := s.get (F.EDG_ISL_CTL_IDLE_TIME i)
  if s.islandHere i = true ∧ stoppable i = true ∧ s.on (F.EDG_ISL_CTL_STOP_EN i) = true ∧ limit ≠ 0 ∧ limit ≤ idle
      ∧ s.get (F.EDG_ISL_STAT_STATE i) = 0 ∧ s.on (F.EDG_ISL_STAT_IN_RESET i) = false ∧ (32 ≤ i ∧ i < 96 → s.islandIdle i = true) ∧ s.now ≤ time then
    .next (((((s.tick time).put (F.EDG_ISL_STAT_STATE i) 2).put (F.EDG_ISL_STAT_CLK_RUN i) 0).refreshStack i).settleIdle)
  else .next s

/-- ISLAND_WAKE: a request restarts a stopped island's clock; nothing fails or is discarded (R51, R52). `latency` is in units of
0.1 µs. -/
def execIslandWake (i latency time : Nat) (s : State) : Res :=
  if s.islandHere i = true ∧ s.get (F.EDG_ISL_STAT_STATE i) ≠ 0 ∧ s.now ≤ time then
    .next ((s.tick time).wakeAfter i latency)
  else .next s

/-- What the reset of a flash channel does (R57, R59): its reads are reissued as reconstructions from the other bays, whose pages wait for
them; its programs stay to be started anew, so that nothing whose journal write they carry is acknowledged before. -/
def State.resetChan (s : State) (c : Nat) : State :=
  let x := s.chan c
  let isRead := fun (o : FlashOp) => o.kind == 2
  let programs := x.suspended.toList ++ (x.cur.filter (fun o => !isRead o)).toList ++ x.queue.filter (fun o => !isRead o)
  let s := (s.setChan c ⟨none, none, programs⟩).put (F.GEO_CH_STAT_STATE c) 0
  s.reissue (c / 8) (x.ops.filter isRead)

/-- A flash channel shows its state again as its island leaves reset. -/
def State.chanBack (s : State) (i : Nat) : State :=
  if 32 ≤ i ∧ i < 96 ∧ s.written ((i - 32) / 8) then s.setChan (i - 32) (s.chan (i - 32)) else s

/-- ISLAND_RESET: a write of EDG_ISL_CTL.RST. Both sides of the crossing enter reset, and commands with an access in flight there are
killed and re-run; a die-to-die link is reset only while its far die is drained (R57 to R60). `inFlight` names their cores. -/
def execIslandReset (i v : Nat) (inFlight : List Nat) (time : Nat) (s : State) : Res :=
  if s.islandHere i = false then .next s
  else if v % 2 = 0 then .next s
  else if 96 ≤ i ∧ i < 99 ∧ ((farDies (i - 96)).flatMap s.dieFacets).any (fun f => !s.drained f) then .next (s.cfgDropped (F.EDG_ISL_CTL_RST i))
  else if time < s.now then .next s
  else
    let s := ((s.tick time).put (F.EDG_ISL_STAT_IN_RESET i) 1).killCores inFlight
    if i < 16 then .next s.markReady
    else if i < 32 then .next (((s.resetPort (i - 16) 3).event evKtrLinkDown .warning none (i - 16) 0).markReady)
    else if i < 96 then .next (s.resetChan (i - 32)).markReady
    else if i = 99 then .next ((s.put F.MGT_STAT_LINK 1).markReady)
    else .next s.markReady

/-- ISLAND_RESET_EXIT: both sides leave reset together, the clock running (R57); a port trains again. -/
def execIslandResetExit (i time : Nat) (s : State) : Res :=
  if s.islandHere i = true ∧ s.on (F.EDG_ISL_STAT_IN_RESET i) = true ∧ s.now ≤ time then
    let s := (((s.tick time).put (F.EDG_ISL_STAT_IN_RESET i) 0).put (F.EDG_ISL_STAT_STATE i) 0).put (F.EDG_ISL_STAT_CLK_RUN i) 1
    let s := (s.refreshStack i).chanBack i
    if 16 ≤ i ∧ i < 32 ∧ s.get (F.KTR_PORT_STAT_LINK (i - 16)) = 3 then .next (s.put (F.KTR_PORT_STAT_LINK (i - 16)) 1) else .next s
  else .next s

/-- LINK_UP: a port that trains in the background has its link up (R389, R468); with a reserved MODE it trains on (R9). -/
def execLinkUp (port time : Nat) (s : State) : Res :=
  if port < 16 ∧ s.on (F.KTR_PORT_CTL_EN port) = true ∧ (s.get (F.KTR_PORT_STAT_LINK port) = 1 ∨ s.get (F.KTR_PORT_STAT_LINK port) = 3) ∧ s.now ≤ time then
    .next (if s.modeOk port then (s.tick time).put (F.KTR_PORT_STAT_LINK port) 2 else s.tick time)
  else .next s

end Sys2Proof.Machine
end

