-- ==== Sys2Proof/Machine/External.lean ====
section
/-! DEFINITION. The external operations of a kernel (spec/03 R92 to R95, spec/08 R215 and R216, spec/15 "Kernel puts"). -/

namespace Sys2Proof.Machine

/-- The four words of the operation descriptor that SA addresses, or how the command ends first (R66, R92; log entry 20: DEDUCED, unsafe). -/
def Core.extWords (k : Core) (free : Nat) (sa : Reg5) (zero : BitVec 49) : Except Stop (List Nat) :=
  let a := k.at_ sa
  if zero ≠ 0 then .error .invalid
  else if k.d.external = false then .error (.failed dExternalUndeclared)
  else if k.inStore a 32 then .ok (words 8 4 (k.load free a 32)) else .error (.failed dStoreRange)

/-- Table "Kernel put operation (32 bytes)". -/
structure PutOp where
  tc : Nat
  window : Nat
  length : Nat
  src : Nat
  offset : Nat
deriving DecidableEq, Repr

/-- Reads a put; none when it is a reserved encoding (R398). -/
def parsePut (ws : List Nat) : Option PutOp :=
  let w0 := ws.getD 0 0
  let w1 := ws.getD 1 0
  let w2 := ws.getD 2 0
  let d : PutOp := ⟨bitsOf w0 10 8, bitsOf w0 27 16, bitsOf w0 63 32, bitsOf w1 24 0, bitsOf w2 43 0⟩
  if bitsOf w0 15 12 = 0 ∧ bitsOf w0 31 28 = 0 ∧ 64 ≤ d.length ∧ d.length ≤ 2 ^ 21 ∧ d.length % 64 = 0 ∧ bitsOf w1 63 25 = 0
      ∧ d.offset % 64 = 0 ∧ bitsOf w2 63 44 = 0 ∧ ws.getD 3 0 = 0 then some d else none

/-- Whether a context may use a mapped window (R398). -/
def MapWin.admits (w : MapWin) (ctx : Nat) : Bool := w.valid && (if w.service then ctx == svc else w.tid == ctx)

/-- Sends a put of the store's bytes (R398), or ends the command. -/
def State.kernelPut (s : State) (c : Nat) (k : Core) (ctx : Nat) (d : PutOp) : State :=
  match (Sparse.find s.ktr.map d.window).filter (fun w => w.admits ctx) with
  | none => s.stopCore c k (.failed 0x0F01)
  | some w =>
    if w.pages * pageBytes < d.offset + d.length then s.stopCore c k (.failed 0x0F02)
    else match k.check d.src d.length 64 with
      | some x => s.stopCore c k x
      | none =>
        let id := s.ktr.nextOp
        let s' := s.putHall (w.base + d.offset) w.key d.tc (k.load k.draws d.src d.length) (.kernel c id)
        s'.land c k (.ok { k with ext := k.ext ++ [(⟨id, false⟩ : ExtOp)] } [] none)

/-- Table "Geode program operation (32 bytes)". -/
structure GeoOp where
  count : Nat
  extent : Nat
  unit : Nat
  src : Nat
deriving DecidableEq, Repr

def parseGeo (ws : List Nat) : Option GeoOp :=
  let w0 := ws.getD 0 0
  let w1 := ws.getD 1 0
  let d : GeoOp := ⟨bitsOf w0 15 8, bitsOf w0 31 16, bitsOf w0 63 32, bitsOf w1 24 0⟩
  if 1 ≤ d.count ∧ d.count ≤ 16 ∧ bitsOf w1 63 25 = 0 ∧ ws.getD 2 0 = 0 ∧ ws.getD 3 0 = 0 then some d else none

/-- Sends a Geode program (R215), or ends the command (R216). -/
def State.kernelProgram (s : State) (c : Nat) (k : Core) (ctx : Nat) (d : GeoOp) : State :=
  match (s.extent d.extent).filter (fun e => e.tid == ctx) with
  | none => s.stopCore c k (.failed 0x0801)
  | some e =>
    if e.units < d.unit + d.count then s.stopCore c k (.failed 0x0802)
    else match k.check d.src (d.count * unitBytes) 4096 with
      | some x => s.stopCore c k x
      | none =>
        let id := s.ktr.nextOp
        let p : GProg := ⟨k.item, id, e.tid, unitsPerPage * e.first + d.unit, e.va + d.unit * unitBytes, k.load k.draws d.src (d.count * unitBytes)⟩
        let s' := { s with geo := { s.geo with progs := s.geo.progs ++ [p] }, ktr := { s.ktr with nextOp := id + 1 } }
        let units := (List.range d.count).map (fun i => p.unit + i)
        (s'.geoPlace false (some (.program k.item id)) units).land c k (.ok { k with ext := k.ext ++ [(⟨id, true⟩ : ExtOp)] } [] none)

/-- The context a core's command runs in. -/
def Core.ctx (k : Core) : Nat := if k.d.service then svc else k.d.tid

/-- The work of a put descriptor. -/
def State.doPut (s : State) (c : Nat) (k : Core) (ws : List Nat) : State := match parsePut ws with
  | none => s.stopCore c k .invalid
  | some d => s.kernelPut c k k.ctx d

/-- The work of a Geode program descriptor (R3). -/
def State.doProgram (s : State) (c : Nat) (k : Core) (ws : List Nat) : State := match parseGeo ws with
  | none => s.stopCore c k .invalid
  | some d => if s.hasGeode then s.kernelProgram c k k.ctx d else s.stopCore c k .notPresent

/-- A class 0x9 instruction: its descriptor names the work, whichever of the two rows it was sent as; any other OP is a reserved
encoding (R66). -/
def State.external (s : State) (c : Nat) (sa : Reg5) (zero : BitVec 49) : Res :=
  match s.core c with
  | none => .fault .coreNotRunning
  | some k =>
    if k.takes then match k.extWords k.draws sa zero with
      | .error x => .next (s.stopCore c k x)
      | .ok ws =>
        let o := bitsOf (ws.getD 0 0) 7 0
        .next (if o = 0x41 then s.doPut c k ws else if o = 0x40 then s.doProgram c k ws else s.stopCore c k .invalid)
    else .fault .coreNotRunning

/-- KPUT (R398). -/
def execKput (c : Nat) (sa : Reg5) (zero : BitVec 49) (s : State) : Res := s.external c sa zero

/-- GEO_PROGRAM (R3, R215, R216). -/
def execGeoProgram (c : Nat) (sa : Reg5) (zero : BitVec 49) (s : State) : Res := s.external c sa zero

end Sys2Proof.Machine
end

