-- ==== Sys2Proof/Machine/Feature.lean ====
section
/-! DEFINITION. The commands of the feature table engine (spec/11). -/

namespace Sys2Proof.Machine

/-- Ends an operation of the table ring. -/
def State.ftbEnd (s : State) (o : FtbOp) (status detail : Nat) : Res := .next (s.opEnd 13 o.opId o.completion status detail 0 0)

/-- Whether a table descriptor holds a reserved value (R9). -/
def FtbDesc.reserved (d : FtbDesc) : Bool :=
  d.resv || d.format != 1 || d.defaultWidth == 0 || decide (4 < d.defaultWidth) || d.dim == 0 || decide (4096 < d.dim) || d.rows == 0 || d.decayMs == 0
    || d.dirVa % pageBytes != 0 || d.heapVa.any (fun v => v % pageBytes != 0)

/-- The object of which every page of a SHARED table's ranges is (R289, R291). -/
def State.sharedObj (s : State) (keys : List Nat) : Option Nat := match keys with
  | [] => none
  | k :: _ =>
    let o := (s.pte k).loc
    if keys.all (fun k => (s.pte k).state == .shared && (s.pte k).loc == o) && (s.object o).any (fun x => x.state == .ready) then some o else none

/-- FTB_CREATE: checks the descriptor (R289), pins the table's pages within PIN_MAX (R290), and makes the table. While a
frame is wanting it waits. -/
def execFtbCreate (o : FtbOp) (s : State) : Res :=
  s.ringStep 13 o.opId o.completion false (o.resv || FtbDesc.reserved o.desc) (fun s =>
    let d := o.desc
    let t : Table := ⟨d, 0, false, 0, [], [], [], s.now⟩
    let keys := t.keys
    let slots := (t.ladder.map (fun w => d.slots.getD (w - 1) 0)).foldl (· + ·) 0
    let obj := s.sharedObj keys
    let mine := keys.all (fun k => (s.pte k).state != .unmapped && (s.pte k).state != .shared && (s.pte k).durable)
    if (s.table d.table).isSome ∨ t.ladder.contains d.defaultWidth = false ∨ slots < d.rows + 16 ∨ (d.shared ∧ (obj.isNone ∨ d.autoMig))
        ∨ (d.shared = false ∧ mine = false) then s.ftbEnd o stFailed 0x0B05
    else
      let pages := (keys.map (fun k => s.governing k)).dedup
      let more := (pages.filter (fun k => !(s.pte k).pinned)).length
      if d.shared = false ∧ s.get (F.MEM_TNT_QUOTA_PIN_MAX d.tid) < s.pinnedOf d.tid + more then s.ftbEnd o stFailed 0x0704
      else match s.bringAll pages with
        | none => .next s
        | some s =>
          let s := pages.foldl (fun s k => s.setPte k { s.pte k with pinned := true }) s
          (s.setTable d.table { t with obj := obj.getD 0 }).ftbEnd o stDone 0)

/-- FTB_DROP: later gathers and update blocks find the table absent; it goes once its publications have ended (R308). Log entry 50: DEDUCED, unsafe. -/
def execFtbDrop (o : FtbOp) (s : State) : Res :=
  s.ringStep 13 o.opId o.completion false o.resv (fun s => match s.table o.table with
    | none => s.ftbEnd o stFailed 0x0B01
    | some t =>
      if t.dropping then s.ftbEnd o stFailed 0x0B01
      else ((s.setTable o.table { t with dropping := true, queued := [] }).sweepTables).ftbEnd o stDone 0)

/-- FTB_MIGRATE: queues a migration of a row to a width of the ladder (R303, R308). -/
def execFtbMigrate (o : FtbOp) (s : State) : Res :=
  s.ringStep 13 o.opId o.completion true o.resv (fun s => match s.table o.table with
    | none => s.ftbEnd o stFailed 0x0B01
    | some t =>
      let s := s.opFor 13 o.opId (if t.desc.shared then svc else t.desc.tid)
      if t.dropping then s.ftbEnd o stFailed 0x0B01
      else if t.desc.shared ∨ t.desc.rows ≤ o.arg ∨ t.ladder.contains o.width = false ∨ (s.rowDesc t o.arg).1 = 0 then s.ftbEnd o stFailed 0x0B05
      else if (s.rowDesc t o.arg).1 = o.width then s.ftbEnd o stDone 0
      else .next (s.setTable o.table (t.wish o.arg o.width (some o.opId) o.completion)))

/-- GATHER: the engine copies the rows that an index list names into a fresh buffer and publishes it (R292 to R295, R302). -/
def execGather (item time : Nat) (s : State) : Res := match s.dsp.items.find? (fun i => i.id == item) with
  | none => .next s
  | some i => match i.e.job with
    | .gather d =>
      if s.ready i && s.mayRun i && decide (s.now ≤ time) then
        let s := s.tick time
        match s.table d.table with
        | none => .next (s.failItem i (.failed 0x0B01))
        | some t =>
          let idx := words 4 d.count (s.load i.runCtx d.idxVa (4 * d.count))
          let uniq := gatherRows t.desc.rows idx
          if t.dropping then .next (s.failItem i (.failed 0x0B01))
          else if s.readsTable t i.runCtx = false then .next (s.failItem i (.failed 0x0B02))
          else if d.outLen < gatherSize t.desc.dim d uniq.length then .next (s.failItem i (.failed 0x0B03))
          else
            let (bytes, sat) := s.gatherOut t d idx
            let (i, s) := s.takeItem i
            let t := uniq.foldl (fun t r => s.hitRow t r) t
            let s := ((s.setTable d.table t).bump (F.FTB_GATHER_UNIQUE d.table) uniq.length).bump (F.FTB_GATHER_GATHERS d.table) 1
            let s := (s.bumpSat (F.FTB_DROPPED_GATHERS d.table) (idx.filter (fun r => decide (t.desc.rows ≤ r))).length).bumpSat (F.FTB_SAT_COUNT d.table) sat
            .next (s.publishJob i [⟨kFresh, d.outVa, d.outLen, Sparse.cells 0 0 bytes, []⟩]).markReady
      else .next s
    | _ => .next s

/-- The reduced sums of an update block, row by row in ascending order (R299). -/
def reduceRows (dim : Nat) (rows : List (Nat × List F32)) : List (Nat × List F32) :=
  let l := sortRows rows
  ((l.map (fun x => x.1)).dedup).map (fun r => (r, sumRows dim ((l.filter (fun x => x.1 == r)).map (fun x => x.2))))

/-- Applies the reduced sums of a publication to a table, one row after another: the writes and the saturated elements. -/
def State.applyRows (s : State) (t : Table) (pub : Nat) : List (Nat × List F32) → List OutBuf → Nat → List OutBuf × Nat
  | [], outs, sat => (outs, sat)
  | (r, sum) :: rest, outs, sat =>
    let (more, n) := (s.ahead t.ctx outs).applyRow t pub r sum
    s.applyRows t pub rest (outs ++ more) (sat + n)

/-- SCATTER_ADD_APPLY: the oldest update block of a table is reduced and applied, one publication at a time; the rows join
the publication, which is journaled as durable data once its last block is applied (R299 to R301). -/
def execScatterAddApply (table time : Nat) (s : State) : Res := match s.ftb.pending.find? (fun u => u.table == table), s.table table with
  | some u, some t => match s.tier.pubs.find? (fun p => p.id == u.pub) with
    | none => .next s
    | some p =>
      if s.tableBusyBut p.id t || decide (time < s.now) then .next s
      else match s.tableAway t with
      | some s' => .next (s'.tick time)
      | none =>
        let s := s.tick time
        let pub := t.pub + 1
        let valid := u.rows.filter (fun x => decide (x.1 < t.desc.rows))
        let sums := reduceRows t.desc.dim valid
        let (outs, sat) := (s.ahead p.ctx p.outs).applyRows t pub sums [] 0
        let t := { t with pub := pub, migs := t.migs.map (fun m => sums.foldl (fun m x => logSum pub x.1 x.2 m) m) }
        let s := (s.setTable table t).abandonMigs table
        let s := (s.bumpSat (F.FTB_DROPPED_UPDATES table) (u.rows.length - valid.length)).bumpSat (F.FTB_SAT_COUNT table) sat
        let s := { s with ftb := { s.ftb with pending := eraseFirst (fun (x : Updates) => x.table == table) s.ftb.pending } }
        let last := !(s.ftb.pending.any (fun x => x.pub == p.id))
        let pages := s.durablePages p.ctx (p.outs ++ outs)
        let p := { p with
          outs := p.outs ++ outs
          scatter := !last
          journaled := !(last && pages.isEmpty)
          serials := (p.serials ++ s.serialsOf p.ctx outs).dedup }
        let s := { s with tier := { s.tier with pubs := s.tier.pubs.map (fun (x : Pub) => if x.id == p.id then p else x) } }
        if last then .next ((State.settlePubs s.tier.pubs.length (s.journal p pages)).markReady) else .next s
  | _, _ => .next s

/-- DECAY_TICK: every DECAY_MS each count of a table is halved, and rows left at or below DEMOTE_HITS may be queued for
demotion (R302, R303). -/
def execDecayTick (table time : Nat) (s : State) : Res := match s.table table with
  | none => .next s
  | some t =>
    if t.decayAt + t.desc.decayMs * 100000 ≤ time ∧ s.now ≤ time then
      let s := s.tick time
      let t := { t with decayAt := time, hits := (t.hits.map (fun p => (p.1, p.2 / 2))).filter (fun p => p.2 != 0) }
      let cold := if s.autoMig t then (s.dirRows t).filter (fun x => decide (Sparse.get 0 t.hits x.1 ≤ t.desc.demoteHits)) else []
      .next (s.setTable table (cold.foldl (fun t x => match t.narrower x.2.1 with
        | some b => t.wish x.1 b none 0
        | none => t) t))
    else .next s

/-- MIGRATION_START: a queued migration allots its slot and copies the row (table "Migration of row r from width a to width b",
steps 1 and 2; R303). A wish that the row's width has overtaken is dropped. -/
def execMigrationStart (table row : Nat) (s : State) : Res := match s.table table with
  | none => .next s
  | some t => match t.queued.find? (fun q => q.row == row) with
    | none => .next s
    | some q =>
      let (a, old) := s.rowDesc t row
      let t' := { t with queued := eraseFirst (fun (x : MigWish) => x.row == row) t.queued }
      let runs := match q.opId with
        | some id => s.opRuns 13 id
        | none => true
      if s.on F.FTB_CTL_MIG_EN = false ∨ 16 ≤ s.migsRunning ∨ runs = false ∨ t.migs.any (fun m => m.row == row) ∨ s.tableBusy t then .next s
      else if (s.tableAway t).isSome then .next ((s.tableAway t).getD s)
      else if a = q.width ∨ a = 0 then
        let s := s.setTable table t'
        match q.opId with
        | some id => .next (s.opEnd 13 id q.completion stDone 0 0 0)
        | none => .next s
      else match s.freeSlot t q.width with
        | none => .next s
        | some slot => .next (s.setTable table { t' with migs := t'.migs ++ [⟨row, a, q.width, slot, old, t.pub, s.rowOf t row, [], q.opId, q.completion, false, []⟩] })

/-- The new row of a migration: the copy narrowed into the new width, then each logged publication applied in it (R304). -/
def Table.replay (t : Table) (m : Migration) : List Byte :=
  let step := fun (bs : List Byte) (x : Nat × List F32) =>
    (t.narrowRow m.dst 0 x.1 m.row (List.zipWith Fp.add (widenRow t.desc.dim m.dst bs) x.2)).1
  m.log.foldl step (t.narrowRow m.dst 1 m.pub m.row m.copied).1

/-- Items that have pinned a table's directory and have not ended. -/
def State.dirPinners (s : State) (t : Table) : List Nat :=
  ((s.dsp.items ++ s.dsp.running.map (fun r => r.2)).filter (fun i => i.runCtx == t.ctx && (i.pins.getD []).any (fun p => rangesMeet p.va p.length t.desc.dirVa (8 * t.desc.rows)))).map (fun i => i.id)

/-- MIGRATION_SWITCH: the log is replayed, and the new row and its descriptor are a durable publication in the order of the
table's publications (step 4; R304). The operation that asked for it is done. -/
def execMigrationSwitch (table row : Nat) (s : State) : Res := match s.table table with
  | none => .next s
  | some t => match t.migs.find? (fun m => m.row == row && !m.switched) with
    | none => .next s
    | some m =>
      let runs := match m.opId with
        | some id => s.opRuns 13 id
        | none => true
      if s.tableBusy t ∨ runs = false then .next s
      else match s.tableAway t with
      | some s' => .next s'
      | none =>
        let outs := [patch (t.rowVa m.dst m.slot) (t.replay m), patch (t.desc.dirVa + 8 * row) (rowDescBytes m.dst m.slot)]
        let m' := { m with switched := true, pub := s.tier.nextPub, pinners := s.dirPinners t }
        let s := s.setTable table { t with migs := t.migs.map (fun (x : Migration) => if x.row == row then m' else x) }
        let s := if m.dst < m.src then s.bump (F.FTB_MIG_PROMOTED table) 1 else s.bump (F.FTB_MIG_DEMOTED table) 1
        let s := s.publish t.ctx { CmdDesc.none with tid := t.desc.tid } outs [] (s.durablePages t.ctx outs) true false
        match m.opId with
        | some id => .next (s.opEnd 13 id m.completion stDone 0 0 0)
        | none => .next s

/-- MIGRATION_FREE: the old slot is free once the switch has taken effect and every earlier pin of the directory has ended
(step 5; R305). -/
def execMigrationFree (table row : Nat) (s : State) : Res := match s.table table with
  | none => .next s
  | some t => match t.migs.find? (fun m => m.row == row && m.switched) with
    | none => .next s
    | some m =>
      let alive := s.dsp.items.map (fun i => i.id) ++ s.dsp.running.map (fun r => r.2.id)
      if s.tier.pubs.any (fun p => p.id == m.pub) || m.pinners.any (fun i => alive.contains i) then .next s
      else .next ((s.dropMig table row).sweepTables)

end Sys2Proof.Machine
end

