-- ==== Sys2Proof/Machine/Index.lean ====
section
/-! DEFINITION. The commands of the index sequencers (spec/09). -/

namespace Sys2Proof

/-- Whether an index descriptor holds a reserved value (R9, table "Index descriptor (128 bytes)"). -/
def IdxDesc.reserved (d : IdxDesc) : Bool :=
  d.resv || decide (3 < d.metric) || decide (d.dim < 8) || decide (2048 < d.dim) || d.numTypes.contains 3 || decide (d.sideLog2 < 10)
    || decide (26 < d.sideLog2) || d.partitions == 0 || decide (2 ^ 22 < d.partitions) || Fp.isNaN d.borderEps || Fp.sign d.borderEps
    || !(Fp.lt d.borderEps Fp.one) || d.idLimit == 0 || decide (100 < d.autoFoldPct) || d.regionVa % 2 ^ 21 != 0
    || (!d.ranges && (d.memberVa != 0 || d.itemVa != 0 || d.passageVa != 0))

/-- The bytes of the HBM structures that a new index needs beside its keys and group lists: centroid tiles and norms, codebook, two
partition tables and the side list. -/
def IdxDesc.hbmBytes (d : IdxDesc) : Nat :=
  d.tiles * Machine.tileBytes d.tilePair + 4 * d.partitions + (if d.binary then 0 else 1024 * d.dim) + 64 * d.partitions + d.sideCap * d.sideBytes

end Sys2Proof

namespace Sys2Proof.Machine

/-- Consecutive pages of a tenant from a page key on that satisfy `p`. -/
def State.pageRun (s : State) (p : Pte → Bool) : Nat → Nat → Nat
  | 0, _ => 0
  | fuel + 1, key => if p (s.pte key) then s.pageRun p fuel (key + 1) + 1 else 0

/-- The bytes of pinned CLASS 1 pages of a tenant from an address on: what an index region there has (R229). -/
def State.regionBytes (s : State) (tid va : Nat) : Nat :=
  s.pageRun (fun p => p.durable && p.pinned) (s.tier.pages.length + 1) (pageKey tid (va / pageBytes)) * pageBytes

/-- The units of 64 bytes of an index's passage ring: its extent's, or its mapped range's. -/
def State.passSpace (s : State) (d : IdxDesc) : Nat :=
  if d.ranges then s.pageRun (fun p => p.state != .unmapped) (s.tier.pages.length + 1) (pageKey d.tid (d.passageVa / pageBytes)) * (pageBytes / 64)
  else match s.extent d.passageExt with
    | some e => e.units * (unitBytes / 64)
    | none => 0

/-- Whether an extent serves a store of `units` units of an index (R230). -/
def State.extentServes (s : State) (e tid units : Nat) : Bool := match s.extent e with
  | some x => x.tid == tid && decide (units ≤ x.units)
  | none => false

/-- Whether a descriptor meets a condition of R230 or R261. -/
def State.badSchema (s : State) (d : IdxDesc) : Bool :=
  let itemUnits := (d.idLimit + 16384 / d.slotBytes - 1) / (16384 / d.slotBytes)
  (!d.binary && d.dim % d.c != 0) || (d.binary && d.dim != 8 * d.c) || ((d.metric == 3) != d.binary)
    || (!d.ranges && !(s.extentServes d.memberExt d.tid 1 && s.extentServes d.itemExt d.tid itemUnits && s.extentServes d.passageExt d.tid 1))
    || (let room := s.regionBytes d.tid d.regionVa
      let within := fun (va n : Nat) => decide (d.regionVa ≤ va) && decide (va + n ≤ d.regionVa + room)
      decide (room < d.hbmBytes) || !(within d.centVa (d.tiles * tileBytes d.tilePair + 4 * d.partitions)) || !(within d.bookVa (if d.binary then 0 else 1024 * d.dim)))
    || (s.index d.index).isSome

/-- Whether the region and the extents or ranges of a new index hold its load batch too: keys and group lists, groups, and passages (R230). -/
def State.loadFits (s : State) (x : Index) : Bool :=
  let groups := x.cur.parts.flatMap (fun p => p.2.groups)
  decide (x.desc.hbmBytes + 8 * ((partKeys x.cur.parts).map (fun k => k.2)).foldl (· + ·) 0 + 8 * groups.length ≤ s.regionBytes x.desc.tid x.desc.regionVa)
    && s.memberRoom x.desc groups

/-- A new index: generation 1, fold point 0 (R231). -/
def State.newIndex (s : State) (d : IdxDesc) : Index :=
  ⟨d, .creating, none, 0, 1, ⟨1, 0, []⟩, none, 0, [], [], [], [], 0, s.passSpace d, [], [], none⟩

/-- The load batch becomes update 1 and is folded (R231); the detail code when it fails. -/
def State.loadIndex (s : State) (x : Index) : Except Nat Index :=
  if x.desc.load.isEmpty then .ok { x with nextSeq := 2 }
  else match s.checkBatch x x.desc.load with
    | .error e => .error e
    | .ok ps => match x.commit [] ⟨0, ps, [], [], 0, [], none, 0⟩ with
      | none => .error dIdxSchema
      | some (_, y) =>
        let y := { y with committed := 1 }.beginFold false (s.get (F.IDX_TUNE_COMPACT_PCT x.desc.index)) none 0
        let todo := match y.fold with
          | some f => f.todo.length
          | none => 0
        let y := s.foldAll todo y
        let y := match y.fold with
          | some f => (y.publishGen f).reclaim f
          | none => y
        if s.loadFits y then .ok y else .error dIdxSchema

/-- What a new index's stores hold is written: into extents within the step, or as outputs of the publication, once their pages have frames
(R231, R485). -/
def State.writeIndex (s : State) (x : Index) : Option (State × List OutBuf) :=
  let ws := (s.newIndex x.desc).newWrites x ++ x.cur.parts.flatMap (fun p => groupWrites x.desc p.1 x.cur.num p.2.groups)
  if x.desc.ranges then (s.pagesReady (rangePages x.desc ws)).map (fun s => (s, rangeOuts x.desc ws)) else some (s.flashWrites x.desc none ws, [])

def State.idxEnd (s : State) (o : IdxOp) (status detail : Nat) : Res := .next (s.opEnd 12 o.opId o.completion status detail 0 0)

/-- IDX_CREATE: makes an index of an index descriptor, with its load batch folded; it is READY once its publication is
journaled (R229 to R231, R261). Log entry 70: DEDUCED, unsafe. -/
def execIdxCreate (o : IdxOp) (s : State) : Res :=
  let d := o.desc
  s.ringStep 12 o.opId o.completion false (o.resv || IdxDesc.reserved d || (d.load.any (fun e => e.resv || (e.op != 1 && e.op != 2)))) (fun s =>
    if s.hasGeode = false ∧ d.ranges = false then s.idxEnd o stNotPresent 0
    else if s.badSchema d then s.idxEnd o stFailed dIdxSchema
    else match s.loadIndex (s.newIndex d) with
      | .error e => s.idxEnd o stFailed e
      | .ok x => match s.writeIndex x with
        | none => .next s
        | some (s, outs) =>
          let (pub, s) := (s.put (F.IDX_TUNE_AUTO_FOLD_PCT d.index) d.autoFoldPct).idxPublish d (64 * d.partitions) outs
          .next (s.setIndex { x with creating := some (pub, o.opId, o.completion) }))

/-- Ends the updates of an index that have no sequence yet (R256). -/
def State.failUpdates (s : State) (us : List Update) : State :=
  (us.filter (fun u => u.seq == 0)).foldl (fun s u => s.endReq u.handle stFailed dIdxAbsent) s

/-- Cancels the fold of an index before its publication: marks are cleared, what it wrote is freed, and its operation ends
CANCELLED (R251). -/
def State.cancelFold (s : State) (i : Nat) : State := match s.index i with
  | none => s
  | some x => match x.fold with
    | none => s
    | some f =>
      if f.step < 4 then
        let y := x.undoFold f
        let s := (((s.setIndex y).freeUnits x y).dropWork (.fold i)).idxNote x.desc (8 * f.marked.length)
        match f.opId with
        | some id => s.opEnd 12 id f.completion stCancelled 0 0 f.lostKeys
        | none => s
      else s

/-- IDX_DROP: the index is DROPPING; updates that wait end FAILED, a fold is cancelled, and the index is absent once the last
pin has ended (R256). -/
def execIdxDrop (o : IdxOp) (s : State) : Res :=
  s.ringStep 12 o.opId o.completion false o.resv (fun s => match s.index o.index with
    | none => s.idxEnd o stFailed dIdxAbsent
    | some x =>
      if x.state ≠ .ready then s.idxEnd o stFailed dIdxAbsent
      else
        let s := (s.setIndex { x with state := .dropping }).failUpdates x.updates
        let s := (s.cancelFold o.index).sweep
        s.idxEnd o stDone 0)

/-- Starts a fold or repair of an index that is READY and does neither (R252, R257); a reserved COMPACT_PCT is refused (R9). -/
def State.startFold (s : State) (o : IdxOp) (repair : Bool) : Res :=
  s.ringStep 12 o.opId o.completion true o.resv (fun s => match s.index o.index with
    | none => s.idxEnd o stFailed dIdxAbsent
    | some x =>
      let s := s.opFor 12 o.opId x.desc.tid
      if x.state ≠ .ready then s.idxEnd o stFailed dIdxAbsent
      else if x.fold.isSome then s.idxEnd o stFailed dIdxBusy
      else if s.compactOk o.index = false then s.idxEnd o stInvalidEncoding 0
      else .next (s.setIndex (x.beginFold repair (s.get (F.IDX_TUNE_COMPACT_PCT o.index)) (some o.opId) o.completion)))

/-- IDX_FOLD: sets F = COMMITTED and the fold set (step 1; R251, R252, R257). -/
def execIdxFold (o : IdxOp) (s : State) : Res := s.startFold o false

/-- IDX_REPAIR: begins the rebuild of the LOST groups as a new generation (R254, R257). -/
def execIdxRepair (o : IdxOp) (s : State) : Res := s.startFold o true

/-- Whether a fold or repair goes on: FOLD_EN is 1 and its operation is not SUSPENDED (R251). -/
def State.foldGoes (s : State) (f : Fold) : Bool := s.on F.IDX_CTL_FOLD_EN && (match f.opId with
  | some id => s.opRuns 12 id
  | none => true)

/-- ITEM_COPY_WRITE: a copy write that waited proceeds, as no live query holds a snapshot below the other copy's VERSION
(R239); the update's entries are published once its last one has (R242). -/
def execItemCopyWrite (index handle item : Nat) (s : State) : Res := match s.index index with
  | none => .next s
  | some x => match x.updates.find? (fun u => u.handle == handle && u.waits.contains item) with
    | none => .next s
    | some u =>
      if s.copyWaits x item then .next s
      else
        let u := { u with waits := u.waits.erase item }
        .next ((s.setIndex { x with updates := x.updates.map (fun y => if y.handle == handle then u else y) }).stirIndex index)

/-- FOLD_PUBLISH: a fold or repair does its next `n` partitions (step 2); with none left, what it wrote programmed and published, and no
query pinned to g - 1, it publishes generation g + 1, which takes effect with its journal record (steps 3 and 4; R264, R485). -/
def execFoldPublish (index n : Nat) (s : State) : Res := match s.index index with
  | none => .next s
  | some x => match x.fold with
    | none => .next s
    | some f =>
      if s.foldGoes f = false ∨ 4 ≤ f.step then .next s
      else if f.todo ≠ [] then
        let (s, y) := s.foldParts n (s.readIndex x)
        .next (s.setIndex y)
      else if s.pins index (x.cur.num - 1) ≠ [] ∨ s.programming (.fold index) ∨ f.pubs.any (fun p => s.tier.pubs.any (fun q => q.id == p)) then .next s
      else
        let (pub, s) := (s.ackWork (.fold index)).idxPublish x.desc (32 * x.desc.partitions) []
        .next (s.setIndex { x with fold := some { f with step := 4, pub := some pub } })

/-- FOLD_RECLAIM: once no query pins g, its DYING keys are DEAD, superseded storage is free, and the fold set leaves the side
list; the fold is done, and updates that waited for room go on (step 5; R252). -/
def execFoldReclaim (index : Nat) (s : State) : Res := match s.index index with
  | none => .next s
  | some x => match x.fold with
    | none => .next s
    | some f =>
      if s.foldGoes f = false ∨ f.step ≠ 5 ∨ s.pins index (x.cur.num - 1) ≠ [] then .next s
      else
        let y := x.reclaim f
        let s := ((s.setIndex y).freeUnits x y).idxNote x.desc (8 * f.marked.length)
        let s := match f.opId with
          | some id => s.opEnd 12 id f.completion stDone 0 0 f.lostKeys
          | none => s
        .next (((s.stirIndex index).autoFold index).sweep)

/-- IDX_CTL_WRITE: a write of IDX_CTL: FOLD_EN holds folds and repairs at their next stopping points, or lets them go on
(R251). -/
def execIdxCtlWrite (v : Nat) (s : State) : Res := .next (s.put F.IDX_CTL_FOLD_EN (bitsOf v 31 31))

end Sys2Proof.Machine
end

