-- ==== Sys2Proof/Machine/Recorder.lean ====
section
/-! DEFINITION. The commands of the event recorder (spec/19 "The event recorder", R472 to R478). -/

namespace Sys2Proof.Machine

/-- The first 56 bytes of a record (table "Event record (64 bytes)"). -/
def EvRec.head (r : EvRec) : List Byte :=
  leBytes 8 (1 + r.sev.val * 2 ^ 8 + r.code * 2 ^ 32 + r.tid.getD 0 % 1024 * 2 ^ 48 + (if r.tid.isSome then 2 ^ 58 else 0) + (if r.service then 2 ^ 59 else 0))
    ++ leBytes 8 (r.seconds % 2 ^ 40) ++ leBytes 8 (r.cycle % 2 ^ 32) ++ leBytes 8 r.seq ++ leBytes 8 r.arg0 ++ leBytes 8 r.arg1 ++ leBytes 8 r.arg2

/-- A record with its CRC. -/
def EvRec.bytes (r : EvRec) : List Byte := r.head ++ leBytes 8 (crc32c r.head).toNat

/-- The held or released record with the lowest SEQ at or above a cursor (R475). -/
def State.recordFrom (s : State) (cursor : Nat) : Option EvRec :=
  s.rec_.store.foldl (fun (m : Option EvRec) (r : EvRec) => if cursor ≤ r.seq ∧ (m.all (fun (x : EvRec) => decide (r.seq < x.seq)) = true) then some r else m) none

def Recorder.latch (x : Recorder) (w : Nat) : Option EvRec := if w = 0 then x.latch0 else x.latch1

/-- Latches the shown record into a window, whose words then show it (R475). -/
def State.latch (s : State) (w : Nat) : State :=
  let r := s.recordFrom (s.get (F.EVR_CURSOR_SEQ w))
  let s := { s with rec_ := if w = 0 then { s.rec_ with latch0 := r } else { s.rec_ with latch1 := r } }
  let bs := match r with
    | some x => x.bytes
    | none => []
  (List.range 8).foldl (fun s n => s.put (F.EVR_REC_WORD w n) (leNat ((bs.drop (8 * n)).take 8))) s

/-- The cursor of a window moves past the latched record (R475). -/
def State.advance (s : State) (w : Nat) : State := match s.rec_.latch w with
  | none => s
  | some r => s.put (F.EVR_CURSOR_SEQ w) (r.seq + 1)

/-- The hold buffer's records enter the store in arrival order (R476). -/
def State.thaw (s : State) : State := s.rec_.hold.foldl (fun s r => s.enter r) { s with rec_ := { s.rec_ with hold := [] } }

/-- EVR_RELEASE: every held record at or below a SEQ is released (R474). -/
def execEvrRelease (seq : Nat) (s : State) : Res :=
  let seq := seq % 2 ^ 64
  .next { s with rec_ := { s.rec_ with store := s.rec_.store.map (fun (r : EvRec) => if r.seq ≤ seq then { r with released := true } else r) } }

/-- EVR_REC_READ: a read of EVR_REC[w][n]: word 0 latches, word 7 advances the cursor (R475). -/
def execEvrRecRead (w n : Nat) (s : State) : Res :=
  if 2 ≤ w ∨ 8 ≤ n then .next s
  else if n = 0 then .next (s.latch w)
  else if n = 7 then .next (s.advance w)
  else .next s

/-- EVR_FREEZE_WRITE: a write of EVR_CTL.FREEZE (R476). -/
def execEvrFreezeWrite (v time : Nat) (s : State) : Res :=
  if time < s.now then .next s
  else
    let s := s.tick time
    if v % 2 = 1 then .next (if s.on F.EVR_CTL_FREEZE then s else { s with rec_ := { s.rec_ with frozenAt := s.now } }.put F.EVR_CTL_FREEZE 1)
    else .next (s.put F.EVR_CTL_FREEZE 0).thaw

/-- FREEZE_TIMEOUT: FREEZE has been 1 for 10 s (R477). -/
def execFreezeTimeout (time : Nat) (s : State) : Res :=
  if s.on F.EVR_CTL_FREEZE = true ∧ s.rec_.frozenAt + 1000000000 ≤ time ∧ s.now ≤ time then
    .next (((s.tick time).put F.EVR_CTL_FREEZE 0).thaw.event evEvrFreezeTimeout .warning none 0 0)
  else .next s

/-- The mirror after a batch: of 65,536 slots, those of records that left the store are the ones written over, the oldest first. -/
def mirrorBatch (store mirror batch : List EvRec) : List EvRec :=
  let all := mirror ++ batch
  let extra := all.length - storeSlots
  let gone := (mirror.filter (fun (r : EvRec) => !store.any (fun (x : EvRec) => x.seq == r.seq))).take extra
  let kept := all.filter (fun (r : EvRec) => !gone.any (fun (x : EvRec) => x.seq == r.seq))
  kept.drop (kept.length - storeSlots)

/-- EVR_MIRROR: a batch of up to 64 records is copied to the mirror (R478). -/
def execEvrMirror (time : Nat) (s : State) : Res :=
  let batch := (s.rec_.store.filter (fun r => !r.mirrored)).take 64
  if s.now ≤ time ∧ batch ≠ [] then
    let s := s.tick time
    let hit := fun (r : EvRec) => batch.any (fun (x : EvRec) => x.seq == r.seq)
    let store := s.rec_.store.map (fun (r : EvRec) => if hit r then { r with mirrored := true } else r)
    .next { s with rec_ := { s.rec_ with store := store, mirror := mirrorBatch store s.rec_.mirror (batch.map (fun (r : EvRec) => { r with mirrored := true })) } }
  else .next s

/-- OP_SECONDS_SAVE: every 60 s the operating seconds are written to boot NOR (R472). -/
def execOpSecondsSave (time : Nat) (s : State) : Res :=
  if s.now ≤ time then
    let s := s.tick time
    let n := s.get F.EVR_TIME_OP_SECONDS
    if s.rec_.savedSeconds + 60 ≤ n then .next { s with rec_ := { s.rec_ with savedSeconds := n } } else .next s
  else .next s

end Sys2Proof.Machine
end

