-- ==== Sys2Proof/Machine/Search.lean ====
section
/-! DEFINITION. The commands of a search (spec/10). -/

namespace Sys2Proof.Machine

/-! ### Sequencer commands (R76, R486) -/

/-- Whether a queue entry is a sequencer command of a request or update: it carries its handle, runs in its tenant's range and is charged to
it, and has REPRO and ROUND_NE set. -/
def seqItem (handle tid : Nat) (e : QEntry) : Bool := e.chargeTid == tid && !e.svcCharge && (match e.job with
  | .command d => d.reqHandle == handle && d.tid == tid && !d.service && d.repro && d.roundNe
  | _ => false)

/-- Whether entries are sequencer commands for which the tenant's queue has room. -/
def State.seqItems (s : State) (handle tid : Nat) (items : List QEntry) : Bool :=
  !items.isEmpty && items.all (seqItem handle tid) && s.queueRoom tid items.length

/-- The commands of a work of a query. -/
def Query.jobsOf (q : Query) (w : SeqWork) : Option (List Nat) := (q.jobs.find? (fun p => p.1 == w)).map (fun p => p.2)

/-- Whether the commands of a work have all committed. -/
def State.jobsDone (s : State) (q : Query) (w : SeqWork) : Bool :=
  (q.jobsOf w).any (fun l => l.all (fun j => s.jobState q.handle j == some .committed))

/-- Queues the commands of a work of a query in its tenant's queue. -/
def State.queueSeq (s : State) (q : Query) (w : SeqWork) (items : List QEntry) : State :=
  ((s.setQuery { q with jobs := q.jobs ++ [(w, items.map (fun e => e.job.cmdId))] }).enqueueAll false items).markReady

/-- A step of a query that sequencer commands do: they are queued, wait for placement like any other, and once all have committed their
result stands (R486). -/
def State.seqStep (s : State) (q : Query) (tid : Nat) (w : SeqWork) (items : List QEntry) (result : State) : Res :=
  if (q.jobsOf w).isNone then (if s.seqItems q.handle tid items then .next (s.queueSeq q w items) else .next s)
  else if s.jobsDone q w then .next result else .next s

/-- PROBE_ORDER: the query vector, its probe order, lookup tables and query code (R262, R263, R483), by sequencer commands. `emb` is the
address at which the embedding stage's output was published. -/
def execProbeOrder (call : SeqCall) (emb : Nat) (s : State) : Res := match s.atStage call.handle .coarse, s.query call.handle with
  | some r, some q => match s.index q.index with
    | none => .next s
    | some x =>
      if q.step ≠ .order then .next s
      else
        let d := x.desc
        let result :=
          if s.badTiles d then s.stopReq call.handle stFailed Stage.coarse.code
          else
            let v := s.queryVector d q.blk emb
            let (a, b, q0) := s.tables d q.blk v
            let probes := nearest q.maxProbes (s.coarse d v)
            let q := { q with
              step := .dispatch, q := v, probes := probes, nprobe := Nat.min q.nprobe probes.length, maxProbes := probes.length
              tabA := a, tabB := b, q0 := q0, qcode := s.codeOf d v }
            ((s.setQuery q).inStage call.handle .coarse).pastStage call.handle .coarse
        s.seqStep q r.tid .order call.items result
  | _, _ => .next s

/-- Queries that hold a context on every CSU: from their first probe read until their final merge. -/
def State.contexts (s : State) : List Query := (s.idx.queries.map (fun p => p.2)).filter (fun q => q.step == .scanning)

/-- Whether a round of a query's scan is complete: every group read or skipped, and the side list searched (R23). -/
def Index.roundDone (x : Index) (q : Query) : Bool := q.step == .scanning && q.sideDone && (x.unread q).isEmpty

/-- A query whose partial lists are complete arrives at the merge engine (R23, R27). -/
def State.arriveAtMerge (s : State) (q : Query) : State := match s.index q.index with
  | none => s.setQuery q
  | some x =>
    if q.arrived.isNone && x.roundDone q then
      { s.setQuery { q with arrived := some s.idx.arrivals } with idx := { (s.setQuery { q with arrived := some s.idx.arrivals }).idx with arrivals := s.idx.arrivals + 1 } }
    else s.setQuery q

/-- PROBE_DISPATCH: a query obtains its context on every CSU, in admission order and at most 8 at once, and its first round's
reads start (section "Sharing the channels", R280). On a part without CSUs a sequencer kernel, `call.items`, runs the scan (spec/10). -/
def execProbeDispatch (call : SeqCall) (s : State) : Res := match s.atStage call.handle .scan, s.query call.handle with
  | some r, some q =>
    let earlier := s.idx.queries.any (fun p => p.2.step == .dispatch && decide (p.2.order < q.order) && (s.atStage p.1 .scan).isSome)
    if q.step ≠ .dispatch ∨ (s.hasGeode ∧ (8 ≤ s.contexts.length ∨ earlier)) ∨ (s.hasGeode = false ∧ s.seqItems call.handle r.tid call.items = false) then .next s
    else
      let q := { q with step := .scanning, upto := q.nprobe, rounds := 1 }
      let s := (if s.hasGeode then s.setQuery q else s.queueSeq q .scan call.items).inStage call.handle .scan
      .next ((List.range (8 * s.bays)).foldl (fun s c => s.put (F.CSU_STAT_CTX_USED c) s.contexts.length) s)
  | _, _ => .next s

/-- The bytes of a scan's transfer that a channel holds back: the spec says when, not how many (R271; log entry 93: DESIGN CHOICE, safe). -/
def State.holdBytes (s : State) (channel n : Nat) : State :=
  let (v, s) := s.draw
  s.bump (F.CSU_SLOW_BYTES channel) (v % (n + 1))

/-- The CSU of a channel scores a group for one query: its partial list, MATCHES and NaN scores, and the channel's counts (R265, R268, R271,
R274). A LOST group is skipped and sets DAMAGED (R266). -/
def State.scoreFor (s : State) (x : Index) (part group channel : Nat) (q : Query) : State :=
  let p := (x.gen q.gen).part part
  let g := p.groups.getD group ⟨0, false, []⟩
  let q := { q with seen := (part, group) :: q.seen }
  if g.lost then s.arriveAtMerge { q with damaged := true }
  else
    let prog := (s.program (progSlot q.blk.prog x.desc.metric) x.desc.c).getD []
    let old := (Sparse.find q.lists channel).getD []
    let r := x.scoreGroup q prog p channel (group * x.desc.group) g.recs old
    let s := s.arriveAtMerge { q with lists := Sparse.put q.lists channel r.list, matches_ := q.matches_ + r.passed, nan := q.nan + r.nan }
    if 8 * s.bays ≤ channel then s
    else
      let s := s.bump (F.CSU_RECORDS_RECORDS channel) r.visible
      let s := (s.bump (F.CSU_PASSED_RECORDS channel) r.passed).bump (F.CSU_HIDDEN_RECORDS channel) r.hidden
      let s := s.bumpSat (F.CSU_NAN_COUNT channel) r.nan
      if slowProgram x.desc prog q.blk.filter then s.holdBytes channel (scanBytes x.desc prog q.blk.filter) else s

/-- The queries that wait on a unit: of the index and generation of the one that reads it, with shared reads enabled (R285). -/
def State.sharers (s : State) (x : Index) (q : Query) (part group : Nat) : List Query :=
  if s.on F.CSU_CTL_SHARE_EN = false then [q]
  else (s.idx.queries.map (fun p => p.2)).filter (fun y => y.index == q.index && y.gen == q.gen && y.step == .scanning
    && (s.atStage y.handle .scan).isSome && (x.unread y).contains (part, group))

/-- The logical units that a scan of a group reads; none for an index in ranges. -/
def State.scanReads (s : State) (x : Index) (q : Query) (g : Group) : List Nat :=
  if x.desc.ranges then []
  else match s.extent x.desc.memberExt with
    | some e => (scanUnits x.desc ((s.program (progSlot q.blk.prog x.desc.metric) x.desc.c).getD []) q.blk.filter).map (fun i => unitsPerPage * e.first + g.unit + i)
    | none => []

/-- SCAN_UNIT_SCORE: a unit of a group is read once, and the CSU of its channel scores the visible, passing records into the partial list of
every query that waits on it (R265, R266, R268, R270, R271, R274, R285, R484). -/
def execScanUnitScore (handle part group channel : Nat) (s : State) : Res := match s.atStage handle .scan, s.query handle with
  | some _, some q => match s.index q.index with
    | none => .next s
    | some x =>
      let y := s.readIndex x
      let g := (((y.gen q.gen).part part).groups.getD group ⟨0, false, []⟩)
      if q.step ≠ .scanning ∨ (x.unread q).contains (part, group) = false
          ∨ (g.lost = false ∧ s.groupChannel x g ≠ some channel) then .next s
      else
        let sharers := s.sharers x q part group
        let reads := if g.lost then [] else (sharers.flatMap (fun q => s.scanReads x q g)).dedup
        if reads.all (fun u => s.idx.read.contains u) = false then .next s
        else
          let s := { s with idx := { s.idx with read := reads.foldl (fun l u => l.erase u) s.idx.read } }
          .next (sharers.foldl (fun s q => s.scoreFor y part group channel q) s)
  | _, _ => .next s

/-- SIDE_LIST_SEARCH: a sequencer command scores the side-list inserts of the fixed probes that are the newest of their items, each with the
lower probe rank of its partitions (R275). -/
def execSideListSearch (call : SeqCall) (s : State) : Res := match s.atStage call.handle .scan, s.query call.handle with
  | some r, some q => match s.index q.index with
    | none => .next s
    | some x =>
      if q.step ≠ .scanning ∨ q.sideDone then .next s
      else
        let prog := (s.program (progSlot q.blk.prog x.desc.metric) x.desc.c).getD []
        let (l, nan) := x.sideScores q prog
        s.seqStep q r.tid .side call.items (s.arriveAtMerge { q with sideDone := true, side := l, sideNan := nan })
  | _, _ => .next s

/-- Whether the merge engine takes a query next: no other that it may merge has arrived before it (R27). -/
def State.mergesNext (s : State) (q : Query) : Bool := match q.arrived with
  | none => false
  | some n => s.idx.queries.all (fun p => !(p.2.arrived.any (fun m => decide (m < n)) && p.2.step == .scanning && (s.atStage p.1 .scan).isSome))

/-- MERGE_START: all partial lists are complete, and the merge engine joins them, in the order of arrival (R23, R27, R276). Under WIDEN a
further round begins while too few distinct items are found (R280); after the last merge the contexts are free, and a search without
rescoring or a later stage ends with its result list (R278, R279). -/
def execMergeStart (handle : Nat) (s : State) : Res := match s.atStage handle .scan, s.query handle with
  | some r, some q =>
    if q.step ≠ .scanning ∨ s.mergesNext q = false ∨ (s.hasGeode = false ∧ s.jobsDone q .scan = false) then .next s
    else
      let entries := q.entries q.upto
      let (m, dups, distinct) := mergeLists q.blk.cand entries
      let s := ((s.bump F.MRG_MERGES_COUNT 1).bump F.MRG_ENTRIES_COUNT entries.length).bump F.MRG_DUPS_COUNT dups
      let q := { q with merged := m, dups := dups, distinct := distinct, scanned := q.upto, arrived := none }
      if q.blk.widen ∧ distinct < q.blk.cand ∧ q.scanned < q.maxProbes then
        .next ((s.arriveAtMerge { q with upto := Nat.min (2 * q.scanned) q.maxProbes, rounds := q.rounds + 1, seen := [] }).bump F.MRG_ROUNDS_COUNT 1)
      else
        let s := ((s.setQuery { q with step := .merged }).inStage handle .merge).pastStage handle .merge
        let s := (List.range (8 * s.bays)).foldl (fun s c => s.put (F.CSU_STAT_CTX_USED c) s.contexts.length) s
        if (nextStage r.d .merge).isNone then .next (s.finishSearch { q with step := .merged } q.ranked) else .next s
  | _, _ => .next s

/-- CANDIDATE_FETCH: the item slots of the merged candidates are read, and copies selected under the snapshot (R238, R282). -/
def execCandidateFetch (handle : Nat) (s : State) : Res := match s.atStage handle .rescoring, s.query handle with
  | some _, some q => match s.index q.index with
    | none => .next s
    | some x =>
      if q.step ≠ .merged ∨ q.fetched then .next s
      else
        let (c, damaged) := (s.readIndex x).candidates q
        .next ((s.setQuery { q with cands := c, fetched := true, damaged := q.damaged || damaged }).inStage handle .rescoring)
  | _, _ => .next s

/-- RESCORE: sequencer commands compute full-precision distances; RESCORE_KEEP candidates are kept; a search-only request then ends (R283). -/
def execRescore (call : SeqCall) (s : State) : Res := match s.atStage call.handle .rescoring, s.query call.handle with
  | some r, some q => match s.index q.index with
    | none => .next s
    | some x =>
      if q.fetched = false ∨ q.rescored then .next s
      else
        let (c, nan) := rescored x.desc q
        let y := { q with cands := c, candNan := nan, rescored := true }
        let t := (s.setQuery y).pastStage call.handle .rescoring
        s.seqStep q r.tid .rescore call.items (if (nextStage r.d .rescoring).isNone then t.finishSearch y y.ranked else t)
  | _, _ => .next s

/-- PASSAGE_FETCH: the passage records that the selected copies name are read and checked; the query's pin ends (R284). -/
def execPassageFetch (handle : Nat) (s : State) : Res := match s.atStage handle .passageFetch, s.query handle with
  | some _, some q => match s.index q.index with
    | none => .next s
    | some x =>
      if q.step ≠ .merged then .next s
      else
        let x := s.readIndex x
        let (c, damaged) := if q.fetched then (q.cands, false) else x.candidates q
        let ok := c.filter (fun y => (x.passageOf y).isSome)
        let q := { q with cands := ok, fetched := true, damaged := q.damaged || damaged || decide (ok.length < c.length) }
        let ps := c.filterMap x.passageOf
        let s := (s.inStage handle .passageFetch).modReq handle (fun r => { r with passages := ps })
        .next ((s.queryDone q).pastStage handle .passageFetch)
  | _, _ => .next s

/-- Queries that name a program slot (CSU_PROG_LOAD: busy). -/
def State.slotUsed (s : State) (slot : Nat) : Bool :=
  s.idx.queries.any (fun p => match s.index p.2.index with
    | some x => progSlot p.2.blk.prog x.desc.metric == slot && p.2.step != .done
    | none => false)

/-- The program words of an image; none when the image is refused INVALID_ENCODING (table "Program image (144 bytes, 64-byte
aligned)", R269). -/
def parseImage (bs : List Byte) : Option (List ProgWord) :=
  let w0 := leNat (bs.take 8)
  let len := bitsOf w0 13 8
  let ws := words 4 32 (bs.drop 16)
  if bitsOf w0 7 0 ≠ 1 ∨ bitsOf w0 63 14 ≠ 0 ∨ len = 0 ∨ 32 < len ∨ leNat ((bs.drop 8).take 8) ≠ 0 ∨ (ws.drop len).any (fun w => w != 0) then none
  else
    let p := (ws.take len).map parseProg
    if p.all (fun w => w.legal) then some p else none

/-- CSU_PROG_LOAD: a write of GO loads the image at ADDR into SLOT of every CSU, or refuses it, with the result in CSU_PROG_STAT;
the write is dropped while an admitted query names the slot (R16, R269). -/
def execCsuProgLoad (slot addr : Nat) (s : State) : Res :=
  if s.slotUsed slot then .next (s.cfgDropped F.CSU_PROG_LOAD_GO)
  else if slot < 5 then .next (s.put F.CSU_PROG_STAT_RESULT 3)
  else match (if addr % 64 = 0 then parseImage (s.load svc addr 144) else none) with
    | none => .next (s.put F.CSU_PROG_STAT_RESULT 2)
    | some p =>
      let slot := slot % 16
      let s := { s with idx := { s.idx with progs := Sparse.put s.idx.progs slot p } }
      let valid := s.get F.CSU_PROG_STAT_VALID
      let s := (s.put F.CSU_PROG_STAT_RESULT 1).put F.CSU_PROG_STAT_VALID (valid ||| 2 ^ slot)
      let s := (s.put (F.CSU_PROG_COST_COST slot) ((p.map (fun w => w.cost)).foldl (· + ·) 0)).put (F.CSU_PROG_COST_USES_A slot) (b2n (usesA p))
      let s := (s.put (F.CSU_PROG_COST_USES_B slot) (b2n (usesB p))).put (F.CSU_PROG_COST_USES_BITMAP slot) (b2n (usesBitmap p))
      .next ((s.put (F.CSU_PROG_COST_USES_NUM slot) (b2n (usesNum p))).put (F.CSU_PROG_COST_USES_QCODE slot) (b2n (usesQcode p)))

end Sys2Proof.Machine
end

