-- ==== Sys2Proof/Machine/Requests.lean ====
section
/-! DEFINITION. The descriptors of the tenant rings (spec/14 R364 to R368, R380, R386, R387; spec/01 R19 to R31). -/

namespace Sys2Proof.Machine

/-! ### Reading a descriptor (R364, R365, R368) -/

/-- HEAD is written into the ring's control line. -/
def State.showHead (s : State) (tid ring head : Nat) : State := match s.brixuxWin tid with
  | none => s
  | some w => s.store tid (w.va + s.get (F.DSP_RING_WIN_OFFSET (completionKey tid ring)) + 8) (leBytes 4 head)

/-- Whether the part can read the ring's next descriptor: start-up is over, the ring is there and holds one, its completions are not held
back by a full ring (R25, R369), and the tenant holds fewer than 4,096 (R365, R380, R467). -/
def State.readable (s : State) (x : RingRead) : Bool :=
  let k := completionKey x.tid x.ring
  s.on F.PART_STAT_READY && decide (x.tid < svc) && decide (x.ring < 4) && s.get (F.DSP_RING_WIN_SIZE k) != 0
    && s.get (F.DSP_RING_PTR_HEAD k) != s.get (F.DSP_RING_PTR_TAIL k) && decide ((s.heldOf x.tid).length < 4096)
    && !s.holdsBack k && decide (s.now ≤ x.time)

/-- Reads the next descriptor of a ring: HEAD advances, and the descriptor has its handle (R364, R365). Log entry 41: DEDUCED, unsafe. -/
def State.readDesc (s : State) (x : RingRead) : Req × State :=
  let k := completionKey x.tid x.ring
  let s := s.tick x.time
  let head := s.get (F.DSP_RING_PTR_HEAD k)
  let n := Sparse.get 0 s.dsp.counts x.tid
  let key := bellKey k head
  let bell := (Sparse.find s.dsp.bells key).getD s.now
  let handle := x.tid * 2 ^ 48 + x.ring * 2 ^ 44 + n % 2 ^ 44
  let s := { s with dsp := { s.dsp with counts := addAt s.dsp.counts x.tid 1, bells := Sparse.erase s.dsp.bells key } }
  (⟨handle, 0, x.tid, x.ring, x.d, bell, .held, .tokenisation, false, none, false, none, [], 0, [], [], [], Tally.zero⟩,
   (s.put (F.DSP_RING_PTR_HEAD k) (head + 1)).showHead x.tid x.ring ((head + 1) % 2 ^ 32))

/-- A descriptor with a reserved encoding. -/
def ReqDesc.reserved (d : ReqDesc) : Bool :=
  d.resv || d.format != 1 || d.kind == 0 || decide (6 < d.kind) || (d.inline_ && d.questionVa != 0)
    || (d.kind == 1 && d.generate && (decide (d.streamLog2 < 4) || decide (16 < d.streamLog2)))

/-- How a descriptor completes without further effect (R368), but for the check of a target. -/
def State.descStop (s : State) (x : RingRead) : Option (Nat × Nat) :=
  if ReqDesc.reserved x.d then some (stInvalidEncoding, 0)
  else if s.on (F.DSP_TNT_CFG_ENABLED x.tid) = false then some (stRejectedPolicy, 0x0E03)
  else if x.d.kind = 1 ∧ (2 ^ 20 < x.d.questionLen ∨ (x.d.inline_ ∧ 128 < x.d.questionLen)) then some (stFailed, 0x0E04)
  else none

/-- A request or update ends as it is read. -/
def State.endAtOnce (s : State) (r : Req) (status detail : Nat) : State := (s.setReq r).endReq r.handle status detail

/-! ### Admission (R19, R20, R22, R340) -/

/-- Whether the tenant's encoder of a stage is there. -/
def State.encoderHere (s : State) (tid i : Nat) : Bool := match s.usableInst tid i with
  | some x => x.hdr.encoder
  | none => false

/-- How a request ends before any of its stages runs. Log entry 57: DEDUCED, unsafe. -/
def State.admitStop (s : State) (r : Req) : Option (Nat × Nat) :=
  let d := r.d
  if s.isDecode then some (stRejectedPolicy, 0)
  else if (d.rerank ∧ d.retrieve = false) ∨ (d.generate = false ∧ d.retrieve = false ∧ d.rerank = false) then some (stFailed, 0x0101)
  else match (if d.retrieve then s.searchStop r.tid d else none) with
    | some x => some x
    | none =>
      if d.retrieve ∧ d.search.qvecGiven = false ∧ s.encoderHere r.tid d.embedInst = false then some (stFailed, dModelAbsent)
      else if d.rerank ∧ s.encoderHere r.tid d.rerankInst = false then some (stFailed, dModelAbsent)
      else if d.generate then s.genStop r.tid d.gen else none

/-- Admits a request: it takes its place, its snapshot and its first stage (R19, R22). -/
def State.admitReq (s : State) (r : Req) : State := match s.admitStop r with
  | some (status, detail) => s.endAtOnce r status detail
  | none =>
    let order := s.gen.nextOrder
    let r := { r with order := order, state := .admitted, stage := (stagesOf r.d).headD .tokenisation }
    let s := { s.setReq r with gen := { s.gen with nextOrder := order + 1 } }
    if r.d.retrieve then s.admitQuery r.handle order r.d.search else s

/-- The commands of an update: those that assign its inserts, and for each text without tokens an OPEN with the index's dictionary and a
FEED of the text with LAST (R234, R241). -/
def updateItems (d : IdxDesc) (handle tid : Nat) (batch : List UpdEntry) (items : List QEntry) : Bool :=
  let texts := batch.filter (fun e => e.op == 1 && e.tokens == 0 && d.dictId != 0xFFFF)
  let jobs := items.filter (fun e => !seqItem handle tid e)
  let opens := jobs.filterMap (QEntry.txu 1)
  let feeds := jobs.filterMap (QEntry.txu 2)
  items.any (seqItem handle tid) == batch.any (fun e => e.op == 1)
    && jobs.length == 2 * texts.length && opens.length == texts.length && feeds.length == texts.length
    && jobs.all (fun e => e.job.handle == handle && e.chargeTid == tid && !e.svcCharge) && opens.all (fun o => o.dictId == d.dictId)
    && (texts.zip feeds).all (fun p => p.2.last && p.2.inLen == p.1.textBytes && opens.any (fun o => o.stream == p.2.stream))

/-- Admits an update: its batch is checked whole and prepared, its commands are queued, and it commits once they are done and nothing stands
in its way (R234, R239, R241); none when `items` are not its commands, or its queue has no room (R25). -/
def State.admitUpdate (s : State) (r : Req) (items : List QEntry) : Option State :=
  match (s.index r.d.index).filter (fun x => x.state == .ready && x.desc.tid == r.tid) with
  | none => some (s.endAtOnce r stFailed dIdxAbsent)
  | some x =>
    if badBatch x.desc r.d.batch then some (s.endAtOnce r stInvalidEncoding 0)
    else match s.checkBatch x r.d.batch with
      | .error detail => some (s.endAtOnce r stFailed detail)
      | .ok ps =>
        if updateItems x.desc r.handle r.tid r.d.batch items = false ∨ s.queueRoom r.tid items.length = false then none
        else
          let s := (s.setReq { r with state := .admitted }).setIndex
            { x with updates := x.updates ++ [⟨r.handle, ps, items.map (fun e => e.job.cmdId), [], 0, [], none, 0⟩] }
          some ((s.enqueueAll false items).stirIndex r.d.index)

def State.takeIn (s : State) (r : Req) (items : List QEntry) : Option State := if r.d.kind = 2 then s.admitUpdate r items else some (s.admitReq r)

/-- Whether a tenant's requests are held before admission (R380). Log entry 58: DEDUCED, unsafe. -/
def State.holds (s : State) (tid : Nat) : Bool := !s.on F.DSP_CTL_ADMIT_EN || (!s.weighted tid && decide (s.credits tid ≤ 0))

/-- A request or update, read and checked, is refused, held or admitted; no descriptor of a ring is admitted before an earlier one
(R26, R380). -/
def State.takeReq (s : State) (r : Req) (items : List QEntry) : Option State :=
  if s.weighted r.tid = false ∧ s.credits r.tid ≤ 0 ∧ s.on (F.DSP_TNT_CFG_OVER_REFUSE r.tid) then some (s.endAtOnce r stOverBudget 0)
  else if s.holds r.tid ∨ (s.heldOf r.tid).any (fun h => h.ring == r.ring) then some (s.setReq r)
  else s.takeIn r items

/-- REQUEST: a descriptor is read, checked and admitted, or held (R19 to R22, R364 to R368, R380). A descriptor of a reserved KIND is
refused here too. -/
def execRequest (x : RingRead) (s : State) : Res :=
  if s.readable x ∧ (x.d.kind < 2 ∨ 6 < x.d.kind) then
    let (r, t) := s.readDesc x
    match t.descStop x with
    | some (status, detail) => .next (t.endAtOnce r status detail)
    | none => .next ((t.takeReq r []).getD s)
  else .next s

/-- INDEX_UPDATE: a batch of inserts and deletes is committed whole, or fails whole (R241). `x.items` are the commands of the update (R234); one
that its tenant's queue has no room for is not read (R25). -/
def execIndexUpdate (x : UpdateRead) (s : State) : Res :=
  if s.readable x.read ∧ x.read.d.kind = 2 then
    let (r, t) := s.readDesc x.read
    match t.descStop x.read with
    | some (status, detail) => .next (t.endAtOnce r status detail)
    | none => .next (((t.takeReq r x.items).map (fun t => t.markReady)).getD s)
  else .next s

/-! ### Control descriptors (R28 to R31, R357, R363, R367, R387) -/

/-- The service inbox takes the entries that wait, as far as it has room (R465). -/
def State.drainInbox : Nat → State → State
  | 0, s => s
  | fuel + 1, s => match s.dsp.svcWaiting with
    | [] => s
    | e :: rest =>
      let size := s.get F.PART_SVC_IN_SIZE
      let tail := s.get F.PART_SVC_IN_PTR_TAIL
      if size = 0 ∨ 2 ^ size ≤ (tail + 2 ^ 32 - s.get F.PART_SVC_IN_PTR_HEAD) % 2 ^ 32 then s
      else
        let s := { s with dsp := { s.dsp with svcWaiting := rest } }
        State.drainInbox fuel ((s.store svc (s.get F.PART_SVC_IN_BASE + tail % 2 ^ size * 128) e).put F.PART_SVC_IN_PTR_TAIL (tail + 1))

/-- Writes an entry into the service inbox, or holds it while the inbox is full (spec/19 "Service requests"). -/
def State.inbox (s : State) (handle tid kind tag : Nat) (message : List Byte) : State :=
  let e := leBytes 8 handle ++ leBytes 8 (tid + kind * 2 ^ 16) ++ leBytes 8 tag ++ List.replicate 40 0 ++ padded 64 (message.take 64)
  State.drainInbox (s.dsp.svcWaiting.length + 1) { s with dsp := { s.dsp with svcWaiting := s.dsp.svcWaiting ++ [e] } }

/-- The request of a tenant that a control descriptor names. -/
def State.target (s : State) (r : Req) : Option Req := (s.req r.d.target).filter (fun x => x.tid == r.tid)

/-- Whether a DECODE part holds pages of a request whose manifest it has not acknowledged (R363). -/
def State.unowned (s : State) (handle : Nat) : Bool :=
  let mine := fun (tid shipId : Nat) => tid * 2 ^ 48 + shipId % 2 ^ 44 == handle
  s.gen.grants.any (fun g => mine g.tid g.shipId) || s.gen.claims.any (fun c => mine c.tid c.shipId)

/-- A cancel acts on its target: the state afterwards and the cancel's status (R28, R29, R357, R387). Log entry 56: DEDUCED, unsafe. -/
def State.cancelReq (s : State) (r t : Req) : State × Nat :=
  let updated := t.d.kind == 2 && (match s.index t.d.index with
    | some x => x.updates.any (fun u => u.handle == t.handle && u.seq != 0)
    | none => false)
  let (closing, inPass) := match s.greq t.handle with
    | some g => (g.closing, g.inPass)
    | none => (false, false)
  if t.ended ∨ updated then (s, stAlreadyFinished)
  else if closing then (s.bumpSat F.GEN_RACE_COMMIT_FIRST 1, stAlreadyFinished)
  else if t.d.kind = 6 then (s.inbox t.handle t.tid 3 r.d.tag [], stDone)
  else
    let s := if inPass ∧ t.ending.isNone then s.bumpSat F.GEN_RACE_CANCEL_FIRST 1 else s
    let s := s.stopReq t.handle stCancelled 0
    (if t.d.kind = 2 then s.stirIndex t.d.index else s, stDone)

/-- Reads a control descriptor of a KIND and acts on its target. -/
def State.control (s : State) (x : RingRead) (kind : Nat) (f : State → Req → Req → State) : Res :=
  if s.readable x ∧ x.d.kind = kind then
    let (r, s) := s.readDesc x
    match s.descStop x with
    | some (status, detail) => .next (s.complete r status detail)
    | none => match s.target r with
      | none =>
        if kind = 3 ∧ s.isDecode ∧ s.unowned x.d.target ∧ x.d.target / 2 ^ 48 = x.tid then .next (s.complete r stRejectedPolicy dNotOwner)
        else .next (s.complete r stFailed 0x0E01)
      | some t => .next (f s r t)
  else .next s

/-- CANCEL: stops its target, discards its outputs and ends it CANCELLED (R28, R29, R357, R387). -/
def execCancel (x : RingRead) (s : State) : Res :=
  s.control x 3 (fun s r t =>
    let (s, status) := s.cancelReq r t
    (s.complete r status 0).markReady)

/-- SUSPEND: the target is held at its next command or page boundary, and the descriptor then completes (R30, R387). -/
def execSuspend (x : RingRead) (s : State) : Res :=
  s.control x 4 (fun s r t =>
    if t.ended then s.complete r stAlreadyFinished 0
    else if t.d.kind ≠ 1 then s.complete r stFailed 0x0E02
    else
      let s := { s with dsp := { s.dsp with suspends := s.dsp.suspends ++ [(t.handle, r)] } }
      (s.setReq { t with suspended := true }).settleSuspends t.handle)

/-- RESUME: a SUSPENDED target continues in the stage that it left (R31, R387). -/
def execResume (x : RingRead) (s : State) : Res :=
  s.control x 5 (fun s r t =>
    if t.ended then s.complete r stAlreadyFinished 0
    else if t.d.kind ≠ 1 then s.complete r stFailed 0x0E02
    else
      let (mine, rest) := s.dsp.suspends.partition (fun p => p.1 == t.handle)
      let s := mine.foldl (fun s p => s.complete p.2 stDone 0) { s with dsp := { s.dsp with suspends := rest } }
      (s.setReq { t with suspended := false }).complete r stDone 0)

/-- SERVICE: the descriptor goes into the service inbox, and waits for its completion by service software (R367, R465). -/
def execService (x : RingRead) (s : State) : Res :=
  if s.readable x ∧ x.d.kind = 6 ∧ s.dsp.svcWaiting = [] then
    let (r, s) := s.readDesc x
    match s.descStop x with
    | some (status, detail) => .next (s.complete r status detail)
    | none =>
      let s := s.setReq { r with state := .admitted }
      .next ({ s with dsp := { s.dsp with svcOpen := s.dsp.svcOpen ++ [r.handle] } }.inbox r.handle r.tid 6 r.d.tag r.d.message)
  else .next s

/-- The blocks of a descriptor as they are read at admission (R258, spec/13 "The generation block"; spec/09 "Committing an update"). -/
def ReqDesc.readAgain (d e : ReqDesc) : ReqDesc := { d with search := e.search, gen := e.gen, stop := e.stop, batch := e.batch }

/-- HELD_REQUEST_ADMIT: the oldest held descriptor of a ring is admitted, once ADMIT_EN is 1 and the tenant's credits are positive
(R380). Its blocks, in `h.d`, are read now (R258); `h.items` are the commands of an update. -/
def execHeldRequestAdmit (h : HeldRead) (time : Nat) (s : State) : Res := match s.req h.handle with
  | none => .next s
  | some r =>
    let first := ((s.heldOf r.tid).filter (fun q => q.ring == r.ring)).foldl (fun (m : Nat) q => Nat.min m (q.handle % 2 ^ 44)) (r.handle % 2 ^ 44)
    if r.live ∧ r.state = .held ∧ r.ending.isNone ∧ s.holds r.tid = false ∧ first = r.handle % 2 ^ 44 ∧ s.now ≤ time then
      .next ((((s.tick time).takeIn { r with d := ReqDesc.readAgain r.d h.d } h.items).map (fun t => t.markReady)).getD s)
    else .next s

end Sys2Proof.Machine
end

