-- ==== Sys2Proof/Machine/Manage.lean ====
section
/-! DEFINITION. The commands of management: service completions, the boot NOR and PLDM (spec/19; log entries 36 and 37: DESIGN CHOICE, unsafe). -/

namespace Sys2Proof.Machine

/-- PART_SVC_DONE: a write with GO completes the service request of PART_SVC_DONE_H; a second completion of a handle is dropped (R465). Log entry 64: DEDUCED, unsafe. -/
def execPartSvcDone (v : Nat) (s : State) : Res :=
  let h := s.get F.PART_SVC_DONE_H_REQ_HANDLE
  if v.testBit 31 = false ∨ s.dsp.svcOpen.contains h = false then .next s
  else .next (({ s with dsp := { s.dsp with svcOpen := s.dsp.svcOpen.filter (fun x => x != h) } }.endReq h (v / 2 ^ 16 % 256) (v % 2 ^ 16)).markReady)

/-! ### Boot NOR (R466) -/

/-- Where image B begins, and where the image ranges end (table "Boot NOR layout"). -/
def norB : Nat := 0x4100000
def norEnd : Nat := 0x8200000

/-- Bytes of an operation: LENGTH 0 stands for 16 MiB (log entry 36: DESIGN CHOICE, unsafe). -/
def NorOp.bytes (r : NorOp) : Nat := if r.length % 2 ^ 24 = 0 then 2 ^ 24 else r.length % 2 ^ 24

/-- Whether Bezel may erase or program a range: it lies in one image's range, and not in that of the running image while no other acceptable
image is present (R466). -/
def State.norAllows (s : State) (a n : Nat) (other : Bool) : Bool :=
  let inA := decide (a + n ≤ norB)
  let inB := decide (norB ≤ a) && decide (a + n ≤ norEnd)
  let mine := s.onx.running && (if s.on F.ONX_STAT_IMAGE_B then inB else inA)
  (inA || inB) && (other || !mine)

/-- RESULT of MGT_NOR_CTL: 1 done, 2 DENIED, 3 device error. -/
def State.norEnds (s : State) (result : Nat) : State := (s.put F.MGT_NOR_CTL_RESULT result).put F.MGT_NOR_CTL_BUSY 0

/-- An erase or program operation. -/
def State.norWrite (s : State) (r : NorOp) (f : List (Nat × Byte) → List (Nat × Byte)) : State :=
  if s.norAllows (r.addr % 2 ^ 28) (NorOp.bytes r) r.other = false then s.norEnds 2
  else if r.broken then s.norEnds 3
  else { s with mgt := { s.mgt with nor := f s.mgt.nor } }.norEnds 1

/-- NOR_ERASE: 64 KiB blocks; anything else is refused (log entry 36: DESIGN CHOICE, unsafe). -/
def execNorErase (r : NorOp) (s : State) : Res :=
  let a := r.addr % 2 ^ 28
  if a % 65536 ≠ 0 ∨ NorOp.bytes r % 65536 ≠ 0 then .next (s.norEnds 2)
  else .next (s.norWrite r (fun m => Sparse.splice m a (NorOp.bytes r) []))

/-- NOR_PROGRAM: `data` are the bytes at BUF. -/
def execNorProgram (r : NorOp) (data : List Byte) (s : State) : Res :=
  if data.length ≠ NorOp.bytes r then .next s
  else .next (s.norWrite r (fun m => Sparse.write 0xFF m (r.addr % 2 ^ 28) data))

/-- The bytes that a read of the NOR returns: those of the image ranges; the others are not Bezel's, and open values (log entry 36: DESIGN CHOICE, unsafe). -/
def State.norBytes (s : State) (a n : Nat) : List Byte := (List.range n).map (fun i =>
  if a + i < norEnd then Sparse.get 0xFF s.mgt.nor (a + i) else (Config.freeValue (s.free + i)).setWidth 8)

/-- NOR_READ: bytes of the NOR are put into Bezel's memory. -/
def execNorRead (r : NorOp) (s : State) : Res :=
  if r.broken then .next (s.norEnds 3)
  else
    let n := NorOp.bytes r
    let bs := s.norBytes (r.addr % 2 ^ 28) n
    .next ({ s with free := s.free + n, mgt := { s.mgt with bezel := Sparse.write 0 s.mgt.bezel (r.buf % 2 ^ 40) bs } }.norEnds 1)

/-! ### PLDM (R470, R475) -/

/-- Records of a severity that are held. -/
def State.recordsOf (s : State) (v : Sev) : Nat := (s.rec_.store.filter (fun (r : EvRec) => !r.released && r.sev == v)).length

/-- The sensors (table "PLDM sensors and effecters"); how 25 and 27 join their parts is log entry 37: DESIGN CHOICE, unsafe. -/
def State.sensors (s : State) : List (Nat × Nat) :=
  [((1 : Nat), s.get F.PWR_INPUT_VIN_MV), (2, s.get F.PWR_INPUT_IIN), (3, s.get F.PWR_INPUT_POWER_W), (4, s.get F.PWR_TEMP_TJ_C0), (5, s.get F.PWR_TEMP_TJ_C1),
    (6, s.get F.PWR_TEMP_TJ_H)]
  ++ (List.range 16).map (fun k => (7 + k, if k < s.stacks then s.get (F.HBM_STAT_TEMP k) else 0))
  ++ [((23 : Nat), s.get F.PWR_SURGE_CREDIT_MS), (24, s.get F.PWR_STAT_SHED), (25, s.get F.PART_STAT_STAGE + 16 * s.get F.PART_STAT_READY), (26, s.get F.GEO_TIER_STATE),
    (27, (s.rec_.store.filter (fun (r : EvRec) => !r.released)).length + s.recordsOf .fatal * 2 ^ 20 + s.recordsOf .error * 2 ^ 40)]

/-- PLDM_SENSOR_UPDATE: every 100 ms (R470). -/
def execPldmSensorUpdate (time : Nat) (s : State) : Res :=
  if s.pwr.off = false ∧ s.mgt.sensedAt + 10000000 ≤ time ∧ s.now ≤ time then
    let s := s.tick time
    .next { s with mgt := { s.mgt with sensors := s.sensors, sensedAt := s.now } }
  else .next s

/-- PLDM_READ_EVENT_LOG: the board controller reads the next record through window 1 (R475). -/
def execPldmReadEventLog (s : State) : Res :=
  if s.pwr.off then .next s
  else
    let s := s.latch 1
    let bs := match s.rec_.latch1 with
      | some r => r.bytes
      | none => List.replicate 64 0
    .next ((s.emit (.eventLog bs)).advance 1)

end Sys2Proof.Machine
end

