-- ==== Sys2Proof/Machine/Matrix.lean ====
section
/-! DEFINITION. The matrix operations of a kernel (spec/04). -/

namespace Sys2Proof.Machine

/-- MLOAD.W (R101, R106, R112, R128). -/
def execMloadW (c : Nat) (sa sf : Reg5) (pairing : BitVec 4) (cscale : BitVec 1) (zero : BitVec 39) (s : State) : Res :=
  onCore c s (fun free k => (mloadOp c sa sf pairing cscale zero free k).showTiles c)

/-- MRUN (R102 to R106, R110 to R113). -/
def execMrun (c : Nat) (sa sm sr sf : Reg5) (rscale : BitVec 2) (accum swap : BitVec 1) (colsel : BitVec 2)
    (pairing : BitVec 4) (zero : BitVec 24) (s : State) : Res :=
  onCore c s (fun free k => (mrunOp c s.arrays sa sm sr sf rscale accum swap colsel pairing zero free k).showTiles c)

/-- MDRAIN (R104, R105). -/
def execMdrain (c : Nat) (sd sm sr : Reg5) (clear : BitVec 1) (zero : BitVec 38) (s : State) : Res :=
  onCore c s (fun _ => mdrainOp c s.arrays sd sm sr clear zero)

/-- MTOV (R104, R105). -/
def execMtov (c : Nat) (vd sr : Reg5) (clear : BitVec 1) (zero : BitVec 43) (s : State) : Res :=
  onCore c s (fun _ => mtovOp c s.arrays vd sr clear zero)

end Sys2Proof.Machine
end

