-- ==== Sys2Proof/Machine/StartOps.lean ====
section
/-! DEFINITION. Start-up from power-on and from a warm restart (spec/18 "Verified and measured boot", spec/19 "Start-up"; log
entry 31). -/

namespace Sys2Proof.Machine

/-! ### Measurement (R453) -/

/-- The 32 bytes of a measurement register. -/
def State.measured_ (s : State) (i : Nat) : List Byte := (List.range 4).flatMap (fun n => leBytes 8 (s.get (F.ONX_MEAS_VALUE i n)))

/-- Extends a measurement register with a digest. -/
def State.extend (s : State) (i : Nat) (digest : List Byte) : State :=
  let h := sha256 (s.measured_ i ++ digest)
  (List.range 4).foldl (fun s n => s.put (F.ONX_MEAS_VALUE i n) (leNat ((h.drop (8 * n)).take 8))) s

/-- Whether Onyx accepts an image (R451). -/
def State.accepts (s : State) (x : Image) : Bool :=
  x.fields && !(s.get F.ONX_STAT_ROOTS_REVOKED).testBit x.root && x.pubkey && x.signature && decide (s.get F.ONX_STAT_SVN_FLOOR ≤ x.svn) && x.body

/-- The image that boots, and whether it is image B (R452). -/
def State.bootImage (s : State) (b : Boot) : Option (Image × Bool) := match b.imageA.filter s.accepts, b.imageB.filter s.accepts with
  | some x, _ => some (x, false)
  | none, some x => some (x, true)
  | none, none => none

/-! ### What survives (R453, R462, R467, R469, R472) -/

/-- Registers that keep their values over a warm restart: those of D19 and D20 that no start-up step rewrites. -/
def keepWarm (id : Nat) : Bool :=
  let a := id / 64 % 2 ^ 25
  let off := a % 2 ^ 20
  match a / 2 ^ 20 with
  | 0 => off == 0 || off == 8 || off == 16
  | 1 => off == 8
  | 18 => off == 16
  | 19 => true
  | 20 => off == 0x20 || off == 0x30
  | 21 => off != 0x08 && off != 0x10 && off != 0x14
  | 23 => true
  | 24 => true
  | _ => false

/-- Registers that stand in fuses, in boot NOR or in the sealed store. -/
def keepCold (id : Nat) : Bool :=
  let a := id / 64 % 2 ^ 25
  let off := a % 2 ^ 20
  match a / 2 ^ 20 with
  | 0 => off == 0 || off == 8 || off == 16
  | 19 => off == 16 && id % 64 == 32
  | 20 => off == 0x20 || off == 0x30
  | 21 => (off == 0 && decide (id % 64 < 27)) || off == 0x28 || off == 0x30 || off == 0x38
  | 23 => off == 0x10 || off == 0x18 || off == 0xC8
  | 24 => off == 8 && id % 64 == 0
  | _ => false

/-- The domains of the variant (R4, table "Power domains and their contents"). -/
def State.fullDomains (s : State) : List Nat :=
  ((List.range 20).map (fun d => d + 1)).filter (fun d =>
    !(s.cores_ == 16 && [5, 6, 7, 8, 10, 12, 16].contains d) && !(s.bays == 0 && [15, 16].contains d))

/-- SEQ after a power-on reset (R472). -/
def resumeSeq (next : Nat) (mirror : List EvRec) : Nat := match mirror.map (fun r => r.seq) with
  | [] => next
  | n :: r => r.foldl Nat.max n + 65536

/-- Registers at their reset values but for those that survive; nothing staged and nothing locked (R10). -/
def State.resetRegs (s : State) (keep : Nat → Bool) : State :=
  { s with regs := s.regs.filter (fun p => keep p.1), locks := [], staged := [] }

/-- Step 1 of a start-up: D20's power-on reset, its persistent counts and the recorder's mirror (R472, R478). -/
def State.stepOne (s : State) : State :=
  let s := s.resetRegs keepCold
  let s := s.put F.EVR_SEQ_NEXT (resumeSeq (s.get F.EVR_SEQ_NEXT) s.rec_.mirror)
  let s := (s.bump F.EVR_CYCLES_POWER_CYCLES 1).put F.EVR_TIME_OP_SECONDS s.rec_.savedSeconds
  let back := s.rec_.mirror.map (fun (r : EvRec) => { r with released := false, mirrored := true })
  { s with
    pwr := Pwr.reset
    rec_ := ⟨back, [], none, none, back, 0, none, s.rec_.savedSeconds⟩
    onx := { s.onx with running := false, saks := [] }
    dsp := { s.dsp with periodAt := 0 }
    tier := { s.tier with ckptAt := 0, gatherSince := 0 }
    geo := { s.geo with patrolAt := 0, patrolLate := false }
    ras := { s.ras with hourAt := 0, hour := [], high := [], lines := [], d2d := [], scrubLine := 0, scrubAt := 0, scrubWord := 0, storeAt := 0, hbmLate := false, storeLate := false }
    mgt := { s.mgt with bezel := [], sensors := [], sensedAt := 0 } }

/-- A register of a key slot: ONX_SLOT_STAT or ONX_SLOT_KCV. -/
def slotReg (id : Nat) : Bool := id / 64 % 2 ^ 25 == 22020136 || id / 64 % 2 ^ 25 == 22020144

/-- Every key slot is EMPTY (R450, R461). -/
def State.emptySlots (s : State) : State := { s with regs := s.regs.filter (fun p => !slotReg p.1) }

/-- Step 2: Onyx reads its sealed store (R450). -/
def State.readStore (s : State) (ok : Bool) : State :=
  if ok then s
  else ({ s.emptySlots with onx := { s.onx with officers := [] } }.put F.ONX_STAT_OFFICERS 0).event evOnxStoreLost .fatal none 0 0

/-- Step 3: an image is accepted, measured and released (R451 to R453). -/
def State.runImage (s : State) (x : Image) (second : Bool) : State :=
  let s := { s with onx := { s.onx with running := true, runSvn := x.svn, runRoot := x.root } }
  let s := (((s.put F.ONX_STAT_STATE 1).put F.ONX_STAT_IMAGE_B (b2n second)).extend 1 (sha256 x.header)).put F.PART_STAT_STAGE 4
  if second then s.event evBootFallback .warning none 0 0 else s

/-- Step 5: the stacks are trained (R438). -/
def State.trainStacks (s : State) (bad : List Nat) : State :=
  ((List.range s.stacks).foldl (fun s k => if bad.contains k then s.failStack k else s.put (F.HBM_STAT_STATE k) 2) s).placeTables

/-- A checker of a unit has failed: a core (0), a stack (1) or a bay (2) (R445). -/
def State.checkerFailed (s : State) (kind n : Nat) : State :=
  let f := if kind = 0 then F.RAS_SELFTEST_CORES else if kind = 1 then F.RAS_SELFTEST_STACKS else F.RAS_SELFTEST_BAYS
  let old := s.get f
  let s := (if old.testBit n then s else s.put f (old + 2 ^ n)).event evSelftestFail .error none n kind
  match kind with
  | 0 => (s.retireCore n 0).settleCore n
  | 1 => s.failStack n
  | _ => s

/-- Step 6: the checker self-test; a facet store's checker retires the facet with its four cores (R444, R445). -/
def State.selfTest (s : State) (b : Boot) : State :=
  let bad := (b.badCores ++ b.badFacets.flatMap (fun f => [4 * f, 4 * f + 1, 4 * f + 2, 4 * f + 3])).dedup.filter (fun c => decide (c < s.cores_))
  let s := bad.foldl (fun s c => s.checkerFailed 0 c) s
  let s := (b.badDecoders.dedup.filter (fun (k : Nat) => decide (k < s.stacks))).foldl (fun s k => s.checkerFailed 1 k) s
  s.put F.RAS_SELFTEST_DONE 1

/-- Step 7: the cartridges, without the bays whose decoders failed (R211, R445). -/
def State.startBays (s : State) (b : Boot) : State :=
  let bad := b.badBays.dedup.filter (fun n => decide (n < s.bays))
  let s := s.startTier (b.carts.filter (fun p => !bad.contains p.1))
  bad.foldl (fun s n => (s.checkerFailed 2 n).bayGone n true) s

/-- The retirement list as a start-up finds it: without the entries that RAS_RETIRE_CLR marked (R437). -/
def State.clearRetired (s : State) : State :=
  let left := s.ras.listed.filter (fun e => !s.ras.clear.contains e)
  let units := (left.filter (fun e => decide (64 ≤ e))).map (fun e => e - 64)
  let s := { s with ras := { s.ras with listed := left, clear := [], units := units } }
  let s := (List.range 8).foldl (fun s f => s.put (facetUnits f) (Nat.min 255 (units.filter (fun u => u / 512 == f)).length)) s
  let cores := (List.range 32).filter (fun c => left.contains c)
  cores.foldl (fun s c => (s.put (F.CORE_CTL_RETIRE c) 1).settleCore c) (s.put F.RAS_RETIRED_CORES ((cores.map (fun c => 2 ^ c)).foldl (· + ·) 0))

/-- Whether a commit is whole among the records of the journal: its LAST record is there, and none of its records is missing (R194). -/
def wholeCommit (there missing : List JRec) (r : JRec) : Bool :=
  there.any (fun x => x.pub == r.pub && x.last) && !missing.any (fun x => x.pub == r.pub)

/-- A record is applied to its page, where that is still a durable one. -/
def State.applyRec (s : State) (r : JRec) : State :=
  let p := s.pte r.key
  if p.durable then
    { s with mem := ((List.range 32).filter (fun i => r.subpages.getLsbD i)).foldl (fun m i =>
      Sparse.write 0 m (r.key * pageBytes + i * subBytes) (Sparse.read 0 r.payload (i * subBytes) subBytes)) s.mem }.setPte
      r.key { p with dirty := p.dirty ||| r.subpages }
  else s

/-- Step 7, its end: the journal is replayed (R194). `found` names the stripes that were programmed whole and whose CRCs match, though no
acknowledgement was given. Records above the last checkpoint are applied in JSEQ order, those of whole commits alone; the rest are
discarded. MEM_JRN_SEQ is then the highest JSEQ applied. -/
def State.replay (s : State) (found : List Nat) : State :=
  let mine := s.tier.stripes.filter (fun p => found.contains p.1)
  let missing := (s.tier.stripes.filter (fun p => !found.contains p.1)).flatMap (fun p => p.2)
  let there := s.tier.covered ++ mine.flatMap (fun p => p.2)
  let recs := (there.filter (fun r => wholeCommit there missing r)).mergeSort (fun a b => decide (a.jseq ≤ b.jseq))
  let s := mine.foldl (fun s p => s.ackWork (.journal p.1)) s
  let s := recs.foldl (fun s r => s.applyRec r) s
  let top := recs.foldl (fun m r => Nat.max m r.jseq) 0
  let s := { s with
    tier := { s.tier with stripes := [], covered := recs, jseq := Nat.max s.tier.jseq top }
    geo := { s.geo with stripes := s.geo.stripes.map (fun (p : Nat × GStripe) => (p.1, { p.2 with work := none })) } }
  (s.put F.MEM_JRN_SEQ_JSEQ top).freeJournal

/-- Step 9: the ports train (R389, R468). -/
def State.trainPorts (s : State) (bad : List Nat) : State :=
  (List.range 16).foldl (fun s p => s.put (F.KTR_PORT_STAT_LINK p) (if bad.contains p then 1 else 2)) s

/-- Shedding steps 2 to 5, where they stay in force over a warm restart. -/
def State.reshed (s : State) : State :=
  let n := s.get F.PWR_STAT_SHED
  let s := if 2 ≤ n then (s.clearFields (shedFields 2)).put F.RAS_SCRUB_STAT_PAUSED 1 else s
  let s := if 3 ≤ n then s.clearFields (shedFields 3) else s
  let s := if 4 ≤ n then s.domains (s.shedFacets.map (fun f => f + 1)) false else s
  if 5 ≤ n then (List.range 8).foldl (fun s p => s.put (F.KTR_PORT_STAT_LINK (p + 8)) 4) (s.domains [14] false) else s

/-- Steps 3 to 10 of a start-up (table "Start-up from power-on"); it stops at step 3 without an image (R452, R468). -/
def State.bootFrom (s : State) (b : Boot) : State :=
  let s := s.put F.PART_STAT_STAGE 3
  match s.bootImage b with
  | none => ({ s with onx := { s.onx with running := false } }.put F.ONX_STAT_STATE 2).event evOnxBootFail .fatal none 0 0
  | some (x, second) =>
    let s := ((s.runImage x second).domains s.fullDomains true).clearRetired
    let s := ((((s.trainStacks b.badStacks).selfTest b).startBays b).replay b.found).trainPorts b.badPorts
    let s := (b.badLinks.dedup.filter (fun l => s.linkHere l)).foldl (fun s l => s.failLink l) s
    s.reshed.put F.PART_STAT_STAGE 10

/-- A start from power-on (R467): Onyx's self-test failing, it stops at step 2 (R448, R468). -/
def State.coldStart (s : State) (b : Boot) : State :=
  let s := (s.loseWork.stepOne).put F.MGT_STAT_LINK 2
  if b.onyx = false then ((s.put F.PART_STAT_STAGE 2).put F.ONX_STAT_STATE 3).event evOnxSelftestFail .fatal none 0 0
  else
    let s := (s.readStore b.store).extend 0 b.firmware
    { s with onx := { s.onx with kemGen := s.onx.kemGen + 1 } }.bootFrom b

/-- A warm restart (R469): from step 3, with D19 and D20 powered. -/
def State.warmStart (s : State) (b : Boot) : State :=
  let s := (s.loseWork.resetRegs keepWarm)
  let s := { s with pwr := { s.pwr with cleared := [], flushing := false }, onx := { s.onx with kemGen := s.onx.kemGen + 1, running := false } }
  s.bootFrom b

/-- A warm restart with its event; none from step 7 after a thermal trip or at EPOCH 15, nor while Onyx's self-test has failed (R425,
R448, R462). -/
def State.restart (s : State) (cause : Nat) (b : Boot) : State :=
  if s.pwr.tripped || s.get F.ONX_STAT_STATE == 4 || s.get F.ONX_STAT_STATE == 3 then s
  else (s.event evMgtRestart .notice none cause 0).warmStart b

end Sys2Proof.Machine
end

