-- ==== Sys2Proof/Machine/Starting.lean ====
section
/-! DEFINITION. The commands of start-up and restart (spec/19 "Start-up"; log entry 31: DEDUCED, unsafe). -/

namespace Sys2Proof.Machine

/-- POWER_ON_RESET: D20's power-on reset, and the start-up that follows (R467). -/
def execPowerOnReset (boot : Boot) (s : State) : Res :=
  if s.pwr.off = true ∨ s.get F.PART_STAT_STAGE = 1 then .next (s.coldStart boot) else .next s

/-- WARM_RESTART: a write of MGT_RESTART (cause 0; `v` its WARM bit), or a PLDM warm restart (cause 1) (R469). -/
def execWarmRestart (cause v : Nat) (boot : Boot) (time : Nat) (s : State) : Res :=
  if time < s.now then .next s
  else if cause = 0 ∧ v % 2 = 0 then .next s
  else .next ((s.account_ time).restart cause boot)

/-- PLDM_COLD_RESTART: every domain loses power for 100 ms, and a power-on reset follows (R471). -/
def execPldmColdRestart (boot : Boot) (s : State) : Res := .next (s.powerLost.coldStart boot)

/-- READY_WRITE: a write of PART_STAT.READY. The first locks it; descriptors are read once it is 1 (R10, R467). -/
def execReadyWrite (v : Nat) (s : State) : Res :=
  let f := F.PART_STAT_READY
  if s.locks.contains f.id then .next (s.cfgDropped f)
  else
    let s := { s with locks := f.id :: s.locks }
    if v % 2 = 0 then .next s else .next (((s.put f 1).put F.PART_STAT_STAGE 10).event evPartReady .info none 0 0)

end Sys2Proof.Machine
end

