-- ==== Sys2Proof/Machine/OnyxOps.lean ====
section
/-! DEFINITION. What Onyx's commands share (spec/18). Key bytes and the cryptography over them are outside the model: operands say what a
signature or an unwrapping gives (log entry 7: DESIGN CHOICE, safe). -/

namespace Sys2Proof.Machine

/-- Detail codes (table "Detail codes of Onyx failure"). -/
def dOnxAuth : Nat := 0x1201
def dKeyBusy : Nat := 0x1202
def dImportInvalid : Nat := 0x1203
def dKcvMismatch : Nat := 0x1204
def dRollbackLimit : Nat := 0x1205
def dMeasLocked : Nat := 0x1206
def dRootInUse : Nat := 0x1207

/-- How a command ends: status and detail. -/
abbrev OnxEnd := Nat × Nat

/-- Onyx takes the next command of its ring and ends it (R206); it serves none unless it is ready (R448, R452). -/
def State.onyx (s : State) (o : OnxOp) (f : State → State × OnxEnd) : Res :=
  if s.get F.ONX_STAT_STATE ≠ 1 then .next s
  else
    let s := s.opStart 21 o.opId false o.completion 0
    if o.resv then .next (s.opEnd 21 o.opId o.completion stInvalidEncoding 0 0 0)
    else
      let (s, status, detail) := f s
      .next ((s.opEnd 21 o.opId o.completion status detail 0 0).markReady)

/-- The state with an officer's counter taken, when an envelope is accepted (R449). -/
def State.officer (s : State) (env : Option Envelope) : Option State := match env with
  | none => none
  | some e => match Sparse.find s.onx.officers e.officer with
    | none => none
    | some (key, last) =>
      if e.verifies && decide (last < e.counter) then some { s with onx := { s.onx with officers := Sparse.put s.onx.officers e.officer (key, e.counter) } }
      else none

/-- Runs a command under an officer's authority: FAILED with ONX_AUTH, and counted, without it (R449). -/
def State.asOfficer (s : State) (env : Option Envelope) (f : State → State × OnxEnd) : State × OnxEnd := match s.officer env with
  | none => (s.bumpSat F.ONX_EVENTS_AUTH_FAIL 1, stFailed, dOnxAuth)
  | some s => f s

/-! ### Key slots (table "Key slot states") -/

/-- Slots as ONX_SLOT_SEL numbers them: tenants from 0, objects from 1,024, CAKs from 1,088. -/
def State.slotState (s : State) (x : Nat) : Nat := s.get (F.ONX_SLOT_STAT_STATE x)

/-- A slot takes a key (R450, R455). -/
def State.fillSlot (s : State) (x kcv : Nat) (generated : Bool) : State :=
  ((s.put (F.ONX_SLOT_STAT_STATE x) 1).put (F.ONX_SLOT_STAT_GENERATED x) (b2n generated)).put (F.ONX_SLOT_KCV_KCV x) kcv

/-- A slot is EMPTY again. -/
def State.clearSlot (s : State) (x : Nat) : State :=
  ((s.put (F.ONX_SLOT_STAT_STATE x) 0).put (F.ONX_SLOT_STAT_GENERATED x) 0).put (F.ONX_SLOT_KCV_KCV x) 0

/-- The slot that a blob names (table "Import blob (1,728 bytes)"). -/
def blobSlot (kind slot : Nat) : Option Nat :=
  if kind = 1 ∧ slot < 1024 then some slot
  else if kind = 2 ∧ slot < 64 then some (1024 + slot)
  else if kind = 3 ∧ slot < 16 then some (1088 + slot)
  else none

/-- The detail with which an import fails, if it does, looked for in the order of R455 (log entry 35: DEDUCED, unsafe). -/
def State.importStops (s : State) (o : OnxOp) (unwrapped : Option Nat) : Option Nat :=
  let w := s.word svc o.arg 8
  let gen := s.word svc (o.arg + 8) 8
  if bitsOf w 7 0 ≠ 1 ∨ bitsOf w 15 12 ≠ 0 ∨ bitsOf w 63 28 ≠ 0 ∨ blobSlot (bitsOf w 11 8) (bitsOf w 27 16) ≠ some o.slot then some dImportInvalid
  else if ¬(gen = s.onx.kemGen ∨ gen + 1 = s.onx.kemGen) then some dImportInvalid
  else match unwrapped with
    | none => some dImportInvalid
    | some kcv =>
      if kcv ≠ s.word svc (o.arg + 16) 8 then some dKcvMismatch
      else if s.slotState o.slot ≠ 0 then some dKeyBusy
      else none

/-- Whether a tenant still uses its key (R457). -/
def State.tenantBusy (s : State) (t : Nat) : Bool :=
  s.on (F.DSP_TNT_CFG_ENABLED t) || s.dsp.reqs.any (fun r => r.2.tid == t && !r.2.ended) || s.dsp.items.any (fun i => i.e.ctx == t)
    || s.dsp.running.any (fun r => r.2.e.ctx == t) || s.tier.ops.any (fun o => o.long && o.status != .ended && o.ctx == t)
    || s.ktr.exp.any (fun w => w.2.valid && !w.2.service && w.2.tid == t)

/-- The page keys of a context that are listed. -/
def State.pagesOfCtx (s : State) (ctx : Nat) : List Nat := (s.tier.pages.map (fun p => p.1)).filter (fun k => k / 2 ^ 27 == ctx)

/-- The tier manager gives up a tenant: its pages, its extent entries and its journal records (R457). -/
def State.dropTenant (s : State) (t : Nat) : State :=
  let s := (s.pagesOfCtx t).foldl (fun s k => s.unmapPage k) s
  let size := s.get F.GEO_EXT_TABLE_SIZE
  let mine := if size = 0 then [] else (List.range (2 ^ size)).filter (fun i => (s.extent i).any (fun (e : Extent) => e.tid == t))
  let s := mine.foldl (fun s i => s.store svc (s.get F.GEO_EXT_TABLE_BASE + 16 * i) (List.replicate 16 0)) s
  { s with tier := { s.tier with covered := s.tier.covered.filter (fun r => r.ctx != t) } }

/-! ### Attestation (R459) -/

/-- PART_CAPS as one word. -/
def State.caps (s : State) : Nat :=
  s.get F.PART_CAPS_CORES + s.get F.PART_CAPS_ARRAYS_PER_CORE * 2 ^ 6 + s.get F.PART_CAPS_HBM_STACKS * 2 ^ 9 + s.get F.PART_CAPS_GEODE_BAYS * 2 ^ 14
    + s.get F.PART_CAPS_TXU * 2 ^ 18 + s.get F.PART_CAPS_SELT * 2 ^ 19 + s.get F.PART_CAPS_SURGE * 2 ^ 20 + s.get F.PART_CAPS_EC_LAYOUT * 2 ^ 21

/-- Bytes 0x000 to 0x79F of a report on a tenant slot (table "Attestation report (19,040 bytes)"). -/
def State.reportBody (s : State) (slot : Nat) (nonce : List Byte) : List Byte :=
  leBytes 8 (1 + s.get F.ONX_STAT_DEBUG * 2 ^ 8 + s.get F.ONX_STAT_IMAGE_B * 2 ^ 9 + s.caps * 2 ^ 32)
    ++ leBytes 8 (s.get F.PART_SERIAL_SERIAL)
    ++ leBytes 8 (s.get F.EVR_CYCLES_POWER_CYCLES + s.get F.ONX_STAT_EPOCH * 2 ^ 32 + s.get F.ONX_STAT_SVN_FLOOR * 2 ^ 40)
    ++ leBytes 8 (s.onx.runSvn + slot * 2 ^ 32 + s.slotState slot * 2 ^ 42)
    ++ leBytes 8 (if s.slotState slot = 1 then s.get (F.ONX_SLOT_KCV_KCV slot) else 0)
    ++ leBytes 8 s.onx.kemGen
    ++ List.replicate 16 0
    ++ nonce
    ++ (List.range 32).map Config.identityKey
    ++ (List.range 8).flatMap s.measured_
    ++ (List.range 1568).map (Config.transportKey s.onx.kemGen)

/-- A report with its signature. -/
def State.reportOf (s : State) (slot : Nat) (nonce : List Byte) : List Byte :=
  let b := s.reportBody slot nonce
  b ++ (List.range 17088).map (Config.reportSignature b)

/-! ### Zeroisation (R461, R462) -/

/-- What zeroisation leaves of a page: only a page whose home is a plain fabric window can still be read (log entry 35: DEDUCED, unsafe). -/
def zeroPage (p : Pte) : Pte :=
  if p.state = .zero ∨ p.state = .shared ∨ p.state = .lost then p
  else if p.home = .fabric ∧ p.encHome = false then p
  else { p with state := .lost, frame := 0, dirty := 0, redirty := 0, cleaning := false }

/-- A bay whose cartridge's member record no longer verifies (R462). -/
def foreignBay (x : Bay) : Bay :=
  { x with cart := x.cart.map (fun (c : Cartridge) => { c with member := c.member.map (fun (m : MemberRec) => { m with own := false }) }) }

def foreignCart (c : CartInfo) : CartInfo :=
  { c with member := c.member.map (fun (m : MemberRec) => { m with own := false }) }

/-- The keys are gone: from the store, from every engine, and with them what they covered. -/
def State.eraseKeys (s : State) : State :=
  let s := { s.emptySlots with onx := { s.onx with officers := [], saks := [] } }.put F.ONX_STAT_OFFICERS 0
  let s := (List.range 16).foldl (fun s p => (s.put (F.KTR_PORT_STAT_MACSEC_UP p) 0).setPort p { s.port p with exhausted := true }) s
  { s with
    tier := { s.tier with
      covered := []
      gathered := []
      stripes := []
      pages := s.tier.pages.map (fun p => (p.1, zeroPage p.2)) }
    geo := { s.geo with
      bays := s.geo.bays.map (fun p => (p.1, foreignBay p.2))
      stripes := []
      map := []
      pages := [] } }

/-- Zeroisation for a cause (ONX_TAMPER.CAUSE): the part ends all work in step 7 and restarts from boot verification, unless EPOCH was at 15,
or the supply or a thermal trip keeps it in step 7 (R425, R461, R462). -/
def State.zeroised (s : State) (cause : Nat) (boot : Boot) : State :=
  let epoch := s.get F.ONX_STAT_EPOCH
  let sag := s.get F.PWR_STAT_SHED
  let s := s.eraseKeys
  let s := if epoch = 15 then s.put F.ONX_STAT_STATE 4 else s.put F.ONX_STAT_EPOCH (epoch + 1)
  let s := (s.put F.ONX_TAMPER_CAUSE cause).event evOnxZeroised .error none 0 cause
  let s := s.stepSeven
  if epoch = 15 ∨ sag ≠ 0 then s
  else (s.put F.PWR_STAT_SHED 0).restart 3 { boot with carts := boot.carts.map (fun p => (p.1, foreignCart p.2)) }

end Sys2Proof.Machine
end

