-- ==== Sys2Proof/Machine/Onyx.lean ====
section
/-! DEFINITION. The commands of Onyx (spec/18 table "Onyx commands"; log entries 7 and 35: DEDUCED, unsafe and DESIGN CHOICE, safe). -/

namespace Sys2Proof.Machine

/-- REPORT: a signed report on a tenant slot is written after the nonce (R459). -/
def execReport (o : OnxOp) (s : State) : Res := s.onyx o (fun s =>
  if 1024 ≤ o.slot then (s, stInvalidEncoding, 0)
  else (s.store svc (o.arg + 32) (s.reportOf o.slot (s.load svc o.arg 32)), stDone, 0))

/-- KEY_IMPORT: a wrapped key is installed after its checks (R455); by an officer, but into a tenant slot. -/
def execKeyImport (o : OnxOp) (unwrapped : Option Nat) (env : Option Envelope) (s : State) : Res := s.onyx o (fun s =>
  let run := fun (s : State) => match s.importStops o unwrapped with
    | some detail => (s.bumpSat F.ONX_EVENTS_IMPORT_FAIL 1, stFailed, detail)
    | none => (s.fillSlot o.slot (unwrapped.getD 0) false, stDone, 0)
  if 1104 ≤ o.slot then (s, stInvalidEncoding, 0)
  else if o.slot < 1024 then run s
  else s.asOfficer env run)

/-- KEY_GENERATE: Onyx draws a key for an EMPTY slot of a tenant or object (R455). -/
def execKeyGenerate (o : OnxOp) (env : Option Envelope) (s : State) : Res := s.onyx o (fun s =>
  let run := fun (s : State) =>
    if s.slotState o.slot ≠ 0 then (s, stFailed, dKeyBusy)
    else ({ s with free := s.free + 1 }.fillSlot o.slot (Config.keyCheckValue s.free).toNat true, stDone, 0)
  if 1088 ≤ o.slot then (s, stInvalidEncoding, 0)
  else if o.slot < 1024 then run s
  else s.asOfficer env run)

/-- KEY_DESTROY: a slot's key is erased, and with a tenant's key its pages, extent entries and journal records go (R457). -/
def execKeyDestroy (o : OnxOp) (env : Option Envelope) (s : State) : Res := s.onyx o (fun s =>
  if 1088 ≤ o.slot then (s, stInvalidEncoding, 0)
  else if o.slot < 1024 then
    (if s.tenantBusy o.slot then (s, stFailed, dKeyBusy) else ((s.dropTenant o.slot).finishRetire.clearSlot o.slot, stDone, 0))
  else s.asOfficer env (fun s =>
    if s.tier.objs.any (fun p => p.2.state != .free && p.2.keySlot == o.slot - 1024) then (s, stFailed, dKeyBusy)
    else (s.clearSlot o.slot, stDone, 0)))

/-- EXTEND: M2 to M7 alone (R453). -/
def execExtend (o : OnxOp) (s : State) : Res := s.onyx o (fun s =>
  if o.reg % 8 < 2 then (s, stFailed, dMeasLocked) else (s.extend (o.reg % 8) (s.load svc o.arg 32), stDone, 0))

/-- KEM_ROTATE: a new transport key pair (R455). -/
def execKemRotate (o : OnxOp) (s : State) : Res := s.onyx o (fun s =>
  ({ s with onx := { s.onx with kemGen := s.onx.kemGen + 1 } }, stDone, 0))

/-- ROLLBACK_COMMIT: SVN_FLOOR rises to the running image's SVN (R454). -/
def execRollbackCommit (o : OnxOp) (env : Option Envelope) (s : State) : Res := s.onyx o (fun s => s.asOfficer env (fun s =>
  if s.onx.runSvn ≤ s.get F.ONX_STAT_SVN_FLOOR then (s, stFailed, dRollbackLimit)
  else (s.put F.ONX_STAT_SVN_FLOOR s.onx.runSvn, stDone, 0)))

/-- OFFICER_ENROLL: an officer's public key; without an envelope while none is enrolled (R449). -/
def execOfficerEnroll (o : OnxOp) (index : Nat) (key : List Byte) (env : Option Envelope) (s : State) : Res := s.onyx o (fun s =>
  let run := fun (s : State) =>
    if 4 ≤ index ∨ key.length ≠ 48 then (s, stInvalidEncoding, 0)
    else
      let all := Sparse.put s.onx.officers index (key, 0)
      ({ s with onx := { s.onx with officers := all } }.put F.ONX_STAT_OFFICERS all.length, stDone, 0)
  if s.onx.officers.isEmpty then run s else s.asOfficer env run)

/-- ROOT_REVOKE: not the running image's root, nor the last one left (R454). -/
def execRootRevoke (o : OnxOp) (root : Nat) (env : Option Envelope) (s : State) : Res := s.onyx o (fun s => s.asOfficer env (fun s =>
  let gone := s.get F.ONX_STAT_ROOTS_REVOKED
  if 4 ≤ root then (s, stInvalidEncoding, 0)
  else if (s.onx.running ∧ root = s.onx.runRoot) ∨ gone ||| 2 ^ root = 15 ∧ gone.testBit root = false then (s, stFailed, dRootInUse)
  else (s.put F.ONX_STAT_ROOTS_REVOKED (gone ||| 2 ^ root), stDone, 0)))

/-- An officer command that zeroises: one accepted writes no completion (R461). -/
def State.zeroiseOp (s : State) (o : OnxOp) (env : Option Envelope) (cause : Nat) (boot : Boot) (after : State → State) : Res :=
  if s.get F.ONX_STAT_STATE ≠ 1 then .next s
  else
    let s := s.opStart 21 o.opId false o.completion 0
    if o.resv then .next (s.opEnd 21 o.opId o.completion stInvalidEncoding 0 0 0)
    else match s.officer env with
      | none => .next ((s.bumpSat F.ONX_EVENTS_AUTH_FAIL 1).opEnd 21 o.opId o.completion stFailed dOnxAuth 0 0)
      | some s => .next (after (s.zeroised cause boot))

/-- ZEROISE (R461). -/
def execZeroise (o : OnxOp) (env : Option Envelope) (boot : Boot) (s : State) : Res := s.zeroiseOp o env 1 boot (fun s => s)

/-- DEBUG_UNLOCK: zeroises, then opens debug access until the next power-on reset of D19 (R459). -/
def execDebugUnlock (o : OnxOp) (env : Option Envelope) (boot : Boot) (s : State) : Res :=
  s.zeroiseOp o env 2 boot (fun s => s.put F.ONX_STAT_DEBUG 1)

/-- TAMPER_TRIGGER: a sensor fires: voltage (3), temperature (4), clock (5) or mesh (6) (R461). -/
def execTamperTrigger (cause : Nat) (boot : Boot) (time : Nat) (s : State) : Res :=
  if 3 ≤ cause ∧ cause ≤ 6 ∧ s.pwr.off = false ∧ s.now ≤ time then .next ((s.account_ time).zeroised cause boot) else .next s

/-- SAK_ROTATE: Onyx installs a new secure association key into a port, its receive side before its transmit side (R413, R460). -/
def execSakRotate (port : Nat) (s : State) : Res :=
  if port < 16 ∧ s.slotState (1088 + port) = 1 ∧ s.get F.ONX_STAT_STATE = 1 then
    let s := s.setPort port { s.port port with exhausted := false }
    let s := s.put (F.KTR_PORT_STAT_MACSEC_UP port) 1
    .next (if s.onx.saks.contains port then s else { s with onx := { s.onx with saks := port :: s.onx.saks } })
  else .next s

end Sys2Proof.Machine
end

