-- ==== Sys2Proof/Machine/Token.lean ====
section
/-! DEFINITION. The token unit's jobs and operations (spec/12). -/

namespace Sys2Proof.Machine

/-! ### Jobs (R309, R310) -/

/-- Ready TXU jobs that have arrived before an item: those that became ready earlier, or together with it and stand before it. An OPEN that
waits for a context stays unissued (R319). -/
def State.txuBefore (s : State) (i : QItem) : List QItem :=
  let ready := s.dsp.items.filter (fun x => (match x.e.job with
    | .txu _ => true
    | _ => false) && s.ready x && s.mayRun x && !s.txu.waited.contains x.id)
  let at_ := fun (x : QItem) => x.readyAt.getD s.now
  ready.filter (fun x => decide (at_ x < at_ i) || (at_ x == at_ i && (s.dsp.items.takeWhile (fun y => y.id != i.id)).any (fun y => y.id == x.id)))

/-- A queued TXU job that is ready, with no earlier ready job on the same stream (R309, R310); the unit takes jobs in arrival order (R27), and
of 16 that run at once any may be done first (R314). -/
def State.txuItem (s : State) (item op : Nat) : Option (QItem × TxuJob) := match s.dsp.items.find? (fun i => i.id == item) with
  | none => none
  | some i => match i.e.job with
    | .txu d =>
      let before := s.dsp.items.takeWhile (fun x => !(x.id == item))
      let same := before.any (fun x => match x.e.job with
        | .txu e => e.reqHandle == d.reqHandle && e.stream == d.stream && e.op != 3 && d.op != 3 && s.ready x
        | _ => false)
      if d.op = op ∧ s.ready i ∧ s.mayRun i ∧ same = false ∧ (s.txuBefore i).length < 16 then some (i, d) else none
    | _ => none

def State.stream (s : State) (handle num : Nat) : Option Stream := s.txu.streams.find? (fun x => x.handle == handle && x.num == num)

/-- Contexts held on the hub. -/
def Txu.onHub (t : Txu) : Nat := (t.streams.filter (fun x => !x.evicted)).length

/-- Whether a context may be evicted: its stream has been idle for TXU_IDLE_LIMIT (R318). -/
def State.idleStream (s : State) (x : Stream) : Bool :=
  let limit := s.get F.TXU_IDLE_LIMIT_LIMIT_MS
  limit != 0 && !x.evicted && decide (x.lastJob + limit * 100000 ≤ s.now)

/-- OPEN: opens a stream with a dictionary and mode; with no free context and none to evict it waits, and is counted once
(R317, R319). Log entry 48: DEDUCED, unsafe. -/
def execOpen (item time : Nat) (s : State) : Res := match s.txuItem item 1 with
  | none => .next s
  | some (i, d) =>
    if time < s.now then .next s
    else
      let s := s.tick time
      match s.usableDict i.runCtx d.dictId with
      | none => .next (s.failItem i (.failed 0x0C0B))
      | some x =>
        if (s.stream d.reqHandle d.stream).isSome then .next (s.failItem i (.failed 0x0C03))
        else if d.byteFallback ∧ x.byteTokens = false then .next (s.failItem i (.failed 0x0C02))
        else if 65536 ≤ s.txu.streams.length ∨ (8192 ≤ s.txu.onHub ∧ s.txu.streams.any (fun y => s.idleStream y) = false) then
          if s.txu.waited.contains item then .next s
          else .next ({ s with txu := { s.txu with waited := item :: s.txu.waited } }.bump F.TXU_CTX_WAIT_JOBS 1)
        else
          -- A full hub gives up the context of an idle stream.
          let s := if 8192 ≤ s.txu.onHub then match s.txu.streams.find? (fun y => s.idleStream y) with
              | some y => { s with txu := { s.txu with streams := s.txu.streams.map (fun (z : Stream) => if z == y then { z with evicted := true } else z) } }
              | none => s
            else s
          let (i, s) := s.takeItem i
          let y : Stream := ⟨i.runCtx, d.reqHandle, d.stream, d.dictId, d.byteFallback, [], [], 0, 0, 0, 0, 0, false, time⟩
          let s := { s with txu := { s.txu with streams := s.txu.streams ++ [y], waited := s.txu.waited.filter (fun n => !(n == item)) } }
          .next (s.publishJob i []).stirAll.markReady

/-- The output of a FEED or PACK: TOKENS, INVALID and NO_MATCH in a header, then the tokens (R313; for PACK, log entry 26: DEDUCED, unsafe). -/
def tokenOut (toks : List Nat) (invalid noMatch : Nat) : List Byte :=
  leBytes 4 toks.length ++ leBytes 4 invalid ++ leBytes 4 noMatch ++ List.replicate 52 0 ++ toks.flatMap (leBytes 4)

/-- The question tokens that a FEED of the question gives its request (R19). -/
def State.noteTokens (s : State) (handle dict : Nat) (toks : List Nat) : State :=
  s.modReq handle (fun r => if r.stage = .tokenisation then
    { r with tokens := (r.tokens.filter (fun p => !(p.1 == dict))) ++ [(dict, ((r.tokens.find? (fun p => p.1 == dict)).map (fun p => p.2)).getD [] ++ toks)] }
    else r)

/-- FEED: repairs and tokenises a buffer; at LAST it emits the rest and closes the stream (R312 to R316). -/
def execFeed (item time : Nat) (s : State) : Res := match s.txuItem item 2 with
  | none => .next s
  | some (i, d) =>
    if time < s.now then .next s
    else
      let s := s.tick time
      match s.stream d.reqHandle d.stream with
      | none => .next (s.failItem i (.failed 0x0C04))
      | some x => match s.dict x.dict with
        | none => .next (s.failItem i (.failed 0x0C0B))
        | some dict =>
          let input := s.load i.runCtx d.inVa d.inLen
          let (pieces, carry) := utfRepair x.carry input d.last
          let run := s.tokPieces dict x.byteMode d.last pieces ⟨[], x.pending, x.walked, 0, 0⟩
          let invalid := (pieces.filter (fun p => !p.good)).length
          let bytes := tokenOut run.toks invalid run.noMatch
          let s := (s.bump F.TXU_TOKENS_TOKENS run.toks.length).bump F.TXU_STEPS_STEPS run.steps
          if d.outLen < bytes.length then .next (s.failItem i (.failed 0x0C05))
          else
            let (i, s) := s.takeItem i
            let s := (s.bumpSat F.TXU_INVALID_INVALID_UTF8 invalid).bumpSat F.TXU_INVALID_NO_MATCH run.noMatch
            let s := if s.on F.TXU_CTL_INVALID_EVT_EN ∧ 0 < invalid then s.event evTxuInvalidUtf8 .notice (some x.tid) d.reqHandle invalid else s
            let y := { x with
              carry := carry, pending := run.pending, walked := run.walked, bytesIn := x.bytesIn + input.length,
              tokensOut := x.tokensOut + run.toks.length, invalid := x.invalid + invalid, noMatch := x.noMatch + run.noMatch,
              evicted := false, lastJob := time }
            let others := s.txu.streams.filter (fun z => !(z.handle == x.handle && z.num == x.num))
            let s := { s with txu := { s.txu with streams := if d.last then others else others ++ [y] } }
            let s := (s.noteTokens d.reqHandle x.dict run.toks).publishJob i [⟨kFresh, d.outVa, d.outLen, Sparse.cells 0 0 bytes, []⟩]
            .next s.sweep.stirAll.markReady

/-- PACK: builds the prompt from the question and the ranked passages within BUDGET (R334, R335). -/
def execPack (item time : Nat) (s : State) : Res := match s.txuItem item 3 with
  | none => .next s
  | some (i, d) =>
    if time < s.now then .next s
    else
      let s := s.tick time
      match s.req d.reqHandle with
      | none => .next (s.failItem i (.failed 0x0C09))
      | some r =>
        let p := d.pack
        let context := match s.inst r.d.gen.inst with
          | some x => x.hdr.maxContext
          | none => 0
        if i.posted then .next (s.failItem i ⟨stRejectedPolicy, 0, 0⟩)
        else if PackDesc.bad p then .next (s.failItem i .invalid)
        else if (s.dict d.dictId).isNone then .next (s.failItem i (.failed 0x0C0B))
        else if context < p.budget then .next (s.failItem i (.failed 0x0C09))
        else
          let ctx := i.runCtx
          let q := ((r.tokens.find? (fun x => x.1 == d.dictId)).map (fun x => x.2)).getD []
          match packPrompt p (s.tokensAt ctx p.headVa p.headN) (s.tokensAt ctx p.midVa p.midN) (s.tokensAt ctx p.tailVa p.tailN)
              (s.tokensAt ctx p.preVa p.preN) (s.tokensAt ctx p.postVa p.postN) q (r.passages.map (fun x => s.passageTokens d.dictId x)) with
          | none => .next (s.failItem i (.failed 0x0C09))
          | some (prompt, skipped) =>
            let bytes := tokenOut prompt 0 0
            if d.outLen < bytes.length then .next (s.failItem i (.failed 0x0C05))
            else
              let (i, s) := s.takeItem i
              let s := (s.bump F.TXU_PACK_PACKS 1).bump F.TXU_PACK_SKIPPED skipped
              let s := s.modReq d.reqHandle (fun r => { r with prompt := prompt, tally := { r.tally with prompt := prompt.length } })
              .next (s.publishJob i [⟨kFresh, d.outVa, d.outLen, Sparse.cells 0 0 bytes, []⟩]).markReady

/-- CONTEXT_EVICT: a stream that has run no job for TXU_IDLE_LIMIT loses its hub context to service pages; nothing of its
state is lost (R318). -/
def execContextEvict (handle stream time : Nat) (s : State) : Res := match s.stream handle stream with
  | none => .next s
  | some x =>
    if s.now ≤ time ∧ (s.tick time).idleStream x then
      let s := s.tick time
      .next { s with txu := { s.txu with streams := s.txu.streams.map (fun (z : Stream) => if z == x then { x with evicted := true } else z) } }
    else .next s

/-! ### Operations (R311, R327 to R329, R338) -/

/-- Ends an operation of the token unit's ring. -/
def State.txuEnd (s : State) (o : TxuOp) (status detail : Nat) : Res := .next (s.opEnd 14 o.opId o.completion status detail 0 0)

/-- Where an image lies: context and address. -/
def TxuOp.at_ (o : TxuOp) : Nat × Nat := if o.shared then (objCtx (o.arg % 4096), o.arg / 4096 % 2 ^ 20 * pageBytes) else (o.tid, o.arg)

/-- Why an image's pages cannot be brought up and pinned: not mapped, lost, or beyond PIN_MAX (R290). -/
def State.imageStop (s : State) (shared : Bool) (tid : Nat) (keys : List Nat) : Option Nat :=
  match keys.findSome? (fun k => match (s.pte k).state with
    | .unmapped => some 0x0701
    | .poisoned | .lost => some 0x0703
    | _ => none) with
  | some x => some x
  | none =>
    let more := (keys.filter (fun k => !(s.pte k).pinned)).length
    if shared = false ∧ s.get (F.MEM_TNT_QUOTA_PIN_MAX tid) < s.pinnedOf tid + more then some 0x0704 else none

/-- Whether a shared image's object is READY. Log entry 49: DEDUCED, unsafe. -/
def TxuOp.here (o : TxuOp) (s : State) : Bool := !o.shared || s.objectReady (pageKey (objCtx (o.arg % 4096)) 0)

def State.pinKeys (s : State) (keys : List Nat) (v : Bool) : State :=
  keys.foldl (fun s k => if (s.pte k).state = .unmapped then s else s.setPte k { s.pte k with pinned := v }) s

def State.setDict (s : State) (n : Nat) (d : Dict) : State := { s with txu := { s.txu with dicts := Sparse.put s.txu.dicts n d } }
def State.setGram (s : State) (n : Nat) (g : Gram) : State := { s with txu := { s.txu with grams := Sparse.put s.txu.grams n g } }

/-- DICT_LOAD: brings a dictionary image up, pins it and checks it (R290, R311, R338). While a frame is wanting it waits. -/
def execDictLoad (o : TxuOp) (s : State) : Res :=
  s.ringStep 14 o.opId o.completion false (o.resv || decide (1024 ≤ o.id)) (fun s =>
    let (ctx, base) := TxuOp.at_ o
    if s.hasTxu = false then s.txuEnd o stNotPresent 0
    else if (s.dict o.id).isSome then s.txuEnd o stFailed 0x0C0A
    else if TxuOp.here o s = false then s.txuEnd o stFailed 0x0701
    else match s.dictHeader o.shared (if o.shared then 0 else o.tid) ctx base with
      | none => s.txuEnd o stFailed 0x0C01
      | some d =>
        let keys := (pagesOf ctx base d.bytes).map (fun k => s.governing k)
        match s.imageStop o.shared o.tid keys with
        | some x => s.txuEnd o stFailed x
        | none => match s.bringAll keys with
          | none => .next s
          | some s => if s.dictValid d then ((s.pinKeys keys true).setDict o.id d).txuEnd o stDone 0 else s.txuEnd o stFailed 0x0C01)

/-- The pages of a dictionary or grammar image. -/
def Dict.keys (d : Dict) (s : State) : List Nat := (pagesOf d.ctx d.base d.bytes).map (fun k => s.governing k)
def Gram.keys (g : Gram) (s : State) : List Nat := (pagesOf g.ctx g.base g.bytes).map (fun k => s.governing k)

/-- DICT_UNLOAD: new streams and packs are refused at once; the image is unpinned when the last user ends (R338). -/
def execDictUnload (o : TxuOp) (s : State) : Res :=
  s.ringStep 14 o.opId o.completion false (o.resv || decide (1024 ≤ o.id)) (fun s => if s.hasTxu = false then s.txuEnd o stNotPresent 0 else match s.dict o.id with
    | none => s.txuEnd o stFailed 0x0C0B
    | some d => (((s.setDict o.id { d with unloading := true }).pinKeys (if s.dictUsers o.id = 0 then d.keys s else []) false).sweep).txuEnd o stDone 0)

/-- A grammar that failed to load goes, and with it the requests that wait for it (R329). -/
def State.dropGram (s : State) (n : Nat) : State :=
  let users := s.liveReqs.filter (fun r => r.d.generate && r.d.gen.grammarEn && r.d.gen.grammar == n)
  users.foldl (fun s r => s.stopReq r.handle stFailed 0x0C07) { s with txu := { s.txu with grams := Sparse.erase s.txu.grams n } }

/-- GRAM_LOAD: a long operation that brings an image's pages up, `n` of them in this step, pins them, and at the end verifies
the image (R327, R328). -/
def execGramLoad (o : TxuOp) (n : Nat) (s : State) : Res :=
  s.ringStep 14 o.opId o.completion true o.resv (fun s =>
    let (ctx, base) := TxuOp.at_ o
    let pos := s.opPos 14 o.opId
    let s := s.opFor 14 o.opId (if o.shared then svc else o.tid)
    if s.hasTxu = false then s.txuEnd o stNotPresent 0
    else if pos = 0 ∧ (s.gram o.id).isSome then s.txuEnd o stFailed 0x0C0A
    else if TxuOp.here o s = false then s.txuEnd o stFailed 0x0701
    else match s.gramHeader o.shared (if o.shared then 0 else o.tid) ctx base with
      | none => (s.dropGram o.id).txuEnd o stFailed 0x0C06
      | some g =>
        let keys := g.keys s
        match s.imageStop o.shared o.tid keys with
        | some x => (s.dropGram o.id).txuEnd o stFailed x
        | none =>
          let some_ := (keys.drop pos).take n
          match s.bringAll some_ with
          | none => .next s
          | some s =>
            let s := (s.pinKeys some_ true).setGram o.id g
            if pos + some_.length < keys.length then match s.op 14 o.opId with
              | some y => .next (s.setOp { y with pos := pos + some_.length, target := o.id })
              | none => .next s
            else if s.gramValid g then (s.setGram o.id { g with state := .ready }).txuEnd o stDone 0
            else ((s.pinKeys keys false).dropGram o.id).txuEnd o stFailed 0x0C06)

/-- GRAM_UNLOAD: new requests are refused at once; the image is unpinned when the last request that uses it ends (R329). -/
def execGramUnload (o : TxuOp) (s : State) : Res :=
  s.ringStep 14 o.opId o.completion false o.resv (fun s => if s.hasTxu = false then s.txuEnd o stNotPresent 0 else match s.gram o.id with
    | none => s.txuEnd o stFailed 0x0C07
    | some g => (((s.setGram o.id { g with state := .unloading }).pinKeys (if s.gramUsers o.id = 0 then g.keys s else []) false).sweep).txuEnd o stDone 0)

end Sys2Proof.Machine
end

