-- ==== Sys2Proof/Machine/OpControl.lean ====
section
/-! DEFINITION. The control entries of the operation rings (spec/14 R386, R387). -/

namespace Sys2Proof.Machine

/-- Takes a control entry of a ring and completes it; `f` acts on the target and gives the status and detail, or none where the entry
completes later. Log entry 78: DEDUCED, safe. -/
def State.controlOp (s : State) (e : OpControl) (f : State → State × Option (Nat × Nat)) : Res :=
  if (opRing e.block).isNone ∨ e.block = 21 then .next s
  else
    let s := s.opStart e.block e.opId false e.completion 0
    if e.resv then .next (s.opEnd e.block e.opId e.completion stInvalidEncoding 0 0 0)
    else
      match f s with
      | (s, some (status, detail)) => .next ((s.opEnd e.block e.opId e.completion status detail 0 0).markReady)
      | (s, none) => .next s.markReady

/-- A long operation that has not begun stands as a control entry leaves it. -/
def State.opBefore (s : State) (e : OpControl) (st : OpStatus) : State := s.setOp ⟨e.block, e.arg, true, st, 0, 0, 0, svc, s.now, false, none⟩

/-- OP_SUSPEND (R387): the target is held at the stopping point at which it stands between its steps. -/
def execOpSuspend (e : OpControl) (s : State) : Res :=
  s.controlOp e (fun s => match s.op e.block e.arg with
    | none => if e.long then (s.opBefore e .suspended, some (stDone, 0)) else (s, some (stFailed, 0x0E02))
    | some o => match o.status with
      | .ended | .cancelled => (s, some (stAlreadyFinished, 0))
      | .suspended => (s, some (stDone, 0))
      | _ => if o.long ∨ e.long then (s.setOp { o with status := .suspended, long := true }, some (stDone, 0)) else (s, some (stFailed, 0x0E02)))

/-- OP_RESUME (R387). -/
def execOpResume (e : OpControl) (s : State) : Res :=
  s.controlOp e (fun s => match s.op e.block e.arg with
    | none => (s, some (if e.long then stDone else stFailed, if e.long then 0 else 0x0E02))
    | some o => match o.status with
      | .ended | .cancelled => (s, some (stAlreadyFinished, 0))
      | .suspended => (s.setOp { o with status := if o.begun then .running else .waiting }, some (stDone, 0))
      | _ => (s, some (if o.long ∨ e.long then stDone else stFailed, if o.long ∨ e.long then 0 else 0x0E02)))

/-- A cancel of an FTB_MIGRATE before its switch: the migration is abandoned and the abort counted (R306). -/
def State.cancelMigrate (s : State) (id : Nat) : State :=
  (s.ftb.tables.filter (fun p => p.2.queued.any (fun q => q.opId == some id) || p.2.migs.any (fun m => m.opId == some id))).foldl (fun s p =>
    (s.setTable p.1 { p.2 with
      queued := p.2.queued.filter (fun q => q.opId != some id)
      migs := p.2.migs.filter (fun m => m.opId != some id) }).bumpSat (F.FTB_MIG_ABORTS p.1) 1) s

/-- A cancel of a fold or repair (R251): before its publication it is undone; one that meets the publication awaits it, and from then on
the cancel finds it finished, and it goes on. -/
def State.cancelIdxOp (s : State) (e : OpControl) (o : Op) : State × Option (Nat × Nat) :=
  match (s.idx.indices.map (fun p => p.2)).find? (fun x => x.fold.any (fun f => f.opId == some o.opId)) with
  | none => (s.opEnd 12 o.opId o.completion stCancelled 0 o.pos 0, some (stDone, 0))
  | some x =>
    let t := s.setOp { o with status := .running }
    if x.fold.any (fun f => decide (f.step < 4)) then (s.cancelFold x.desc.index, some (stDone, 0))
    else if x.fold.any (fun f => f.step == 4) then
      (t.setIndex { x with fold := x.fold.map (fun f => { f with cancels := f.cancels ++ [(e.opId, e.completion)] }) }, none)
    else (t, some (stAlreadyFinished, 0))

/-- A cancel of GRAM_LOAD: its pages are unpinned and the grammar goes (R328). -/
def State.cancelGram (s : State) (n : Nat) : State := match s.gram n with
  | none => s
  | some g => if g.state = .loading then (s.pinKeys (g.keys s) false).dropGram n else s

/-- OP_CANCEL (R251, R306, R387). -/
def execOpCancel (e : OpControl) (s : State) : Res :=
  s.controlOp e (fun s => match s.op e.block e.arg with
    | none => if e.long then (s.opBefore e .cancelled, some (stDone, 0)) else (s, some (stFailed, 0x0E02))
    | some o =>
      if o.status = .ended ∨ o.status = .cancelled then (s, some (stAlreadyFinished, 0))
      else if o.begun = false then (s.setOp { o with status := .cancelled }, some (stDone, 0))
      else if e.block = 12 then s.cancelIdxOp e o
      else
        let s := if e.block = 13 then s.cancelMigrate o.opId else if e.block = 14 then s.cancelGram o.target else s
        (s.opEnd e.block o.opId o.completion stCancelled 0 o.pos 0, some (stDone, 0)))

end Sys2Proof.Machine
end

