-- ==== Sys2Proof/Machine/Power.lean ====
section
/-! DEFINITION. The commands of the power supervisor (spec/16; log entries 30 and 31: DEDUCED, unsafe). -/

namespace Sys2Proof.Machine

/-- TARGET_WRITE: a write of PWR_CTL.TARGET. Surge where it is absent, and the reserved value, keep the point in force (R417, R418,
R421). -/
def execTargetWrite (v time : Nat) (s : State) : Res :=
  if time < s.now then .next s
  else
    let v := v % 4
    let s := s.account_ time
    if v = 3 ∨ (v = 2 ∧ s.hasSurge = false) then .next (s.cfgDropped F.PWR_CTL_TARGET)
    else
      let s := s.put F.PWR_CTL_TARGET v
      if v = 2 then .next (if s.surging then s else s.ramp s.basePoint)
      else .next (if s.surging then s.leaveSurge 6 else s.ramp s.basePoint)

/-- RAMP_DONE: the core rails have reached their point (R417). -/
def execRampDone (time : Nat) (s : State) : Res :=
  if s.on F.PWR_STAT_RAMPING = true ∧ s.now ≤ time then
    let s := s.account_ time
    .next ((s.put F.PWR_STAT_POINT s.pwr.goal).put F.PWR_STAT_RAMPING 0)
  else .next s

/-- SURGE_ENTER: every condition of R420 holds. -/
def execSurgeEnter (m : Meas) (time : Nat) (s : State) : Res :=
  let s' := s.power time m
  if s.surging = false ∧ s.now ≤ time ∧ s'.maySurge (hottest m) m.iin = true then .next (s'.ramp 2) else .next s

/-- SURGE_LEAVE: a reason of R421 holds. -/
def execSurgeLeave (reason : Nat) (m : Meas) (time : Nat) (s : State) : Res :=
  let s' := s.power time m
  if s.surging = true ∧ s.now ≤ time ∧ s'.surgeEnds reason (hottest m) m.iin = true then .next (s'.leaveSurge reason) else .next s

/-- INPUT_OVER_44V: INPUT_HIGH is recorded once per episode, and the part runs on (R415). -/
def execInputOver44V (m : Meas) (time : Nat) (s : State) : Res :=
  if 44000 < m.vin ∧ s.now ≤ time then
    let s := s.power time m
    .next (if s.pwr.high then s else { s with pwr := { s.pwr with high := true } }.event evInputHigh .warning none m.vin 0)
  else .next s

/-- INPUT_OVER_48V: the power stage modules stop, and the part loses power without a flush (R415). -/
def execInputOver48V (m : Meas) (time : Nat) (s : State) : Res :=
  if 48000 < m.vin ∧ s.now ≤ time then
    let s := s.power time m
    .next (if s.pwr.high then s else { s with pwr := { s.pwr with high := true } }.event evInputHigh .warning none m.vin 0).powerLost
  else .next s

/-- PSM_FAULT: surge is left and refused, and the current limit is lower (R416, R421). -/
def execPsmFault (psm : Nat) (m : Meas) (time : Nat) (s : State) : Res :=
  let ok := s.get F.PWR_STAT_PSM_OK
  if psm < 4 ∧ ok.testBit psm = true ∧ s.now ≤ time then
    .next ((((s.power time m).put F.PWR_STAT_PSM_OK (ok - 2 ^ psm)).leaveSurge 5).event evPsmFailed .error none psm 0)
  else .next s

/-- The current limit, and the level below which the duty throttle falls again, in units of 10 mA (R416, R423). -/
def State.currentLimit (s : State) : Nat := if s.get F.PWR_STAT_PSM_OK = 0xF then 8000 else 7000
def State.currentBack (s : State) : Nat := if s.get F.PWR_STAT_PSM_OK = 0xF then 7600 else 6600

/-- INPUT_CURRENT_HIGH: the 100 µs average reaches the limit, and duty throttling begins (R423). -/
def execInputCurrentHigh (m : Meas) (time : Nat) (s : State) : Res :=
  if s.currentLimit ≤ m.iin ∧ s.now ≤ time then
    let s := s.power time m
    if s.pwr.limited then .next s
    else
      let s := { s with pwr := { s.pwr with limited := true, limitDuty := 1, dutyAt := s.now } }.showDuty
      .next ((s.bumpSat F.PWR_EVENTS_CURRENT_LIMITS 1).event evCurrentLimit .warning none m.iin 0)
  else .next s

/-- DUTY_STEP: the throttle rises every 50 µs while the average is at the limit, and falls every 1 ms once it is back (R423). The throttle
of the third thermal step rises with it while a TJ stays at 100 °C (R424, log entry 30: DEDUCED, unsafe). -/
def execDutyStep (m : Meas) (time : Nat) (s : State) : Res :=
  let x := s.pwr
  let upTime := x.dutyAt + 5000 ≤ time
  if s.now ≤ time ∧ ((x.limited = true ∧ ((s.currentLimit ≤ m.iin ∧ upTime ∧ x.limitDuty < 6) ∨ (m.iin < s.currentBack ∧ x.dutyAt + 100000 ≤ time)))
      ∨ (x.heat = 3 ∧ 100 ≤ hottest m ∧ upTime ∧ x.heatDuty < 6)) then
    let s := s.power time m
    let duty := if x.limited then (if s.currentLimit ≤ m.iin then Nat.min 6 (x.limitDuty + 1) else if m.iin < s.currentBack then x.limitDuty - 1 else x.limitDuty) else 0
    let heat := if x.heat = 3 ∧ 100 ≤ hottest m then Nat.min 6 (x.heatDuty + 1) else x.heatDuty
    .next ({ s with pwr := { s.pwr with limitDuty := duty, limited := x.limited && duty != 0, heatDuty := heat, dutyAt := s.now } }.showDuty)
  else .next s

/-- TJ_HOT: a die reaches 100 °C: the first thermal step leaves surge (R424). -/
def execTjHot (m : Meas) (time : Nat) (s : State) : Res :=
  if 100 ≤ hottest m ∧ s.pwr.heat = 0 ∧ s.now ≤ time then
    let s := (((s.power time m).bumpSat F.PWR_EVENTS_THERMAL 1).event evThermalThrottle .warning none (hottest m) 0).leaveSurge 2
    .next { s with pwr := { s.pwr with heat := 1, heatAt := s.now } }
  else .next s

/-- The next thermal step: economy, then duty throttling (R424). -/
def State.heatUp (s : State) : State :=
  let n := s.pwr.heat + 1
  let s := { s with pwr := { s.pwr with heat := n, heatAt := s.now } }
  if n = 2 then s.ramp 0 else { s with pwr := { s.pwr with heatDuty := 1, dutyAt := s.now } }.showDuty

/-- A thermal step is undone: the throttle, then economy, then the bar on surge, back to TARGET (R424). -/
def State.coolDown (s : State) : State :=
  let n := s.pwr.heat
  let s := { s with pwr := { s.pwr with heat := n - 1, heatAt := s.now } }
  if n = 3 then { s with pwr := { s.pwr with heatDuty := 0 } }.showDuty
  else if n = 2 then s.ramp s.basePoint
  else s

/-- THERMAL_STEP: 10 ms after the last, the next thermal step is taken at 100 °C or more, or one is undone below 97 °C (R424). -/
def execThermalStep (m : Meas) (time : Nat) (s : State) : Res :=
  let n := s.pwr.heat
  if 0 < n ∧ s.pwr.heatAt + 1000000 ≤ time ∧ s.now ≤ time ∧ ((100 ≤ hottest m ∧ n < 3) ∨ hottest m < 97) then
    let s := s.power time m
    .next (if 100 ≤ hottest m then s.heatUp else s.coolDown)
  else .next s

/-- TJ_TRIP: a TJ has stood at 105 °C for 100 µs: steps 6 and 7, and the part stays there until a power cycle (R425). -/
def execTjTrip (m : Meas) (time : Nat) (s : State) : Res :=
  if 105 ≤ hottest m ∧ s.pwr.tripped = false ∧ s.get F.PWR_STAT_SHED < 7 ∧ s.now ≤ time then
    let s := (s.power time m).event evThermalTrip .fatal none (hottest m) 0
    let s := { s with pwr := { s.pwr with tripped := true } }
    .next (if s.get F.PWR_STAT_SHED = 6 then s else s.enterStep 6)
  else .next s

/-- SHED_STEP_ENTER: the input has fallen below the level of the next step (R426 to R431). -/
def execShedStepEnter (step : Nat) (m : Meas) (time : Nat) (s : State) : Res :=
  if step = s.get F.PWR_STAT_SHED + 1 ∧ step < 8 ∧ m.vin < enterBelow step ∧ s.now ≤ time then
    let s := s.power time m
    .next (if step = 7 then s.stepSeven else s.enterStep step)
  else .next s

/-- SHED_STEP_LEAVE: the input has stayed above the exit level of the step in force (R426, R427, R431); from step 7 the part starts again
from boot verification, unless it stays there (R425, R462). -/
def execShedStepLeave (step : Nat) (m : Meas) (boot : Boot) (time : Nat) (s : State) : Res :=
  if step = s.get F.PWR_STAT_SHED ∧ 0 < step ∧ exitAbove step < m.vin ∧ s.now ≤ time ∧ s.pwr.tripped = false ∧ s.pwr.off = false then
    let s := s.power time m
    if step < 7 then .next ((s.leaveStep step).markReady)
    else if s.get F.ONX_STAT_STATE = 4 then .next s
    else .next (((s.event evPowerRestored .notice none 0 7).put F.PWR_STAT_SHED 0).restart 2 boot)
  else .next s

/-- FLUSH_COMPLETE: the flush of step 6 is complete, and the part enters step 7 (R429, R431, R472). -/
def execFlushComplete (time : Nat) (s : State) : Res :=
  if s.get F.PWR_STAT_SHED = 6 ∧ s.pwr.flushing = true ∧ s.now ≤ time then
    let s := (s.account_ time).flushJournal.mirrorAll
    let s := { s with rec_ := { s.rec_ with savedSeconds := s.get F.EVR_TIME_OP_SECONDS } }
    .next s.stepSeven
  else .next s

/-- INPUT_BELOW_18V: D19 and D20 lose power; the next start is a cold start (R431). -/
def execInputBelow18V (m : Meas) (time : Nat) (s : State) : Res :=
  if m.vin < 18000 ∧ s.pwr.off = false ∧ s.now ≤ time then .next (s.power time m).powerLost else .next s

end Sys2Proof.Machine
end

