-- ==== Sys2Proof/Machine/Ras.lean ====
section
/-! DEFINITION. The commands of errors, scrubbing and fault tolerance (spec/17; log entries 32 and 34: DEDUCED, unsafe). -/

namespace Sys2Proof.Machine

/-- FACET_STORE_UE: an uncorrectable error is found in a facet store (R436). -/
def execFacetStoreUe (facet unit time : Nat) (s : State) : Res :=
  if facet < s.cores_ / 4 ∧ unit < 512 ∧ s.now ≤ time then .next (((s.tick time).facetUe facet unit).markReady)
  else .next s

/-- D2D_RETRAIN: a die-to-die link retries or retrains after a transient error (RAS_D2D). -/
def execD2dRetrain (link retries : Nat) (retrains failed : Bool) (time : Nat) (s : State) : Res :=
  if s.linkHere link = true ∧ s.get (F.RAS_D2D_STATE link) = 0 ∧ s.now ≤ time then
    let s := ((s.tick time).bumpSat (F.RAS_D2D_RETRIES link) retries).bumpSat (F.RAS_D2D_RETRAINS link) (b2n retrains)
    let s := s.errors 6 retries 0
    let old := Sparse.get [] s.ras.d2d link
    .next (if retrains && failed then { s with ras := { s.ras with d2d := Sparse.set [] s.ras.d2d link ((s.now :: old).take 3) } } else s)
  else .next s

/-- D2D_LINK_FAIL: a link that has failed three retrainings within one second is taken out of service (R440). -/
def execD2dLinkFail (link time : Nat) (s : State) : Res :=
  let last := Sparse.get [] s.ras.d2d link
  if s.linkHere link = true ∧ s.get (F.RAS_D2D_STATE link) = 0 ∧ s.now ≤ time ∧ 3 ≤ last.length ∧ last.all (fun t => decide (time ≤ t + 100000000)) = true then
    .next (((s.tick time).failLink link).markReady)
  else .next s

/-- SCRUB_READ: the scrubber reads the next HBM line or SRAM word, and corrects or retires what it finds (R433, R435, R436, R442,
R443). -/
def execScrubRead (r : ScrubRead) (time : Nat) (s : State) : Res := match r with
  | .demand source stack =>
    if s.now ≤ time ∧ source < 5 ∧ (source = 4 → stack < s.stacks) ∧ source ≠ 3 then .next ((s.tick time).corrected source stack) else .next s
  | _ => if s.on F.RAS_CTL_SCRUB_EN = true ∧ s.on F.RAS_SCRUB_STAT_PAUSED = false ∧ s.now ≤ time then
    let s := s.tick time
    match r with
    | .demand _ _ => .next s
    | .hbm found =>
      let stack := s.ras.scrubLine / 2 ^ 30
      let s' := s.nextLine
      if found = 0 then .next s'
      else if found = 1 then .next (s'.corrected 4 stack)
      else .next ((s'.ueLine stack (s.ras.scrubLine % 2 ^ 30)).markReady)
    | .sram found m =>
      let w := s.ras.scrubWord
      let s' := s.nextWord
      let inCore := decide (w < s.cores_ * coreWords)
      if found = 0 then .next s'
      else if inCore then
        if found = 1 then .next (s'.corrected 0 0)
        else execCoreFault (w / coreWords) 1 0 (w % coreWords * 8) m s'
      else
        let u := w - s.cores_ * coreWords
        if found = 1 then .next (s'.corrected 1 0)
        else .next ((s'.facetUe (u / facetWords) (u % facetWords / 8192)).markReady)
  else .next s

/-- SCRUB_PERIOD_END: a scrub pass has overrun its period (R443). -/
def execScrubPeriodEnd (hbm : Bool) (time : Nat) (s : State) : Res :=
  if s.on F.RAS_CTL_SCRUB_EN = true ∧ s.now ≤ time then
    let x := s.ras
    if hbm then
      if x.hbmLate = false ∧ x.scrubAt + s.get F.RAS_SCRUB_HBM_HOURS * hourUnits < time then
        .next ({ s.tick time with ras := { x with hbmLate := true } }.event evScrubLate .notice none 0 0)
      else .next s
    else if x.storeLate = false ∧ x.storeAt + s.get F.RAS_SCRUB_STORE_S * 100000000 < time then
      .next ({ s.tick time with ras := { x with storeLate := true } }.event evScrubLate .notice none 1 0)
    else .next s
  else .next s

/-- Whether the unit that RAS_INJECT names is there. -/
def State.injectHere (s : State) (source unit : Nat) : Bool :=
  if source = 1 then decide (unit < s.cores_ / 4) else if source = 4 then decide (unit < s.stacks) else decide (unit < s.cores_)

/-- RAS_INJECT_WRITE: a write of RAS_INJECT. An armed injection corrupts the next write to its location, and the part behaves as for a
natural error of that kind: an array checker error, at the running command's instruction, for the second source (R119, R167, R446; log
entry 32: DEDUCED, unsafe). -/
def execRasInjectWrite (v : Nat) (m : Sample) (time : Nat) (s : State) : Res :=
  let source := v / 2 ^ 59 % 8
  let unit := v / 2 ^ 53 % 64
  let addr := v % 2 ^ 48
  let double := v.testBit 62
  let s := (((s.put F.RAS_INJECT_DOUBLE (b2n double)).put F.RAS_INJECT_SOURCE source).put F.RAS_INJECT_UNIT unit).put F.RAS_INJECT_ADDR addr
  if v.testBit 63 = false ∨ 4 < source then .next (s.put F.RAS_INJECT_ARM 0)
  else if s.injectHere source unit = false then .next (s.put F.RAS_INJECT_ARM 1)
  else if time < s.now then .next s
  else
    let s := ((s.tick time).put F.RAS_INJECT_ARM 0).bumpSat F.RAS_INJECT_INJECTED 1
    if double = false ∧ source ≠ 3 then .next (s.corrected source unit)
    else match source with
      | 0 => execCoreFault unit 1 0 (addr % 2 ^ 25) m s
      | 1 => .next ((s.facetUe unit (addr / 65536 % 512)).markReady)
      | 2 => execCoreFault unit 3 2 (((s.core unit).map (fun k => k.pc)).getD 0) m s
      | 3 => execCoreFault unit 2 3 (addr % 2 ^ 25) m s
      | _ => .next ((s.ueLine unit (addr % 2 ^ 30)).markReady)

/-- RAS_RETIRE_CLR: a write with GO removes an entry of the retirement list at the next start-up (R437). -/
def execRasRetireClr (v : Nat) (s : State) : Res :=
  if v.testBit 31 = false then .next s
  else
    let entry := if v.testBit 30 then 64 + (v / 2 ^ 18 % 8) * 512 + v / 2 ^ 9 % 512 else v % 32
    if s.ras.clear.contains entry then .next s else .next { s with ras := { s.ras with clear := entry :: s.ras.clear } }

end Sys2Proof.Machine
end

