-- ==== Sys2Proof/Machine/Registers.lean ====
section
/-! DEFINITION. Software writes of the register space (spec/00 "Register tables", "Takes-effect classes"; log entry 38: DESIGN CHOICE, unsafe). -/

namespace Sys2Proof.Machine

/-- Fields whose writes are commands of their own (log entry 38: DESIGN CHOICE, unsafe), by block, offset of the register's table and lowest bit. -/
def ownRow (block off lo : Nat) : Bool := match block, off with
  | 0, 24 => lo == 31
  | 0, 56 => true
  | 1, 48 => true
  | 1, 80 => lo == 31
  | 2, 8 => true
  | 3, 0 => true
  | 9, 0 => lo == 31
  | 10, 4096 => true
  | 11, 8 => true
  | 12, 0 => lo == 31
  | 16, 40 => true
  | 17, 4096 => true
  | 18, 256 => lo == 31
  | 19, 0 => lo == 0
  | 20, 40 => true
  | 20, 160 => true
  | 23, 0 => true
  | 23, 192 => true
  | 24, 16 => true
  | 24, 24 => true
  | 24, 40 => true
  | _, _ => false

/-- Whether an operation ring holds an unfinished operation. -/
def State.ringBusy (s : State) (block : Nat) (tail : RF) : Bool := match opRing block with
  | none => false
  | some (head, size) => (s.get size != 0 && s.get head % 2 ^ s.get size != s.get tail % 2 ^ s.get size)
      || s.tier.ops.any (fun o => o.block == block && o.begun && o.status != .ended)

/-- Whether a Brixux ring has unread descriptors or live requests (R388). -/
def State.brixuxBusy (s : State) (ring : Nat) : Bool :=
  s.get (F.DSP_RING_PTR_HEAD ring) != s.get (F.DSP_RING_PTR_TAIL ring) || s.liveReqs.any (fun r => completionKey r.tid r.ring == ring)

/-- Whether a block is busy for one of its Locked registers (R16, and the sentences after the register tables; log entry 38: DESIGN CHOICE, unsafe). -/
def State.blockBusy (s : State) (block off : Nat) (i key : Nat) : Bool := match block with
  | 0 => s.get F.PART_SVC_IN_PTR_TAIL != s.get F.PART_SVC_IN_PTR_HEAD || !s.dsp.svcWaiting.isEmpty
  | 1 => if off = 40 then s.dsp.postTail != s.get F.DSP_POST_TAIL_TAIL
         else if off = 56 then s.get F.DSP_ACCT_PTR_TAIL != s.get F.DSP_ACCT_PTR_HEAD
         else s.brixuxBusy (key / 2 ^ 25)
  | 8 => if off = 120 then !s.tier.gathered.isEmpty || !s.tier.stripes.isEmpty else s.ringBusy 8 F.MEM_OP_TAIL_TAIL
  | 9 => !s.cores.isEmpty
  | 10 => !s.geo.progs.isEmpty
  | 12 => s.ringBusy 12 F.IDX_OP_TAIL_TAIL
  | 13 => s.ringBusy 13 F.FTB_OP_TAIL_TAIL
  | 14 => s.ringBusy 14 F.TXU_OP_TAIL_TAIL
  | 15 => if off = 0 ∨ off = 24 then s.dsp.reqs.any (fun r => !r.2.ended) else s.ringBusy 15 F.GEN_OP_TAIL_TAIL
  | 16 => if off = 8 ∨ off = 16 then !s.ktr.flows.isEmpty || !s.ktr.inFlows.isEmpty
          else if off = 24 then s.ktr.exp.any (fun w => w.2.valid)
          else if off = 32 then s.ktr.map.any (fun w => w.2.valid)
          else s.get (F.KTR_PORT_STAT_LINK i) == 2
  | 17 => s.on F.SHP_SAMPLE_CTL_SAMPLE_EN || s.get F.SHP_SAMPLE_PTR_TAIL != s.get F.SHP_SAMPLE_PTR_HEAD
  | 21 => s.ringBusy 21 F.ONX_CMD_TAIL_TAIL
  | 22 => s.get F.LPE_PTR_TAIL != s.get F.LPE_PTR_HEAD
  | _ => false

/-- What follows a Live or Locked write: the rings that software has given room, and the ports and fields that it governs. -/
def State.afterWrite (s : State) (block off i : Nat) (f : RF) (v : Nat) : State :=
  let s := if s.pwr.cleared.contains f.id then { s with pwr := { s.pwr with cleared := s.pwr.cleared.filter (fun n => n != f.id) } } else s
  match block, off with
  | 0, 32 => State.drainInbox (s.dsp.svcWaiting.length + 1) s
  | 0, 40 => State.drainInbox (s.dsp.svcWaiting.length + 1) s
  | 1, 56 => State.acctDrain s.dsp.acctHeld.length s
  | 1, 64 => State.acctDrain s.dsp.acctHeld.length s
  | 8, 0 => s.enterWindows
  | 16, 4096 =>
    if f.id ≠ (F.KTR_PORT_CTL_EN i).id then s
    else
      let link := s.get (F.KTR_PORT_STAT_LINK i)
      if v = 1 then (if link = 0 then s.put (F.KTR_PORT_STAT_LINK i) 1 else s)
      else if link = 2 then (s.dropLink i 0).event evKtrLinkDown .warning none i 0
      else if link = 4 then s
      else s.put (F.KTR_PORT_STAT_LINK i) 0
  | 24, 0 => s.put F.MGT_STAT_LINK (if v = 1 then 2 else 0)
  | _, _ => s

/-- Fields that take no write: the clock stop of islands that never stop, and the journal window where a Geode tier is. -/
def State.fixedField (s : State) (block off i lo : Nat) : Bool :=
  (block == 18 && off == 256 && lo == 24 && ((decide (16 ≤ i) && decide (i < 32)) || decide (99 ≤ i))) || (block == 8 && off == 120 && s.hasGeode)

/-- A 33rd weighted tenant (R381): the tenants that hold class weighted, by the value pending where one is. -/
def State.classFull (s : State) (t : Nat) : Bool :=
  let pending := fun (u : Nat) => ((s.staged.filter (fun w => w.f.id == (F.DSP_TNT_CFG_CLASS u).id)).getLast?.map (fun w => w.v)).getD (s.get (F.DSP_TNT_CFG_CLASS u))
  decide (32 ≤ ((List.range svc).filter (fun u => u != t && pending u == 1)).length)

/-- A write of a Staged value (R14, R15): until its boundary, but where the block is idle or the field itself shows what is pending. `i` is
the register's index, an island's or, in block 16, a port's. -/
def State.stage (s : State) (block : Nat) (te : Takes) (i : Nat) (f : RF) (v : Nat) : State := match te with
  | .commit => if (s.core i).isSome then { s with staged := s.staged ++ [⟨f, v, .commit, i⟩] } else s.put f v
  | .period => { s with staged := s.staged ++ [⟨f, v, .period, 0⟩] }
  | .slice => { s with staged := s.staged ++ [⟨f, v, .slice, 0⟩] }
  | .idle => State.settleIdle { s with staged := s.staged ++ [⟨f, v, .idle, if block = 16 then 16 + i else i⟩] }
  | _ => s.put f v

/-- Writing 1 to a field that clears, and what clears with it. -/
def State.clearBy (s : State) (block off i : Nat) (f : RF) : State := match block, off with
  | 2, 32 => ((s.put f 0).put (F.CORE_FAULT_KIND i) 0).put (F.CORE_FAULT_DETAIL i) 0
  | 9, 24 => (s.put f 0).put (F.HBM_ERR_ADDR_LINE i) 0
  | _, _ => s.put f 0

/-- One field takes its part of a write (table "Access codes"). -/
def State.writeField (s : State) (a : RegAt) (block v : Nat) (fd : FieldDesc) : State :=
  let f := a.field fd
  let v := v / 2 ^ fd.lo % 2 ^ (fd.hi + 1 - fd.lo)
  let off := a.desc.off
  if ownRow block off fd.lo || s.fixedField block off a.i fd.lo then s
  else match fd.acc with
    | .ro => s
    | .rc => s
    | .w1c => if v % 2 = 1 then s.clearBy block off a.i f else s
    | .rwl => if s.locks.contains f.id then s.cfgDropped f else { s with locks := f.id :: s.locks }.put f v
    | _ =>
      if v = 0 ∧ block = 1 ∧ ((off = 80 ∧ fd.lo = 0) ∨ (off = 24 ∧ fd.lo = 32)) then s.cfgDropped f
      else if v = 1 ∧ block = 1 ∧ off = 80 ∧ fd.lo = 30 ∧ s.classFull (a.key / 2 ^ 25) then s.cfgDropped f
      else match fd.te with
        | .none => (s.put f v).afterWrite block off a.i f v
        | .live => (s.put f v).afterWrite block off a.i f v
        | .locked => if s.blockBusy block off a.i a.key then s.cfgDropped f else (s.put f v).afterWrite block off a.i f v
        | te => s.stage block te a.i f v

/-- REG_WRITE: a software write of a register in its own width (R4, R8 to R16, R463, R479). -/
def execRegWrite (w : RegWrite) (s : State) : Res :=
  match regAt w.block w.offset w.width 0 (blockRegs w.block) with
  | none => .next (s.badAccess w.block w.offset)
  | some r =>
    if w.tenant then (if r.desc.tenant then .next s else .next (s.event evAccessDenied .warning none (w.block * 2 ^ 20 + w.offset) 0))
    else if s.unitHere w.block r.i r.desc = false then .next s
    else match s.selected r.desc.sel with
      | none => .next s
      | some inst => match regAt w.block w.offset w.width inst (blockRegs w.block) with
        | none => .next s
        | some a => .next ((a.desc.fields.foldl (fun s fd => s.writeField a w.block (w.value % 2 ^ w.width) fd) s).markReady)

end Sys2Proof.Machine
end

