-- ==== Sys2Proof/Machine/Scalar.lean ====
section
/-! DEFINITION. Scalar operations, branches, and scalar loads and stores (spec/03 "Instruction words"). -/

namespace Sys2Proof.Machine

/-- ADD: SA + B, modulo 2^64 (R64). -/
def execAdd (c : Nat) (sd sa : Reg5) (b : Src) (s : State) : Res :=
  onCore c s (fun _ => scalarOp (fun a b => a + b) true true sd sa b)

/-- SUB: SA - B, modulo 2^64; no immediate form (R64). -/
def execSub (c : Nat) (sd sa : Reg5) (b : Src) (s : State) : Res :=
  onCore c s (fun _ => scalarOp (fun a b => a - b) true false sd sa b)

/-- MUL: the low 64 bits of the product (R64). -/
def execMul (c : Nat) (sd sa : Reg5) (b : Src) (s : State) : Res :=
  onCore c s (fun _ => scalarOp (fun a b => a * b) true true sd sa b)

/-- MULHU: the high 64 bits of the unsigned product (R64). -/
def execMulhu (c : Nat) (sd sa : Reg5) (b : Src) (s : State) : Res :=
  onCore c s (fun _ => scalarOp mulhuWord true false sd sa b)

/-- AND (R64). -/
def execAnd (c : Nat) (sd sa : Reg5) (b : Src) (s : State) : Res :=
  onCore c s (fun _ => scalarOp (fun a b => a &&& b) true true sd sa b)

/-- OR (R64). -/
def execOr (c : Nat) (sd sa : Reg5) (b : Src) (s : State) : Res :=
  onCore c s (fun _ => scalarOp (fun a b => a ||| b) true true sd sa b)

/-- XOR (R64). -/
def execXor (c : Nat) (sd sa : Reg5) (b : Src) (s : State) : Res :=
  onCore c s (fun _ => scalarOp (fun a b => a ^^^ b) true true sd sa b)

/-- SLL: shifts by bits [5:0] of B (R64). -/
def execSll (c : Nat) (sd sa : Reg5) (b : Src) (s : State) : Res :=
  onCore c s (fun _ => scalarOp sllWord true true sd sa b)

/-- SRL (R64). -/
def execSrl (c : Nat) (sd sa : Reg5) (b : Src) (s : State) : Res :=
  onCore c s (fun _ => scalarOp srlWord true true sd sa b)

/-- SRA (R64). -/
def execSra (c : Nat) (sd sa : Reg5) (b : Src) (s : State) : Res :=
  onCore c s (fun _ => scalarOp sraWord true true sd sa b)

/-- SLT: signed comparison (R64). -/
def execSlt (c : Nat) (sd sa : Reg5) (b : Src) (s : State) : Res :=
  onCore c s (fun _ => scalarOp (fun a b => flagWord (a.slt b)) true true sd sa b)

/-- SLTU: unsigned comparison (R64). -/
def execSltu (c : Nat) (sd sa : Reg5) (b : Src) (s : State) : Res :=
  onCore c s (fun _ => scalarOp (fun a b => flagWord (a.ult b)) true true sd sa b)

/-- MIN: signed (R64). -/
def execMin (c : Nat) (sd sa : Reg5) (b : Src) (s : State) : Res :=
  onCore c s (fun _ => scalarOp minWord true true sd sa b)

/-- MAX: signed (R64). -/
def execMax (c : Nat) (sd sa : Reg5) (b : Src) (s : State) : Res :=
  onCore c s (fun _ => scalarOp maxWord true true sd sa b)

/-- FADD: F32, nearest-even (R64). -/
def execFadd (c : Nat) (sd sa : Reg5) (b : Src) (s : State) : Res :=
  onCore c s (fun _ => scalarOp (f32Op 0x10 Fp.add) true false sd sa b)

/-- FSUB: F32, nearest-even (R64). -/
def execFsub (c : Nat) (sd sa : Reg5) (b : Src) (s : State) : Res :=
  onCore c s (fun _ => scalarOp (f32Op 0x11 Fp.sub) true false sd sa b)

/-- FMUL: F32, nearest-even (R64). -/
def execFmul (c : Nat) (sd sa : Reg5) (b : Src) (s : State) : Res :=
  onCore c s (fun _ => scalarOp (f32Op 0x12 Fp.mul) true false sd sa b)

/-- FMIN: F32 (R64). -/
def execFmin (c : Nat) (sd sa : Reg5) (b : Src) (s : State) : Res :=
  onCore c s (fun _ => scalarOp (f32Op 0x13 (scalarMinMax 0x13 Fp.minNum)) true false sd sa b)

/-- FMAX: F32 (R64). -/
def execFmax (c : Nat) (sd sa : Reg5) (b : Src) (s : State) : Res :=
  onCore c s (fun _ => scalarOp (f32Op 0x14 (scalarMinMax 0x14 Fp.maxNum)) true false sd sa b)

/-- FCVT.F32.I64: a signed integer to F32 (R64). -/
def execFcvtF32I64 (c : Nat) (sd sa : Reg5) (b : Src) (s : State) : Res :=
  onCore c s (fun _ => scalarOp fcvtF32I64Word true false sd sa b)

/-- FCVT.I64.F32: F32 to a signed integer, toward zero, saturating; NaN gives 0 (R65). -/
def execFcvtI64F32 (c : Nat) (sd sa : Reg5) (b : Src) (s : State) : Res :=
  onCore c s (fun _ => scalarOp fcvtI64F32Word true false sd sa b)

/-- LI: the sign-extended immediate (table "Scalar operations"). -/
def execLi (c : Nat) (sd sa : Reg5) (b : Src) (s : State) : Res :=
  onCore c s (fun _ => scalarOp liWord false true sd sa b)

/-- LIH: IMM[31:0] over the upper half of SA (table "Scalar operations"). -/
def execLih (c : Nat) (sd sa : Reg5) (b : Src) (s : State) : Res :=
  onCore c s (fun _ => scalarOp lihWord false true sd sa b)

/-- BR: a conditional branch to PC + OFFSET (R67). -/
def execBr (c : Nat) (sa sb : Reg5) (cond : BitVec 3) (zero : BitVec 17) (off : BitVec 24) (s : State) : Res :=
  onCore c s (fun _ => branch sa sb cond zero off)

/-- JL: SA receives PC + 1 (R67). -/
def execJl (c : Nat) (sa sb : Reg5) (cond : BitVec 3) (zero : BitVec 17) (off : BitVec 24) (s : State) : Res :=
  onCore c s (fun _ => jumpLink sa sb cond zero off)

/-- JR: jumps to the index in SA (R67). -/
def execJr (c : Nat) (sa sb : Reg5) (cond : BitVec 3) (zero : BitVec 17) (off : BitVec 24) (s : State) : Res :=
  onCore c s (fun _ => jumpReg sa sb cond zero off)

/-- LD8 (R68, R69). -/
def execLd8 (c : Nat) (sd sa : Reg5) (zero : BitVec 20) (off : BitVec 24) (s : State) : Res :=
  onCore c s (scalarLoad 1 sd sa zero off)

/-- LD16 (R68, R69). -/
def execLd16 (c : Nat) (sd sa : Reg5) (zero : BitVec 20) (off : BitVec 24) (s : State) : Res :=
  onCore c s (scalarLoad 2 sd sa zero off)

/-- LD32 (R68, R69). -/
def execLd32 (c : Nat) (sd sa : Reg5) (zero : BitVec 20) (off : BitVec 24) (s : State) : Res :=
  onCore c s (scalarLoad 4 sd sa zero off)

/-- LD64 (R68, R69). -/
def execLd64 (c : Nat) (sd sa : Reg5) (zero : BitVec 20) (off : BitVec 24) (s : State) : Res :=
  onCore c s (scalarLoad 8 sd sa zero off)

/-- ST8 (R68). -/
def execSt8 (c : Nat) (ss sa : Reg5) (zero : BitVec 20) (off : BitVec 24) (s : State) : Res :=
  onCore c s (fun _ => scalarStore 1 ss sa zero off)

/-- ST16 (R68). -/
def execSt16 (c : Nat) (ss sa : Reg5) (zero : BitVec 20) (off : BitVec 24) (s : State) : Res :=
  onCore c s (fun _ => scalarStore 2 ss sa zero off)

/-- ST32 (R68). -/
def execSt32 (c : Nat) (ss sa : Reg5) (zero : BitVec 20) (off : BitVec 24) (s : State) : Res :=
  onCore c s (fun _ => scalarStore 4 ss sa zero off)

/-- ST64 (R68). -/
def execSt64 (c : Nat) (ss sa : Reg5) (zero : BitVec 20) (off : BitVec 24) (s : State) : Res :=
  onCore c s (fun _ => scalarStore 8 ss sa zero off)

end Sys2Proof.Machine
end

