-- ==== Sys2Proof/Machine/Vector.lean ====
section
/-! DEFINITION. The vector and select operations of a kernel (spec/05, spec/06). -/

namespace Sys2Proof.Machine

/-- VLD (R144, R146). -/
def execVld (c : Nat) (vd sa : Reg5) (elem : BitVec 8) (widen : BitVec 1) (zero : BitVec 35) (s : State) : Res :=
  onCore c s (vldOp c vd sa elem widen zero)

/-- VST (R145, R146). -/
def execVst (c : Nat) (vs sa : Reg5) (elem : BitVec 8) (vm : Reg3) (zero : BitVec 33) (s : State) : Res :=
  onCore c s (fun _ => vstOp c vs sa elem vm zero)

/-- VBCAST (R147). -/
def execVbcast (c : Nat) (vd sa : Reg5) (zero : BitVec 44) (s : State) : Res := onCore c s (fun _ => vbcastOp c vd sa zero)

/-- VCHAIN (R129 to R134, R148 to R154). -/
def execVchain (c : Nat) (sa : Reg5) (zero : BitVec 49) (s : State) : Res := onCore c s (vchainOp c sa zero)

/-- VRED (R155). -/
def execVred (c : Nat) (sd va : Reg5) (vm : Reg3) (op : BitVec 3) (zero : BitVec 38) (s : State) : Res :=
  onCore c s (fun _ => vredOp c sd va vm op zero)

/-- VDERIV (R135, R136, R156). -/
def execVderiv (c : Nat) (vd ve sa sb : Reg5) (zero : BitVec 34) (s : State) : Res := onCore c s (vderivOp c vd ve sa sb zero)

/-- VMSET (R147). -/
def execVmset (c : Nat) (md : Reg3) (sa : Reg5) (zero : BitVec 46) (s : State) : Res := onCore c s (fun _ => vmsetOp c md sa zero)

/-- VMLD (R146). -/
def execVmld (c : Nat) (md : Reg3) (sa : Reg5) (zero : BitVec 46) (s : State) : Res := onCore c s (vmldOp c md sa zero)

/-- VMST (R146). -/
def execVmst (c : Nat) (ms : Reg3) (sa : Reg5) (zero : BitVec 46) (s : State) : Res := onCore c s (fun _ => vmstOp c ms sa zero)

/-- SELK (R158 to R162). -/
def execSelk (c : Nat) (sa : Reg5) (zero : BitVec 49) (s : State) : Res := onCore c s (selectOp false true c sa zero)

/-- SELT (R163, R164), where the variant has it (R3). -/
def execSelt (c : Nat) (sa : Reg5) (zero : BitVec 49) (s : State) : Res := onCore c s (selectOp true s.hasSelt c sa zero)

end Sys2Proof.Machine
end

