-- ==== Sys2Proof/Machine/Dispatch.lean ====
section
/-! DEFINITION. One arm per command: the meaning that the manual gives it. -/

namespace Sys2Proof.Machine

/-- The effect of a command on everything but the queue of commands. -/
def exec (i : Instr) (s : State) : Host.Outcome State Fault Refusal :=
  match i with
  | .regWrite w => Sys2Proof.Machine.execRegWrite w s
  | .add c sd sa b => Sys2Proof.Machine.execAdd c sd sa b s
  | .sub c sd sa b => Sys2Proof.Machine.execSub c sd sa b s
  | .mul c sd sa b => Sys2Proof.Machine.execMul c sd sa b s
  | .mulhu c sd sa b => Sys2Proof.Machine.execMulhu c sd sa b s
  | .and c sd sa b => Sys2Proof.Machine.execAnd c sd sa b s
  | .or c sd sa b => Sys2Proof.Machine.execOr c sd sa b s
  | .xor c sd sa b => Sys2Proof.Machine.execXor c sd sa b s
  | .sll c sd sa b => Sys2Proof.Machine.execSll c sd sa b s
  | .srl c sd sa b => Sys2Proof.Machine.execSrl c sd sa b s
  | .sra c sd sa b => Sys2Proof.Machine.execSra c sd sa b s
  | .slt c sd sa b => Sys2Proof.Machine.execSlt c sd sa b s
  | .sltu c sd sa b => Sys2Proof.Machine.execSltu c sd sa b s
  | .min c sd sa b => Sys2Proof.Machine.execMin c sd sa b s
  | .max c sd sa b => Sys2Proof.Machine.execMax c sd sa b s
  | .fadd c sd sa b => Sys2Proof.Machine.execFadd c sd sa b s
  | .fsub c sd sa b => Sys2Proof.Machine.execFsub c sd sa b s
  | .fmul c sd sa b => Sys2Proof.Machine.execFmul c sd sa b s
  | .fmin c sd sa b => Sys2Proof.Machine.execFmin c sd sa b s
  | .fmax c sd sa b => Sys2Proof.Machine.execFmax c sd sa b s
  | .fcvtF32I64 c sd sa b => Sys2Proof.Machine.execFcvtF32I64 c sd sa b s
  | .fcvtI64F32 c sd sa b => Sys2Proof.Machine.execFcvtI64F32 c sd sa b s
  | .li c sd sa b => Sys2Proof.Machine.execLi c sd sa b s
  | .lih c sd sa b => Sys2Proof.Machine.execLih c sd sa b s
  | .br c sa sb cond zero off => Sys2Proof.Machine.execBr c sa sb cond zero off s
  | .jl c sa sb cond zero off => Sys2Proof.Machine.execJl c sa sb cond zero off s
  | .jr c sa sb cond zero off => Sys2Proof.Machine.execJr c sa sb cond zero off s
  | .ld8 c sd sa zero off => Sys2Proof.Machine.execLd8 c sd sa zero off s
  | .ld16 c sd sa zero off => Sys2Proof.Machine.execLd16 c sd sa zero off s
  | .ld32 c sd sa zero off => Sys2Proof.Machine.execLd32 c sd sa zero off s
  | .ld64 c sd sa zero off => Sys2Proof.Machine.execLd64 c sd sa zero off s
  | .st8 c ss sa zero off => Sys2Proof.Machine.execSt8 c ss sa zero off s
  | .st16 c ss sa zero off => Sys2Proof.Machine.execSt16 c ss sa zero off s
  | .st32 c ss sa zero off => Sys2Proof.Machine.execSt32 c ss sa zero off s
  | .st64 c ss sa zero off => Sys2Proof.Machine.execSt64 c ss sa zero off s
  | .stage c sa zero => Sys2Proof.Machine.execStage c sa zero s
  | .nop c zero => Sys2Proof.Machine.execNop c zero s
  | .fence c zero scope => Sys2Proof.Machine.execFence c zero scope s
  | .commit c zero => Sys2Proof.Machine.execCommit c zero s
  | .abort c zero code => Sys2Proof.Machine.execAbort c zero code s
  | .mloadW c sa sf pairing cscale zero => Sys2Proof.Machine.execMloadW c sa sf pairing cscale zero s
  | .mrun c sa sm sr sf rscale accum swap colsel pairing zero => Sys2Proof.Machine.execMrun c sa sm sr sf rscale accum swap colsel pairing zero s
  | .mdrain c sd sm sr clear zero => Sys2Proof.Machine.execMdrain c sd sm sr clear zero s
  | .mtov c vd sr clear zero => Sys2Proof.Machine.execMtov c vd sr clear zero s
  | .vld c vd sa elem widen zero => Sys2Proof.Machine.execVld c vd sa elem widen zero s
  | .vst c vs sa elem vm zero => Sys2Proof.Machine.execVst c vs sa elem vm zero s
  | .vbcast c vd sa zero => Sys2Proof.Machine.execVbcast c vd sa zero s
  | .vchain c sa zero => Sys2Proof.Machine.execVchain c sa zero s
  | .vred c sd va vm op zero => Sys2Proof.Machine.execVred c sd va vm op zero s
  | .vderiv c vd ve sa sb zero => Sys2Proof.Machine.execVderiv c vd ve sa sb zero s
  | .vmset c md sa zero => Sys2Proof.Machine.execVmset c md sa zero s
  | .vmld c md sa zero => Sys2Proof.Machine.execVmld c md sa zero s
  | .vmst c ms sa zero => Sys2Proof.Machine.execVmst c ms sa zero s
  | .selk c sa zero => Sys2Proof.Machine.execSelk c sa zero s
  | .selt c sa zero => Sys2Proof.Machine.execSelt c sa zero s
  | .kput c sa zero => Sys2Proof.Machine.execKput c sa zero s
  | .geoProgram c sa zero => Sys2Proof.Machine.execGeoProgram c sa zero s
  | .commandDispatch item core time => Sys2Proof.Machine.execCommandDispatch item core time s
  | .commandEnd core m => Sys2Proof.Machine.execCommandEnd core m s
  | .coreFault core kind source detail m => Sys2Proof.Machine.execCoreFault core kind source detail m s
  | .externalOverrunTimeout core time m => Sys2Proof.Machine.execExternalOverrunTimeout core time m s
  | .coreRetire core v => Sys2Proof.Machine.execCoreRetire core v s
  | .coreOffline core v => Sys2Proof.Machine.execCoreOffline core v s
  | .facetDrain facet v => Sys2Proof.Machine.execFacetDrain facet v s
  | .placement time => Sys2Proof.Machine.execPlacement time s
  | .sliceEnd core time => Sys2Proof.Machine.execSliceEnd core time s
  | .graceWindowEnd core time m => Sys2Proof.Machine.execGraceWindowEnd core time m s
  | .periodBoundary time => Sys2Proof.Machine.execPeriodBoundary time s
  | .loupeWindowEnd time => Sys2Proof.Machine.execLoupeWindowEnd time s
  | .brxDoorbell tid ring tail time => Sys2Proof.Machine.execBrxDoorbell tid ring tail time s
  | .hostRecordWrite key => Sys2Proof.Machine.execHostRecordWrite key s
  | .hostHeadPoll key head time => Sys2Proof.Machine.execHostHeadPoll key head time s
  | .tenantEnable tid v => Sys2Proof.Machine.execTenantEnable tid v s
  | .dspPostTail tail entries => Sys2Proof.Machine.execDspPostTail tail entries s
  | .opSuspend e => Sys2Proof.Machine.execOpSuspend e s
  | .opResume e => Sys2Proof.Machine.execOpResume e s
  | .opCancel e => Sys2Proof.Machine.execOpCancel e s
  | .reservationGrant item time => Sys2Proof.Machine.execReservationGrant item time s
  | .pageBringUpDone key time => Sys2Proof.Machine.execPageBringUpDone key time s
  | .writeBack key time => Sys2Proof.Machine.execWriteBack key time s
  | .writeBackDone key ok time => Sys2Proof.Machine.execWriteBackDone key ok time s
  | .pageEvict key time => Sys2Proof.Machine.execPageEvict key time s
  | .hbmUeLine stack line time => Sys2Proof.Machine.execHbmUeLine stack line time s
  | .journalGroupFlush time => Sys2Proof.Machine.execJournalGroupFlush time s
  | .journalStripeAck stripe time => Sys2Proof.Machine.execJournalStripeAck stripe time s
  | .checkpoint time => Sys2Proof.Machine.execCheckpoint time s
  | .objPageRecovery obj pages time => Sys2Proof.Machine.execObjPageRecovery obj pages time s
  | .altFetchTimeout obj time => Sys2Proof.Machine.execAltFetchTimeout obj time s
  | .map o => Sys2Proof.Machine.execMap o s
  | .unmap o => Sys2Proof.Machine.execUnmap o s
  | .setHome o n => Sys2Proof.Machine.execSetHome o n s
  | .prefetch o n => Sys2Proof.Machine.execPrefetch o n s
  | .evict o n => Sys2Proof.Machine.execEvict o n s
  | .pin o => Sys2Proof.Machine.execPin o s
  | .unpin o => Sys2Proof.Machine.execUnpin o s
  | .mapShared o => Sys2Proof.Machine.execMapShared o s
  | .objRegister o => Sys2Proof.Machine.execObjRegister o s
  | .objSetAlt o => Sys2Proof.Machine.execObjSetAlt o s
  | .objSeal o => Sys2Proof.Machine.execObjSeal o s
  | .objRewrite o => Sys2Proof.Machine.execObjRewrite o s
  | .objRetire o => Sys2Proof.Machine.execObjRetire o s
  | .hbmRetire stack v => Sys2Proof.Machine.execHbmRetire stack v s
  | .stackFail stack time => Sys2Proof.Machine.execStackFail stack time s
  | .ftbCreate o => Sys2Proof.Machine.execFtbCreate o s
  | .ftbDrop o => Sys2Proof.Machine.execFtbDrop o s
  | .ftbMigrate o => Sys2Proof.Machine.execFtbMigrate o s
  | .gather item time => Sys2Proof.Machine.execGather item time s
  | .scatterAddApply table time => Sys2Proof.Machine.execScatterAddApply table time s
  | .decayTick table time => Sys2Proof.Machine.execDecayTick table time s
  | .migrationStart table row => Sys2Proof.Machine.execMigrationStart table row s
  | .migrationSwitch table row => Sys2Proof.Machine.execMigrationSwitch table row s
  | .migrationFree table row => Sys2Proof.Machine.execMigrationFree table row s
  | .open_ item time => Sys2Proof.Machine.execOpen item time s
  | .feed item time => Sys2Proof.Machine.execFeed item time s
  | .pack item time => Sys2Proof.Machine.execPack item time s
  | .contextEvict handle stream time => Sys2Proof.Machine.execContextEvict handle stream time s
  | .dictLoad o => Sys2Proof.Machine.execDictLoad o s
  | .dictUnload o => Sys2Proof.Machine.execDictUnload o s
  | .gramLoad o n => Sys2Proof.Machine.execGramLoad o n s
  | .gramUnload o => Sys2Proof.Machine.execGramUnload o s
  | .idxCreate o => Sys2Proof.Machine.execIdxCreate o s
  | .idxDrop o => Sys2Proof.Machine.execIdxDrop o s
  | .idxFold o => Sys2Proof.Machine.execIdxFold o s
  | .idxRepair o => Sys2Proof.Machine.execIdxRepair o s
  | .itemCopyWrite index handle item => Sys2Proof.Machine.execItemCopyWrite index handle item s
  | .foldPublish index n => Sys2Proof.Machine.execFoldPublish index n s
  | .foldReclaim index => Sys2Proof.Machine.execFoldReclaim index s
  | .idxCtlWrite v => Sys2Proof.Machine.execIdxCtlWrite v s
  | .probeOrder call emb => Sys2Proof.Machine.execProbeOrder call emb s
  | .probeDispatch call => Sys2Proof.Machine.execProbeDispatch call s
  | .scanUnitScore handle part group channel => Sys2Proof.Machine.execScanUnitScore handle part group channel s
  | .sideListSearch call => Sys2Proof.Machine.execSideListSearch call s
  | .mergeStart handle => Sys2Proof.Machine.execMergeStart handle s
  | .candidateFetch handle => Sys2Proof.Machine.execCandidateFetch handle s
  | .rescore call => Sys2Proof.Machine.execRescore call s
  | .passageFetch handle => Sys2Proof.Machine.execPassageFetch handle s
  | .csuProgLoad slot addr => Sys2Proof.Machine.execCsuProgLoad slot addr s
  | .genModelLoad o => Sys2Proof.Machine.execGenModelLoad o s
  | .genModelUnload o => Sys2Proof.Machine.execGenModelUnload o s
  | .formPass inst items time => Sys2Proof.Machine.execFormPass inst items time s
  | .passCommit inst pass outs time => Sys2Proof.Machine.execPassCommit inst pass outs time s
  | .detokenise handle time => Sys2Proof.Machine.execDetokenise handle time s
  | .grammarAdvance handle cmdId recVa time => Sys2Proof.Machine.execGrammarAdvance handle cmdId recVa time s
  | .draftWalk handle drafts cmdId recVa time => Sys2Proof.Machine.execDraftWalk handle drafts cmdId recVa time s
  | .stageAdvance handle items time => Sys2Proof.Machine.execStageAdvance handle items time s
  | .shipClaim r time => Sys2Proof.Machine.execShipClaim r time s
  | .shipGrant h offsets time => Sys2Proof.Machine.execShipGrant h offsets time s
  | .shipChunk handle time => Sys2Proof.Machine.execShipChunk handle time s
  | .shipManifest r m d time => Sys2Proof.Machine.execShipManifest r m d time s
  | .shipAck r time => Sys2Proof.Machine.execShipAck r time s
  | .shipNack r time => Sys2Proof.Machine.execShipNack r time s
  | .shipAbort r time => Sys2Proof.Machine.execShipAbort r time s
  | .orphanMsExpiry tid shipId time => Sys2Proof.Machine.execOrphanMsExpiry tid shipId time s
  | .request x => Sys2Proof.Machine.execRequest x s
  | .indexUpdate x => Sys2Proof.Machine.execIndexUpdate x s
  | .cancel x => Sys2Proof.Machine.execCancel x s
  | .suspend x => Sys2Proof.Machine.execSuspend x s
  | .resume x => Sys2Proof.Machine.execResume x s
  | .service x => Sys2Proof.Machine.execService x s
  | .heldRequestAdmit h time => Sys2Proof.Machine.execHeldRequestAdmit h time s
  | .flashOpStart channel done waiting time => Sys2Proof.Machine.execFlashOpStart channel done waiting time s
  | .flashUnitRead channel r time => Sys2Proof.Machine.execFlashUnitRead channel r time s
  | .geoProgramAck item ext time => Sys2Proof.Machine.execGeoProgramAck item ext time s
  | .garbageCollect stripes fold worn time => Sys2Proof.Machine.execGarbageCollect stripes fold worn time s
  | .patrolRead r time => Sys2Proof.Machine.execPatrolRead r time s
  | .patrolPeriodEnd time => Sys2Proof.Machine.execPatrolPeriodEnd time s
  | .cartridgeInsert bay c time => Sys2Proof.Machine.execCartridgeInsert bay c time s
  | .cartridgeRemoved bay time => Sys2Proof.Machine.execCartridgeRemoved bay time s
  | .channelUnanswered channel time => Sys2Proof.Machine.execChannelUnanswered channel time s
  | .bayEject bay v => Sys2Proof.Machine.execBayEject bay v s
  | .bayReadyToPull bay time => Sys2Proof.Machine.execBayReadyToPull bay time s
  | .bayAdmit bay v => Sys2Proof.Machine.execBayAdmit bay v s
  | .rebuildStripe bay time => Sys2Proof.Machine.execRebuildStripe bay time s
  | .load h time => Sys2Proof.Machine.execLoad h time s
  | .store h bytes time => Sys2Proof.Machine.execStore h bytes time s
  | .put h bytes time => Sys2Proof.Machine.execPut h bytes time s
  | .fadd64 h v time => Sys2Proof.Machine.execFadd64 h v time s
  | .swap64 h v time => Sys2Proof.Machine.execSwap64 h v time s
  | .cas64 h compare new time => Sys2Proof.Machine.execCas64 h compare new time s
  | .ktrAck node tc ack rtt epoch ce time => Sys2Proof.Machine.execKtrAck node tc ack rtt epoch ce time s
  | .ktrResp id epoch time => Sys2Proof.Machine.execKtrResp id epoch time s
  | .ktrNack a reason time => Sys2Proof.Machine.execKtrNack a reason time s
  | .rtoExpiry node tc seq time => Sys2Proof.Machine.execRtoExpiry node tc seq time s
  | .unreachTimeout node time => Sys2Proof.Machine.execUnreachTimeout node time s
  | .linkDrop port shed time => Sys2Proof.Machine.execLinkDrop port shed time s
  | .ktrWinSync v => Sys2Proof.Machine.execKtrWinSync v s
  | .frameSend port ns waiting lastPn => Sys2Proof.Machine.execFrameSend port ns waiting lastPn s
  | .frameReceive port ns f => Sys2Proof.Machine.execFrameReceive port ns f s
  | .gateGo port v ns => Sys2Proof.Machine.execGateGo port v ns s
  | .gateSwitch port ns => Sys2Proof.Machine.execGateSwitch port ns s
  | .gateEntryEnd port ns => Sys2Proof.Machine.execGateEntryEnd port ns s
  | .ptpLock port ns offset path => Sys2Proof.Machine.execPtpLock port ns offset path s
  | .ptpMasterLost port ns => Sys2Proof.Machine.execPtpMasterLost port ns s
  | .queueSample port ns queues => Sys2Proof.Machine.execQueueSample port ns queues s
  | .refOscFault time => Sys2Proof.Machine.execRefOscFault time s
  | .refOscReturn time => Sys2Proof.Machine.execRefOscReturn time s
  | .islandClockStop island idle time => Sys2Proof.Machine.execIslandClockStop island idle time s
  | .islandWake island latency time => Sys2Proof.Machine.execIslandWake island latency time s
  | .islandReset island v inFlight time => Sys2Proof.Machine.execIslandReset island v inFlight time s
  | .islandResetExit island time => Sys2Proof.Machine.execIslandResetExit island time s
  | .linkUp port time => Sys2Proof.Machine.execLinkUp port time s
  | .targetWrite v time => Sys2Proof.Machine.execTargetWrite v time s
  | .rampDone time => Sys2Proof.Machine.execRampDone time s
  | .surgeEnter m time => Sys2Proof.Machine.execSurgeEnter m time s
  | .surgeLeave reason m time => Sys2Proof.Machine.execSurgeLeave reason m time s
  | .inputOver44V m time => Sys2Proof.Machine.execInputOver44V m time s
  | .inputOver48V m time => Sys2Proof.Machine.execInputOver48V m time s
  | .psmFault psm m time => Sys2Proof.Machine.execPsmFault psm m time s
  | .inputCurrentHigh m time => Sys2Proof.Machine.execInputCurrentHigh m time s
  | .dutyStep m time => Sys2Proof.Machine.execDutyStep m time s
  | .tjHot m time => Sys2Proof.Machine.execTjHot m time s
  | .thermalStep m time => Sys2Proof.Machine.execThermalStep m time s
  | .tjTrip m time => Sys2Proof.Machine.execTjTrip m time s
  | .shedStepEnter step m time => Sys2Proof.Machine.execShedStepEnter step m time s
  | .shedStepLeave step m boot time => Sys2Proof.Machine.execShedStepLeave step m boot time s
  | .flushComplete time => Sys2Proof.Machine.execFlushComplete time s
  | .inputBelow18V m time => Sys2Proof.Machine.execInputBelow18V m time s
  | .facetStoreUe facet unit time => Sys2Proof.Machine.execFacetStoreUe facet unit time s
  | .d2dLinkFail link time => Sys2Proof.Machine.execD2dLinkFail link time s
  | .d2dRetrain link retries retrains failed time => Sys2Proof.Machine.execD2dRetrain link retries retrains failed time s
  | .scrubRead r time => Sys2Proof.Machine.execScrubRead r time s
  | .scrubPeriodEnd hbm time => Sys2Proof.Machine.execScrubPeriodEnd hbm time s
  | .rasInjectWrite v m time => Sys2Proof.Machine.execRasInjectWrite v m time s
  | .rasRetireClr v => Sys2Proof.Machine.execRasRetireClr v s
  | .report o => Sys2Proof.Machine.execReport o s
  | .keyImport o unwrapped env => Sys2Proof.Machine.execKeyImport o unwrapped env s
  | .keyGenerate o env => Sys2Proof.Machine.execKeyGenerate o env s
  | .keyDestroy o env => Sys2Proof.Machine.execKeyDestroy o env s
  | .extend o => Sys2Proof.Machine.execExtend o s
  | .kemRotate o => Sys2Proof.Machine.execKemRotate o s
  | .rollbackCommit o env => Sys2Proof.Machine.execRollbackCommit o env s
  | .officerEnroll o index key env => Sys2Proof.Machine.execOfficerEnroll o index key env s
  | .rootRevoke o root env => Sys2Proof.Machine.execRootRevoke o root env s
  | .zeroise o env boot => Sys2Proof.Machine.execZeroise o env boot s
  | .debugUnlock o env boot => Sys2Proof.Machine.execDebugUnlock o env boot s
  | .tamperTrigger cause boot time => Sys2Proof.Machine.execTamperTrigger cause boot time s
  | .sakRotate port => Sys2Proof.Machine.execSakRotate port s
  | .powerOnReset boot => Sys2Proof.Machine.execPowerOnReset boot s
  | .warmRestart cause v boot time => Sys2Proof.Machine.execWarmRestart cause v boot time s
  | .pldmColdRestart boot => Sys2Proof.Machine.execPldmColdRestart boot s
  | .readyWrite v => Sys2Proof.Machine.execReadyWrite v s
  | .partSvcDone v => Sys2Proof.Machine.execPartSvcDone v s
  | .norErase r => Sys2Proof.Machine.execNorErase r s
  | .norProgram r data => Sys2Proof.Machine.execNorProgram r data s
  | .norRead r => Sys2Proof.Machine.execNorRead r s
  | .pldmSensorUpdate time => Sys2Proof.Machine.execPldmSensorUpdate time s
  | .pldmReadEventLog => Sys2Proof.Machine.execPldmReadEventLog s
  | .evrRelease seq => Sys2Proof.Machine.execEvrRelease seq s
  | .evrRecRead w n => Sys2Proof.Machine.execEvrRecRead w n s
  | .evrFreezeWrite v time => Sys2Proof.Machine.execEvrFreezeWrite v time s
  | .freezeTimeout time => Sys2Proof.Machine.execFreezeTimeout time s
  | .evrMirror time => Sys2Proof.Machine.execEvrMirror time s
  | .opSecondsSave time => Sys2Proof.Machine.execOpSecondsSave time s
  | .reservedInstructionWord c w => Sys2Proof.Machine.execReservedInstructionWord c w s

end Sys2Proof.Machine
end

