-- ==== Sys2Proof/Safety.lean ====
section
/-! DEFINITION. What the statements ask of a state and of a run. -/

namespace Sys2Proof.Machine

/-- Every sparse table of bytes and of register fields is in its canonical form: keys strictly rising, and nothing listed that an
unlisted key reads as. Equal memories are then equal data. -/
structure State.Canonical (s : State) : Prop where
  mem : Sparse.wf 0 s.mem = true
  regs : Sparse.wf 0 s.regs = true
  nor : Sparse.wf 0xFF s.mgt.nor = true
  bezel : Sparse.wf 0 s.mgt.bezel = true

/-- The event recorder holds at most 65,536 records, as does its mirror (R472, R478), and its hold buffer at most 256 (R476). -/
structure State.RecorderBounded (s : State) : Prop where
  store : s.rec_.store.length ≤ storeSlots
  hold : s.rec_.hold.length ≤ holdSlots
  mirror : s.rec_.mirror.length ≤ storeSlots

/-- The registers, accumulators and store of a core are in canonical form: they read the same whether an entry is looked up or a range is read. -/
structure Core.Canonical (k : Core) : Prop where
  sregs : Sparse.wf 0 k.sregs = true
  vregs : Sparse.wf 0 k.vregs = true
  masks : Sparse.wf 0 k.masks = true
  acc : Sparse.wf 0 k.acc = true
  store : Sparse.wf 0 k.store = true

/-- What every step keeps. -/
structure State.Inv (s : State) : Prop where
  canonical : s.Canonical
  recorder : s.RecorderBounded
  cores : ∀ c k, s.core c = some k → k.Canonical

/-! ### Frames -/

/-- The register block of a field's number: its address bits [24:20] (table "Register blocks"). -/
def blockOf (k : Nat) : Nat := k / 67108864 % 32

/-- The register blocks, in the order of their numbers from 0. -/
inductive Block where
  | part | dsp | core | fct | mx | qnt | sel | mrg | mem | hbm | geo | csu | idx | ftb | txu | gen | ktr | shp | edg | pwr | ras | onx
  | lpe | evr | mgt
deriving DecidableEq, Repr

/-- A part of the state that a command may change or leave: the registers of a block, those of every block, or another field of `State`.
The queue of waiting commands is none of them: no command changes it. -/
inductive Portion where
  | regs (b : Block)
  | allRegs
  | free | staged | locks | mem | cores | recorder | dsp | tier | ftb | txu | idx | gen | ras | ktr | geo | mgt | pwr | onx | out
deriving DecidableEq, Repr

/-- That a part of the state is the same in two states. -/
def Portion.Same (s t : State) : Portion → Prop
  | .regs b => ∀ f : RF, blockOf f.id = b.ctorIdx → t.get f = s.get f
  | .allRegs => ∀ f : RF, t.get f = s.get f
  | .free => t.free = s.free
  | .staged => t.staged = s.staged
  | .locks => t.locks = s.locks
  | .mem => t.mem = s.mem
  | .cores => t.cores = s.cores
  | .recorder => t.rec_ = s.rec_
  | .dsp => t.dsp = s.dsp
  | .tier => t.tier = s.tier
  | .ftb => t.ftb = s.ftb
  | .txu => t.txu = s.txu
  | .idx => t.idx = s.idx
  | .gen => t.gen = s.gen
  | .ras => t.ras = s.ras
  | .ktr => t.ktr = s.ktr
  | .geo => t.geo = s.geo
  | .mgt => t.mgt = s.mgt
  | .pwr => t.pwr = s.pwr
  | .onx => t.onx = s.onx
  | .out => t.out = s.out

/-- Whether a list of parts takes in a part. -/
def Portion.isIn (l : List Portion) : Portion → Bool
  | .regs b => l.contains (.regs b) || l.contains .allRegs
  | .allRegs => l.any (fun p => match p with | .regs _ => true | .allRegs => true | _ => false)
  | p => l.contains p

/-- `t` differs from `s` only in the parts that are listed, and the queue of waiting commands is the same. -/
structure ChangesOnly (may : List Portion) (s t : State) : Prop where
  pending : t.pending = s.pending
  same : ∀ p : Portion, p.isIn may = false → p.Same s t

/-- A command runs in `s` and answers a next state, of which `p` holds. -/
def Answers (i : Instr) (s : State) (p : State → Prop) : Prop := ∃ t : State, exec i s = .next t ∧ p t

/-! ### A core between instructions -/

/-- Core `c` runs `k`, whose command has not ended and does not wait in a FENCE: it takes a next instruction. -/
structure State.Runs (s : State) (c : Nat) (k : Core) : Prop where
  core : s.core c = some k
  going : k.ended = none
  awake : k.waiting = false

/-- Core `c` has completed an instruction that left it as `k`, with `n` the index of the next; the command has taken one open value more
(log entry 3: DESIGN CHOICE, safe). Nothing else is different. -/
def State.completed (s : State) (c : Nat) (k : Core) (n : Nat) : State := s.setCore c { k with pc := n, opens := k.opens + 1 }

/-- In `t` core `c` has completed an instruction and holds `k`; every other core is as it was, and beside the cores only registers of the core's own units, which count its work, may be different. -/
structure Completes (s : State) (c : Nat) (k : Core) (t : State) : Prop where
  core : t.core c = some k
  others : ∀ d, d ≠ c → t.core d = s.core d
  rest : ChangesOnly [.regs .fct, .regs .mx, .regs .qnt, .regs .sel, .cores] s t

/-- The command of core `c` has ended with a status, a detail code and the CODE of an ABORT. Nothing else is different. -/
def State.endedWith (s : State) (c : Nat) (k : Core) (status detail code : Nat) : State :=
  s.setCore c { k with ended := some ⟨status, detail, code⟩ }

/-- The forms of source B that a scalar operation with both forms has, with the value each gives: a register with the zero field zero,
and a sign-extended immediate. -/
def SourceB (k : Core) (b : Src) (v : Word64) : Prop :=
  (∃ r, b = .reg r 0 ∧ v = k.s r) ∨ (∃ i : BitVec 44, b = .imm i ∧ v = i.signExtend 64)

/-- A step is safe when it answers a next state: no fault, no refusal. -/
def safeStep (s : State) : Prop := ∃ t, step s = .next t

end Sys2Proof.Machine
end

