-- ==== Sys2Proof/Frames.lean ====
section
/-! DEFINITION. The parts of the state that each command may change; it leaves every other part as it was. -/

namespace Sys2Proof.Machine

/-- What a command may change. -/
def mayChange : Instr → List Portion
  | .regWrite _ =>
    [.allRegs, .staged, .locks, .mem, .recorder, .dsp, .ktr, .pwr]
  | .add _ _ _ _ | .sub _ _ _ _ | .mul _ _ _ _ | .mulhu _ _ _ _ | .and _ _ _ _ | .or _ _ _ _ | .xor _ _ _ _ | .sll _ _ _ _ | .srl _ _ _ _
  | .sra _ _ _ _ | .slt _ _ _ _ | .sltu _ _ _ _ | .min _ _ _ _ | .max _ _ _ _ | .fadd _ _ _ _ | .fsub _ _ _ _ | .fmul _ _ _ _ | .fmin _ _ _ _
  | .fmax _ _ _ _ | .fcvtF32I64 _ _ _ _ | .fcvtI64F32 _ _ _ _ | .li _ _ _ _ | .lih _ _ _ _ | .br _ _ _ _ _ _ | .jl _ _ _ _ _ _ | .jr _ _ _ _ _ _
  | .ld8 _ _ _ _ _ | .ld16 _ _ _ _ _ | .ld32 _ _ _ _ _ | .ld64 _ _ _ _ _ | .st8 _ _ _ _ _ | .st16 _ _ _ _ _ | .st32 _ _ _ _ _ | .st64 _ _ _ _ _
  | .nop _ _ | .fence _ _ _ | .abort _ _ _ | .reservedInstructionWord _ _ =>
    [.cores]
  | .stage _ _ _ =>
    [.regs .fct, .regs .mx, .regs .qnt, .regs .sel, .regs .hbm, .regs .edg, .free, .cores]
  | .commit _ _ =>
    [.allRegs, .staged, .mem, .cores, .recorder, .dsp, .tier, .ftb]
  | .mloadW _ _ _ _ _ _ | .mrun _ _ _ _ _ _ _ _ _ _ _ | .mdrain _ _ _ _ _ _ | .mtov _ _ _ _ _ | .vld _ _ _ _ _ _ | .vst _ _ _ _ _ _ | .vbcast _ _ _ _
  | .vchain _ _ _ | .vred _ _ _ _ _ _ | .vderiv _ _ _ _ _ _ | .vmset _ _ _ _ | .vmld _ _ _ _ | .vmst _ _ _ _ | .selk _ _ _ | .selt _ _ _ =>
    [.regs .fct, .regs .mx, .regs .qnt, .regs .sel, .cores]
  | .kput _ _ _ | .geoProgram _ _ _ =>
    [.regs .fct, .regs .mx, .regs .qnt, .regs .sel, .regs .geo, .regs .ktr, .regs .edg, .regs .evr, .staged, .cores, .recorder, .ktr, .geo, .out]
  | .commandDispatch _ _ _ | .externalOverrunTimeout _ _ _ | .graceWindowEnd _ _ _ =>
    [.allRegs, .staged, .mem, .cores, .dsp, .tier, .txu, .idx, .gen, .ktr, .out]
  | .commandEnd _ _ | .islandReset _ _ _ _ =>
    [.allRegs, .staged, .mem, .cores, .recorder, .dsp, .tier, .txu, .idx, .gen, .ktr, .geo, .out]
  | .coreFault _ _ _ _ _ | .scrubRead _ _ | .rasInjectWrite _ _ _ =>
    [.allRegs, .staged, .mem, .cores, .recorder, .dsp, .tier, .ftb, .txu, .idx, .gen, .ras, .ktr, .out]
  | .coreRetire _ _ =>
    [.allRegs, .staged, .locks, .recorder, .dsp]
  | .coreOffline _ _ | .sliceEnd _ _ =>
    [.allRegs, .staged, .dsp]
  | .facetDrain _ _ =>
    [.regs .fct]
  | .placement _ | .stackFail _ _ | .d2dLinkFail _ _ =>
    [.allRegs, .staged, .mem, .cores, .recorder, .dsp, .tier, .txu, .idx, .gen, .ktr, .out]
  | .periodBoundary _ =>
    [.allRegs, .staged, .mem, .dsp]
  | .loupeWindowEnd _ =>
    [.regs .dsp, .regs .lpe, .regs .evr, .free, .mem, .recorder, .dsp]
  | .brxDoorbell _ _ _ _ =>
    [.regs .dsp, .regs .evr, .recorder, .dsp]
  | .hostRecordWrite _ =>
    [.dsp, .ktr, .out]
  | .hostHeadPoll _ _ _ =>
    [.regs .dsp, .regs .evr, .dsp]
  | .tenantEnable _ _ =>
    [.regs .dsp, .regs .txu, .regs .gen, .regs .evr, .mem, .recorder, .dsp, .txu, .idx, .gen, .ktr, .out]
  | .dspPostTail _ _ | .probeOrder _ _ | .sideListSearch _ =>
    [.regs .dsp, .regs .core, .regs .mem, .regs .txu, .regs .gen, .mem, .dsp, .tier, .txu, .idx, .gen, .ktr, .out]
  | .opSuspend _ | .opResume _ | .map _ | .prefetch _ _ | .pin _ | .unpin _ | .mapShared _ | .objRegister _ | .objSetAlt _ | .objRewrite _
  | .report _ | .extend _ =>
    [.regs .dsp, .regs .mem, .regs .idx, .regs .ftb, .regs .txu, .regs .gen, .regs .onx, .mem, .dsp, .tier, .out]
  | .opCancel _ =>
    [.regs .dsp, .regs .core, .regs .mem, .regs .idx, .regs .ftb, .regs .txu, .regs .gen, .regs .onx, .mem, .dsp, .tier, .ftb, .txu, .idx, .gen, .ktr,
    .geo, .out]
  | .reservationGrant _ _ | .objPageRecovery _ _ _ | .altFetchTimeout _ _ | .passCommit _ _ _ _ =>
    [.regs .dsp, .regs .core, .regs .mem, .regs .txu, .regs .gen, .regs .evr, .mem, .recorder, .dsp, .tier, .txu, .idx, .gen, .ktr, .out]
  | .pageBringUpDone _ _ =>
    [.regs .dsp, .regs .mem, .regs .ktr, .regs .evr, .mem, .recorder, .dsp, .tier, .ktr, .out]
  | .writeBack _ _ =>
    [.regs .dsp, .regs .geo, .regs .ktr, .regs .edg, .regs .evr, .staged, .recorder, .tier, .ktr, .geo, .out]
  | .writeBackDone _ _ _ =>
    [.regs .dsp, .regs .mem, .regs .evr, .recorder, .tier, .geo]
  | .pageEvict _ _ =>
    [.regs .dsp, .regs .mem, .regs .evr, .recorder, .tier]
  | .hbmUeLine _ _ _ | .facetStoreUe _ _ _ =>
    [.allRegs, .staged, .mem, .cores, .recorder, .dsp, .tier, .txu, .idx, .gen, .ras, .ktr, .out]
  | .journalGroupFlush _ | .checkpoint _ =>
    [.regs .dsp, .regs .mem, .regs .geo, .regs .ktr, .regs .edg, .regs .evr, .staged, .recorder, .tier, .ktr, .geo, .out]
  | .journalStripeAck _ _ =>
    [.regs .dsp, .regs .mem, .regs .geo, .regs .idx, .regs .txu, .regs .gen, .regs .ktr, .regs .edg, .regs .evr, .staged, .mem, .recorder, .dsp, .tier,
    .ftb, .txu, .idx, .gen, .ktr, .geo, .out]
  | .unmap _ =>
    [.regs .dsp, .regs .core, .regs .mem, .regs .idx, .regs .ftb, .regs .txu, .regs .gen, .regs .onx, .mem, .dsp, .tier, .txu, .idx, .gen, .ktr, .geo,
    .out]
  | .setHome _ _ | .evict _ _ | .objSeal _ =>
    [.regs .dsp, .regs .mem, .regs .geo, .regs .idx, .regs .ftb, .regs .txu, .regs .gen, .regs .ktr, .regs .edg, .regs .onx, .regs .evr, .staged, .mem,
    .recorder, .dsp, .tier, .ktr, .geo, .out]
  | .objRetire _ =>
    [.regs .dsp, .regs .mem, .regs .idx, .regs .ftb, .regs .txu, .regs .gen, .regs .onx, .mem, .dsp, .tier, .geo, .out]
  | .hbmRetire _ _ =>
    [.allRegs, .staged, .locks, .mem, .cores, .recorder, .dsp, .tier, .txu, .idx, .gen, .ktr, .out]
  | .ftbCreate _ | .ftbDrop _ | .ftbMigrate _ =>
    [.regs .dsp, .regs .mem, .regs .idx, .regs .ftb, .regs .txu, .regs .gen, .regs .onx, .mem, .dsp, .tier, .ftb, .out]
  | .gather _ _ =>
    [.regs .dsp, .regs .core, .regs .mem, .regs .ftb, .regs .txu, .regs .gen, .regs .evr, .mem, .dsp, .tier, .ftb, .txu, .idx, .gen, .ktr, .out]
  | .scatterAddApply _ _ =>
    [.regs .dsp, .regs .mem, .regs .ftb, .regs .evr, .mem, .dsp, .tier, .ftb, .out]
  | .decayTick _ _ =>
    [.regs .dsp, .regs .evr, .ftb]
  | .migrationStart _ _ =>
    [.regs .dsp, .regs .mem, .mem, .dsp, .tier, .ftb, .out]
  | .migrationSwitch _ _ =>
    [.regs .dsp, .regs .mem, .regs .ftb, .mem, .dsp, .tier, .ftb, .out]
  | .migrationFree _ _ =>
    [.tier, .ftb]
  | .open_ _ _ | .feed _ _ | .request _ | .indexUpdate _ | .heldRequestAdmit _ _ =>
    [.regs .dsp, .regs .core, .regs .mem, .regs .geo, .regs .idx, .regs .txu, .regs .gen, .regs .ktr, .regs .edg, .regs .evr, .staged, .mem, .recorder,
    .dsp, .tier, .txu, .idx, .gen, .ktr, .geo, .out]
  | .pack _ _ | .formPass _ _ _ | .stageAdvance _ _ _ | .shipNack _ _ | .ktrAck _ _ _ _ _ _ _ =>
    [.regs .dsp, .regs .core, .regs .mem, .regs .txu, .regs .gen, .regs .evr, .mem, .dsp, .tier, .txu, .idx, .gen, .ktr, .out]
  | .contextEvict _ _ _ =>
    [.regs .dsp, .regs .evr, .txu]
  | .dictLoad _ =>
    [.regs .dsp, .regs .mem, .regs .idx, .regs .ftb, .regs .txu, .regs .gen, .regs .onx, .mem, .dsp, .tier, .txu, .out]
  | .dictUnload _ | .gramUnload _ | .genModelUnload _ =>
    [.regs .dsp, .regs .mem, .regs .idx, .regs .ftb, .regs .txu, .regs .gen, .regs .onx, .mem, .dsp, .tier, .txu, .idx, .gen, .out]
  | .gramLoad _ _ =>
    [.regs .dsp, .regs .core, .regs .mem, .regs .idx, .regs .ftb, .regs .txu, .regs .gen, .regs .onx, .mem, .dsp, .tier, .txu, .idx, .gen, .ktr, .out]
  | .idxCreate _ =>
    [.regs .dsp, .regs .mem, .regs .geo, .regs .idx, .regs .ftb, .regs .txu, .regs .gen, .regs .ktr, .regs .edg, .regs .onx, .regs .evr, .staged, .mem,
    .recorder, .dsp, .tier, .idx, .geo, .out]
  | .idxDrop _ =>
    [.regs .dsp, .regs .mem, .regs .idx, .regs .ftb, .regs .txu, .regs .gen, .regs .onx, .mem, .dsp, .tier, .txu, .idx, .gen, .ktr, .geo, .out]
  | .idxFold _ | .idxRepair _ =>
    [.regs .dsp, .regs .mem, .regs .idx, .regs .ftb, .regs .txu, .regs .gen, .regs .onx, .mem, .dsp, .tier, .idx, .out]
  | .itemCopyWrite _ _ _ | .foldReclaim _ =>
    [.regs .dsp, .regs .mem, .regs .geo, .regs .idx, .regs .txu, .regs .gen, .regs .ktr, .regs .edg, .regs .evr, .staged, .mem, .recorder, .dsp, .tier,
    .txu, .idx, .gen, .ktr, .geo, .out]
  | .foldPublish _ _ =>
    [.regs .mem, .regs .geo, .regs .ktr, .regs .edg, .regs .evr, .staged, .mem, .recorder, .dsp, .tier, .idx, .geo]
  | .idxCtlWrite _ =>
    [.regs .idx]
  | .probeDispatch _ =>
    [.regs .dsp, .regs .core, .regs .mem, .regs .csu, .regs .txu, .regs .gen, .mem, .dsp, .tier, .txu, .idx, .gen, .ktr, .out]
  | .scanUnitScore _ _ _ _ =>
    [.regs .csu, .free, .idx]
  | .mergeStart _ =>
    [.regs .dsp, .regs .mrg, .regs .csu, .regs .txu, .regs .gen, .regs .evr, .mem, .recorder, .dsp, .txu, .idx, .gen, .ktr, .out]
  | .candidateFetch _ =>
    [.dsp, .idx]
  | .rescore _ =>
    [.regs .dsp, .regs .core, .regs .mrg, .regs .mem, .regs .txu, .regs .gen, .regs .evr, .mem, .recorder, .dsp, .tier, .txu, .idx, .gen, .ktr, .out]
  | .passageFetch _ =>
    [.regs .mrg, .regs .evr, .recorder, .dsp, .txu, .idx, .gen]
  | .csuProgLoad _ _ =>
    [.regs .csu, .regs .evr, .recorder, .idx]
  | .genModelLoad _ =>
    [.regs .dsp, .regs .mem, .regs .idx, .regs .ftb, .regs .txu, .regs .gen, .regs .onx, .mem, .dsp, .tier, .gen, .out]
  | .detokenise _ _ =>
    [.regs .dsp, .regs .txu, .regs .evr, .dsp, .gen]
  | .grammarAdvance _ _ _ _ | .draftWalk _ _ _ _ _ =>
    [.regs .dsp, .regs .mem, .regs .txu, .regs .evr, .mem, .recorder, .dsp, .tier, .gen]
  | .shipClaim _ _ | .shipGrant _ _ _ | .shipAbort _ _ =>
    [.regs .dsp, .regs .gen, .regs .evr, .gen, .ktr, .out]
  | .shipChunk _ _ =>
    [.regs .dsp, .regs .evr, .gen, .ktr, .out]
  | .shipManifest _ _ _ _ =>
    [.regs .dsp, .regs .txu, .regs .gen, .regs .evr, .mem, .dsp, .tier, .gen, .ktr, .out]
  | .shipAck _ _ =>
    [.regs .dsp, .regs .txu, .regs .gen, .regs .evr, .mem, .dsp, .txu, .idx, .gen, .ktr, .out]
  | .orphanMsExpiry _ _ _ =>
    [.regs .dsp, .regs .gen, .regs .evr, .recorder, .gen, .ktr, .out]
  | .cancel _ =>
    [.regs .part, .regs .dsp, .regs .core, .regs .mem, .regs .geo, .regs .idx, .regs .txu, .regs .gen, .regs .ktr, .regs .edg, .regs .evr, .staged, .mem,
    .recorder, .dsp, .tier, .txu, .idx, .gen, .ktr, .geo, .out]
  | .suspend _ | .resume _ =>
    [.regs .dsp, .regs .evr, .mem, .dsp]
  | .service _ =>
    [.regs .part, .regs .dsp, .regs .evr, .mem, .dsp]
  | .flashOpStart _ _ _ _ =>
    [.regs .dsp, .regs .mem, .regs .hbm, .regs .geo, .regs .idx, .regs .txu, .regs .gen, .regs .ktr, .regs .edg, .regs .evr, .free, .staged, .mem,
    .recorder, .dsp, .tier, .txu, .idx, .gen, .ktr, .geo, .out]
  | .flashUnitRead _ _ _ | .patrolRead _ _ =>
    [.regs .dsp, .regs .core, .regs .mem, .regs .geo, .regs .txu, .regs .gen, .regs .ktr, .regs .edg, .regs .ras, .regs .evr, .staged, .mem, .recorder,
    .dsp, .tier, .txu, .idx, .gen, .ras, .ktr, .geo, .out]
  | .geoProgramAck _ _ _ =>
    [.regs .dsp, .regs .evr, .mem, .cores, .geo]
  | .garbageCollect _ _ _ _ =>
    [.regs .dsp, .regs .geo, .regs .ktr, .regs .edg, .regs .evr, .staged, .recorder, .geo]
  | .patrolPeriodEnd _ =>
    [.regs .dsp, .regs .evr, .recorder, .geo]
  | .cartridgeInsert _ _ _ | .cartridgeRemoved _ _ | .channelUnanswered _ _ | .rebuildStripe _ _ =>
    [.regs .dsp, .regs .geo, .regs .ktr, .regs .edg, .regs .evr, .staged, .recorder, .dsp, .geo]
  | .bayEject _ _ | .bayAdmit _ _ =>
    [.regs .geo, .regs .ktr, .regs .edg, .regs .evr, .staged, .recorder, .geo]
  | .bayReadyToPull _ _ =>
    [.regs .dsp, .regs .geo, .regs .ktr, .regs .edg, .regs .evr, .staged, .geo, .out]
  | .load _ _ | .store _ _ _ | .put _ _ _ | .fadd64 _ _ _ | .swap64 _ _ _ | .cas64 _ _ _ _ | .unreachTimeout _ _ =>
    [.regs .dsp, .regs .core, .regs .mem, .regs .txu, .regs .gen, .regs .ktr, .regs .evr, .mem, .recorder, .dsp, .tier, .txu, .idx, .gen, .ktr, .out]
  | .ktrResp _ _ _ =>
    [.regs .dsp, .regs .core, .regs .mem, .regs .txu, .regs .gen, .regs .evr, .mem, .cores, .dsp, .tier, .txu, .idx, .gen, .ktr, .out]
  | .ktrNack _ _ _ =>
    [.regs .dsp, .regs .core, .regs .mem, .regs .txu, .regs .gen, .regs .evr, .mem, .cores, .recorder, .dsp, .tier, .txu, .idx, .gen, .ktr, .out]
  | .rtoExpiry _ _ _ _ =>
    [.regs .dsp, .regs .ktr, .regs .evr, .ktr]
  | .linkDrop _ _ _ =>
    [.regs .dsp, .regs .ktr, .regs .edg, .regs .evr, .staged, .recorder, .ktr]
  | .ktrWinSync _ =>
    [.regs .evr, .mem, .recorder, .ktr]
  | .frameSend _ _ _ _ =>
    [.regs .ktr, .regs .evr, .recorder, .ktr]
  | .frameReceive _ _ _ | .gateSwitch _ _ =>
    [.regs .ktr, .regs .shp, .ktr]
  | .gateGo _ _ _ =>
    [.regs .ktr, .regs .shp, .regs .evr, .recorder, .ktr]
  | .gateEntryEnd _ _ | .ptpLock _ _ _ _ =>
    [.regs .ktr, .ktr]
  | .ptpMasterLost _ _ =>
    [.regs .ktr, .regs .evr, .recorder]
  | .queueSample _ _ _ =>
    [.regs .ktr, .regs .shp, .mem, .ktr]
  | .refOscFault _ =>
    [.regs .dsp, .regs .edg, .regs .evr, .recorder]
  | .refOscReturn _ =>
    [.regs .dsp, .regs .edg, .regs .evr]
  | .islandClockStop _ _ _ =>
    [.regs .dsp, .regs .hbm, .regs .ktr, .regs .edg, .regs .evr, .staged]
  | .islandWake _ _ _ =>
    [.regs .dsp, .regs .hbm, .regs .edg, .regs .evr]
  | .islandResetExit _ _ =>
    [.regs .dsp, .regs .hbm, .regs .geo, .regs .ktr, .regs .edg, .regs .evr, .staged, .geo]
  | .linkUp _ _ =>
    [.regs .dsp, .regs .ktr, .regs .evr]
  | .targetWrite _ _ | .surgeLeave _ _ _ | .inputOver44V _ _ | .psmFault _ _ _ | .inputCurrentHigh _ _ | .tjHot _ _ =>
    [.regs .dsp, .regs .pwr, .regs .evr, .recorder, .pwr]
  | .rampDone _ | .surgeEnter _ _ | .dutyStep _ _ | .thermalStep _ _ =>
    [.regs .dsp, .regs .pwr, .regs .evr, .pwr]
  | .inputOver48V _ _ | .inputBelow18V _ _ =>
    [.regs .dsp, .regs .core, .regs .hbm, .regs .ktr, .regs .pwr, .regs .evr, .staged, .cores, .recorder, .dsp, .tier, .ftb, .txu, .idx, .gen, .ktr, .geo,
    .pwr]
  | .tjTrip _ _ =>
    [.allRegs, .staged, .mem, .cores, .recorder, .dsp, .tier, .txu, .idx, .gen, .ktr, .pwr, .out]
  | .shedStepEnter _ _ _ =>
    [.allRegs, .staged, .mem, .cores, .recorder, .dsp, .tier, .ftb, .txu, .idx, .gen, .ktr, .geo, .pwr, .out]
  | .shedStepLeave _ _ _ _ | .zeroise _ _ _ | .debugUnlock _ _ _ | .tamperTrigger _ _ _ | .warmRestart _ _ _ _ =>
    [.allRegs, .staged, .locks, .mem, .cores, .recorder, .dsp, .tier, .ftb, .txu, .idx, .gen, .ras, .ktr, .geo, .pwr, .onx, .out]
  | .flushComplete _ =>
    [.regs .dsp, .regs .core, .regs .mem, .regs .hbm, .regs .geo, .regs .idx, .regs .txu, .regs .gen, .regs .ktr, .regs .edg, .regs .pwr, .regs .evr,
    .staged, .mem, .cores, .recorder, .dsp, .tier, .ftb, .txu, .idx, .gen, .ktr, .geo, .pwr, .out]
  | .d2dRetrain _ _ _ _ _ =>
    [.regs .dsp, .regs .ras, .regs .evr, .recorder, .ras]
  | .scrubPeriodEnd _ _ =>
    [.regs .dsp, .regs .evr, .recorder, .ras]
  | .rasRetireClr _ =>
    [.ras]
  | .keyImport _ _ _ | .kemRotate _ | .rollbackCommit _ _ | .officerEnroll _ _ _ _ | .rootRevoke _ _ _ =>
    [.regs .dsp, .regs .mem, .regs .idx, .regs .ftb, .regs .txu, .regs .gen, .regs .onx, .mem, .dsp, .tier, .onx, .out]
  | .keyGenerate _ _ =>
    [.regs .dsp, .regs .mem, .regs .idx, .regs .ftb, .regs .txu, .regs .gen, .regs .onx, .free, .mem, .dsp, .tier, .onx, .out]
  | .keyDestroy _ _ =>
    [.regs .dsp, .regs .mem, .regs .idx, .regs .ftb, .regs .txu, .regs .gen, .regs .onx, .mem, .dsp, .tier, .geo, .onx, .out]
  | .sakRotate _ =>
    [.regs .ktr, .ktr, .onx]
  | .powerOnReset _ | .pldmColdRestart _ =>
    [.allRegs, .staged, .locks, .mem, .cores, .recorder, .dsp, .tier, .ftb, .txu, .idx, .gen, .ras, .ktr, .geo, .mgt, .pwr, .onx, .out]
  | .readyWrite _ =>
    [.regs .part, .regs .evr, .locks, .recorder]
  | .partSvcDone _ =>
    [.regs .dsp, .regs .txu, .regs .gen, .mem, .dsp, .txu, .idx, .gen, .ktr, .out]
  | .norErase _ | .norProgram _ _ =>
    [.regs .mgt, .mgt]
  | .norRead _ =>
    [.regs .mgt, .free, .mgt]
  | .pldmSensorUpdate _ =>
    [.regs .dsp, .regs .evr, .mgt]
  | .pldmReadEventLog =>
    [.regs .evr, .recorder, .out]
  | .evrRelease _ =>
    [.recorder]
  | .evrRecRead _ _ =>
    [.regs .evr, .recorder]
  | .evrFreezeWrite _ _ | .freezeTimeout _ | .evrMirror _ | .opSecondsSave _ =>
    [.regs .dsp, .regs .evr, .recorder]

end Sys2Proof.Machine
end

