-- ==== Sys2Proof/Certificates/Slice0/Obligations.lean ====
section
/-! DEFINITION. The statements for the provers. A docstring says what its statement claims; the numbers of rules in it say where
the claim comes from, and not that every sentence of those rules is claimed. -/

open Sys2Proof Sys2Proof.Machine

/-! ### The queue, frames, invariants and reset -/

/-- A step takes the command at the front of the queue: it is `exec` of that command on the state with the queue's rest. With no command
waiting the part idles (the model's choice, log entry 1). -/
def Obligations.StepRunsFront : Prop :=
  (∀ (s : State) (i : Instr) (rest : List Instr), s.pending = i :: rest → step s = exec i { s with pending := rest }) ∧
  (∀ s : State, s.pending = [] → step s = .next s)

/-- Every command leaves each portion of the state that `mayChange` does not list for it as it was: registers block by block, memory, and
every unit; and no command changes the queue of waiting commands. -/
def Obligations.CommandsChangeOnlyTheirPortions : Prop :=
  ∀ (i : Instr) (s t : State), exec i s = .next t → ChangesOnly (mayChange i) s t

/-- Every step keeps the invariant: memories and registers in canonical form, the recorder and its mirror within their slots (R472, R476,
R478). -/
def Obligations.StepKeepsInvariant : Prop :=
  ∀ s t : State, s.Inv → step s = .next t → t.Inv

/-- The invariant holds after reset, with no command waiting, no memory written, no core running, no event recorded and nothing locked or
staged; and registers have the reset values of their tables, of which some that are not zero are written out (R10, R46, R467). -/
def Obligations.ResetMeetsInvariant : Prop :=
  let r := State.reset
  r.Inv ∧ r.pending = [] ∧ r.mem = [] ∧ r.cores = [] ∧ r.rec_.store = [] ∧ r.locks = [] ∧ r.staged = [] ∧ (∀ f : RF, r.get f = f.rst) ∧
  r.now = 0 ∧ r.get F.PART_STAT_READY = 0 ∧ r.get F.PART_STAT_STAGE = 1 ∧ r.get F.DSP_CTL_ADMIT_EN = 1 ∧ r.get F.DSP_SLICE_SLICE_US = 2000 ∧
  r.get F.DSP_PERIOD_PERIOD_US = 10000 ∧ r.get (F.DSP_TNT_BUDGET_CAP 5) = 20000 ∧ r.get (F.CORE_STAT_STATE 31) = 1 ∧ r.get F.MEM_CLEAN_CLEAN_AGE = 1000 ∧
  r.get F.KTR_CFG_UDP_PORT = 7311 ∧ r.get F.PWR_CTL_TARGET = 1 ∧ r.get F.PWR_SURGE_CREDIT_MS = 30000 ∧ r.get F.RAS_CTL_CE_THRESH = 1000 ∧ r.get F.MGT_CTL_EN = 1

/-! ### Instruction words (spec/03 "Instruction words") -/

/-- Decoding undoes encoding: every kernel instruction that has a word is read back from it with every operand, whatever their values; the
two external operations share their word, which reads as the put (their descriptors tell them apart). -/
def Obligations.DecodeOfEncode : Prop :=
  ∀ (i : Instr) (w : Word64), encode i = some w →
    (∃ c, decodeWord c w = some i) ∨ (∃ c sa zero, i = .geoProgram c sa zero ∧ decodeWord c w = some (.kput c sa zero))

/-- Encoding undoes decoding: a word that spells an instruction is the word of that instruction, so no two words spell the same one. -/
def Obligations.EncodeOfDecode : Prop :=
  ∀ (c : Nat) (w : Word64) (i : Instr), decodeWord c w = some i → encode i = some w

/-- The words that spell no instruction are exactly those of a reserved class or operation: classes 0xA to 0xF, and in the other classes
the operations that their tables leave out (tables "Instruction classes", "Scalar operations" and those of spec/04 and spec/06). -/
def Obligations.ReservedWords : Prop :=
  ∀ (c : Nat) (w : Word64),
    let cls := w.toNat / 2 ^ 60
    let op := w.toNat / 2 ^ 54 % 64
    decodeWord c w = none ↔
      10 ≤ cls ∨ (cls ≤ 1 ∧ ¬ (op ≤ 0x0D ∨ (0x10 ≤ op ∧ op ≤ 0x16) ∨ op = 0x20 ∨ op = 0x21)) ∨ (cls = 2 ∧ 3 ≤ op)
        ∨ (cls = 3 ∧ ¬ (op ≤ 3 ∨ (8 ≤ op ∧ op ≤ 0x0B))) ∨ ((cls = 4 ∨ cls = 9) ∧ op ≠ 0) ∨ ((cls = 5 ∨ cls = 8) ∧ 4 ≤ op)
        ∨ (cls = 6 ∧ 9 ≤ op) ∨ (cls = 7 ∧ 2 ≤ op)


/-! ### The control core (spec/03) -/

/-- The integer operations of table "Scalar operations", in the forms that the table gives them (R64): SD receives the result, which a write to S0 discards;
the next instruction follows; and nothing else of the part is different. B is a register or a sign-extended immediate. -/
def Obligations.IntegerResults : Prop :=
  ∀ (s : State) (c : Nat) (k : Core) (sd sa sb : Reg5) (b : Src) (v : Word64), s.Runs c k → k.pc + 1 < k.d.codeLen → SourceB k b v →
    let a := k.s sa
    let r := k.s sb
    let gives : Word64 → Res := fun x => .next (s.completed c (k.setS sd x) (k.pc + 1))
    exec (.add c sd sa b) s = gives (a + v) ∧
    exec (.sub c sd sa (.reg sb 0)) s = gives (a - r) ∧
    exec (.mul c sd sa b) s = gives (a * v) ∧
    exec (.mulhu c sd sa (.reg sb 0)) s = gives (BitVec.ofNat 64 (a.toNat * r.toNat / 2 ^ 64)) ∧
    exec (.and c sd sa b) s = gives (a &&& v) ∧
    exec (.or c sd sa b) s = gives (a ||| v) ∧
    exec (.xor c sd sa b) s = gives (a ^^^ v) ∧
    exec (.sll c sd sa b) s = gives (BitVec.ofNat 64 (a.toNat * 2 ^ (v.toNat % 64))) ∧
    exec (.srl c sd sa b) s = gives (BitVec.ofNat 64 (a.toNat / 2 ^ (v.toNat % 64))) ∧
    exec (.sra c sd sa b) s = gives (BitVec.ofInt 64 (a.toInt / 2 ^ (v.toNat % 64))) ∧
    exec (.slt c sd sa b) s = gives (if a.toInt < v.toInt then 1 else 0) ∧
    exec (.sltu c sd sa b) s = gives (if a.toNat < v.toNat then 1 else 0) ∧
    exec (.min c sd sa b) s = gives (BitVec.ofInt 64 (Min.min a.toInt v.toInt)) ∧
    exec (.max c sd sa b) s = gives (BitVec.ofInt 64 (Max.max a.toInt v.toInt)) ∧
    ∀ i : BitVec 44,
      exec (.li c sd sa (.imm i)) s = gives (BitVec.ofInt 64 i.toInt) ∧
      exec (.lih c sd sa (.imm i)) s = gives (BitVec.ofNat 64 (a.toNat % 2 ^ 32 + i.toNat % 2 ^ 32 * 2 ^ 32))

/-- The F32 operations (R64): bits [31:0] of SD receive the nearest-even result and bits [63:32] zero. Where the result is a NaN, or an operand
of FMIN or FMAX is one, the value is open within what IEEE 754 allows (the model's reading, log entry 4): for FADD, FSUB and FMUL some
NaN, for FMIN and FMAX a NaN or the operand that is a number. -/
def Obligations.F32Results : Prop :=
  ∀ (s : State) (c : Nat) (k : Core) (sd sa sb : Reg5), s.Runs c k → k.pc + 1 < k.d.codeLen →
    let a : F32 := (k.s sa).setWidth 32
    let b : F32 := (k.s sb).setWidth 32
    let gives : F32 → Res := fun x => .next (s.completed c (k.setS sd (x.setWidth 64)) (k.pc + 1))
    let arith : F32 → Res → Prop := fun r o => if Fp.isNaN r then ∃ n : F32, Fp.isNaN n = true ∧ o = gives n else o = gives r
    let extreme : F32 → Res → Prop := fun r o =>
      if Fp.isNaN a then (∃ n : F32, (Fp.isNaN n = true ∨ n = b) ∧ o = gives n)
      else if Fp.isNaN b then (∃ n : F32, (Fp.isNaN n = true ∨ n = a) ∧ o = gives n)
      else o = gives r
    arith (Fp.add a b) (exec (.fadd c sd sa (.reg sb 0)) s) ∧
    arith (Fp.sub a b) (exec (.fsub c sd sa (.reg sb 0)) s) ∧
    arith (Fp.mul a b) (exec (.fmul c sd sa (.reg sb 0)) s) ∧
    extreme (Fp.minNum a b) (exec (.fmin c sd sa (.reg sb 0)) s) ∧
    extreme (Fp.maxNum a b) (exec (.fmax c sd sa (.reg sb 0)) s) ∧
    exec (.fcvtF32I64 c sd sa (.reg sb 0)) s = gives (Fp.ofInt (k.s sa).toInt)

/-- FCVT.I64.F32 (R65): a NaN gives 0; any other value is rounded toward zero and saturates at the largest and smallest signed 64-bit values.
A finite value is its sign, an integer and a power of two. -/
def Obligations.ConversionToInteger : Prop :=
  ∀ (s : State) (c : Nat) (k : Core) (sd sa sb : Reg5), s.Runs c k → k.pc + 1 < k.d.codeLen →
    let a : F32 := (k.s sa).setWidth 32
    let gives : Int → Res := fun x => .next (s.completed c (k.setS sd (BitVec.ofInt 64 x)) (k.pc + 1))
    let clamp : Int → Int := fun x => Max.max (-2 ^ 63) (Min.min x (2 ^ 63 - 1))
    let sign : Int := if Fp.sign a then -1 else 1
    let magnitude : Int := if 0 ≤ Fp.expo a then (Fp.mant a : Int) * 2 ^ (Fp.expo a).toNat else (Fp.mant a : Int) / 2 ^ (-Fp.expo a).toNat
    exec (.fcvtI64F32 c sd sa (.reg sb 0)) s =
      if Fp.isNaN a then gives 0
      else if Fp.isInf a then (if Fp.sign a then gives (-2 ^ 63) else gives (2 ^ 63 - 1))
      else gives (clamp (sign * magnitude))

/-- S0 reads as zero and a write to it is discarded (R62); a write to any other register is read back, and leaves the other registers and
everything else on the core as they were. A core has 32 vector registers of 512 lanes and eight mask registers of 512 bits, of which M0
reads as all ones (R142): a written register reads back, and every other reads as before. -/
def Obligations.CoreRegisters : Prop :=
  ∀ (k : Core) (r q : Reg5) (v : Word64) (m n : Reg3) (l : List F32) (b : BitVec 512), k.Canonical →
    k.s 0 = 0 ∧ k.setS 0 v = k ∧ (r ≠ 0 → (k.setS r v).s r = v) ∧ (q ≠ r → (k.setS r v).s q = k.s q) ∧ { k.setS r v with sregs := k.sregs } = k ∧
    (k.v r).length = 512 ∧ (l.length = 512 → (k.setV r l).v r = l ∧ (q ≠ r → (k.setV r l).v q = k.v q)) ∧ { k.setV r l with vregs := k.vregs } = k ∧
    k.m 0 = BitVec.allOnes 512 ∧ (m ≠ 0 → (k.setM m b).m m = b) ∧ (n ≠ m → (k.setM m b).m n = k.m n) ∧ k.setM 0 b = k

/-- A form that a scalar operation lacks, a reserved condition, or a non-zero field marked zero, ends the command with INVALID_ENCODING; nothing
is published and nothing else is different (R66, table "Branch conditions"). -/
def Obligations.ReservedScalarForms : Prop :=
  ∀ (s : State) (c : Nat) (k : Core) (sd sa sb : Reg5) (z : BitVec 39) (i : BitVec 44) (cond : BitVec 3) (zero : BitVec 17) (off : BitVec 24), s.Runs c k →
    let stops : Instr → Prop := fun x => exec x s = .next (s.endedWith c k 0x0B 0 0)
    (∀ f ∈ [Instr.sub, .mulhu, .fadd, .fsub, .fmul, .fmin, .fmax, .fcvtF32I64, .fcvtI64F32], stops (f c sd sa (.imm i))) ∧
    (∀ f ∈ [Instr.li, .lih], stops (f c sd sa (.reg sb z))) ∧
    (z ≠ 0 → ∀ f ∈ [Instr.add, .sub, .mul, .mulhu, .and, .or, .xor, .sll, .srl, .sra, .slt, .sltu, .min, .max, .fadd, .fsub, .fmul, .fmin, .fmax,
      .fcvtF32I64, .fcvtI64F32], stops (f c sd sa (.reg sb z))) ∧
    (zero ≠ 0 ∨ cond = 7 → stops (.br c sa sb cond zero off)) ∧
    (zero ≠ 0 ∨ sb ≠ 0 ∨ cond ≠ 6 → stops (.jl c sa sb cond zero off)) ∧
    (zero ≠ 0 ∨ sb ≠ 0 ∨ cond ≠ 6 ∨ off ≠ 0 → stops (.jr c sa sb cond zero off))

/-- BR, JL and JR (R67): where the target lies in the kernel the next instruction is the target, or the following one where BR is not taken; JL
also leaves PC + 1 in SA. A taken branch or jump to an index that is negative, or at or beyond CODE_LEN, and running past the last
instruction, end the command FAILED with CODE_RANGE. -/
def Obligations.BranchTargets : Prop :=
  ∀ (s : State) (c : Nat) (k : Core) (sa sb : Reg5) (cond : BitVec 3) (off : BitVec 24) (n : Nat) (t : Int), s.Runs c k →
    let a := k.s sa
    let b := k.s sb
    let taken : Prop := (cond = 0 ∧ a = b) ∨ (cond = 1 ∧ a ≠ b) ∨ (cond = 2 ∧ a.toInt < b.toInt) ∨ (cond = 3 ∧ b.toInt ≤ a.toInt)
      ∨ (cond = 4 ∧ a.toNat < b.toNat) ∨ (cond = 5 ∧ b.toNat ≤ a.toNat) ∨ cond = 6
    let ends : Core → Instr → Prop := fun k' x => exec x s = .next (s.endedWith c k' 0x03 0x0301 0)
    (n < k.d.codeLen →
      (taken → (n : Int) = k.pc + off.toInt → exec (.br c sa sb cond 0 off) s = .next (s.completed c k n)) ∧
      (cond ≠ 7 → ¬ taken → n = k.pc + 1 → exec (.br c sa sb cond 0 off) s = .next (s.completed c k n)) ∧
      ((n : Int) = k.pc + off.toInt → exec (.jl c sa 0 6 0 off) s = .next (s.completed c (k.setS sa (BitVec.ofNat 64 (k.pc + 1))) n)) ∧
      ((n : Int) = a.toInt → exec (.jr c sa 0 6 0 0) s = .next (s.completed c k n))) ∧
    (t < 0 ∨ (k.d.codeLen : Int) ≤ t →
      (t = k.pc + off.toInt → (taken → ends k (.br c sa sb cond 0 off)) ∧ ends (k.setS sa (BitVec.ofNat 64 (k.pc + 1))) (.jl c sa 0 6 0 off)) ∧
      (t = a.toInt → ends k (.jr c sa 0 6 0 0)) ∧
      (t = k.pc + 1 → ends k (.nop c 0) ∧ (cond ≠ 7 → ¬ taken → ends k (.br c sa sb cond 0 off))))

/-- LD8 to LD64 (R68, R69): an aligned load inside the store puts a zero-extended value into SD: that of the little-endian bytes at SA + OFFSET,
where bytes that the command has not written read zero. Bytes of a staged layout region read as open values (R111). -/
def Obligations.LoadResults : Prop :=
  ∀ (s : State) (c : Nat) (k : Core) (sd sa : Reg5) (off : BitVec 24), s.Inv → s.Runs c k → k.pc + 1 < k.d.codeLen →
    let a := (k.s sa + off.signExtend 64).toNat
    let byte : Nat → Nat := fun i => (Sparse.get 0 k.store (a + i)).toNat
    let loads : Nat → Nat → Res → Prop := fun n v o =>
      a % n = 0 → a + n ≤ 2 ^ 24 + k.d.facetUnits * 65536 →
        ∃ x : Nat, x < 256 ^ n ∧ o = .next (s.completed c (k.setS sd (BitVec.ofNat 64 x)) (k.pc + 1)) ∧
          ((∀ r ∈ k.regions, a + n ≤ r.addr ∨ r.addr + r.size ≤ a) → x = v)
    loads 1 (byte 0) (exec (.ld8 c sd sa 0 off) s) ∧
    loads 2 (byte 0 + 2 ^ 8 * byte 1) (exec (.ld16 c sd sa 0 off) s) ∧
    loads 4 (byte 0 + 2 ^ 8 * byte 1 + 2 ^ 16 * byte 2 + 2 ^ 24 * byte 3) (exec (.ld32 c sd sa 0 off) s) ∧
    loads 8 (byte 0 + 2 ^ 8 * byte 1 + 2 ^ 16 * byte 2 + 2 ^ 24 * byte 3 + 2 ^ 32 * byte 4 + 2 ^ 40 * byte 5 + 2 ^ 48 * byte 6 + 2 ^ 56 * byte 7)
      (exec (.ld64 c sd sa 0 off) s)

/-- ST8 to ST64 (R68): the low bytes of SS, lowest first, at SA + OFFSET; every other byte of the store reads as before, and of the core only the
store, what it notes of its staged regions and the PC are different. -/
def Obligations.StoreResults : Prop :=
  ∀ (s : State) (c : Nat) (k : Core) (ss sa : Reg5) (off : BitVec 24), s.Runs c k → k.pc + 1 < k.d.codeLen →
    let a := (k.s sa + off.signExtend 64).toNat
    let stores : Nat → Res → Prop := fun n o =>
      a % n = 0 → a + n ≤ 2 ^ 24 + k.d.facetUnits * 65536 →
        ∃ (st : List (Nat × Byte)) (rs : List Region),
          o = .next (s.completed c { k with store := st, regions := rs } (k.pc + 1)) ∧
          ∀ x, Sparse.get 0 st x = if a ≤ x ∧ x < a + n then BitVec.ofNat 8 ((k.s ss).toNat / 256 ^ (x - a)) else Sparse.get 0 k.store x
    stores 1 (exec (.st8 c ss sa 0 off) s) ∧ stores 2 (exec (.st16 c ss sa 0 off) s) ∧ stores 4 (exec (.st32 c ss sa 0 off) s) ∧
    stores 8 (exec (.st64 c ss sa 0 off) s)

/-- A load or store that is not aligned to its own size ends the command FAILED with MISALIGNED; an aligned one beyond the core store and the
facet window ends it with STORE_RANGE; and the field marked zero must be zero (R66, R68). -/
def Obligations.LoadStoreTraps : Prop :=
  ∀ (s : State) (c : Nat) (k : Core) (r sa : Reg5) (zero : BitVec 20) (off : BitVec 24), s.Runs c k →
    let a := (k.s sa + off.signExtend 64).toNat
    let checks : Nat → (Nat → Reg5 → Reg5 → BitVec 20 → BitVec 24 → Instr) → Prop := fun n f =>
      (zero ≠ 0 → exec (f c r sa zero off) s = .next (s.endedWith c k 0x0B 0 0)) ∧
      (a % n ≠ 0 → exec (f c r sa 0 off) s = .next (s.endedWith c k 0x03 0x0302 0)) ∧
      (a % n = 0 → 2 ^ 24 + k.d.facetUnits * 65536 < a + n → exec (f c r sa 0 off) s = .next (s.endedWith c k 0x03 0x0303 0))
    checks 1 .ld8 ∧ checks 2 .ld16 ∧ checks 4 .ld32 ∧ checks 8 .ld64 ∧ checks 1 .st8 ∧ checks 2 .st16 ∧ checks 4 .st32 ∧ checks 8 .st64

/-- NOP and FENCE complete (R66, R81): FENCE forgets what earlier STAGEs wrote (R82), and with SCOPE 1 the core then waits while it has external
operations that their targets have not acknowledged. ABORT ends the command FAILED with KERNEL_ABORT and its CODE (table "Control
operations"); a word of a reserved class or operation, a reserved SCOPE, and a non-zero field marked zero, end it with INVALID_ENCODING
(R66). Nothing else is different. -/
def Obligations.ControlOperations : Prop :=
  ∀ (s : State) (c : Nat) (k : Core) (code : BitVec 16) (scope : BitVec 2) (w : Word64) (zn : BitVec 54) (zf : BitVec 52) (za : BitVec 38), s.Runs c k →
    (k.pc + 1 < k.d.codeLen →
      exec (.nop c 0) s = .next (s.completed c k (k.pc + 1)) ∧
      exec (.fence c 0 0) s = .next (s.completed c { k with unfenced := [], waiting := false } (k.pc + 1)) ∧
      exec (.fence c 0 1) s = .next (s.completed c { k with unfenced := [], waiting := decide (k.ext ≠ []) } (k.pc + 1))) ∧
    exec (.abort c 0 code) s = .next (s.endedWith c k 0x03 0x0307 code.toNat) ∧
    (decodeWord c w = none → exec (.reservedInstructionWord c w) s = .next (s.endedWith c k 0x0B 0 0)) ∧
    (zn ≠ 0 → exec (.nop c zn) s = .next (s.endedWith c k 0x0B 0 0)) ∧
    (zf ≠ 0 ∨ 2 ≤ scope.toNat → exec (.fence c zf scope) s = .next (s.endedWith c k 0x0B 0 0)) ∧
    (za ≠ 0 → exec (.abort c za code) s = .next (s.endedWith c k 0x0B 0 0))


/-! ### The matrix unit (spec/04) -/

/-- MLOAD.W (R101, R106, R112): with its regions aligned in the core store and no scale of 0xFF, the shadow tile takes the pairing, and its weight at
row k and column n is the stored code times its block scale and channel factor, rounded once. A region staged for another pairing gives open codes (log entry 5). The counters count the load, and the tile
that it discards; MX_STAT shows the shadow tile. Nothing else on the core is different. -/
def Obligations.TileLoads : Prop :=
  ∀ (s : State) (c : Nat) (k : Core) (sa sf : Reg5) (pairing : BitVec 4) (cscale : BitVec 1) (p : Pairing), s.Runs c k → k.pc + 1 < k.d.codeLen →
    pairingOf pairing.toNat = some p →
    let a := (k.s sa).toNat % 2 ^ 25
    let f := (k.s sf).toNat % 2 ^ 25
    let r := k.region k.draws 2 p.wfmt 1 (p.wbytes + p.sbytes) a (tileBytes p)
    let same := r.elem == p.wfmt && r.rb == p.wbytes + p.sbytes
    let codes := elemCodes p.wfmt (128 * p.n) (r.codesAs same 0 p.wbytes)
    let scales := (r.codesAs same p.wbytes p.sbytes).map (fun b => b.toNat)
    a % 4096 = 0 → a + tileBytes p ≤ 2 ^ 24 → (cscale = 1 → f % 64 = 0 ∧ f + 512 ≤ 2 ^ 24) → 0xFF ∉ scales →
    ∃ (t : State) (w : List (Nat × F32)),
      exec (.mloadW c sa sf pairing cscale 0) s = .next t ∧
      Completes s c { k with shadow := ⟨pairing.toNat, w⟩, shadowFull := true, pc := k.pc + 1, opens := k.opens + 1 } t ∧
      (∀ i n : Nat, i < 128 → n < p.n →
        Sparse.get 0 w (i * 512 + n) = scaledProduct (Fmt.widen p.wfmt (codes.getD (i * p.n + n) 0))
          (if cscale = 1 then (f32s 128 (k.load k.draws f 512)).getD i Fp.one else Fp.one)
          (if p.sbytes = 0 then 0 else (scales.getD (4 * n + i / 32) 0 : Int) - 127)) ∧
      t.get (F.MX_TILES_LOADS c) = (s.get (F.MX_TILES_LOADS c) + 1) % 2 ^ 64 ∧
      t.get (F.MX_TILES_DISCARDED_LOADS c) = (s.get (F.MX_TILES_DISCARDED_LOADS c) + if k.shadowFull then 1 else 0) % 2 ^ 64 ∧
      t.get (F.MX_STAT_SHADOW_FULL c) = 1 ∧ t.get (F.MX_STAT_SHADOW_PAIRING c) = pairing.toNat

/-- MRUN (R102 to R106, R112): with a tile of its pairing active after any swap, its columns and rows in range and its regions aligned in the core
store, element (row SR + i, column COLSEL * N + n) of the accumulators becomes the sum over k of the products of R112, each step rounded once,
times the row's factor, added to the old element where ACCUM is set; every other element stays. With M zero no row runs, and SWAP still takes
effect. -/
def Obligations.MatrixRuns : Prop :=
  ∀ (s : State) (c : Nat) (k : Core) (sa sm sr sf : Reg5) (rscale : BitVec 2) (accum swap : BitVec 1) (colsel : BitVec 2) (pairing : BitVec 4)
    (p : Pairing), s.Runs c k → k.pc + 1 < k.d.codeLen → pairingOf pairing.toNat = some p → rscale ≠ 3 →
    let k' := if swap = 1 then k.swap else k
    let m := (k.s sm).toNat
    let row := (k.s sr).toNat
    let a := (k.s sa).toNat % 2 ^ 25
    let f := (k.s sf).toNat % 2 ^ 25
    let size := actBytes m (rowBytes p.afmt)
    let r := k.region k.draws 1 p.afmt m (rowBytes p.afmt) a size
    let factor : Nat → F32 := fun i => if rscale = 0 then Fp.one else if rscale = 1 then (k.s sf).setWidth 32
      else (f32s m (k.load k.draws f (4 * m))).getD i Fp.one
    let old : Nat → Nat → F32 := fun i n => Sparse.get 0 k.acc ((row + i) * 512 + (colsel.toNat * p.n + n))
    let product : Nat → Nat → F32 := fun i n => Fp.mul (dotRow k'.active.w n 0 ((actRow r p i).map (Fmt.widen p.afmt)) Fp.posZero) (factor i)
    (if swap = 1 then k.shadowFull = true else k.activeFull = true) → k'.active.pairing = pairing.toNat → colsel.toNat < 512 / p.n →
    row + m ≤ accRows s.arrays → (0 < m → a % 4096 = 0 ∧ a + size ≤ 2 ^ 24 ∧ (rscale = 2 → f % 64 = 0 ∧ f + 4 * m ≤ 2 ^ 24)) →
    ∃ (t : State) (acc : List (Nat × F32)),
      exec (.mrun c sa sm sr sf rscale accum swap colsel pairing 0) s = .next t ∧
      Completes s c { k' with acc := acc, rows := k.rows + m, pc := k.pc + 1, opens := k.opens + 1 } t ∧
      (∀ i n : Nat, i < m → n < p.n →
        Sparse.get 0 acc ((row + i) * 512 + (colsel.toNat * p.n + n)) = if accum = 1 then Fp.add (old i n) (product i n) else product i n) ∧
      (∀ x : Nat, (∀ i n : Nat, i < m → n < p.n → x ≠ (row + i) * 512 + (colsel.toNat * p.n + n)) → Sparse.get 0 acc x = Sparse.get 0 k.acc x)

/-- MDRAIN and MTOV (R105): MDRAIN writes each of the M rows as 512 little-endian F32 values in 2,048 bytes from SD on, MTOV copies one row into VD;
with CLEAR set the rows read +0 afterwards, and otherwise the accumulators stay. MX_DRAIN counts the rows. -/
def Obligations.AccumulatorDrains : Prop :=
  ∀ (s : State) (c : Nat) (k : Core) (sd sm sr vd : Reg5) (clear : BitVec 1), s.Inv → s.Runs c k → k.pc + 1 < k.d.codeLen →
    let m := (k.s sm).toNat
    let row := (k.s sr).toNat
    let a := (k.s sd).toNat % 2 ^ 25
    let cleared : Nat → List (Nat × F32) → Prop := fun n acc => ∀ x, Sparse.get 0 acc x =
      if clear = 1 ∧ row * 512 ≤ x ∧ x < (row + n) * 512 then 0 else Sparse.get 0 k.acc x
    (row + m ≤ accRows s.arrays → a % 64 = 0 → a + 2048 * m ≤ 2 ^ 24 + k.d.facetUnits * 65536 →
      ∃ (t : State) (acc : List (Nat × F32)) (st : List (Nat × Byte)) (rs : List Region),
        exec (.mdrain c sd sm sr clear 0) s = .next t ∧
        Completes s c { k with acc := acc, store := st, regions := rs, pc := k.pc + 1, opens := k.opens + 1 } t ∧ cleared m acc ∧
        (∀ x, Sparse.get 0 st x = if a ≤ x ∧ x < a + 2048 * m
          then BitVec.ofNat 8 ((Sparse.get 0 k.acc (row * 512 + (x - a) / 4)).toNat / 256 ^ ((x - a) % 4)) else Sparse.get 0 k.store x) ∧
        t.get (F.MX_DRAIN_ROWS c) = (s.get (F.MX_DRAIN_ROWS c) + m) % 2 ^ 64) ∧
    (row + 1 ≤ accRows s.arrays →
      ∃ (t : State) (k' : Core),
        exec (.mtov c vd sr clear 0) s = .next t ∧ Completes s c { k' with pc := k.pc + 1, opens := k.opens + 1 } t ∧ cleared 1 k'.acc ∧
        k'.v vd = (List.range 512).map (fun n => Sparse.get 0 k.acc (row * 512 + n)) ∧
        (∀ v, v ≠ vd → k'.v v = k.v v) ∧ { k' with vregs := k.vregs, acc := k.acc } = k ∧
        t.get (F.MX_DRAIN_ROWS c) = (s.get (F.MX_DRAIN_ROWS c) + 1) % 2 ^ 64)

/-! ### The vector engine (spec/06) -/

/-- VLD, VBCAST, VMSET and VMLD (R144, R146, R147): each writes its one register as the rule says, and nothing else of the core but the PC; the
vector engine counts its beats. -/
def Obligations.VectorLoads : Prop :=
  ∀ (s : State) (c : Nat) (k : Core) (vd sa : Reg5) (md : Reg3) (elem : BitVec 8), s.Runs c k → k.pc + 1 < k.d.codeLen →
    let a := (k.s sa).toNat
    let limit := 2 ^ 24 + k.d.facetUnits * 65536
    let gives : Instr → Core → Nat → Prop := fun i k' beats => ∃ t, exec i s = .next t ∧ Completes s c { k' with pc := k.pc + 1, opens := k.opens + 1 } t ∧
      t.get (F.SEL_VEC_BEATS_BEATS c) = (s.get (F.SEL_VEC_BEATS_BEATS c) + beats) % 2 ^ 64
    let e := elem.toNat
    let codes := elemCodes e 512 (k.load k.draws a (512 * Fmt.bits e / 8))
    (e ≤ 6 → a % 64 = 0 → a + 512 * Fmt.bits e / 8 ≤ limit →
      gives (.vld c vd sa elem 0 0) (k.setV vd (codes.map (BitVec.ofNat 32))) (if e = 5 then 2 else 1)) ∧
    (1 ≤ e → e ≤ 5 → a % 64 = 0 → a + 512 * Fmt.bits e / 8 ≤ limit →
      gives (.vld c vd sa elem 1 0) (k.setV vd (codes.map (Fmt.widen e))) (if e = 5 then 2 else 1)) ∧
    gives (.vbcast c vd sa 0) (k.setV vd (List.replicate 512 ((k.s sa).setWidth 32))) 1 ∧
    (md ≠ 0 → gives (.vmset c md sa 0) (k.setM md (BitVec.ofNat 512 (2 ^ Min.min (k.s sa).toNat 512 - 1))) 1) ∧
    (md ≠ 0 → a % 64 = 0 → a + 64 ≤ limit →
      gives (.vmld c md sa 0) (k.setM md (BitVec.ofNat 512 (leNat (k.load k.draws a 64)))) 1)

/-- VST and VMST (R145, R146): element i of VST comes from the low bits of lane i without conversion; under a mask, lanes that are off leave their
bits as they were; VMST writes a mask as 64 bytes. Every other byte of the store reads as before. RAW and S8 elements are a byte wide (the model's
reading, log entry 10). -/
def Obligations.VectorStores : Prop :=
  ∀ (s : State) (c : Nat) (k : Core) (vs sa : Reg5) (vm ms : Reg3) (elem : BitVec 8), s.Inv → s.Runs c k → k.pc + 1 < k.d.codeLen →
    let a := (k.s sa).toNat
    let limit := 2 ^ 24 + k.d.facetUnits * 65536
    let e := elem.toNat
    let width := Fmt.bits e / 8
    let gives : Instr → (Nat → Byte) → Prop := fun i byte => ∃ (t : State) (st : List (Nat × Byte)) (rs : List Region),
      exec i s = .next t ∧ Completes s c { k with store := st, regions := rs, pc := k.pc + 1, opens := k.opens + 1 } t ∧ ∀ x, Sparse.get 0 st x = byte x
    (e ≤ 6 → e ≠ 1 → a % 64 = 0 → a + 512 * width ≤ limit → gives (.vst c vs sa elem vm 0) (fun x =>
      if a ≤ x ∧ x < a + 512 * width ∧ (k.m vm).getLsbD ((x - a) / width) = true
      then BitVec.ofNat 8 (((k.v vs).getD ((x - a) / width) 0).toNat / 256 ^ ((x - a) % width)) else Sparse.get 0 k.store x)) ∧
    (e = 1 → a % 64 = 0 → a + 256 ≤ limit → gives (.vst c vs sa elem vm 0) (fun x =>
      let old := (Sparse.get 0 k.store x).toNat
      let code : Nat → Nat → Nat := fun i was => if (k.m vm).getLsbD i then ((k.v vs).getD i 0).toNat % 16 else was
      if a ≤ x ∧ x < a + 256 then BitVec.ofNat 8 (code (2 * (x - a)) (old % 16) + 16 * code (2 * (x - a) + 1) (old / 16))
      else Sparse.get 0 k.store x)) ∧
    (a % 64 = 0 → a + 64 ≤ limit → gives (.vmst c ms sa 0) (fun x =>
      if a ≤ x ∧ x < a + 64 then BitVec.ofNat 8 ((k.m ms).toNat / 256 ^ (x - a)) else Sparse.get 0 k.store x))

/-- VRED (R155): SD receives, zero-extended, the pairwise reduction of the lanes; with every lane off SUM gives +0, MAX gives -infinity, MIN gives
+infinity and AMAX gives +0. -/
def Obligations.VectorReductions : Prop :=
  ∀ (s : State) (c : Nat) (k : Core) (sd va : Reg5) (vm : Reg3) (op : BitVec 3), s.Runs c k → k.pc + 1 < k.d.codeLen → op.toNat ≤ 3 →
    ∃ (t : State) (x : F32),
      exec (.vred c sd va vm op 0) s = .next t ∧ Completes s c { k.setS sd (x.setWidth 64) with pc := k.pc + 1, opens := k.opens + 1 } t ∧
      x = reduceLanes op.toNat (k.m vm) (k.v va) ∧
      (k.m vm = 0 → x = if op = 1 then Fp.negInf else if op = 2 then Fp.posInf else Fp.posZero) ∧
      (∀ i : Nat, i < 512 → k.m vm = BitVec.ofNat 512 (2 ^ i) → op = 1 ∨ op = 2 → Fp.isNaN ((k.v va).getD i 0) = false → x = (k.v va).getD i 0)

/-- VCHAIN (R148 to R154) and VDERIV (R135, R156) complete on every well-formed descriptor in the core store. VCHAIN leaves the scalar registers, the
store and the accumulators as they were, and every vector register that is neither VD nor a tap. VDERIV writes channel SB + i of the site
into lane i of VD (the scale) and VE (the offset), 1.0 and +0 beyond the site's channels, and channel 0 everywhere when GRAN is 0.
A chain of one arithmetic stage on two registers (R148, R151): the lanes of VD that are on in VM receive the operation of the lanes of A and B as
they stood at issue, the others keep their values, or receive +0 with ZERO_MASK (R154). -/
def Obligations.ChainsAndDerivations : Prop :=
  (∀ (s : State) (c : Nat) (k : Core) (sa sb vd ve : Reg5), s.Inv → s.Runs c k → k.pc + 1 < k.d.codeLen →
     let a := (k.s sa).toNat
     (∀ ch : Chain, a % 16 = 0 → a + 80 ≤ 2 ^ 24 → parseChain (k.load k.draws a 80) = some ch →
       ∃ (t : State) (k' : Core), exec (.vchain c sa 0) s = .next t ∧ Completes s c { k' with pc := k.pc + 1, opens := k.opens + 1 } t ∧
         { k' with vregs := k.vregs, masks := k.masks, ctr := k.ctr, sat := k.sat, nan := k.nan } = k ∧
         ∀ v : Reg5, v.toNat ≠ ch.vd ∨ ch.noWrite = true → (∀ w ∈ ch.stages, w.tap = 1 → w.tapReg ≠ v.toNat) → k'.v v = k.v v) ∧
     (∀ site : Site, a % 64 = 0 → parseSite (k.load k.draws a 64) = some site → a + 64 + site.w * site.slotBytes ≤ 2 ^ 24 →
       let hist := k.load k.draws (a + 64) (site.w * site.slotBytes)
       let lane : Nat → F32 × F32 × Bool := fun i => if site.gran = 0 then site.derive hist 0
         else if (k.s sb).toNat + i < site.channels then site.derive hist ((k.s sb).toNat + i) else (Fp.one, Fp.posZero, false)
       ∃ (t : State) (k' : Core), exec (.vderiv c vd ve sa sb 0) s = .next t ∧ Completes s c { k' with pc := k.pc + 1, opens := k.opens + 1 } t ∧
         { k' with vregs := k.vregs, degen := k.degen } = k ∧
         (vd ≠ ve → k'.v vd = (List.range 512).map (fun i => (lane i).1)) ∧ k'.v ve = (List.range 512).map (fun i => (lane i).2.1) ∧
         ∀ v, v ≠ vd → v ≠ ve → k'.v v = k.v v)) ∧
  (∀ (s : State) (c : Nat) (k : Core) (sa : Reg5) (st : StageWord) (ch : Chain) (va vb : Reg5), s.Inv → s.Runs c k → k.pc + 1 < k.d.codeLen →
     let a := (k.s sa).toNat
     a % 16 = 0 → a + 80 ≤ 2 ^ 24 → parseChain (k.load k.draws a 80) = some ch → ch.stages = [st] → ch.noWrite = false → st.tap = 0 →
     st.a = 32 + va.toNat → st.b = 32 + vb.toNat → st.opc = 1 ∨ st.opc = 2 ∨ st.opc = 3 →
     ∃ (t : State) (k' : Core), exec (.vchain c sa 0) s = .next t ∧ t.core c = some k' ∧
       k'.v (BitVec.ofNat 5 ch.vd) = (List.range 512).map (fun i =>
         let x := (k.v va).getD i 0
         let y := (k.v vb).getD i 0
         if (k.m (BitVec.ofNat 3 ch.vm)).getLsbD i then (if st.opc = 1 then Fp.add x y else if st.opc = 2 then Fp.sub x y else Fp.mul x y)
         else if ch.zeroMask then 0 else (k.v (BitVec.ofNat 5 ch.vd)).getD i 0))

/-- How matrix operations fail (R102 to R106): NO_TILE without a tile, PAIRING_MISMATCH, ACC_RANGE, MISALIGNED and STORE_RANGE, each with the
command FAILED; a reserved pairing or RSCALE, or a non-zero field marked zero, is INVALID_ENCODING (R66).
How vector instructions fail (R66, R142, R146, R148, R156): M0 as a destination and reserved elements are INVALID_ENCODING, misaligned and
out-of-range operands end the command FAILED. -/
def Obligations.EngineTraps : Prop :=
  (∀ (s : State) (c : Nat) (k : Core) (sa sm sr sf : Reg5) (rscale : BitVec 2) (accum swap clear cscale : BitVec 1) (colsel : BitVec 2)
     (pairing : BitVec 4) (z : BitVec 24) (zd : BitVec 38) (zv : BitVec 43) (zl : BitVec 39), s.Runs c k →
     let fails : Nat → Instr → Prop := fun d i => exec i s = .next (s.endedWith c k 0x03 d 0)
     let reserved : Instr → Prop := fun i => exec i s = .next (s.endedWith c k 0x0B 0 0)
     let run := Instr.mrun c sa sm sr sf rscale accum swap colsel pairing
     (z ≠ 0 ∨ rscale = 3 ∨ 6 ≤ pairing.toNat → reserved (run z)) ∧
     (zl ≠ 0 ∨ 6 ≤ pairing.toNat → reserved (.mloadW c sa sf pairing cscale zl)) ∧
     (zd ≠ 0 → reserved (.mdrain c sa sm sr clear zd)) ∧ (zv ≠ 0 → reserved (.mtov c sa sr clear zv)) ∧
     (rscale ≠ 3 → pairing.toNat < 6 → (swap = 1 ∧ k.shadowFull = false ∨ swap = 0 ∧ k.activeFull = false) → fails 0x0403 (run 0)) ∧
     (rscale ≠ 3 → pairing.toNat < 6 → swap = 0 → k.activeFull = true → k.active.pairing ≠ pairing.toNat → fails 0x0401 (run 0)) ∧
     (rscale ≠ 3 → swap = 0 → k.activeFull = true → k.active.pairing = pairing.toNat →
       (∃ p, pairingOf pairing.toNat = some p ∧ colsel.toNat < 512 / p.n) → accRows s.arrays < (k.s sr).toNat + (k.s sm).toNat →
       fails 0x0402 (run 0)) ∧
     (accRows s.arrays < (k.s sr).toNat + (k.s sm).toNat → fails 0x0402 (.mdrain c sa sm sr clear 0)) ∧
     (accRows s.arrays ≤ (k.s sr).toNat → fails 0x0402 (.mtov c sa sr clear 0)) ∧
     (pairing.toNat < 6 → (k.s sa).toNat % 4096 ≠ 0 → fails 0x0302 (.mloadW c sa sf pairing cscale 0)) ∧
     (pairing.toNat < 6 → (k.s sa).toNat % 4096 = 0 → 2 ^ 24 ≤ (k.s sa).toNat % 2 ^ 25 → fails 0x0303 (.mloadW c sa sf pairing cscale 0))) ∧
  (∀ (s : State) (c : Nat) (k : Core) (vd sa : Reg5) (elem : BitVec 8) (widen : BitVec 1) (vm md : Reg3) (op : BitVec 3), s.Runs c k →
     let a := (k.s sa).toNat
     let limit := 2 ^ 24 + k.d.facetUnits * 65536
     let fails : Nat → Instr → Prop := fun d i => exec i s = .next (s.endedWith c k 0x03 d 0)
     let reserved : Instr → Prop := fun i => exec i s = .next (s.endedWith c k 0x0B 0 0)
     reserved (.vmset c 0 sa 0) ∧ reserved (.vmld c 0 sa 0) ∧
     (6 < elem.toNat ∨ widen = 1 ∧ (elem = 0 ∨ elem = 6) → reserved (.vld c vd sa elem widen 0)) ∧
     (6 < elem.toNat → reserved (.vst c vd sa elem vm 0)) ∧ (3 < op.toNat → reserved (.vred c vd sa vm op 0)) ∧
     (a % 64 ≠ 0 → elem.toNat ≤ 5 → 1 ≤ elem.toNat → fails 0x0302 (.vld c vd sa elem widen 0) ∧ fails 0x0302 (.vst c vd sa elem vm 0)) ∧
     (a % 64 ≠ 0 → fails 0x0302 (.vmst c vm sa 0) ∧ (md ≠ 0 → fails 0x0302 (.vmld c md sa 0))) ∧
     (a % 64 = 0 → limit < a + 64 → fails 0x0303 (.vmst c vm sa 0) ∧ (md ≠ 0 → fails 0x0303 (.vmld c md sa 0))) ∧
     (a % 16 ≠ 0 → fails 0x0302 (.vchain c sa 0)) ∧ (a % 16 = 0 → 2 ^ 24 < a + 80 → fails 0x0303 (.vchain c sa 0)))

/-! ### The select unit, the stager and external operations (spec/03, spec/06, spec/08, spec/15) -/

/-- SELK (R157 to R162) on a well-formed descriptor whose regions pass the checks of R164: it writes K records at OUT, the selected
elements by key and then by index and padding behind them, and a result block at RESULT, and no other byte of the store. COUNT is the smaller of K and the number of elements considered, and no element that is considered and not selected is better
than a selected one. SEL_COUNT and SEL_NAN count. -/
def Obligations.SelectBest : Prop :=
  ∀ (s : State) (c : Nat) (k : Core) (sa : Reg5) (d : SelDesc), s.Inv → s.Runs c k → k.pc + 1 < k.d.codeLen →
    let a := (k.s sa).toNat
    let inp := selInput d.smallest d.idxList 0 (selRead d k.draws k)
    a % 64 = 0 → a + 64 ≤ 2 ^ 24 → parseSel false (k.load k.draws a 64) = some d → selCheck false d k = none →
    ∃ (t : State) (st : List (Nat × Byte)) (rs : List Region) (sel out recs : List Elem),
      exec (.selk c sa 0) s = .next t ∧
      Completes s c { k with store := st, regions := rs, selNan := k.selNan + inp.nans, pc := k.pc + 1, opens := k.opens + 1 } t ∧
      (∀ x, ¬ (d.out ≤ x ∧ x < d.out + 8 * d.kCap) → ¬ (d.result ≤ x ∧ x < d.result + 64) → Sparse.get 0 st x = Sparse.get 0 k.store x) ∧
      (sel ++ out).Perm (inp.valid.filter (fun e => !d.after || decide (e.key < selKey d.smallest d.value)
        || (e.key == selKey d.smallest d.value && decide (e.pos > d.afterPos)))) ∧
      sel.length = Min.min d.kCap (sel ++ out).length ∧
      (∀ x ∈ sel, ∀ y ∈ out, y.key < x.key ∨ (y.key = x.key ∧ x.pos < y.pos)) ∧
      recs.Perm sel ∧ recs.Pairwise (fun x y => y.key < x.key ∨ (y.key = x.key ∧ x.idx ≤ y.idx)) ∧
      (∀ i, i < d.kCap → Sparse.read 0 st (d.out + 8 * i) 8 = match recs[i]? with
        | some e => recordBytes e.val e.idx
        | none => recordBytes (if d.smallest then Fp.posInf else Fp.negInf) 0xFFFFFFFF) ∧
      leNat (Sparse.read 0 st d.result 4) = sel.length ∧
      t.get (F.SEL_COUNT_SELK c) = (s.get (F.SEL_COUNT_SELK c) + 1) % 2 ^ 32 ∧ t.get (F.SEL_NAN_COUNT c) = (s.get (F.SEL_NAN_COUNT c) + inp.nans) % 2 ^ 64

/-- SELT (R163, R164) on a variant that has it: it writes the first qualifying elements, up to CAP, in ascending input position, and FOUND counts every
one that qualifies. Without it on the variant the command ends NOT_PRESENT (R3). -/
def Obligations.SelectThreshold : Prop :=
  ∀ (s : State) (c : Nat) (k : Core) (sa : Reg5) (d : SelDesc), s.Inv → s.Runs c k →
    let a := (k.s sa).toNat
    let inp := selInput d.smallest d.idxList 0 (selRead d k.draws k)
    let qual := inp.valid.filter (fun e => if d.strict then decide (selKey d.smallest d.value < e.key) else decide (selKey d.smallest d.value ≤ e.key))
    let n := Min.min qual.length d.kCap
    (s.hasSelt = false → exec (.selt c sa 0) s = .next (s.endedWith c k 0x0A 0 0)) ∧
    (s.hasSelt = true → k.pc + 1 < k.d.codeLen → a % 64 = 0 → a + 64 ≤ 2 ^ 24 → parseSel true (k.load k.draws a 64) = some d →
      selCheck true d k = none →
      ∃ (t : State) (st : List (Nat × Byte)) (rs : List Region),
        exec (.selt c sa 0) s = .next t ∧
        Completes s c { k with store := st, regions := rs, selNan := k.selNan + inp.nans, pc := k.pc + 1, opens := k.opens + 1 } t ∧
        (∀ i, i < n → Sparse.read 0 st (d.out + 8 * i) 8 = ((qual[i]?).map (fun e => recordBytes e.val e.idx)).getD []) ∧
        leNat (Sparse.read 0 st d.result 4) = n ∧ leNat (Sparse.read 0 st (d.result + 4) 4) = qual.length ∧
        (∀ x, ¬ (d.out ≤ x ∧ x < d.out + 8 * n) → ¬ (d.result ≤ x ∧ x < d.result + 64) → Sparse.get 0 st x = Sparse.get 0 k.store x) ∧
        t.get (F.SEL_COUNT_SELT c) = (s.get (F.SEL_COUNT_SELT c) + 1) % 2 ^ 32)

/-- STAGE (R74, R75, R80, R107 to R109) completes on a well-formed descriptor whose rows lie where it says they do, in every layout; of the core
only its store, its staged regions, its output buffers and what it notes for FENCE are different, and the facet's port counts the bytes that
cross it; a stack whose clock is stopped and that holds a page of the transfer runs again (R51).
STAGE (R74, R75, R80): a LINEAR transfer of one row moves its bytes: from a declared range into the store (DIR 0), from the store into the fresh buffer of
a declared output (DIR 1), or inside the store (DIR 2, source and destination apart). -/
def Obligations.StageTransfers : Prop :=
  (∀ (s : State) (c : Nat) (k : Core) (sa : Reg5) (d : StageDesc), s.Runs c k → k.pc + 1 < k.d.codeLen →
     let a := (k.s sa).toNat
     let limit := 2 ^ 24 + k.d.facetUnits * 65536
     let size := if d.layout = 1 then actBytes d.rows (rowBytes d.elem) else round4k d.rb
     a % 64 = 0 → a + 64 ≤ 2 ^ 24 → parseStager (k.load k.draws a 64) = some d →
     (∀ i, i < d.rows → ∃ x, rowAddr d.src d.sstride i = some x ∧
       if d.dir = 0 then (k.rangeRead k.fuel x d.rb).isSome = true ∧ k.unfencedAt x d.rb = false else x + d.rb ≤ limit) →
     (d.layout = 0 → ∀ i, i < d.rows → ∃ x, rowAddr d.dst d.dstride i = some x ∧
       if d.dir = 1 then k.outCovers k.fuel x d.rb = true else x + d.rb ≤ limit) →
     (d.layout ≠ 0 → d.dst % 4096 = 0 ∧ d.dst + size ≤ 2 ^ 24) →
     ∃ (t : State) (st : List (Nat × Byte)) (rs : List Region) (os : List OutBuf) (un : List (Nat × Nat)),
       exec (.stage c sa 0) s = .next t ∧
       Completes (s.stageWakes c k sa) c { k with store := st, regions := rs, outs := os, unfenced := un, pc := k.pc + 1, opens := k.opens + 1 } t ∧
       t.get (F.FCT_PORT_BYTES_BYTES (c / 4)) =
         (s.get (F.FCT_PORT_BYTES_BYTES (c / 4)) + if d.dir = 2 then 0 else d.rows * d.rb) % 2 ^ 64 ∧
       (∀ e, t.core e = if e = c then t.core c else s.core e) ∧
       ∀ (i : QItem) (p : Nat × Nat), Sparse.find s.dsp.running c = some i → p ∈ i.frames ++ i.fresh → p.1 ∈ d.pages i.runCtx → p.2 ≠ 0 →
         s.islandHere (p.2 / framesPerStack) = true → t.get (F.EDG_ISL_STAT_STATE (p.2 / framesPerStack)) = 0) ∧
  (∀ (s : State) (c : Nat) (k : Core) (sa : Reg5) (d : StageDesc), s.Inv → s.Runs c k → k.pc + 1 < k.d.codeLen → k.regions = [] →
     let a := (k.s sa).toNat
     let limit := 2 ^ 24 + k.d.facetUnits * 65536
     let stores : (Nat → Byte) → Prop := fun byte => ∃ (t : State) (st : List (Nat × Byte)), exec (.stage c sa 0) s = .next t ∧
       Completes (s.stageWakes c k sa) c { k with store := st, pc := k.pc + 1, opens := k.opens + 1 } t ∧
       ∀ x, Sparse.get 0 st x = if d.dst ≤ x ∧ x < d.dst + d.rb then byte (x - d.dst) else Sparse.get 0 k.store x
     a % 64 = 0 → a + 64 ≤ 2 ^ 24 → parseStager (k.load k.draws a 64) = some d → d.layout = 0 → d.rows = 1 →
     (∀ bs, d.dir = 0 → k.rangeRead k.fuel d.src d.rb = some bs → k.unfencedAt d.src d.rb = false → d.dst + d.rb ≤ limit →
       stores (fun i => bs.getD i 0)) ∧
     (d.dir = 1 → d.src + d.rb ≤ limit → k.outCovers k.fuel d.dst d.rb = true →
       let os := k.outs.map (fun o => o.write d.dst (Sparse.read 0 k.store d.src d.rb))
       ∃ t : State, exec (.stage c sa 0) s = .next t ∧
         Completes (s.stageWakes c k sa) c { k with outs := os, unfenced := (d.dst, d.rb) :: k.unfenced, pc := k.pc + 1, opens := k.opens + 1 } t) ∧
     (d.dir = 2 → d.src + d.rb ≤ limit → d.dst + d.rb ≤ limit → d.src + d.rb ≤ d.dst ∨ d.dst + d.rb ≤ d.src →
       stores (fun i => Sparse.get 0 k.store (d.src + i))))

/-- COMMIT (R83 to R87, R137, R480): where the output pages still belong to their mappings, the outputs pass their checks and a journal is there for those
that need one, the command enters its commit phase, ended DONE; its counts stand in the LAST registers. With no earlier publication and
its request not being cancelled, an output that needs no journal record is published at once; outputs that need one wait, and memory
stays as it was until then. -/
def Obligations.Commits : Prop :=
  ∀ (s : State) (c : Nat) (k : Core) (i : QItem), s.Runs c k → Sparse.find s.dsp.running c = some i → s.staged = [] →
    s.stillMapped i = true → s.checkOuts i.runCtx k.d k.outs = none → (s.journals i.runCtx k.outs = true → s.journalHere = true) →
    ∃ t : State, exec (.commit c 0) s = .next t ∧ t.core c = some { k with ended := some ⟨0, 0, 0⟩ } ∧ (∀ e, e ≠ c → t.core e = s.core e) ∧
      t.get (F.CORE_STAT_STATE c) = 3 ∧ t.get (F.CORE_CMD_COUNT_COMMITS c) = (s.get (F.CORE_CMD_COUNT_COMMITS c) + 1) % 2 ^ 64 ∧
      t.get (F.QNT_LAST_SAT c) = Min.min k.sat (2 ^ 32 - 1) ∧ t.get (F.QNT_LAST_NAN c) = Min.min k.nan 0xFFFF ∧
      t.get (F.QNT_LAST_DEGEN c) = Min.min k.degen 0xFFFF ∧
      (s.tier.pubs = [] → (∀ r, s.req k.d.reqHandle = some r → r.ending = none ∧ r.ended = false) →
        (s.journals i.runCtx k.outs = true → t.mem = s.mem ∧ t.tier.pubs.map (fun p => p.outs) = [stampOuts k.sat k.nan k.degen k.outs]) ∧
        (s.journals i.runCtx k.outs = false → t.tier.pubs = []) ∧
        (∀ o, s.journals i.runCtx k.outs = false → k.outs = [o] → o.kind = kFresh → i.fresh = [] →
          (∀ key ∈ pagesOf i.runCtx o.va o.length, (s.pte key).state ≠ .unmapped) →
          t.mem = (s.store i.runCtx o.va o.bytes).mem))

/-- How STAGE fails: MISALIGNED or STORE_RANGE for its descriptor, INVALID_ENCODING for a descriptor with a reserved value (R66, R75), UNDECLARED_ACCESS
outside the declared ranges (R74), FENCE_MISSING where it reads what an earlier STAGE wrote with no FENCE between (R82).
COMMIT ends the command with nothing published (R66, R87): FAILED with UNMAPPED where an output page was unmapped since the first
dispatch (R480), as its outputs fail their checks (R139, R298), NOT_PRESENT where a journal is needed and there is none (R196). -/
def Obligations.StageAndCommitTraps : Prop :=
  (∀ (s : State) (c : Nat) (k : Core) (sa : Reg5) (zero : BitVec 49) (d : StageDesc), s.Runs c k →
     let a := (k.s sa).toNat
     let fails : Nat → Prop := fun x => exec (.stage c sa 0) s = .next (s.endedWith c k 0x03 x 0)
     (zero ≠ 0 → exec (.stage c sa zero) s = .next (s.endedWith c k 0x0B 0 0)) ∧
     (a % 64 ≠ 0 → fails 0x0302) ∧ (a % 64 = 0 → 2 ^ 24 < a + 64 → fails 0x0303) ∧
     (a % 64 = 0 → a + 64 ≤ 2 ^ 24 →
       (parseStager (k.load k.draws a 64) = none → exec (.stage c sa 0) s = .next (s.endedWith c k 0x0B 0 0)) ∧
       (parseStager (k.load k.draws a 64) = some d → 0 < d.rows → d.dir = 0 →
         (k.rangeRead k.fuel d.src d.rb = none → fails 0x0304) ∧
         (k.rangeRead k.fuel d.src d.rb ≠ none → k.unfencedAt d.src d.rb = true → fails 0x0306)))) ∧
  (∀ (s : State) (c : Nat) (k : Core) (i : QItem) (zero : BitVec 54), s.Runs c k → Sparse.find s.dsp.running c = some i →
     let ends : Nat → Nat → Nat → Prop := fun st d code => exec (.commit c 0) s = .next (s.endedWith c k st d code)
     (zero ≠ 0 → exec (.commit c zero) s = .next (s.endedWith c k 0x0B 0 0)) ∧
     (s.stillMapped i = false → ends 0x03 0x0701 0) ∧
     (s.stillMapped i = true →
       (∀ x, s.checkOuts i.runCtx k.d k.outs = some x → ends x.status x.detail x.code) ∧
       (s.checkOuts i.runCtx k.d k.outs = none → s.journals i.runCtx k.outs = true → s.journalHere = false → ends 0x0A 0 0)))

/-- The external operations (R92, R215, R216, R398): a put into a window that the command's context may use is issued on the fabric, a Geode program of an
extent that its tenant owns is sent; each leaves an unacknowledged operation of the next number on the core. A command that declared no external operations
fails with EXTERNAL_UNDECLARED and sends nothing, and so does a window or extent of another tenant. -/
def Obligations.ExternalOperations : Prop :=
  ∀ (s : State) (c : Nat) (k : Core) (sa : Reg5), s.Runs c k → k.pc + 1 < k.d.codeLen →
    let a := (k.s sa).toNat
    let limit := 2 ^ 24 + k.d.facetUnits * 65536
    let ws := words 8 4 (k.load k.draws a 32)
    let fails : Nat → Instr → Prop := fun x i => exec i s = .next (s.endedWith c k 0x03 x 0)
    (k.d.external = false → fails 0x0308 (.kput c sa 0) ∧ fails 0x0308 (.geoProgram c sa 0)) ∧
    (k.d.external = true → a + 32 ≤ limit → (∀ (d : PutOp) (w : MapWin), ws.getD 0 0 % 256 = 0x41 → parsePut ws = some d →
      Sparse.find s.ktr.map d.window = some w → (w.admits k.ctx = false → fails 0x0F01 (.kput c sa 0)) ∧
      (w.admits k.ctx = true → w.pages * 2 ^ 21 < d.offset + d.length → fails 0x0F02 (.kput c sa 0)) ∧
      (w.admits k.ctx = true → d.offset + d.length ≤ w.pages * 2 ^ 21 → d.src % 64 = 0 → d.src + d.length ≤ limit →
        ∃ t, exec (.kput c sa 0) s = .next t ∧ t.core c = some { k with ext := k.ext ++ [⟨s.ktr.nextOp, false⟩], pc := k.pc + 1, opens := k.opens + 1 }))) ∧
    (k.d.external = true → a + 32 ≤ limit → s.hasGeode = true → (∀ (d : GeoOp) (e : Extent), ws.getD 0 0 % 256 = 0x40 → parseGeo ws = some d →
      s.extent d.extent = some e → (e.tid ≠ k.ctx → fails 0x0801 (.geoProgram c sa 0)) ∧
      (e.tid = k.ctx → e.units < d.unit + d.count → fails 0x0802 (.geoProgram c sa 0)) ∧
      (e.tid = k.ctx → d.unit + d.count ≤ e.units → d.src % 4096 = 0 → d.src + d.count * unitBytes ≤ limit →
        ∃ (t : State) (p : GProg), exec (.geoProgram c sa 0) s = .next t ∧
          t.core c = some { k with ext := k.ext ++ [⟨s.ktr.nextOp, true⟩], pc := k.pc + 1, opens := k.opens + 1 } ∧ t.geo.progs = s.geo.progs ++ [p] ∧
          p.bytes = k.load k.draws d.src (d.count * unitBytes) ∧ t.ktr.nextOp = s.ktr.nextOp + 1)))

/-! ### Placing, ending and killing commands; the dispatcher (spec/03, spec/14) -/

/-- COMMAND_DISPATCH (R61, R69, R78, R79, R142): a ready command of an allowed context is placed on a free core of its set: the core holds it from its first
instruction on, with its arguments in S1 and up, everything else zero and no tile, and it has left its queue.
One that would be placed by a reserved value of its allowed set or of DSP_SLICE ends INVALID_ENCODING instead, with no core changed (R9).
PLACEMENT (R371, R373, R379): what the dispatcher chooses is a ready command that may run, the first such of its context's queue, with a free core of
that context's set; and the command is placed on that core. Where it can choose none the step completes and places nothing. -/
def Obligations.CommandsArePlaced : Prop :=
  (∀ (s : State) (item core time w : Nat) (i : QItem) (d : CmdDesc), s.dsp.items.find? (fun x => x.id == item) = some i → i.e.job = .command d →
     s.window core d.facetUnits = some w → s.ready i = true → s.mayRun i = true → core ∈ s.coreSet i.e.ctx → s.coreFree core = true →
     s.barred core i.e.ctx = false → s.now ≤ time → s.staged = [] →
     ((s.tick time).reservedPlace core i.e.ctx time = true → Answers (.commandDispatch item core time) s (fun t =>
       (∀ c, t.core c = s.core c) ∧ Out.jobRefused i.e.job.handle i.e.job.cmdId 0x0B 0 ∈ t.out)) ∧
     ((s.tick time).reservedPlace core i.e.ctx time = false → Answers (.commandDispatch item core time) s (fun t =>
       (∃ k, t.core core = some k ∧ k.d = d ∧ k.item = i.id ∧ k.placed = time ∧ k.window = w ∧ k.pc = 0 ∧ k.ended = none ∧ k.waiting = false ∧
         (∀ r : Reg5, k.s r = if r = 0 then 0 else (d.args[r.toNat - 1]?).getD 0) ∧ k.store = [] ∧ k.vregs = [] ∧ k.acc = [] ∧ k.masks = [] ∧
         k.shadowFull = false ∧ k.activeFull = false ∧ k.unfenced = [] ∧ k.ext = []) ∧
       (∀ c, c ≠ core → t.core c = s.core c) ∧ (∀ x ∈ t.dsp.items, x.id ≠ item) ∧ t.get (F.CORE_STAT_STATE core) = 2 ∧
       t.get (F.CORE_CMD_CMD_ID core) = d.cmdId % 2 ^ 32 ∧ t.get (F.CORE_CMD_REQ_LOW core) = d.reqHandle % 2 ^ 32))) ∧
  (∀ (s : State) (time : Nat), s.now ≤ time →
     let u := (s.tick time).noteEmpty.examineAll.markReady
     (u.choose = none → exec (.placement time) s = .next u) ∧
     (∀ (ctx : Nat) (i : QItem) (c : Nat), u.choose = some (ctx, i, c) →
       i.e.ctx = ctx ∧ u.ready i = true ∧ u.mayRun i = true ∧ u.firstReady ctx = some i ∧ c ∈ u.coreSet ctx ∧ u.coreFree c = true ∧
       ∃ d, i.e.job = .command d ∧ ((u.tick time).reservedPlace c ctx time = false → Answers (.placement time) s (fun t => ∃ k, t.core c = some k ∧ k.d = d ∧ k.item = i.id ∧ k.pc = 0 ∧ k.ended = none))))

/-- COMMAND_END, GRACE_WINDOW_END, EXTERNAL_OVERRUN_TIMEOUT and CORE_FAULT (R89 to R95, R375, R376, R435): the core of a command that has ended, is killed or has
overrun is free. A killed command goes back to its queue with its pins and one re-run more; an EXTERNAL command, and one that has ended, are
not killed at the end of the grace window. A core fault is shown in CORE_FAULT and retires the core: also a mismatch of the
column check, while that is on, which is shown as an array checker's (R119). ACC_SPECIAL stays (R113). -/
def Obligations.RunsEnd : Prop :=
  ∀ (s : State) (c time kind source detail : Nat) (m : Sample) (k : Core) (i : QItem), s.core c = some k → Sparse.find s.dsp.running c = some i →
    s.staged = [] → c < 32 → s.now ≤ m.free → (∀ r, s.req i.e.job.handle = some r → r.ending = none ∧ r.ended = false) →
    let frees : State → Prop := fun t => t.core c = none ∧ (∀ e, e ≠ c → t.core e = s.core e) ∧
      t.get (F.MX_STAT_SHADOW_FULL c) = 0 ∧ t.get (F.MX_STAT_ACC_SPECIAL c) = s.get (F.MX_STAT_ACC_SPECIAL c)
    let requeued : State → Prop := fun t => Sparse.find t.dsp.running c = none ∧ ∃ x ∈ t.dsp.items, x.id = i.id ∧ x.pins = i.pins ∧ x.reruns = i.reruns + 1
    let fault := Instr.coreFault c kind source detail m
    (∀ x, k.ended = some x → Answers (.commandEnd c m) s frees) ∧
    (∀ o, Sparse.find s.dsp.occ c = some o → o.yielded = true → o.start + o.slice + o.grace ≤ time → s.now ≤ time → time ≤ m.free →
      (k.d.external = true ∨ k.ended ≠ none → exec (.graceWindowEnd c time m) s = .next (s.tick time)) ∧
      (k.d.external = false → k.ended = none → Answers (.graceWindowEnd c time m) s (fun t => frees t ∧ requeued t ∧
        t.get (F.CORE_KILL_COUNT_YIELD_KILLS c) = Min.min (s.get (F.CORE_KILL_COUNT_YIELD_KILLS c) + 1) 0xFFFF ∧
        t.get F.DSP_EVENTS_PREEMPTIONS = Min.min (s.get F.DSP_EVENTS_PREEMPTIONS + 1) (2 ^ 32 - 1)))) ∧
    (k.d.external = true → k.ended = none → k.placed + 20000 ≤ time → s.now ≤ time → time ≤ m.free →
      Answers (.externalOverrunTimeout c time m) s frees) ∧
    (c < s.cores_ → 1 ≤ kind → kind ≤ 4 ∨ kind = 5 ∧ s.on (F.MX_CTL_COLCHK_EN c) = true → source < 4 → k.ended = none →
      Answers fault s (fun t => frees t ∧ requeued t ∧ t.get (F.CORE_FAULT_VALID c) = 1 ∧ t.get (F.CORE_FAULT_KIND c) = (if kind = 5 then 3 else kind) ∧
        t.get (F.CORE_FAULT_DETAIL c) = detail % 2 ^ 25 ∧ t.get (F.CORE_CTL_RETIRE c) = 1 ∧ (t.get F.RAS_RETIRED_CORES).testBit c = true ∧
        t.get (F.CORE_KILL_COUNT_FAULT_KILLS c) = Min.min (s.get (F.CORE_KILL_COUNT_FAULT_KILLS c) + 1) 0xFFFF ∧
        t.get F.DSP_EVENTS_PREEMPTIONS = s.get F.DSP_EVENTS_PREEMPTIONS))

/-- The controls of cores and facets, slices and periods (R10, R88, R98, R375, R379, R383): RETIRE takes its first 1 alone and locks; a field of a running core
waits for its command's end; a slice that ends gives way with YIELD where another context waits, and otherwise follows on; a period refills the
budget class to at most its cap; a Loupe window ends. -/
def Obligations.DispatcherControls : Prop :=
  ∀ (s : State) (c v time : Nat), c < 32 → c < s.cores_ → s.staged = [] →
    let retire := F.CORE_CTL_RETIRE c
    let offline := F.CORE_CTL_OFFLINE c
    (v % 2 = 0 → exec (.coreRetire c v) s = .next s) ∧
    (v % 2 = 1 → retire.id ∈ s.locks → Answers (.coreRetire c v) s (fun t => t.regs = (s.cfgDropped retire).regs ∧ t.get retire = s.get retire)) ∧
    (v % 2 = 1 → retire.id ∉ s.locks → s.core c = none → s.powered (c / 4 + 1) = true → Answers (.coreRetire c v) s (fun t =>
      t.get retire = 1 ∧ t.get (F.CORE_STAT_STATE c) = 5 ∧ retire.id ∈ t.locks)) ∧
    (v % 2 = 1 → retire.id ∉ s.locks → s.core c ≠ none → Answers (.coreRetire c v) s (fun t =>
      t.staged = [⟨retire, 1, .commit, c⟩] ∧ retire.id ∈ t.locks ∧ t.regs = s.regs)) ∧
    (s.core c = none → s.powered (c / 4 + 1) = true → s.on retire = false → Answers (.coreOffline c v) s (fun t =>
      t.get offline = v % 2 ∧ t.get (F.CORE_STAT_STATE c) = if v % 2 = 1 then 6 else 1)) ∧
    (s.core c ≠ none → Answers (.coreOffline c v) s (fun t => t.staged = [⟨offline, v % 2, .commit, c⟩] ∧ t.regs = s.regs)) ∧
    (c % 4 = 0 → Answers (.facetDrain (c / 4) v) s (fun t => t.get (F.FCT_CTL_DRAIN (c / 4)) = v % 2)) ∧
    (∀ o, Sparse.find s.dsp.occ c = some o → s.core c ≠ none → o.yielded = false → o.start + o.slice ≤ time → s.now ≤ time →
      ((s.tick time).rivals c o.ctx = true → Answers (.sliceEnd c time) s (fun t =>
        Sparse.find t.dsp.occ c = some { o with yielded := true } ∧ t.get (F.CORE_STAT_YIELD_PENDING c) = 1)) ∧
      ((s.tick time).rivals c o.ctx = false → Answers (.sliceEnd c time) s (fun t => ∃ o', Sparse.find t.dsp.occ c = some o' ∧ o'.ctx = o.ctx ∧
        o'.start = o.start + o.slice ∧ o'.yielded = false))) ∧
    (s.dsp.periodAt + s.get F.DSP_PERIOD_PERIOD_US * 100 ≤ time → s.now ≤ time → Answers (.periodBoundary time) s (fun t =>
      t.dsp.periodNo = s.dsp.periodNo + 1 ∧ t.dsp.periodAt = time ∧ t.dsp.served = [] ∧
      ∀ n, n < 1024 → s.weighted n = false → s.get (F.DSP_TNT_BUDGET_CAP n) < 2 ^ 31 →
        t.credits n = Min.min (s.credits n + s.get (F.DSP_TNT_BUDGET_REFILL n)) (s.get (F.DSP_TNT_BUDGET_CAP n)))) ∧
    ((s.get F.LPE_WINDOW_WINDOW + 1) * 10000000 ≤ time → s.now ≤ time → Answers (.loupeWindowEnd time) s (fun t =>
      t.dsp.loupe = [] ∧ t.get F.LPE_WINDOW_WINDOW = (s.get F.LPE_WINDOW_WINDOW + 1) % 2 ^ 64))

/-- The host's side of the dispatcher (R365, R366, R369, R370, R379, R388, R458, R278): a doorbell moves TAIL unless it overruns the ring; the oldest record of
a host ring leaves for the host's window, and a result list for its own address, without being a record of the ring (R278); HOST_HEAD is read again while a ring is full; a tenant is enabled only with an ACTIVE key slot, with
credits as configured; and the entries that Bezel posts are taken up to TAIL. -/
def Obligations.HostRings : Prop :=
  ∀ (s : State) (tid ring tail time key head v : Nat) (entries : List QEntry), tid < 1024 → ring < 4 → s.now ≤ time →
    let r := tid * 4 + ring
    let far := (tail + 2 ^ 32 - s.get (F.DSP_RING_PTR_HEAD r)) % 2 ^ 32
    let size := s.get (F.DSP_RING_WIN_SIZE r)
    let posts := s.get F.DSP_POST_RING_SIZE
    let enabled := F.DSP_TNT_CFG_ENABLED tid
    (0 < size → far ≤ 2 ^ size → Answers (.brxDoorbell tid ring tail time) s (fun t =>
      t.get (F.DSP_RING_PTR_TAIL r) = tail % 2 ^ 32 ∧ t.rec_ = s.rec_)) ∧
    (size = 0 ∨ 2 ^ size < far → Answers (.brxDoorbell tid ring tail time) s (fun t => t.get (F.DSP_RING_PTR_TAIL r) = s.get (F.DSP_RING_PTR_TAIL r))) ∧
    (∀ (h : HostRing) (x : Completion) (rest : List HostRec), s.dsp.hostRings.find? (fun g => g.key == key) = some h →
      let wrote : State → Prop := fun t => ∃ g ∈ t.dsp.hostRings, g.key = key ∧ g.queue = rest ∧ g.written = h.written + 1
      let addr := h.addr + h.written % 2 ^ h.log2 * 64
      (h.queue = .completion x :: rest → h.full = false → s.streamWaits x.handle = false → s.streamUnacked x.handle addr = false →
        Answers (.hostRecordWrite key) s (fun t => wrote t ∧ t.out = s.out ++ [.put addr (s.get (F.DSP_RING_CKEY_KEY key)) (x.bytes h.written)])) ∧
      (∀ (q : Nat) (n : Nat) (b : Bool) (p : List Nat), h.queue = .stream q n b p :: rest → h.full = false → Answers (.hostRecordWrite key) s (fun t =>
        wrote t ∧ ∃ kk, t.out = s.out ++ [.put addr kk (streamBytes q n b p)])) ∧
      (∀ (q a : Nat) (bytes : List Byte), h.queue = .results q a bytes :: rest → Answers (.hostRecordWrite key) s (fun t =>
        (∃ g ∈ t.dsp.hostRings, g.key = key ∧ g.queue = rest ∧ g.written = h.written) ∧ ∃ kk, t.out = s.out ++ [.put a kk bytes])) ∧
      (h.full = true → Answers (.hostHeadPoll key head time) s (fun t => ∃ g ∈ t.dsp.hostRings, g.key = key ∧ g.head = head % 2 ^ 64 ∧ g.queue = h.queue))) ∧
    (v % 2 = 1 → s.get (F.ONX_SLOT_STAT_STATE tid) = 1 → s.on enabled = false → s.get (F.DSP_TNT_BUDGET_CAP tid) < 2 ^ 31 →
      Answers (.tenantEnable tid v) s (fun t => t.get enabled = 1 ∧
        t.credits tid = Min.min (s.get (F.DSP_TNT_BUDGET_REFILL tid) : Int) (s.get (F.DSP_TNT_BUDGET_CAP tid)))) ∧
    (v % 2 = 1 → s.get (F.ONX_SLOT_STAT_STATE tid) ≠ 1 → Answers (.tenantEnable tid v) s (fun t => t.get enabled = s.get enabled)) ∧
    (v % 2 = 0 → s.heldOf tid = [] → Answers (.tenantEnable tid v) s (fun t => t.get enabled = 0)) ∧
    (posts = 0 → exec (.dspPostTail tail entries) s = .next (s.put F.DSP_POST_TAIL_TAIL (tail % 2 ^ 16))) ∧
    (0 < posts → entries.length = (tail % 2 ^ 16 + 2 ^ 16 - s.dsp.postTail) % 2 ^ posts → (∀ e ∈ entries, s.queueRoom e.ctx entries.length = true) →
      Answers (.dspPostTail tail entries) s (fun t => ChangesOnly (mayChange (.dspPostTail tail entries)) s t ∧
        ∀ e, entries = [e] → e.resv = false → s.get F.MEM_CTL_MIG_AHEAD ≠ 0 →
          s.checkItem ⟨s.dsp.nextItem, e, true, 0, 0, false, 0, false, [], [], none, [], [], none⟩ = none →
          t.dsp.postTail = tail % 2 ^ 16 ∧ t.get F.DSP_POST_TAIL_TAIL = tail % 2 ^ 16 ∧ ∃ x ∈ t.dsp.items, x.e = e ∧ x.posted = true))

/-! ### The memory tiers (spec/07) -/

/-- Tier operations over pages (R186, R196, R197, R206, R207, R480). An operation that is not yet in progress takes its ring entry and, where
the pages are as it requires, completes DONE with every page in its new state: MAP makes UNMAPPED pages ZERO with its attributes under a new serial number,
UNMAP makes them UNMAPPED, SET_HOME gives them their home, PREFETCH brings an AWAY page up, EVICT sends a RESIDENT page to its home, PIN and UNPIN set and
clear PINNED, MAP_SHARED maps pages of a READY object. -/
def Obligations.TierOperationsOnPages : Prop :=
  ∀ (s : State) (o : TierOp) (n : Nat), s.op 8 o.opId = none → TierOp.bad o = false →
    let key : Nat → Nat := fun i => pageKey (TierOp.ctx o) (o.va / 2 ^ 21 + i)
    let done : State → Prop := fun t => Out.opDone 8 o.opId o.completion 0 0 o.pages 0 ∈ t.out
    let all : (Pte → Prop) → Prop := fun p => ∀ i, i < o.pages → p (s.pte (key i))
    let after : State → (Pte → Prop) → Prop := fun t p => ∀ i, i < o.pages → p (t.pte (key i))
    (o.home ≤ 2 → (o.home = 1 → s.hasGeode = true) → all (fun p => p.state = .unmapped) → Answers (.map o) s (fun t => done t ∧
      (∀ i, i < o.pages → (t.pte (key i)).serial = s.tier.serial + 1 ∧ (t.pte (key i)).page = if o.home = 2 then o.arg / 4096 % 2 ^ 20 + i else 0) ∧
      after t (fun p => p.state = .zero ∧ p.home = homeOf o.home ∧ (p.durable = true ↔ o.cls = 1) ∧ p.writable = o.writable ∧ p.encHome = o.encHome ∧
        p.pinned = false ∧ p.dirty = 0))) ∧
    (¬ all (fun p => p.state = .unmapped) → o.home ≤ 2 → (o.home = 1 → s.hasGeode = true) → Answers (.map o) s (fun t =>
      Out.opDone 8 o.opId o.completion 3 0x0706 0 0 ∈ t.out ∧ t.tier.pages = s.tier.pages)) ∧
    Answers (.unmap o) s (fun t => done t ∧ (s.dsp.items = [] → after t (fun p => p.state = .unmapped))) ∧
    (o.home ≤ 2 → (o.home = 1 → s.hasGeode = true ∧ s.tierOffline = false) → o.pages ≤ 64 → all (fun p => p.state = .zero ∨ p.state = .resident) →
      Answers (.setHome o n) s (fun t => done t ∧ after t (fun p => p.home = homeOf o.home ∧ p.encHome = o.encHome ∧ p.homeLost = false))) ∧
    (s.on F.MEM_CTL_PREFETCH_EN = true → o.pages = 1 → (s.pte (key 0)).state = .away → (o.service = true ∨ o.tid < 1024) →
      s.frameRoom (TierOp.ctx o) 1 = true →
      (s.bringUp (key 0)).isSome = true → Answers (.prefetch o n) s (fun t => done t ∧ after t (fun p => p.state = .resident))) ∧
    (o.pages = 1 → (s.pte (key 0)).state = .resident → s.evictable { s.pte (key 0) with dirty := 0, cleaning := false } = true →
      Answers (.evict o n) s (fun t => done t ∧ after t (fun p => p.state = .away ∧ p.dirty = 0 ∧ p.home = (s.pte (key 0)).home))) ∧
    (all (fun p => p.state = .zero ∨ p.state = .resident) →
      (o.service = false → s.pinnedOf o.tid + o.pages ≤ s.get (F.MEM_TNT_QUOTA_PIN_MAX o.tid)) →
      Answers (.pin o) s (fun t => done t ∧ after t (fun p => p.pinned = true))) ∧
    (all (fun p => p.state ≠ .unmapped ∧ p.state ≠ .shared) → Answers (.unpin o) s (fun t => done t ∧ after t (fun p => p.pinned = false))) ∧
    (∀ x, s.object (o.arg % 4096) = some x → x.state = .ready → o.arg / 4096 % 2 ^ 20 + o.pages ≤ x.pages → all (fun p => p.state = .unmapped) →
      Answers (.mapShared o) s (fun t => done t ∧ ∀ i, i < o.pages → (t.pte (key i)).state = .shared ∧ (t.pte (key i)).loc = o.arg % 4096 ∧
        (t.pte (key i)).page = o.arg / 4096 % 2 ^ 20 + i ∧ (t.pte (key i)).writable = false))

/-- Operations on shared objects (R197, R198, R201, R206, R456): registering a FREE object under an ACTIVE key slot makes it LOADING with its pages ZERO, sealing makes it READY,
rewriting returns it to LOADING with GEN one higher, and retiring frees it once nothing maps it. -/
def Obligations.ObjectOperations : Prop :=
  ∀ (s : State) (o : TierOp), s.op 8 o.opId = none → TierOp.bad o = false →
    let d := o.obj
    let done : Nat → State → Prop := fun pages t => Out.opDone 8 o.opId o.completion 0 0 pages 0 ∈ t.out
    let page : Nat → Nat := fun i => (2048 + d.objId) * 2 ^ 27 + i
    (d.resv = false → d.objId < 4096 → d.keySlot < 64 → 1 ≤ d.pages → d.pages ≤ 2 ^ 20 → 1 ≤ d.altTimeout → d.altTimeout ≤ 60000 →
      s.object d.objId = none → s.get (F.ONX_SLOT_STAT_STATE (1024 + d.keySlot)) = 1 → Answers (.objRegister o) s (fun t => done d.pages t ∧
        (∃ x, t.object d.objId = some x ∧ x.state = .loading ∧ x.pages = d.pages ∧ x.keySlot = d.keySlot ∧ x.gen = 0 ∧ x.altAddr = d.altAddr) ∧
        ∀ i, i < d.pages → (t.pte (page i)).state = .zero)) ∧
    (∀ x, s.object d.objId = some x →
      (d.resv = false → 1 ≤ d.altTimeout → d.altTimeout ≤ 60000 → Answers (.objSetAlt o) s (fun t => done 0 t ∧
        t.object d.objId = some { x with altPlain := d.altPlain, altTimeout := d.altTimeout, altAddr := d.altAddr, altKey := d.altKey })) ∧
      (s.tierOffline = false → s.hasGeode = true → x.state = .loading → Answers (.objSeal o) s (fun t => done x.pages t ∧
        t.object d.objId = some { x with state := .ready })) ∧
      (x.state = .ready ∨ x.state = .poisoned → Answers (.objRewrite o) s (fun t => done 0 t ∧
        t.object d.objId = some { x with state := .loading, gen := (x.gen + 1) % 2 ^ 32 })) ∧
      (x.retire = none → (∀ p ∈ s.tier.objs, p.2.retire = none) →
        (s.mapCount d.objId = 0 → Answers (.objRetire o) s (fun t => done x.pages t ∧ t.object d.objId = none)) ∧
        (s.mapCount d.objId ≠ 0 → Answers (.objRetire o) s (fun t => t.object d.objId = some { x with state := .retiring, retire := some (o.opId, o.completion) }))))

/-- What happens to pages in the course of time (R169 to R188): a reservation is granted whole; a MOVING page becomes RESIDENT; a write-back of a page that is due, its programs and puts done, clears DIRTY but for
subpages replaced meanwhile, and one that fails leaves the page dirty and pinned; an evicted page is AWAY with its contents unchanged; the
page in a lost frame is AWAY where it can be had again, and otherwise LOST (R175). -/
def Obligations.PagesMove : Prop :=
  ∀ (s : State) (key time : Nat), s.now ≤ time →
    let p := s.pte key
    (∀ (item : Nat) (i : QItem), s.dsp.items.find? (fun x => x.id == item) = some i → i.entered ≠ 0 → i.granted = false →
      (∀ x ∈ s.dsp.items, i.entered ≤ x.entered) → (s.tick time).examine i = none → s.needTooLarge i = false →
      s.heldMaxOk = true → s.get F.MEM_FRAMES_HELD + s.heldNeed i ≤ s.heldMax → s.frameRoom i.runCtx (s.ownNeed i) = true → ((s.tick time).grant i).isSome = true →
      Answers (.reservationGrant item time) s (fun t => ∃ x ∈ t.dsp.items, x.id = item ∧ x.granted = true ∧ x.held = (i.held ++ s.upNeed i).dedup ∧
        ∀ k ∈ i.writePages, (Sparse.find x.fresh k).isSome = true)) ∧
    (p.state = .moving → p.homeLost = false → s.readingPage key = false → (p.home = .geode → s.tierOffline = false) → Answers (.pageBringUpDone key time) s (fun t =>
      ChangesOnly (mayChange (.pageBringUpDone key time)) s t ∧ (key < 2048 * 2 ^ 27 → s.ktr.held = [] → (t.pte key).state = .resident ∧
        t.get F.MEM_UP_GEODE_PAGES = (s.get F.MEM_UP_GEODE_PAGES + if p.home = .geode then 1 else 0) % 2 ^ 64 ∧
        t.get F.MEM_UP_FABRIC_PAGES = (s.get F.MEM_UP_FABRIC_PAGES + if p.home = .fabric then 1 else 0) % 2 ^ 64))) ∧
    (p.state = .resident → p.dirty ≠ 0 → p.cleaning = false → p.home ≠ .none → p.homeLost = false → (s.tick time).cleanDue key p = true → Answers (.writeBack key time) s (fun t =>
      t.pte key = { p with cleaning := true, writing := p.dirty, redirty := 0 } ∧ t.mem = s.mem)) ∧
    (p.state = .resident → p.cleaning = true → (p.home = .geode → s.tierOffline = false) →
      (s.writtenBack key = true → Answers (.writeBackDone key true time) s (fun t => (t.pte key).dirty = p.dirty &&& p.redirty ∧
        (t.pte key).cleaning = false ∧ (t.pte key).state = .resident ∧ t.get F.MEM_WB_SUBPAGES = (s.get F.MEM_WB_SUBPAGES + popCount p.writing) % 2 ^ 64)) ∧
      (p.home = .fabric → Answers (.writeBackDone key false time) s (fun t => (t.pte key).dirty = p.dirty ∧ (t.pte key).homeLost = true ∧
        t.evictable (t.pte key) = false))) ∧
    ((s.tick time).evictNext key = true → Answers (.pageEvict key time) s (fun t => t.pte key = { p with state := .away, frame := 0 } ∧ t.mem = s.mem)) ∧
    (∀ stack line, stack < s.stacks → line < 2 ^ 30 → Answers (.hbmUeLine stack line time) s (fun t =>
      ChangesOnly (mayChange (.hbmUeLine stack line time)) s t ∧ (s.get F.RAS_CTL_STACK_UE_MAX = 0 → s.dsp.running = [] →
        t.get (F.HBM_UE_COUNT stack) = Min.min (s.get (F.HBM_UE_COUNT stack) + 1) (2 ^ 32 - 1) ∧
        t.get (F.HBM_ERR_ADDR_VALID stack) = 1 ∧ t.get (F.HBM_ERR_ADDR_LINE stack) = line ∧
        (Sparse.find s.tier.frames (stack * 32768 + line / 32768) = some (some key) → (t.pte key).state =
          if 2048 * 2 ^ 27 ≤ key ∨ p.durable = true then .away else if p.dirty ≠ 0 ∨ p.home = .none then .lost else .away))))

/-- The journal, recovery of objects, and stacks (R10, R175, R189 to R195, R198 to R200, R438): gathered records go into stripes in order, or wait in a full journal; an acknowledged stripe
covers its records and frees the publications that end in it; a checkpoint leaves no durable page dirty that a home takes; an object whose pages have no
source, or whose alternate does not answer in time, is POISONED; a stack is retired or fails. -/
def Obligations.JournalObjectsStacks : Prop :=
  ∀ (s : State) (time : Nat), s.now ≤ time →
    let gathered := s.tier.gathered
    let bytes := gathered.foldl (fun n r => n + r.bytes) 0
    (gathered ≠ [] → s.tier.used + bytes ≤ 256 * 2 ^ 30 → Answers (.journalGroupFlush time) s (fun t => t.tier.gathered = [] ∧ t.tier.full = false ∧
      ∃ new, t.tier.stripes = s.tier.stripes ++ new ∧ (∀ p ∈ new, ∀ r ∈ p.2, r.stripe = p.1) ∧
        (new.flatMap (fun p => p.2)).map (fun (r : JRec) => { r with stripe := 0 }) = gathered.map (fun r => { r with stripe := 0 }))) ∧
    (gathered ≠ [] → 256 * 2 ^ 30 < s.tier.used + bytes → Answers (.journalGroupFlush time) s (fun t => t.tier.gathered = gathered ∧
      t.tier.stripes = s.tier.stripes ∧ (s.tier.full = false → t.tier.full = true ∧
        t.get F.MEM_JRN_STAT_FULL_EPISODES = Min.min (s.get F.MEM_JRN_STAT_FULL_EPISODES + 1) (2 ^ 32 - 1)))) ∧
    (∀ stripe recs rest, s.tier.stripes = (stripe, recs) :: rest → s.tierOffline = false → s.journaling stripe = false → Answers (.journalStripeAck stripe time) s (fun t =>
      ChangesOnly (mayChange (.journalStripeAck stripe time)) s t ∧ (s.idx.indices = [] → s.ktr.held = [] →
        (s.tier.pubs = [] → t.tier.covered = s.tier.covered ++ recs ∧
          t.get F.MEM_JRN_SEQ_JSEQ = (recs.foldl (fun m r => Max.max m r.jseq) (s.get F.MEM_JRN_SEQ_JSEQ)) % 2 ^ 64) ∧
        (∀ p, s.tier.pubs = [p] → p.scatter = false → (∃ r ∈ recs, r.last = true ∧ r.pub = p.id) → t.tier.pubs = [])))) ∧
    (s.tierOffline = false → s.get F.MEM_JRN_CTL_CKPT_PCT < s.tier.fill ∨ s.tier.ckptAt + s.get F.MEM_JRN_CTL_CKPT_PERIOD * 100000000 ≤ time →
      Answers (.checkpoint time) s (fun t => t.tier.ckptAt = time ∧
        (∀ k, (t.pte k).durable = true → (t.pte k).state = .resident ∨ (t.pte k).state = .away → (t.pte k).home ≠ .none → (t.pte k).homeLost = false →
          (t.pte k).dirty = 0) ∧
        ∀ r ∈ t.tier.covered, r ∈ s.tier.covered ∧ (r.pub ∈ s.tier.pubs.map (fun p => p.id) ∨ (t.pte r.key).dirty ≠ 0))) ∧
    (∀ (obj k n : Nat) (x : Obj), s.object obj = some x → k / 2 ^ 27 = 2048 + obj → (s.pte k).state = .moving →
      (n = 1 ∨ n = 2 → x.altPages = [] → Answers (.objPageRecovery obj [(k, n)] time) s (fun t => (t.pte k).state = .resident)) ∧
      (x.altAddr ≠ 0 → Answers (.objPageRecovery obj [(k, 3)] time) s (fun t => (t.pte k).state = .moving ∧
        ∃ y, t.object obj = some y ∧ k ∈ y.altPages ∧ y.altSince = some (s.tick time).now ∧ y.state = x.state)) ∧
      (s.dsp.items = [] → Answers (.objPageRecovery obj [(k, 4)] time) s (fun t => (t.pte k).state = .poisoned ∧
        ∃ y, t.object obj = some y ∧ y.state = .poisoned)) ∧
      (∀ since, s.dsp.items = [] → x.altSince = some since → since + x.altTimeout * 100000 ≤ time → x.altPages ≠ [] →
        Answers (.altFetchTimeout obj time) s (fun t => ∃ y, t.object obj = some y ∧ y.state = .poisoned ∧ y.altPages = []))) ∧
    (∀ stack v, stack < s.stacks →
      let retire := F.HBM_CTL_RETIRE stack
      (v % 2 = 0 → exec (.hbmRetire stack v) s = .next s) ∧
      (v % 2 = 1 → retire.id ∉ s.locks → Answers (.hbmRetire stack v) s (fun t => ChangesOnly (mayChange (.hbmRetire stack v)) s t ∧
        (s.on retire = false → s.framesOf stack = [] → t.get retire = 1 ∧ t.get (F.HBM_STAT_STATE stack) = 5 ∧ retire.id ∈ t.locks))) ∧
      (s.get (F.HBM_STAT_STATE stack) ≠ 6 → Answers (.stackFail stack time) s (fun t => ChangesOnly (mayChange (.stackFail stack time)) s t ∧
        (s.on retire = true ∨ s.framesOf stack = [] → t.get (F.HBM_STAT_STATE stack) = 6))))

/-! ### Feature tables and the token unit (spec/11, spec/12) -/

/-- The feature table engine's operations and jobs (R289, R290, R293, R299 to R306, R308): a well-formed table whose pages can be pinned is made; a dropped table is refused
from then on and goes once nothing of it is pending; a row migrates through a queue, a copy and a switch, and its old slot is free at the
end; a gather and an update block are counted, leave their queues, and a gather's publication commits its job; counts are halved at a tick. -/
def Obligations.FeatureTables : Prop :=
  ∀ (s : State) (o : FtbOp) (table row time item : Nat),
    let u := s.tick time
    let done : State → Prop := fun t => Out.opDone 13 o.opId o.completion 0 0 0 0 ∈ t.out
    let fresh := s.op 13 o.opId = none ∧ o.resv = false
    let keys := ({ desc := o.desc, obj := 0, dropping := false, pub := 0, hits := [], queued := [], migs := [], decayAt := 0 } : Table).keys
    let ladder := ([1, 2, 3, 4] : List Nat).filter (fun w => o.desc.heapVa.getD (w - 1) 0 != 0 && o.desc.slots.getD (w - 1) 0 != 0)
    (fresh → FtbDesc.reserved o.desc = false → s.table o.desc.table = none → o.desc.defaultWidth ∈ ladder →
      o.desc.rows + 16 ≤ (ladder.map (fun w => o.desc.slots.getD (w - 1) 0)).foldl (· + ·) 0 →
      (∀ k ∈ keys, (s.pte (s.governing k)).state = .zero ∨ (s.pte (s.governing k)).state = .resident) →
      (o.desc.shared = true → (s.sharedObj keys).isSome = true ∧ o.desc.autoMig = false) →
      (o.desc.shared = false → (∀ k ∈ keys, (s.pte k).state ≠ .shared ∧ (s.pte k).durable = true) ∧
        s.pinnedOf o.desc.tid + keys.length ≤ s.get (F.MEM_TNT_QUOTA_PIN_MAX o.desc.tid)) →
      Answers (.ftbCreate o) s (fun t => done t ∧ (∃ x, t.table o.desc.table = some x ∧ x.desc = o.desc ∧ x.dropping = false ∧ x.pub = 0 ∧ x.migs = []) ∧
        ∀ k ∈ keys, (t.pte (s.governing k)).pinned = true)) ∧
    (∀ x, fresh → s.table o.table = some x → x.dropping = false →
      Answers (.ftbDrop o) s (fun t => done t ∧ (∀ y, t.table o.table = some y → y.dropping = true) ∧
        (x.migs = [] → (∀ y ∈ s.ftb.pending, y.table ≠ o.table) → s.tableBusy x = false → t.table o.table = none)) ∧
      (x.desc.shared = false → o.arg < x.desc.rows → o.width ∈ x.ladder → (s.rowDesc x o.arg).1 ≠ 0 →
        ((s.rowDesc x o.arg).1 = o.width → Answers (.ftbMigrate o) s done) ∧
        ((s.rowDesc x o.arg).1 ≠ o.width → Answers (.ftbMigrate o) s (fun t => ∃ y, t.table o.table = some y ∧
          y.queued = x.queued ++ [⟨o.arg, o.width, some o.opId, o.completion⟩] ∧ y.migs = x.migs)))) ∧
    (∀ (i : QItem) (d : GatherDesc) (x : Table), s.dsp.items.find? (fun y => y.id == item) = some i → i.e.job = .gather d → s.ready i = true →
      s.mayRun i = true → s.now ≤ time → s.table d.table = some x → x.dropping = false → s.readsTable x i.runCtx = true →
      let idx := words 4 d.count (u.load i.runCtx d.idxVa (4 * d.count))
      let n := (gatherRows x.desc.rows idx).length
      gatherSize x.desc.dim d n ≤ d.outLen → Answers (.gather item time) s (fun t => (∀ y ∈ t.dsp.items, y.id ≠ item) ∧
        t.get (F.FTB_GATHER_GATHERS d.table) = (s.get (F.FTB_GATHER_GATHERS d.table) + 1) % 2 ^ 32 ∧
        t.get (F.FTB_GATHER_UNIQUE d.table) = (s.get (F.FTB_GATHER_UNIQUE d.table) + n) % 2 ^ 32 ∧
        (s.tier.pubs = [] → (s.jobState d.reqHandle d.cmdId).isSome = true → t.jobState d.reqHandle d.cmdId = some .committed))) ∧
    (∀ x, s.table table = some x →
      (∀ y p, s.ftb.pending.find? (fun z => z.table == table) = some y → s.tier.pubs.find? (fun q => q.id == y.pub) = some p →
        s.tableBusyBut p.id x = false → s.tableAway x = none → s.now ≤ time → Answers (.scatterAddApply table time) s (fun t =>
          t.ftb.pending = eraseFirst (fun z => z.table == table) s.ftb.pending ∧ ∃ z, t.table table = some z ∧ z.pub = x.pub + 1 ∧ z.desc = x.desc)) ∧
      (x.decayAt + x.desc.decayMs * 100000 ≤ time → s.now ≤ time → Answers (.decayTick table time) s (fun t => ∃ y, t.table table = some y ∧
        y.decayAt = time ∧ y.hits = (x.hits.map (fun p => (p.1, p.2 / 2))).filter (fun p => p.2 != 0))) ∧
      (∀ q, x.queued.find? (fun y => y.row == row) = some q → s.on F.FTB_CTL_MIG_EN = true → s.migsRunning < 16 → s.tableBusy x = false →
        s.tableAway x = none → (∀ m ∈ x.migs, m.row ≠ row) →
        (∀ id, q.opId = some id → s.opRuns 13 id = true) → (s.rowDesc x row).1 ≠ 0 →
        ((s.rowDesc x row).1 ≠ q.width → ∀ slot, s.freeSlot x q.width = some slot → Answers (.migrationStart table row) s (fun t =>
          ∃ y m, t.table table = some y ∧ m ∈ y.migs ∧ m.row = row ∧ m.src = (s.rowDesc x row).1 ∧ m.dst = q.width ∧ m.slot = slot ∧ m.switched = false ∧
            m.copied = s.rowOf x row ∧ y.queued = eraseFirst (fun z => z.row == row) x.queued)) ∧
        ((s.rowDesc x row).1 = q.width → Answers (.migrationStart table row) s (fun t => ∃ y, t.table table = some y ∧ y.migs = x.migs ∧
          y.queued = eraseFirst (fun z => z.row == row) x.queued))) ∧
      (∀ m, x.migs.find? (fun z => z.row == row && !z.switched) = some m → s.tableBusy x = false → s.tableAway x = none → (∀ id, m.opId = some id → s.opRuns 13 id = true) →
        Answers (.migrationSwitch table row) s (fun t => (∃ y z, t.table table = some y ∧ z ∈ y.migs ∧ z.row = row ∧ z.dst = m.dst ∧ z.switched = true) ∧
          ∀ id, m.opId = some id → Out.opDone 13 id m.completion 0 0 0 0 ∈ t.out)) ∧
      (∀ m, x.migs.find? (fun z => z.row == row && z.switched) = some m → (∀ p ∈ s.tier.pubs, p.id ≠ m.pub) →
        (∀ i ∈ s.dsp.items, i.id ∉ m.pinners) → (∀ r ∈ s.dsp.running, r.2.id ∉ m.pinners) →
        Answers (.migrationFree table row) s (fun t => ∀ y, t.table table = some y → ∀ z ∈ y.migs, z.row ≠ row)))

/-- The token unit (R309 to R319, R327 to R329, R334, R335, R338): OPEN opens a stream with an empty context, or counts a wait; FEED counts its tokens and moves the stream on, closing it
at LAST; PACK gives the request its prompt; an idle context is evicted with nothing of its state lost; a valid image is loaded and pinned,
and an unloaded one goes with its last user. Without the unit on the variant its operations end NOT_PRESENT (R3). -/
def Obligations.TokenUnit : Prop :=
  ∀ (s : State) (item handle stream n time : Nat) (i : QItem) (d : TxuJob) (o : TxuOp), s.now ≤ time →
    let u := s.tick time
    let left : State → Prop := fun t => item < s.dsp.nextItem → ∀ y ∈ t.dsp.items, y.id ≠ item
    let done : State → Prop := fun t => Out.opDone 14 o.opId o.completion 0 0 0 0 ∈ t.out
    let fresh := s.op 14 o.opId = none ∧ o.resv = false
    let here : List Nat → Prop := fun ks => ∀ k ∈ ks, (s.pte k).state = .zero ∨ (s.pte k).state = .resident
    (∀ x, s.txuItem item 1 = some (i, d) → u.usableDict i.runCtx d.dictId = some x → s.stream d.reqHandle d.stream = none →
      (d.byteFallback = true → x.byteTokens = true) →
      (s.txu.streams.length < 65536 → s.txu.onHub < 8192 ∨ s.txu.streams.any (fun y => u.idleStream y) = true →
        Answers (.open_ item time) s (fun t => left t ∧ ∃ y ∈ t.txu.streams, y.handle = d.reqHandle ∧ y.num = d.stream ∧ y.dict = d.dictId ∧
          y.byteMode = d.byteFallback ∧ y.carry = [] ∧ y.pending = [] ∧ y.bytesIn = 0 ∧ y.tokensOut = 0 ∧ y.evicted = false)) ∧
      (65536 ≤ s.txu.streams.length → item ∉ s.txu.waited → Answers (.open_ item time) s (fun t => t.dsp.items = s.dsp.items ∧ item ∈ t.txu.waited ∧
        t.get F.TXU_CTX_WAIT_JOBS = (s.get F.TXU_CTX_WAIT_JOBS + 1) % 2 ^ 64))) ∧
    (∀ x dict, s.txuItem item 2 = some (i, d) → s.stream d.reqHandle d.stream = some x → s.dict x.dict = some dict →
      let pieces := (utfRepair x.carry (u.load i.runCtx d.inVa d.inLen) d.last).1
      let run := u.tokPieces dict x.byteMode d.last pieces ⟨[], x.pending, x.walked, 0, 0⟩
      64 + 4 * run.toks.length ≤ d.outLen → Answers (.feed item time) s (fun t => left t ∧
        t.get F.TXU_TOKENS_TOKENS = (s.get F.TXU_TOKENS_TOKENS + run.toks.length) % 2 ^ 64 ∧ t.get F.TXU_STEPS_STEPS = (s.get F.TXU_STEPS_STEPS + run.steps) % 2 ^ 64 ∧
        if d.last then t.stream d.reqHandle d.stream = none
        else ∃ y, t.stream d.reqHandle d.stream = some y ∧ y.bytesIn = x.bytesIn + d.inLen ∧ y.tokensOut = x.tokensOut + run.toks.length ∧
          y.pending = run.pending ∧ y.lastJob = time ∧ y.evicted = false)) ∧
    (∀ r x dict prompt skipped, s.txuItem item 3 = some (i, d) → s.req d.reqHandle = some r → i.posted = false → PackDesc.bad d.pack = false →
      s.dict d.dictId = some dict → s.inst r.d.gen.inst = some x → d.pack.budget ≤ x.hdr.maxContext →
      let p := d.pack
      let at_ := u.tokensAt i.runCtx
      packPrompt p (at_ p.headVa p.headN) (at_ p.midVa p.midN) (at_ p.tailVa p.tailN) (at_ p.preVa p.preN) (at_ p.postVa p.postN)
        (((r.tokens.find? (fun y => y.1 == d.dictId)).map (fun y => y.2)).getD []) (r.passages.map (fun y => u.passageTokens d.dictId y)) = some (prompt, skipped) →
      64 + 4 * prompt.length ≤ d.outLen → Answers (.pack item time) s (fun t => left t ∧
        (∃ r', t.req d.reqHandle = some r' ∧ r'.prompt = prompt) ∧ t.get F.TXU_PACK_PACKS = (s.get F.TXU_PACK_PACKS + 1) % 2 ^ 32 ∧
        t.get F.TXU_PACK_SKIPPED = (s.get F.TXU_PACK_SKIPPED + skipped) % 2 ^ 32)) ∧
    (∀ x, s.stream handle stream = some x → u.idleStream x = true → Answers (.contextEvict handle stream time) s (fun t =>
      { x with evicted := true } ∈ t.txu.streams ∧ t.txu.streams.length = s.txu.streams.length)) ∧
    (∀ x, fresh → s.hasTxu = true → o.id < 1024 → s.dict o.id = none → TxuOp.here o s = true →
      s.dictHeader o.shared (if o.shared then 0 else o.tid) (TxuOp.at_ o).1 (TxuOp.at_ o).2 = some x → here (x.keys s) →
      s.imageStop o.shared o.tid (x.keys s) = none → s.dictValid x = true →
      Answers (.dictLoad o) s (fun t => done t ∧ t.dict o.id = some x ∧ ∀ k ∈ x.keys s, (t.pte k).pinned = true)) ∧
    (fresh → o.id < 1024 → s.hasTxu = false → ∀ i ∈ [Instr.dictLoad o, .dictUnload o, .gramLoad o n, .gramUnload o],
      Answers i s (fun t => Out.opDone 14 o.opId o.completion 0x0A 0 0 0 ∈ t.out)) ∧
    (∀ x, fresh → s.hasTxu = true → o.id < 1024 → s.dict o.id = some x → Answers (.dictUnload o) s (fun t => done t ∧
      (0 < s.dictUsers o.id → t.dict o.id = some { x with unloading := true }) ∧ (s.dictUsers o.id = 0 → t.dict o.id = none))) ∧
    (∀ g, fresh → s.hasTxu = true → s.gram o.id = none → TxuOp.here o s = true →
      s.gramHeader o.shared (if o.shared then 0 else o.tid) (TxuOp.at_ o).1 (TxuOp.at_ o).2 = some g → here (g.keys s) →
      s.imageStop o.shared o.tid (g.keys s) = none → s.gramValid g = true → (g.keys s).length ≤ n →
      Answers (.gramLoad o n) s (fun t => done t ∧ t.gram o.id = some { g with state := .ready } ∧ ∀ k ∈ g.keys s, (t.pte k).pinned = true)) ∧
    (∀ g, fresh → s.hasTxu = true → s.gram o.id = some g → Answers (.gramUnload o) s (fun t => done t ∧
      (0 < s.gramUsers o.id → t.gram o.id = some { g with state := .unloading }) ∧ (s.gramUsers o.id = 0 → t.gram o.id = none)))

/-! ### Indices and searches (spec/09, spec/10) -/

/-- Operations on indices (R229 to R231, R239, R242, R245, R251, R252, R254, R256, R257, R261): a well-formed index is made with generation 1 and fold point 0; a dropped one
is DROPPING and goes when nothing uses it; a fold starts at COMMITTED, a repair at the current fold point; partitions are done without a
change to the current generation; the publication waits for pins of g - 1 alone; the fold set leaves the side list at the end; a copy write that waited is done. -/
def Obligations.IndexOperations : Prop :=
  ∀ (s : State) (o : IdxOp) (index handle item n v : Nat),
    let done : State → Prop := fun t => Out.opDone 12 o.opId o.completion 0 0 0 0 ∈ t.out
    let fresh := s.op 12 o.opId = none ∧ o.resv = false
    (fresh → IdxDesc.reserved o.desc = false → o.desc.load = [] → (o.desc.ranges = false → s.hasGeode = true) → s.badSchema o.desc = false →
      Answers (.idxCreate o) s (fun t => t.get (F.IDX_TUNE_AUTO_FOLD_PCT o.desc.index) = o.desc.autoFoldPct ∧ ∃ y, t.index o.desc.index = some y ∧
        y.desc = o.desc ∧ y.state = .creating ∧ y.creating = some (s.tier.nextPub, o.opId, o.completion) ∧ y.cur.num = 1 ∧ y.cur.point = 0 ∧
        y.committed = 0 ∧ y.prev = none ∧ y.side = [] ∧ y.keys = [] ∧ y.fold = none)) ∧
    (∀ x, fresh → s.index o.index = some x → x.desc.index = o.index → x.state = .ready →
      (x.updates = [] → x.fold = none → Answers (.idxDrop o) s (fun t => done t ∧ (∀ y, t.index o.index = some y → y.state = .dropping ∧ y.cur = x.cur) ∧
        (x.creating = none → s.idxUsers o.index = [] → t.index o.index = none))) ∧
      (x.fold = none → s.compactOk o.index = false → ∀ i ∈ [Instr.idxFold o, .idxRepair o], Answers i s (fun t =>
        Out.opDone 12 o.opId o.completion 0x0B 0 0 0 ∈ t.out ∧ t.idx = s.idx)) ∧
      (x.fold = none → s.compactOk o.index = true → Answers (.idxFold o) s (fun t => ∃ y f, t.index o.index = some y ∧ y.fold = some f ∧ f.repair = false ∧ f.step = 2 ∧
          f.point = x.committed ∧ f.opId = some o.opId ∧ y.dyingGen = x.cur.num + 1 ∧ y.cur = x.cur ∧ y.side = x.side ∧ y.state = .ready) ∧
        Answers (.idxRepair o) s (fun t => ∃ y f, t.index o.index = some y ∧ y.fold = some f ∧ f.repair = true ∧ f.step = 2 ∧ f.point = x.cur.point ∧
          f.todo = (x.cur.parts.filter (fun p => p.2.damaged)).map (fun p => p.1) ∧ f.opId = some o.opId ∧ y.cur = x.cur ∧ y.side = x.side)) ∧
      (x.fold ≠ none → Answers (.idxFold o) s (fun t => t.idx = s.idx) ∧ Answers (.idxRepair o) s (fun t => t.idx = s.idx))) ∧
    (∀ x, s.index index = some x → x.desc.index = index →
      (∀ u, x.updates = [u] → u.handle = handle → u.seq = 0 → item ∈ u.waits → s.copyWaits x item = false →
        Answers (.itemCopyWrite index handle item) s (fun t => ChangesOnly (mayChange (.itemCopyWrite index handle item)) s t ∧
          (u.waits.erase item ≠ [] → t.index index = some { x with updates := [{ u with waits := u.waits.erase item }] }))) ∧
      (∀ f, x.fold = some f → s.foldGoes f = true → f.step < 4 →
        (f.todo ≠ [] → 0 < n → (s.foldOne (s.readIndex x) f (f.todo.headD 0)).isSome = true → Answers (.foldPublish index n) s (fun t => ∃ y g, t.index index = some y ∧ y.fold = some g ∧ g.step = f.step ∧
          g.point = f.point ∧ g.todo.length < f.todo.length ∧ y.cur = (s.readIndex x).cur ∧ y.prev = (s.readIndex x).prev ∧
          (x.desc.ranges = false → y.cur = x.cur ∧ y.prev = x.prev) ∧ y.side = x.side ∧ y.committed = x.committed)) ∧
        (f.todo = [] → s.pins index (x.cur.num - 1) = [] → s.programming (.fold index) = false → (∀ p ∈ f.pubs, ∀ q ∈ s.tier.pubs, q.id ≠ p) →
          Answers (.foldPublish index n) s (fun t =>
          t.index index = some { x with fold := some { f with step := 4, pub := some s.tier.nextPub } }))) ∧
      (∀ f, x.fold = some f → s.foldGoes f = true → f.step = 5 → s.pins index (x.cur.num - 1) = [] →
        Answers (.foldReclaim index) s (fun t => ChangesOnly (mayChange (.foldReclaim index)) s t ∧
          (x.updates = [] → x.state = .ready → s.get (F.IDX_TUNE_AUTO_FOLD_PCT index) = 0 → ∃ y, t.index index = some y ∧ y.fold = none ∧ y.prev = none ∧
            y.cur = x.cur ∧ y.side = if f.repair then x.side else x.side.filter (fun e => decide (f.point < e.seq)))))) ∧
    Answers (.idxCtlWrite v) s (fun t => t.get F.IDX_CTL_FOLD_EN = v / 2 ^ 31 % 2 ∧ ChangesOnly [.regs .idx] s t)

/-- The course of a search (R16, R23, R27, R76, R238, R253, R262, R263, R269, R274 to R276, R280, R282 to R285, R486): the sequencer commands of a
step are queued for the tenant, and once all have committed the probe order is the nearest partitions, the side list is searched, and candidates are
rescored; the query is dispatched to its first NPROBE; a group is scored once, for every query that waits on it where reads are shared, or skipped and
the query DAMAGED when it is LOST; the first query to arrive has its lists merged, or a further round begins; candidates are fetched, their passages go
to the request, and the pin ends. A program is loaded when it is legal. -/
def Obligations.SearchSteps : Prop :=
  ∀ (s : State) (handle emb part group channel slot addr : Nat) (items : List QEntry) (q : Query) (x : Index),
    let stage : Stage → Prop := fun st => ∃ r, s.atStage handle st = some r ∧ r.handle = handle
    let bump := fun (f : RF) (n : Nat) (t : State) => t.get f = (s.get f + n) % 2 ^ f.w
    let z := s.readIndex x
    let asks : Stage → SeqWork → Instr → Query → Prop := fun st w i y => ∀ (r : Req) (e : QEntry), s.atStage handle st = some r → items = [e] →
      s.seqItems handle r.tid items = true → e.resv = false → s.get F.MEM_CTL_MIG_AHEAD ≠ 0 →
      s.checkItem ⟨s.dsp.nextItem, e, false, 0, 0, false, 0, false, [], [], none, [], [], none⟩ = none →
      Answers i s (fun t => t.query handle = some { y with jobs := q.jobs ++ [(w, [e.job.cmdId])] } ∧ ∃ o ∈ t.dsp.items, o.e = e ∧ o.posted = false)
    (s.query handle = some q → q.handle = handle → s.index q.index = some x →
      (q.step = .order → (q.jobsOf .order = none → asks .coarse .order (.probeOrder ⟨handle, items⟩ emb) q) ∧
        (stage .coarse → s.jobsDone q .order = true → s.badTiles x.desc = false → Answers (.probeOrder ⟨handle, items⟩ emb) s (fun t =>
          ∃ y, t.query handle = some y ∧ y.step = .dispatch ∧ y.q = s.queryVector x.desc q.blk emb ∧
            y.probes = nearest q.maxProbes (s.coarse x.desc y.q) ∧ y.snap = q.snap ∧ y.gen = q.gen))) ∧
      (q.step = .dispatch →
        (stage .scan → s.hasGeode = true → s.contexts.length < 8 → (∀ p ∈ s.idx.queries, p.2.step = .dispatch → q.order ≤ p.2.order) →
          Answers (.probeDispatch ⟨handle, items⟩) s (fun t => t.query handle = some { q with step := .scanning, upto := q.nprobe, rounds := 1 })) ∧
        (s.hasGeode = false → asks .scan .scan (.probeDispatch ⟨handle, items⟩) { q with step := .scanning, upto := q.nprobe, rounds := 1 })) ∧
      (stage .scan → q.step = .scanning → (part, group) ∈ x.unread q → (∀ p ∈ s.idx.queries, p.2.handle = p.1) →
        s.idx.queries.Pairwise (fun a b => a.1 < b.1) →
        let p := (z.gen q.gen).part part
        let g := p.groups.getD group ⟨0, false, []⟩
        let hidden := (g.recs.mapIdx (fun i m => (group * x.desc.group + i, m))).filter (fun m => z.hides q p m.1 m.2)
        let reads := ((s.sharers x q part group).flatMap (fun y => s.scanReads x y g)).dedup
        (g.lost = true → Answers (.scanUnitScore handle part group channel) s (fun t => ∀ y ∈ s.sharers x q part group, ∃ w,
          t.query y.handle = some w ∧ { w with arrived := y.arrived } = { y with seen := (part, group) :: y.seen, damaged := true })) ∧
        (g.lost = false → s.groupChannel x g = some channel → (∀ u ∈ reads, u ∈ s.idx.read) → Answers (.scanUnitScore handle part group channel) s (fun t =>
          (∀ y ∈ s.sharers x q part group, ∃ w, t.query y.handle = some w ∧ w.seen = (part, group) :: y.seen ∧ w.damaged = y.damaged ∧ w.step = y.step ∧
            ∀ c, c ≠ channel → Sparse.find w.lists c = Sparse.find y.lists c) ∧ t.idx.read = reads.foldl (fun l u => l.erase u) s.idx.read ∧
          (s.on F.CSU_CTL_SHARE_EN = false → channel < 8 * s.bays → bump (F.CSU_HIDDEN_RECORDS channel) hidden.length t ∧
            bump (F.CSU_RECORDS_RECORDS channel) (g.recs.length - hidden.length) t)))) ∧
      (q.step = .scanning → q.sideDone = false → (q.jobsOf .side = none → asks .scan .side (.sideListSearch ⟨handle, items⟩) q) ∧
        (stage .scan → s.jobsDone q .side = true → Answers (.sideListSearch ⟨handle, items⟩) s (fun t => ∃ y, t.query handle = some y ∧
          y.sideDone = true ∧ y.lists = q.lists ∧ y.step = .scanning ∧ ∀ e ∈ y.side, e.source = 64 ∧ Fp.isNaN e.score = false))) ∧
      (∀ r, s.atStage handle .scan = some r → r.handle = handle → q.step = .scanning → s.mergesNext q = true →
        (s.hasGeode = true ∨ s.jobsDone q .scan = true) →
        Answers (.mergeStart handle) s (fun t => ChangesOnly (mayChange (.mergeStart handle)) s t ∧ bump F.MRG_MERGES_COUNT 1 t ∧
          let m := mergeLists q.blk.cand (q.entries q.upto)
          (q.blk.widen = true → m.2.2 < q.blk.cand → q.upto < q.maxProbes → bump F.MRG_ROUNDS_COUNT 1 t ∧ ∃ y, t.query handle = some y ∧
            y.step = .scanning ∧ y.rounds = q.rounds + 1 ∧ y.upto = Nat.min (2 * q.upto) q.maxProbes ∧ y.seen = []) ∧
          ((q.blk.widen = false ∨ q.blk.cand ≤ m.2.2 ∨ q.maxProbes ≤ q.upto) → (nextStage r.d .merge).isSome = true →
            ∃ y, t.query handle = some y ∧ y.step = .merged ∧ y.merged = m.1 ∧ y.dups = m.2.1 ∧ y.distinct = m.2.2))) ∧
      (stage .rescoring → q.step = .merged → q.fetched = false → Answers (.candidateFetch handle) s (fun t => ∃ y, t.query handle = some y ∧
        y.fetched = true ∧ y.cands = (z.candidates q).1 ∧ (q.damaged = true → y.damaged = true) ∧ y.merged = q.merged)) ∧
      (q.fetched = true → q.rescored = false → (q.jobsOf .rescore = none → asks .rescoring .rescore (.rescore ⟨handle, items⟩) q) ∧
        (∀ r, s.atStage handle .rescoring = some r → r.handle = handle → s.jobsDone q .rescore = true →
          Answers (.rescore ⟨handle, items⟩) s (fun t => ChangesOnly (mayChange (.rescore ⟨handle, items⟩)) s t ∧ ((nextStage r.d .rescoring).isSome = true →
            ∃ y, t.query handle = some y ∧ y.rescored = true ∧ y.cands.length ≤ q.blk.rescoreKeep ∧ ∀ c ∈ y.cands, Fp.isNaN c.score = false)))) ∧
      (stage .passageFetch → q.step = .merged → Answers (.passageFetch handle) s (fun t => (∃ y, t.query handle = some y ∧ y.step = .done ∧ y.pinned = false) ∧
        ∃ r, t.req handle = some r ∧ r.passages = (if q.fetched then q.cands else (z.candidates q).1).filterMap z.passageOf))) ∧
    (s.slotUsed slot = true → Answers (.csuProgLoad slot addr) s (fun t => t.idx.progs = s.idx.progs ∧ t.get F.CSU_PROG_STAT_RESULT = s.get F.CSU_PROG_STAT_RESULT)) ∧
    (s.slotUsed slot = false → Answers (.csuProgLoad slot addr) s (fun t =>
      (slot < 5 → t.get F.CSU_PROG_STAT_RESULT = 3 ∧ t.idx = s.idx) ∧
      (5 ≤ slot → (addr % 64 ≠ 0 ∨ parseImage (s.load svc addr 144) = none) → t.get F.CSU_PROG_STAT_RESULT = 2 ∧ t.idx = s.idx) ∧
      (∀ p, 5 ≤ slot → slot < 16 → addr % 64 = 0 → parseImage (s.load svc addr 144) = some p → t.get F.CSU_PROG_STAT_RESULT = 1 ∧
        Sparse.find t.idx.progs slot = some p ∧ t.get F.CSU_PROG_STAT_VALID / 2 ^ slot % 2 = 1 ∧ t.idx.indices = s.idx.indices)))

/-! ### Generation and shipping (spec/13) -/

/-- Model instances and passes (R39, R322, R325, R330 to R333, R339, R342, R343, R347): a valid image is loaded and an unloaded instance goes with its last user; a pass takes the next number; a
committed pass counts, and a chunk that does not end its prompt adds its rows to kv_len; text is delivered but for the held suffix; the
grammar takes in the committed tokens; drafts are kept for the next step. -/
def Obligations.GenerationPasses : Prop :=
  ∀ (s : State) (o : GenOp) (inst pass handle cmdId recVa time : Nat) (items : List (QEntry × Option Nat)) (outs : List MemberOut) (drafts : List Nat),
    let u := s.tick time
    let fresh := s.op 15 o.opId = none ∧ o.resv = false
    let done : State → Prop := fun t => Out.opDone 15 o.opId o.completion 0 0 0 0 ∈ t.out
    (fresh → InstDesc.bad o.desc = false →
      (s.modelInvalid o = false → Answers (.genModelLoad o) s (fun t => done t ∧ t.inst o.inst = some ⟨o.tid, o.desc, o.hdr, false, [], []⟩ ∧
        t.get (F.GEN_PASSES_COUNT o.inst) = 0 ∧ t.get (F.GEN_ROWS_DECODE o.inst) = 0 ∧ t.get (F.GEN_ROWS_PREFILL o.inst) = 0)) ∧
      (s.modelInvalid o = true → Answers (.genModelLoad o) s (fun t => Out.opDone 15 o.opId o.completion 3 0x0D01 0 0 ∈ t.out ∧ t.gen = s.gen))) ∧
    (∀ x, fresh → s.inst o.inst = some x → Answers (.genModelUnload o) s (fun t => done t ∧
      (0 < s.instUsers o.inst → t.inst o.inst = some { x with unloading := true }) ∧ (s.instUsers o.inst = 0 → t.inst o.inst = none))) ∧
    (∀ x, s.now ≤ time → s.inst inst = some x →
      (x.passes.length < x.desc.passes → items ≠ [] →
        let f : Forming × State := if x.hdr.encoder then u.formEncoder inst x else u.formPass inst x s.gen.reqs.length
        f.1.members ≠ [] → items.all (u.passItem x f.1.members) = true →
        u.reproApart f.1.members items = true → f.2.queueRoom x.tid items.length = true →
        Answers (.formPass inst items time) s (fun t => ChangesOnly (mayChange (.formPass inst items time)) s t ∧ t.gen.nextPass = f.2.gen.nextPass + 1)) ∧
      (∀ p, x.passes.find? (fun y => y.id == pass) = some p → s.passDone p = true → outs.length = p.members.length →
        Answers (.passCommit inst pass outs time) s (fun t => ChangesOnly (mayChange (.passCommit inst pass outs time)) s t ∧
          ∀ m r g, p.members = [m] → m.kind = .chunk → s.req m.handle = some r → r.ending = none → s.greq m.handle = some g → g.handle = m.handle →
            s.isPrefill = false → g.ran + m.rows < g.prompt.length →
            t.greq m.handle = some { g with ran := g.ran + m.rows, kvLen := g.kvLen + m.rows, inPass := false } ∧
            t.get (F.GEN_PASSES_COUNT inst) = (s.get (F.GEN_PASSES_COUNT inst) + 1) % 2 ^ 64 ∧
            t.get (F.GEN_ROWS_PREFILL inst) = (s.get (F.GEN_ROWS_PREFILL inst) + m.rows) % 2 ^ 32))) ∧
    (∀ g, s.now ≤ time → s.greq handle = some g → g.handle = handle →
      (g.out ≠ [] → (s.isPrefill = false ∨ g.closing = true) → s.holdsBack (streamKey handle) = false → Answers (.detokenise handle time) s (fun t => ∃ y, t.greq handle = some y ∧
        y.delivered = Nat.max g.delivered (g.text.length - if g.closing then 0 else heldSuffix g.stop.strings g.text) ∧ y.numbered = g.out.length ∧
        y.text = g.text ∧ y.out = g.out)) ∧
      (∀ m n, s.gramOf g = some m → s.gramNow g = some n → (g.advanced < g.out.length ∨ g.out = []) → s.recordHere g cmdId recVa 16 = true →
        Answers (.grammarAdvance handle cmdId recVa time) s (fun t => (∃ y, t.greq handle = some y ∧ y.gram = n ∧ y.advanced = g.out.length ∧ y.out = g.out) ∧
          t.get F.TXU_MASK_ADVANCES = (s.get F.TXU_MASK_ADVANCES + (g.out.length - g.advanced)) % 2 ^ 32)) ∧
      (g.inPass = false → g.prefill = false → g.closing = false → g.blk.draftMode ≠ 0 → drafts ≠ [] → drafts.length ≤ g.blk.draftMax →
        (g.blk.draftMode = 2 → drafts = lookupDrafts g.blk.draftMax (g.prompt.filter (fun t => decide (t < 2 ^ 18)) ++ g.out)) →
        ((s.gramOf g).isSome = true → (s.gramNow g).isSome = true → s.recordHere g cmdId recVa (16 * (drafts.length + 1)) = true) →
        Answers (.draftWalk handle drafts cmdId recVa time) s (fun t => ∃ y, t.greq handle = some y ∧ y.drafts = drafts ∧ y.out = g.out ∧ y.gram = g.gram)))

/-- The path of a request goes on (R19, R24, R334, R353): the jobs of its next stage are queued, one OPEN and one FEED for each dictionary of its models or one PACK, the inputs of an encoder stage are offered, its prompt enters PREFILL, or, its jobs committed, it
stands at the stage that follows. -/
def Obligations.StagesAdvance : Prop :=
  ∀ (s : State) (handle time : Nat) (items : List QEntry) (r : Req), s.now ≤ time → s.atStage handle r.stage = some r → r.handle = handle → s.greq handle = none →
    let i := Instr.stageAdvance handle items time
    (r.begun = none → (r.stage = .tokenisation ∧ s.reqDicts r ≠ [] ∧ s.tokenises r items = true ∨ r.stage = .packing ∧ s.packs r items = true) →
      s.queueRoom r.tid items.length = true → s.get F.MEM_CTL_MIG_AHEAD ≠ 0 → (items.map (fun e => e.job.cmdId)).Nodup →
      (∀ e ∈ items, e.job.handle = handle ∧ e.chargeTid = r.tid ∧ e.svcCharge = false ∧ e.resv = false ∧
        s.checkItem ⟨s.dsp.nextItem, e, false, 0, 0, false, 0, false, [], [], none, [], [], none⟩ = none) →
      Answers i s (fun t => (∃ y, t.req handle = some y ∧ y.stage = r.stage ∧ y.begun = some (items.map (fun e => e.job.cmdId))) ∧
        ∀ e ∈ items, ∃ o ∈ t.dsp.items, o.e = e ∧ o.posted = false)) ∧
    (r.begun = none → r.stage = .tokenisation → s.reqDicts r = [] → Answers i s (fun t =>
      ∃ y, t.req handle = some y ∧ y.stage = (nextStage r.d .tokenisation).getD .tokenisation ∧ y.begun = none)) ∧
    (r.begun = none → (r.stage = .embedding ∨ r.stage = .rerank) → (s.tick time).encoderRows r r.stage ≠ [] → Answers i s (fun t =>
      ∃ y, t.req handle = some y ∧ y.stage = r.stage ∧ y.begun = some [] ∧ y.inputs = (s.tick time).encoderRows r r.stage ∧ y.inputsRun = 0)) ∧
    (r.begun = none → r.stage = .prefill → s.promptStop r = none → Answers i s (fun t => (∃ y, t.req handle = some y ∧ y.state = .prefill) ∧
      ∃ g, t.greq handle = some g ∧ g.prompt = r.prompt ∧ g.out = [] ∧ g.kvLen = 0 ∧ g.prefill = true ∧ g.inPass = false ∧ g.tid = r.tid ∧ g.blk = r.d.gen)) ∧
    (∀ jobs st, r.begun = some jobs → r.stage ≠ .embedding → r.stage ≠ .rerank → (∀ j ∈ jobs, s.jobState handle j = some .committed) →
      nextStage r.d r.stage = some st → st ≠ .embedding → st ≠ .rerank → st ≠ .packing → st ≠ .prefill →
      Answers i s (fun t => ∃ y, t.req handle = some y ∧ y.stage = st ∧ y.begun = none))

/-- Shipping KV between a PREFILL and a DECODE part (R38 to R41, R359 to R362): a claim is granted its pages, or held while the pool is short; pages go to their granted offsets; an accepted
manifest makes the request one of the DECODE part with its first token, and another is refused and counted; an acknowledged request leaves
the PREFILL part; an abort and an orphan free what was granted. -/
def Obligations.ShippingRecords : Prop :=
  ∀ (s : State) (r : ShipRec) (m : Manifest) (d : ReqDesc) (handle tid shipId time : Nat), s.now ≤ time → r.resv = false →
    let u := s.tick time
    let keys := ∀ p ∈ s.gen.reqs, p.1 = p.2.handle
    let sat := fun (f : RF) (t : State) => t.get f = Min.min (s.get f + 1) (2 ^ 16 - 1)
    let h := s.shippedHandle r.tid r.shipId
    (r.kind = 1 → s.isDecode = true → Answers (.shipClaim r time) s (fun t => ChangesOnly (mayChange (.shipClaim r time)) s t ∧
      ∀ x, s.gen.claims = [] → s.inst r.inst = some x → x.tid = r.tid →
        (∀ ps y, takePages x r.count = some (ps, y) → t.inst r.inst = some y ∧ t.gen.claims = [] ∧ t.get F.GEN_SHIP_CLAIMS_HELD = 0 ∧
          ∃ g, t.grantOf r.tid r.shipId = some g ∧ (∀ p ∈ ps, p ∈ g.pages) ∧ g.seen = u.now) ∧
        (takePages x r.count = none → t.inst r.inst = some x ∧ t.gen.claims = [⟨r.tid, r.shipId, r.inst, r.count, r.reply⟩] ∧
          t.get F.GEN_SHIP_CLAIMS_HELD = 1))) ∧
    (r.kind = 8 → 1 ≤ r.count → r.count ≤ 5 →
      (u.shipReq r = none → exec (.shipGrant r.head r.offsets time) s = .next u) ∧
      (∀ g, u.shipReq r = some g → keys → Answers (.shipGrant r.head r.offsets time) s (fun t => ChangesOnly (mayChange (.shipGrant r.head r.offsets time)) s t ∧
        (g.manifestPages = none → t.greq g.handle = some { g with grants := g.grants ++ r.offsets.take r.count })))) ∧
    (∀ g x c rest, s.greq handle = some g → g.handle = handle → g.toShip = c :: rest → s.inst g.blk.inst = some x → c.length ≤ g.grants.length →
      s.isPrefill = true → Answers (.shipChunk handle time) s (fun t => t.greq handle = some { g with
        toShip := rest, grants := g.grants.drop c.length, shipped := g.shipped ++ g.grants.take c.length, unacked := g.unacked + c.length })) ∧
    (r.kind = 2 → s.isDecode = true → Answers (.shipManifest r m d time) s (fun t => ChangesOnly (mayChange (.shipManifest r m d time)) s t ∧
      ((∀ x, s.inst r.inst = some x → x.tid ≠ r.tid ∨ x.hdr.imageId ≠ m.imageId) → sat F.GEN_SHIP_REFUSED t) ∧
      (∀ x g ps, s.inst r.inst = some x → x.tid = r.tid → x.hdr.imageId = m.imageId → s.grantOf r.tid r.shipId = some g →
        m.pages.mapM (fun p => g.page p) = some ps → s.gen.claims = [] → (∃ q, t.req h = some q ∧ q.state = .decode ∧ q.ended = false ∧ q.tid = r.tid) ∧
          (s.req (r.tid * 2 ^ 48 + r.shipId % 2 ^ 44) = none → h = r.tid * 2 ^ 48 + r.shipId % 2 ^ 44) ∧
          ∃ y, t.greq h = some y ∧ y.out = [m.firstToken] ∧ y.kvLen = m.kvLen ∧ y.gram = m.grammarState ∧ y.prefill = false ∧ y.blk = m.gen))) ∧
    (r.kind = 9 → (u.shipReq r = none → exec (.shipAck r time) s = .next u) ∧
      (∀ g, u.shipReq r = some g → keys → Answers (.shipAck r time) s (fun t => t.greq g.handle = none))) ∧
    (r.kind = 10 → Answers (.shipNack r time) s (fun t => sat F.GEN_SHIP_REFUSED t)) ∧
    (r.kind = 3 → s.isDecode = true → Answers (.shipAbort r time) s (fun t => ChangesOnly (mayChange (.shipAbort r time)) s t ∧
      (s.gen.claims = [] → t.grantOf r.tid r.shipId = none ∧ ∀ g x, s.grantOf r.tid r.shipId = some g → s.inst g.inst = some x →
        t.inst g.inst = some { x with used := x.used.filter (fun p => !g.pages.contains p) }))) ∧
    (∀ g, s.grantOf tid shipId = some g → s.isDecode = true → g.seen + s.get F.GEN_SHIP_WIN_ORPHAN_MS * 100000 ≤ time →
      Answers (.orphanMsExpiry tid shipId time) s (fun t => sat F.GEN_SHIP_ORPHANS t ∧ (s.gen.claims = [] → t.grantOf tid shipId = none)))

/-! ### Tenant rings and control entries (spec/01, spec/14) -/

/-- A completion record of a request with a status and a detail code is queued for its host ring. -/
def Completed (t : State) (handle status detail : Nat) : Prop :=
  ∃ ring ∈ t.dsp.hostRings, ∃ c, HostRec.completion c ∈ ring.queue ∧ c.handle = handle ∧ c.status = status ∧ c.detail = detail

/-- REQUEST, INDEX_UPDATE, SERVICE and HELD_REQUEST_ADMIT (R19 to R22, R239, R241, R364, R365, R367, R368, R380): a readable descriptor is taken and HEAD advances; one in
error completes with its status and detail; an admitted request stands at its first stage with its snapshot fixed; one that the ADMIT_EN or
the credits hold is HELD; an update joins its index, its commands queued, and waits for them (R234); a held one's blocks are read as it is admitted (R258); a service descriptor waits for service software. -/
def Obligations.DescriptorsTaken : Prop :=
  ∀ (s : State) (x : RingRead) (d : ReqDesc) (items : List QEntry) (handle time : Nat),
    let p := s.readDesc x
    let h := x.tid * 2 ^ 48 + x.ring * 2 ^ 44 + Sparse.get 0 s.dsp.counts x.tid % 2 ^ 44
    let head := F.DSP_RING_PTR_HEAD (completionKey x.tid x.ring)
    let took : State → Prop := fun t => t.get head = (s.get head + 1) % 2 ^ 32
    let open_ := p.2.holds x.tid = false ∧ p.2.heldOf x.tid = []
    let noDebt := p.2.weighted x.tid = true ∨ 0 < p.2.credits x.tid ∨ p.2.on (F.DSP_TNT_CFG_OVER_REFUSE x.tid) = false
    let entry := if x.d.kind = 2 then Instr.indexUpdate ⟨x, items⟩ else Instr.request x
    let first := (stagesOf x.d).headD .tokenisation
    (s.readable x = true → x.d.kind ≤ 2 ∨ 6 < x.d.kind →
      (x.d.kind ≠ 2 → Answers entry s took) ∧
      (∀ status detail, p.2.descStop x = some (status, detail) → Answers entry s (fun t => took t ∧ Completed t h status detail ∧
        ∃ r, t.req h = some r ∧ r.ended = true)) ∧
      (p.2.descStop x = none → noDebt → p.2.holds x.tid = true → Answers entry s (fun t =>
        took t ∧ t.req h = some p.1 ∧ p.1.state = .held ∧ p.1.ended = false ∧ t.idx = s.idx))) ∧
    (s.readable x = true → x.d.kind < 2 → p.2.descStop x = none → noDebt → open_ → p.2.admitStop p.1 = none →
      Answers (.request x) s (fun t => (∃ r, t.req h = some r ∧ r.d = x.d ∧ r.state = .admitted ∧ r.stage = first ∧ r.ended = false ∧ r.begun = none) ∧
        ∀ y, x.d.retrieve = true → s.index x.d.search.index = some y → ∃ q, t.query h = some q ∧ q.snap = y.committed ∧ q.gen = y.cur.num ∧ q.pinned = true ∧
          q.nprobe = Nat.min x.d.search.nprobe y.desc.partitions)) ∧
    (∀ y, s.readable x = true → x.d.kind = 2 → p.2.descStop x = none → noDebt → open_ → s.index x.d.index = some y → y.desc.index = x.d.index →
      y.state = .ready → y.desc.tid = x.tid → badBatch y.desc x.d.batch = false →
      (∀ detail, p.2.checkBatch y x.d.batch = .error detail → Answers (.indexUpdate ⟨x, items⟩) s (fun t => Completed t h 3 detail)) ∧
      (∀ ps, p.2.checkBatch y x.d.batch = .ok ps → updateItems y.desc h x.tid x.d.batch items = true → p.2.queueRoom x.tid items.length = true →
        y.updates = [] → (∃ e ∈ x.d.batch, e.op = 1) → s.get F.MEM_CTL_MIG_AHEAD ≠ 0 → (items.map (fun e => e.job.cmdId)).Nodup →
        (∀ e ∈ items, e.resv = false ∧ s.checkItem ⟨s.dsp.nextItem, e, false, 0, 0, false, 0, false, [], [], none, [], [], none⟩ = none) →
        Answers (.indexUpdate ⟨x, items⟩) s (fun t => took t ∧ (∀ e ∈ items, ∃ o ∈ t.dsp.items, o.e = e) ∧ ∃ z u, t.index x.d.index = some z ∧
          z.updates = [u] ∧ u.handle = h ∧ u.preps = ps ∧ u.jobs = items.map (fun e => e.job.cmdId) ∧ u.seq = 0 ∧ u.pub = none ∧ z.side = y.side))) ∧
    (s.readable x = true → x.d.kind = 6 → s.dsp.svcWaiting = [] →
      (∀ status detail, p.2.descStop x = some (status, detail) → Answers (.service x) s (fun t => took t ∧ Completed t h status detail)) ∧
      (p.2.descStop x = none → Answers (.service x) s (fun t => took t ∧ h ∈ t.dsp.svcOpen ∧ ∃ r, t.req h = some r ∧ r.state = .admitted ∧ r.ended = false))) ∧
    (∀ r, s.req handle = some r → r.handle = handle → r.ended = false → r.state = .held → r.ending = none → s.holds r.tid = false → s.now ≤ time →
      (∀ q ∈ s.heldOf r.tid, q.ring = r.ring → handle % 2 ^ 44 ≤ q.handle % 2 ^ 44) →
      let i := Instr.heldRequestAdmit ⟨handle, d, items⟩ time
      let e := ReqDesc.readAgain r.d d
      Answers i s (fun t => ChangesOnly (mayChange i) s t ∧ (r.d.kind ≠ 2 → (s.tick time).admitStop { r with d := e } = none →
        ∃ q, t.req handle = some q ∧ q.d = e ∧ q.state = .admitted ∧ q.stage = (stagesOf e).headD .tokenisation)))

/-- CANCEL, SUSPEND and RESUME (R28 to R31, R363, R367, R387): each acts on a request of its own tenant and then completes; one whose target has ended
completes ALREADY_FINISHED, and one that names none FAILED. -/
def Obligations.ControlDescriptors : Prop :=
  ∀ (s : State) (x : RingRead), s.readable x = true → (s.readDesc x).2.descStop x = none →
    let p := s.readDesc x
    let h := p.1.handle
    let i := if x.d.kind = 3 then Instr.cancel x else if x.d.kind = 4 then Instr.suspend x else Instr.resume x
    x.d.kind = 3 ∨ x.d.kind = 4 ∨ x.d.kind = 5 →
    ((∀ y, s.req x.d.target = some y → y.tid ≠ x.tid) → s.isDecode = false → Answers i s (fun t => Completed t h 3 0x0E01 ∧ t.dsp.reqs = s.dsp.reqs)) ∧
    (∀ y, s.req x.d.target = some y → y.tid = x.tid → y.handle = x.d.target →
      (y.ended = true → Answers i s (fun t => Completed t h 2 0 ∧ t.dsp.reqs = s.dsp.reqs)) ∧
      (y.ended = false → y.d.kind ≠ 1 → x.d.kind ≠ 3 → Answers i s (fun t => Completed t h 3 0x0E02 ∧ t.dsp.reqs = s.dsp.reqs)) ∧
      (y.ended = false → y.d.kind = 1 → x.d.kind = 3 → y.ending = none → s.runs y.handle = false → s.greq y.handle = none →
        Answers i s (fun t => Completed t h 0 0 ∧ Completed t y.handle 1 0 ∧ ∃ z, t.req y.handle = some z ∧ z.ended = true)) ∧
      (y.ended = false → y.d.kind = 1 → x.d.kind = 4 → Answers i s (fun t => t.req y.handle = some { y with suspended := true } ∧
        (s.runs y.handle = false → s.greq y.handle = none → (∀ p ∈ s.gen.insts, ∀ q ∈ p.2.passes, ∀ m ∈ q.members, m.handle ≠ y.handle) →
          Completed t h 0 0))) ∧
      (y.ended = false → y.d.kind = 1 → x.d.kind = 5 → Answers i s (fun t => t.req y.handle = some { y with suspended := false } ∧ Completed t h 0 0)))

/-- The control entries of the operation rings (R251, R306, R387): a long operation is held, goes on or is cancelled, one that has not begun too; one
that has ended is found so; an operation that is none is refused. -/
def Obligations.OperationControl : Prop :=
  ∀ (s : State) (e : OpControl), (opRing e.block).isSome = true → e.block ≠ 21 → s.op e.block e.opId = none → e.resv = false → e.arg ≠ e.opId →
    let ends : Nat → Nat → State → Prop := fun status detail t => Out.opDone e.block e.opId e.completion status detail 0 0 ∈ t.out
    let now : OpStatus → State → Prop := fun st t => ∃ o, t.op e.block e.arg = some o ∧ o.status = st
    (s.op e.block e.arg = none →
      (e.long = true → Answers (.opSuspend e) s (fun t => ends 0 0 t ∧ now .suspended t) ∧ Answers (.opResume e) s (fun t => ends 0 0 t ∧ t.op e.block e.arg = none) ∧
        Answers (.opCancel e) s (fun t => ends 0 0 t ∧ now .cancelled t)) ∧
      (e.long = false → Answers (.opSuspend e) s (ends 3 0x0E02) ∧ Answers (.opResume e) s (ends 3 0x0E02) ∧ Answers (.opCancel e) s (ends 3 0x0E02))) ∧
    (∀ o, s.op e.block e.arg = some o →
      (o.status = .ended ∨ o.status = .cancelled → Answers (.opSuspend e) s (ends 2 0) ∧ Answers (.opResume e) s (ends 2 0) ∧ Answers (.opCancel e) s (ends 2 0)) ∧
      (o.status = .running → o.long = true → Answers (.opSuspend e) s (fun t => ends 0 0 t ∧ t.op e.block e.arg = some { o with status := .suspended }) ∧
        Answers (.opResume e) s (fun t => ends 0 0 t ∧ t.op e.block e.arg = some o)) ∧
      (o.status = .suspended → Answers (.opResume e) s (fun t => ends 0 0 t ∧ now (if o.begun then .running else .waiting) t)) ∧
      (o.status ≠ .ended → o.status ≠ .cancelled →
        (o.begun = false → Answers (.opCancel e) s (fun t => ends 0 0 t ∧ now .cancelled t)) ∧
        (o.begun = true → e.block = 8 ∨ e.block = 15 → Answers (.opCancel e) s (fun t => ends 0 0 t ∧ now .ended t ∧
          Out.opDone e.block e.arg o.completion 1 0 o.pos 0 ∈ t.out))))

/-! ### The Geode tier (spec/08) -/

/-- No write that waits for an idle unit (R14) is one of these fields, as it never is where they are status fields. -/
def StagedSpares (s : State) (fs : List RF) : Prop := ∀ w ∈ s.staged, w.te = .idle → ∀ f ∈ fs, w.f.id ≠ f.id

/-- Channels, units, programs and patrol (R51, R180, R212 to R215, R227): a channel whose island slept wakes; an idle channel takes the
oldest operation of the highest class, and a class 1 read suspends a program, which goes on when none waits; a read is counted, and one
for a scan is at its CSU; an acknowledged program's bytes are in memory, its units are mapped, and a FENCE waits for it no longer; the
stripes of a collected group are free, and what was valid in them lies elsewhere; a patrol pass reads on and is counted. -/
def Obligations.FlashChannels : Prop :=
  ∀ (s : State) (channel item ext time : Nat) (stripes : List Nat) (done fold : Bool) (arrivals : List FlashOp) (r : ReadResult)
    (worn : List (Nat × Nat × Nat)),
    s.now ≤ time → 0 < s.bays → s.bays ≤ 8 →
    let x := s.chan channel
    let cur := if done then x.cur.filter (fun o => o.kind == 2) else x.cur
    let queue := x.queue ++ arrivals
    let urgent := fun (o : FlashOp) => o.kind = 2 ∧ FlashOp.cls o = 1
    let start := fun (o : FlashOp) => { o with started := time }
    let becomes := fun (y : Chan) => Answers (.flashOpStart channel done arrivals time) s (fun t => t.chan channel = y ∧
      t.get (F.GEO_CH_STAT_STATE channel) = y.code % 8 ∧ t.get (F.EDG_ISL_STAT_STATE (32 + channel)) = 0 ∧
      t.get (F.GEO_CH_STAT_Q1 channel) = (y.queue.filter (fun o => FlashOp.cls o == 1)).length % 2 ^ 16)
    let readCounts := fun (b : Nat) (t : State) => t.get (F.GEO_BAY_LDPC_SOFT b) = Min.min (s.get (F.GEO_BAY_LDPC_SOFT b) + r.soft) (2 ^ 32 - 1) ∧
      (r.result = 1 → t.get (F.GEO_BAY_LDPC_FAILED b) = Min.min (s.get (F.GEO_BAY_LDPC_FAILED b) + 1) (2 ^ 32 - 1))
    let passed := fun (t : State) => t.geo.patrolPos = 0 ∧ t.geo.patrolNext = (0, 0) ∧ t.geo.patrolLate = false ∧
      t.get F.GEO_PATROL_PASSES = (s.get F.GEO_PATROL_PASSES + 1) % 2 ^ 16
    (channel < 8 * s.bays → s.written (channel / 8) = true → s.on (F.EDG_ISL_STAT_IN_RESET (32 + channel)) = false →
      StagedSpares s [F.EDG_ISL_STAT_STATE (32 + channel)] → (∀ o ∈ arrivals, s.opFits channel o = true) → s.idx.indices = [] ∨ done = false →
      (cur = none → x.suspended = none → queue = [] → becomes ⟨none, none, []⟩) ∧
      (∀ o a b, queue = a ++ o :: b → (∀ p ∈ queue, FlashOp.cls o ≤ FlashOp.cls p) → (∀ p ∈ a, FlashOp.cls o < FlashOp.cls p) →
        cur = none → x.suspended = none → becomes ⟨some (start o), none, a ++ b⟩) ∧
      (∀ p o a b, queue = a ++ o :: b → urgent o → (∀ q ∈ a, ¬ urgent q) → p.kind = 3 → cur = some p → x.suspended = none →
        becomes ⟨some (start o), some p, a ++ b⟩) ∧
      (∀ p, cur = some p → x.suspended = none → (p.kind ≠ 3 ∨ ∀ q ∈ queue, ¬ urgent q) → becomes ⟨some p, none, queue⟩) ∧
      (∀ p, cur = none → x.suspended = some p → (∀ q ∈ queue, ¬ urgent q) → becomes ⟨some (start p), none, queue⟩) ∧
      (∀ p o a b, queue = a ++ o :: b → urgent o → (∀ q ∈ a, ¬ urgent q) → cur = none → x.suspended = some p →
        becomes ⟨some (start o), some p, a ++ b⟩) ∧
      (∀ p q, cur = some p → x.suspended = some q → becomes ⟨some p, some q, queue⟩)) ∧
    (∀ o y, x.cur = some o → o.kind = 2 → s.stripe o.stripe = some y → s.canRead y (channel / 8) r = true →
      let i := Instr.flashUnitRead channel r time
      Answers i s (fun t => ChangesOnly (mayChange i) s t ∧ readCounts (y.bayOf s.bays s.dataUnits o.slot) t ∧
        (r.result ≠ 2 → t.chan channel = Chan.next ⟨none, x.suspended, x.queue⟩ time ∧
          ∀ u, o.work = .scan → y.slots[o.slot]? = some u → t.idx.read = s.idx.read ++ [u]))) ∧
    (∀ p, s.geo.progs.find? (fun y => y.item == item && y.ext == ext) = some p → s.tierOffline = false → s.programming (.program item ext) = false →
      Answers (.geoProgramAck item ext time) s (fun t => t.mem = (s.store p.tid p.va p.bytes).mem ∧
        (∀ y ∈ t.geo.progs, ¬ (y.item = item ∧ y.ext = ext)) ∧
        (∀ id y, s.stripe id = some y → y.work = some (.program item ext) → ∀ u ∈ y.slots, (Sparse.find t.geo.map u).isSome = true) ∧
        ∀ c k, s.core c = some k → (∃ e ∈ k.ext, e.id = ext ∧ e.geo = true) → ∃ k', t.core c = some k' ∧ k'.ext = k.ext.filter (fun e => e.id != ext) ∧
          (k'.ext = [] → k'.waiting = false))) ∧
    (s.collectable stripes = true → s.tierOffline = false → (∀ w ∈ worn, w.1 < s.bays) → (∀ id ∈ stripes, id < s.geo.nextStripe) →
      Answers (.garbageCollect stripes fold worn time) s (fun t => (∀ p ∈ t.geo.stripes, p.1 ∉ stripes) ∧
        ∀ id ∈ stripes, ∀ y, s.stripe id = some y → y.jrn = none → 3 ≤ s.bays → ∀ n u, y.slots[n]? = some u → s.unitValid id n u = true →
          ∃ place, Sparse.find t.geo.map u = some place ∧ place.1 ∉ stripes)) ∧
    (let u := (s.tick time).openPass
      ∀ id slot rest y, s.on F.GEO_CTL_PATROL_EN = true → u.patrolUnits u.geo.patrolNext u.geo.patrolTop = (id, slot) :: rest → u.stripe id = some y →
        let b := y.bayOf s.bays s.dataUnits slot
        let onward := fun (t : State) => t.geo.patrolPos = u.geo.patrolPos + 1 ∧ t.geo.patrolNext = (id, slot + 1) ∧
          t.get F.GEO_PATROL_PASSES = s.get F.GEO_PATROL_PASSES
        u.canRead y b r = true → Answers (.patrolRead r time) s (fun t => readCounts b t ∧ (onward t ∨ passed t) ∧
          (r.result = 0 → r.soft = 0 → r.corrected = 0 →
            if (u.patrolUnits (id, slot + 1) u.geo.patrolTop).isEmpty then passed t else onward t))) ∧
    (s.on F.GEO_CTL_PATROL_EN = true → s.geo.patrolLate = false → s.geo.patrolAt + s.geo.patrolDays * dayTicks ≤ time →
      Answers (.patrolPeriodEnd time) s (fun t => t.geo = { s.geo with patrolLate := true }))

/-- Bays (R209 to R211, R220, R222, R224 to R226, tables "Admission of a cartridge" and "Bay states"): a cartridge that is inserted takes
the state and REASON of the admission table; one that is pulled leaves its bay EMPTY, one that does not answer FAILED; EJECT and ADMIT act
or are refused; a bay whose programs have completed may be pulled; a rebuild goes on stripe by stripe, and its bay is then IN_SERVICE. -/
def Obligations.Bays : Prop :=
  ∀ (s : State) (bay channel v time : Nat) (c : CartInfo), s.now ≤ time → s.bays ≤ 8 →
    let state := F.GEO_BAY_STAT_STATE bay
    let raised := fun (t : State) => t.get F.GEO_TIER_GEN = (s.get F.GEO_TIER_GEN + 1) % 2 ^ 16
    let ok := CartInfo.crcOk c
    let admitted : Nat → Nat → Prop := fun st reason => Answers (.cartridgeInsert bay c time) s (fun t => t.get state = st ∧
      t.get (F.GEO_BAY_STAT_REASON bay) = reason ∧ t.get (F.GEO_BAY_STAT_PRESENT bay) = 1 ∧
      t.get (F.GEO_BAY_SERIAL_SERIAL bay) = (CartInfo.cart c).serial % 2 ^ 64 ∧ (st = 4 → raised t))
    (bay < s.bays → s.get state = 0 →
      (ok = false → admitted 2 1) ∧ (ok = true → c.certOk = false → admitted 2 2) ∧
      (ok = true → c.certOk = true →
        (c.member = none → admitted (if s.on F.GEO_CTL_AUTO_REBUILD then 6 else 3) 0) ∧
        (∀ m, c.member = some m → (m.own = false → admitted 3 0) ∧ (m.own = true → m.bay ≠ bay → admitted 2 3) ∧
          (m.own = true → m.bay = bay → m.gen = s.get F.GEO_TIER_GEN → admitted 4 0) ∧
          (m.own = true → m.bay = bay → m.gen ≠ s.get F.GEO_TIER_GEN → admitted (if (s.bay bay).overflow then 6 else 5) 0)))) ∧
    (bay < s.bays → s.get (F.GEO_BAY_STAT_PRESENT bay) = 1 → Answers (.cartridgeRemoved bay time) s (fun t => t.get state = 0 ∧
      t.get (F.GEO_BAY_STAT_PRESENT bay) = 0 ∧ t.get (F.GEO_BAY_SERIAL_SERIAL bay) = 0 ∧ t.get (F.GEO_BAY_WEAR_LIFE_USED bay) = 0 ∧
      (t.bay bay).cart = none ∧ ((s.get state = 4 ∨ s.get state = 5 ∨ s.get state = 6) → raised t))) ∧
    (∀ o, (s.chan channel).cur = some o → o.started + 500000 ≤ time → channel < 8 * s.bays → 4 ≤ s.bayState (channel / 8) → s.bayState (channel / 8) ≤ 7 →
      Answers (.channelUnanswered channel time) s (fun t => t.bayState (channel / 8) = 9)) ∧
    ((s.bays ≤ bay ∨ v.testBit 31 = false ∨ (s.get state ≠ 4 ∧ s.get state ≠ 5 ∧ s.get state ≠ 6)) → exec (.bayEject bay v) s = .next s) ∧
    (bay < s.bays → v.testBit 31 = true → (s.get state = 4 ∨ s.get state = 5 ∨ s.get state = 6) →
      (v.testBit 30 = false → (∃ b, b < s.bays ∧ b ≠ bay ∧ s.bayState b ≠ 4) → Answers (.bayEject bay v) s (fun t => t.geo = s.geo ∧ t.get state = s.get state)) ∧
      (v.testBit 30 = true ∨ (∀ b, b < s.bays → b ≠ bay → s.bayState b = 4) → Answers (.bayEject bay v) s (fun t => t.get state = 7 ∧ raised t))) ∧
    (bay < s.bays → s.get state = 7 → s.bayOps bay = [] → Answers (.bayReadyToPull bay time) s (fun t => t.get state = 8 ∧ Out.indicator bay ∈ t.out)) ∧
    ((s.bays ≤ bay ∨ v.testBit 29 = false ∨ s.get state ≠ 3) → exec (.bayAdmit bay v) s = .next s) ∧
    (bay < s.bays → v.testBit 29 = true → s.get state = 3 →
      (v.testBit 28 = false → (∃ k, (s.bay bay).cart = some k ∧ k.member ≠ none) → Answers (.bayAdmit bay v) s (fun t => t.geo = s.geo ∧ t.get state = 3)) ∧
      (v.testBit 28 = true ∨ (∀ k, (s.bay bay).cart = some k → k.member = none) → Answers (.bayAdmit bay v) s (fun t => t.get state = 6 ∧
        (t.bay bay).pending = [] ∧ ∀ p ∈ t.geo.stripes, bay ∈ p.2.missing))) ∧
    (bay < s.bays →
      (∀ id rest y, s.geo.rebuild = some (bay, id :: rest) → s.stripe id = some y → s.canRebuild y bay = true → Answers (.rebuildStripe bay time) s (fun t =>
        (∃ z, t.stripe id = some z ∧ bay ∉ z.missing) ∧
        (rest ≠ [] → t.geo.rebuild = some (bay, rest) ∧ t.get F.GEO_REBUILD_DONE = (s.get F.GEO_REBUILD_DONE + 1) % 2 ^ 32) ∧
        (rest = [] → t.get state = 4 ∧ raised t))) ∧
      (s.geo.rebuild = some (bay, []) → Answers (.rebuildStripe bay time) s (fun t => t.get state = 4 ∧ raised t)))

/-! ### Keator and the ports (spec/15) -/

/-- The command by which a received operation comes. -/
def received (h : KHead) (b : KBody) (time : Nat) : Instr := match b with
  | .load => .load h time
  | .store bytes => .store h bytes time
  | .put bytes => .put h bytes time
  | .fadd v => .fadd64 h v time
  | .swap v => .swap64 h v time
  | .cas c v => .cas64 h c v time

/-- Operations received from another node (R393, R395, R397, R399, R403, table "Keator operations"): a part without a node number accepts none; a malformed one is refused
INVALID_ENCODING and one that its window does not admit by the reason of the table; an admitted one to a resident page is done: its bytes are
written, and it is answered with its data or the eight bytes that stood there; one that was received before is not done again, and an atomic is answered
with what it returned first. -/
def Obligations.KeatorReceives : Prop :=
  ∀ (s : State) (h : KHead) (b : KBody) (time : Nat), s.now ≤ time →
    let i := received h b time
    let nacked : Nat → Prop := fun r => Answers i s (fun t => Out.nack h.node h.opId r ∈ t.out ∧ t.mem = s.mem ∧
      t.get F.KTR_DENIED_COUNT = Min.min (s.get F.KTR_DENIED_COUNT + 1) (2 ^ 32 - 1) ∧ t.get F.KTR_DENIED_LAST_REASON = r)
    let known := ∀ e, Sparse.find s.ktr.epochs h.node = some e → e = h.epoch
    Answers i s (ChangesOnly (mayChange i) s) ∧
    (s.get F.KTR_NODE_NODE = 0 → exec i s = .next (s.tick time).markReady) ∧
    (s.get F.KTR_NODE_NODE ≠ 0 → known → s.inFlow h.node h.tc = none → h.seq = 0 →
      let off := h.addr % 2 ^ 44
      (h.resv = true ∨ b.fits h.addr h.len = false → nacked 7) ∧
      (h.resv = false → b.fits h.addr h.len = true → off < regBase ∨ regBase + regBytes ≤ off →
        (∀ r, s.windowOf h b = .error r → nacked r) ∧
        (∀ w, s.windowOf h b = .ok w →
          let va := w.va + (off - w.offset)
          let key := pageKey w.ctx (va / pageBytes)
          let old := s.word w.ctx va 8
          s.ktr.held = [] → (s.pte key).state = .resident → (s.pte key).durable = false → va / pageBytes = (va + h.len - 1) / pageBytes → s.tailWords w.ctx = [] →
          Answers i s (fun t => (∀ n, n < (b.bytes old).length → Sparse.get 0 t.mem (s.place w.ctx (va + n)) = (b.bytes old).getD n 0) ∧ t.ktr.held = [] ∧
            ((∀ bs, b ≠ .put bs) ∨ h.last = true →
              Out.resp h.node h.opId (if b.isLoad then s.load w.ctx va h.len else if b.isAtomic then leBytes 8 old else []) ∈ t.out)))) ∧
      (h.resv = false → b.fits h.addr h.len = true → regBase ≤ off → off < regBase + regBytes → b.isLoad = false → nacked 3)) ∧
    (∀ f, s.get F.KTR_NODE_NODE ≠ 0 → s.inFlow h.node h.tc = some f →
      (f.epoch ≠ h.epoch → Answers i s (fun t => Out.nack h.node h.opId 6 ∈ t.out)) ∧
      (f.epoch = h.epoch → known → h.seq < f.got → f.got < 2 ^ 31 → Answers i s (fun t => t.mem = s.mem ∧ t.ktr.held = s.ktr.held ∧
        ∀ q v, f.atomics.find? (fun p => p.1 == h.seq) = some (q, v) → Out.resp h.node h.opId (leBytes 8 v) ∈ t.out)))

/-- The part's own operations, links and windows (R81, R188, R389, R390, R397, R400 to R402): acknowledged datagrams and operations are done with, and the window grows or
halves; a refusal reaches its issuer; a datagram that times out is sent again; an unreachable node is counted; a link is DOWN or SHED; a
synchronised window is in force when it is valid. -/
def Obligations.KeatorSends : Prop :=
  ∀ (s : State) (node tc ack rtt epoch id reason seq port v key obj time : Nat) (ce shed : Bool), s.now ≤ time →
    let u := s.tick time
    let known := fun (n : Nat) => ∀ e, Sparse.find s.ktr.epochs n = some e → e = epoch
    Answers (.ktrAck node tc ack rtt epoch ce time) s (fun t => known node → ∀ f, s.ktr.flows.find? (fun f => f.node == node && f.tc == tc) = some f →
      ∃ g ∈ t.ktr.flows, g.node = node ∧ g.tc = tc ∧ g.rtt = rtt ∧ g.dgrams = f.dgrams.filter (fun d => (seqFrom (ack + 1) d.seq).isSome) ∧
        g.window = if f.changed + rtt ≤ time then (if ce then f.window / 2 else f.window + 8192) else f.window) ∧
    (∀ o, s.ktr.ops.find? (fun o => o.id == id) = some o → Answers (.ktrResp id epoch time) s (fun t =>
      ChangesOnly (mayChange (.ktrResp id epoch time)) s t ∧ (known o.node → ∀ c ext, o.issuer = .kernel c ext → (∀ x ∈ t.ktr.ops, x.id ≠ id) ∧
        ∀ k, s.core c = some k → ∃ k', t.core c = some k' ∧ k'.ext = k.ext.filter (fun e => e.id != ext)))) ∧
    (1 ≤ reason → reason ≤ 7 →
      let p := s.pte key
      (∀ o, s.ktr.ops.find? (fun o => o.id == id) = some o → Answers (.ktrNack (.op id) reason time) s (fun t =>
        ChangesOnly (mayChange (.ktrNack (.op id) reason time)) s t ∧ ∀ c ext k, o.issuer = .kernel c ext → s.core c = some k → k.ended = none →
          (∃ e ∈ k.ext, e.id = ext) → ∃ k' x, t.core c = some k' ∧ k'.ended = some x ∧ x.status = 3 ∧ x.detail = 0x0F03)) ∧
      (p.state = .moving → p.home = .fabric → p.homeLost = false → Answers (.ktrNack (.bringUp key) reason time) s (fun t => t.pte key = { p with homeLost := true })) ∧
      let lost := fun (t : State) => t.pte key = { p with cleaning := false, redirty := 0, writing := 0, homeLost := true }
      (p.cleaning = true → p.home = .fabric → Answers (.ktrNack (.writeBack key) reason time) s lost ∧
        ∀ o, s.ktr.ops.find? (fun o => o.id == id) = some o → o.issuer = .tier key → Answers (.ktrNack (.op id) reason time) s lost) ∧
      (∀ x, s.object obj = some x → x.altPages ≠ [] → Answers (.ktrNack (.alternate obj) reason time) s (fun t =>
        ChangesOnly (mayChange (.ktrNack (.alternate obj) reason time)) s t ∧ (s.dsp.items = [] → ∃ y, t.object obj = some y ∧ y.state = .poisoned)))) ∧
    (∀ f d, s.ktr.flows.find? (fun f => f.node == node && f.tc == tc) = some f → f.dgrams.find? (fun d => d.seq == seq) = some d → d.sentAt + s.rto f d ≤ time →
      Answers (.rtoExpiry node tc seq time) s (fun t => ∃ g ∈ t.ktr.flows, g.node = node ∧ g.tc = tc ∧ ∃ e ∈ g.dgrams, e.seq = seq ∧
        e.losses = d.losses + 1 ∧ e.sentAt = u.now ∧ e.port = u.pathAfter node d.port)) ∧
    ((∃ o ∈ s.ktr.ops, o.node = node ∧ o.since + s.get F.KTR_CFG_UNREACH_MS * 100000 ≤ time) →
      Sparse.get 0 s.ktr.heard node + s.get F.KTR_CFG_UNREACH_MS * 100000 ≤ time → node ∉ s.ktr.silent → Answers (.unreachTimeout node time) s (fun t =>
        node ∈ t.ktr.silent ∧ t.get F.KTR_UNREACH_LAST_NODE = node % 2 ^ 20 ∧
        t.get F.KTR_UNREACH_EPISODES = Min.min (s.get F.KTR_UNREACH_EPISODES + 1) (2 ^ 32 - 1))) ∧
    (port < 16 → s.get (F.KTR_PORT_STAT_LINK port) = 2 → StagedSpares s [F.KTR_PORT_STAT_LINK port, F.KTR_PORT_STAT_MACSEC_UP port] → Answers (.linkDrop port shed time) s (fun t =>
      t.get (F.KTR_PORT_STAT_LINK port) = (if shed then 4 else 3) ∧ t.get (F.KTR_PORT_STAT_MACSEC_UP port) = 0)) ∧
    (v.testBit 31 = false → exec (.ktrWinSync v) s = .next s) ∧
    (∀ ws, v.testBit 31 = true →
      (v.testBit 30 = true → s.winWords (s.get F.KTR_MAP_TABLE_SIZE) (s.get F.KTR_MAP_TABLE_BASE) (v % 4096) = some ws →
        let w := parseMap ws
        Answers (.ktrWinSync v) s (fun t => Sparse.find t.ktr.map (v % 4096) = if w.valid = true ∧ nodeOf w.base ≠ s.get F.KTR_NODE_NODE then some w else none)) ∧
      (v.testBit 30 = false → s.winWords (s.get F.KTR_EXP_TABLE_SIZE) (s.get F.KTR_EXP_TABLE_BASE) (v % 4096) = some ws →
        let w := parseExp ws
        Answers (.ktrWinSync v) s (fun t => Sparse.find t.ktr.exp (v % 4096) = if w.valid = true ∧ s.badExp (v % 4096) w = false then some w else none)))

/-- The ports (R47, R404 to R413): the one frame that waits and may go is sent; a received frame that MACsec does not pass is dropped and
counted, and one beyond the peak rate is red; a gate list is pending until its switch time and taken as it then stands (log entry 80);
port time is locked and free-runs; a port's queues are sampled. -/
def Obligations.PortsAndGates : Prop :=
  ∀ (s : State) (port ns v offset path : Nat) (waiting : List Frame) (lastPn : Bool) (f : RxFrame) (queues : List (Nat × Nat)), port < 16 →
    let u := s.portTick port ns
    let sat := fun (x : RF) (t : State) => t.get x = Min.min (s.get x + 1) (2 ^ x.w - 1)
    (s.canSend port = false → s.portNow port ≤ ns → (∀ g ∈ waiting, g.bytes ≤ 9216 ∧ g.ctx ≤ svc) → exec (.frameSend port ns waiting lastPn) s = .next u) ∧
    (s.canSend port = true → s.portNow port ≤ ns → (∀ g ∈ waiting, g.bytes ≤ 9216 ∧ g.ctx ≤ svc) →
      (waiting = [] → exec (.frameSend port ns waiting lastPn) s = .next u) ∧
      (∀ g, waiting = [g] → g.tc < 8 → (g.tc = 7 ∨ g.ctx = svc ∨ s.get (F.SHP_SHAPE_RATE g.ctx) = 0) → u.gateOpen port g.tc g.bytes ns = true →
        Answers (.frameSend port ns waiting lastPn) s (fun t => t.get (F.KTR_TX_BYTES_BYTES port) = (s.get (F.KTR_TX_BYTES_BYTES port) + g.bytes) % 2 ^ 64 ∧
          Sparse.get 0 (t.port port).sent g.tc = Sparse.get 0 (s.port port).sent g.tc + g.bytes ∧ (lastPn = true → t.canSend port = false)))) ∧
    (s.portNow port ≤ ns →
      let drop := (s.on (F.KTR_PORT_CTL_MACSEC_REQ port) && !f.secured && !f.eapol) || (f.secured && !f.intact)
      Answers (.frameReceive port ns f) s (fun t => t.get (F.KTR_RX_BYTES_BYTES port) = (s.get (F.KTR_RX_BYTES_BYTES port) + f.bytes) % 2 ^ 64 ∧
        (drop = true → sat (F.KTR_LINK_ERR_MACSEC_DROP port) t ∧ t.ktr = s.ktr) ∧
        (drop = false → f.ctx = none → t.ktr = s.ktr ∧ t.get (F.KTR_LINK_ERR_MACSEC_DROP port) = s.get (F.KTR_LINK_ERR_MACSEC_DROP port)) ∧
        (∀ ctx, drop = false → f.ctx = some ctx → ctx < svc → s.on (F.SHP_POLICE_CTL_EN ctx) = true →
          (s.policeBad ctx f = true → t.ktr = s.ktr ∧ t.get F.SHP_POLICE_CNT_RED = s.get F.SHP_POLICE_CNT_RED) ∧
          (s.policeBad ctx f = false → Sparse.find (s.port port).meters ctx = none → s.get (F.SHP_POLICE_PIR_SIZE ctx) < f.ipBytes →
            sat F.SHP_POLICE_CNT_RED t)))) ∧
    (let count := v % 512
      let at_ := s.get (F.SHP_GATE_SWITCH_SWITCH_TIME port)
      let now := u.portNow port
      let cycle := cycleOf (s.gateList port)
      let waits := fun (n : Nat) (t : State) => (t.port port).gates = some n ∧ t.get (F.SHP_GATE_CTL_PENDING port) = 1
      Answers (.gateGo port v ns) s (fun t => t.get (F.SHP_GATE_CTL_COUNT port) = count ∧
        (v.testBit 31 = false ∨ 256 < count → t.ktr = s.ktr) ∧
        (v.testBit 31 = true → count ≤ 256 →
          (now < at_ → waits at_ t) ∧
          (at_ ≤ now → cycle ≠ 0 → waits (now + (cycle - cycleOffset (s.get (F.SHP_GATE_BASE_BASE_TIME port)) cycle now)) t) ∧
          (at_ ≤ now → cycle = 0 → (t.port port).gates = none ∧ t.get (F.SHP_GATE_ACTIVE_COUNT port) = count ∧
            t.get (F.SHP_GATE_BASE_BASE_TIME port) = now)))) ∧
    (∀ t₀, (s.port port).gates = some t₀ → t₀ ≤ ns → s.portNow port ≤ ns → Answers (.gateSwitch port ns) s (fun t => (t.port port).gates = none ∧
      t.get (F.SHP_GATE_CTL_PENDING port) = 0 ∧ ∀ l, s.pendingList port = some l →
        t.get (F.SHP_GATE_ACTIVE_COUNT port) = l.length ∧ t.get (F.SHP_GATE_BASE_BASE_TIME port) = t₀ % 2 ^ 64 ∧
        ∀ n e, l[n]? = some e → t.get (F.SHP_GATE_ENTRY_ACTIVE_GATES port n) = e.1 ∧ t.get (F.SHP_GATE_ENTRY_ACTIVE_INTERVAL port n) = e.2)) ∧
    (s.gateList port ≠ [] → s.portNow port ≤ ns → Answers (.gateEntryEnd port ns) s (fun t => (t.port port).entry = (u.gateAt port ns).1 ∧ t.get (F.KTR_PORT_TIME_NS port) = u.portNow port)) ∧
    (s.on (F.KTR_PTP_CTL_EN port) = true → s.on (F.KTR_PORT_STAT_PTP_LOCKED port) = false → Answers (.ptpLock port ns offset path) s (fun t =>
      t.get (F.KTR_PORT_STAT_PTP_LOCKED port) = 1 ∧ t.get (F.KTR_PORT_TIME_NS port) = ns % 2 ^ 64 ∧ t.get (F.KTR_PTP_STAT_OFFSET_NS port) = offset % 2 ^ 32 ∧
      t.get (F.KTR_PTP_STAT_PATH_NS port) = path % 2 ^ 32)) ∧
    (s.on (F.KTR_PORT_STAT_PTP_LOCKED port) = true → s.portNow port ≤ ns → Answers (.ptpMasterLost port ns) s (fun t =>
      t.get (F.KTR_PORT_STAT_PTP_LOCKED port) = 0 ∧ t.get (F.KTR_PORT_TIME_NS port) = ns % 2 ^ 64)) ∧
    (s.on F.SHP_SAMPLE_CTL_SAMPLE_EN = true → s.portNow port ≤ ns → (s.port port).sampledAt + s.get F.SHP_SAMPLE_CTL_SAMPLE_US * 1000 ≤ ns →
      Answers (.queueSample port ns queues) s (fun t => (t.port port).sampledAt = ns ∧ (t.port port).sent = [] ∧ (t.port port).maxDelay = [] ∧
        (s.get F.SHP_SAMPLE_RING_SIZE ≠ 0 → s.get F.SHP_SAMPLE_RING_SIZE ≤ 31 →
          (s.get F.SHP_SAMPLE_PTR_TAIL + 2 ^ 32 - s.get F.SHP_SAMPLE_PTR_HEAD) % 2 ^ 32 + 8 ≤ 2 ^ s.get F.SHP_SAMPLE_RING_SIZE →
          t.get F.SHP_SAMPLE_PTR_TAIL = (s.get F.SHP_SAMPLE_PTR_TAIL + 8) % 2 ^ 32)))

/-! ### Time, edge islands, errors and power (spec/02, spec/16, spec/17) -/

/-- The reference, edge islands, links and error machinery (R48, R50 to R52, R57 to R60, R389, R433, R434, R436, R437, R440, R442, R443,
R446): a lost reference moves time to the internal oscillator, and its return does not move it back; an idle island stops and a request
wakes it; both sides of a crossing are reset together; a port of a defined MODE trains up; an uncorrectable unit of a facet store is
withdrawn; a die-to-die link that fails is out of service; the scrubber goes on through its pass, and a correctable error that an ordinary
access meets is counted. -/
def Obligations.EdgesAndErrors : Prop :=
  ∀ (s : State) (i idle latency v port facet unit link retries found src stack time : Nat) (inFlight : List Nat) (retrains failed hbm : Bool) (m : Sample), s.now ≤ time →
    let u := s.tick time
    let clock := fun (run st : Nat) (t : State) => t.get (F.EDG_ISL_STAT_CLK_RUN i) = run ∧ t.get (F.EDG_ISL_STAT_STATE i) = st
    let sat := fun (f : RF) (n : Nat) (t : State) => t.get f = Min.min (s.get f + n) (2 ^ f.w - 1)
    (s.on F.EDG_REF_STAT_REF_OK = true → Answers (.refOscFault time) s (fun t => t.get F.EDG_REF_STAT_REF_OK = 0 ∧ t.get F.EDG_REF_STAT_ON_FALLBACK = 1 ∧
      sat F.EDG_REF_STAT_LOST_COUNT 1 t)) ∧
    (s.on F.EDG_REF_STAT_REF_OK = false → Answers (.refOscReturn time) s (fun t => t.get F.EDG_REF_STAT_REF_OK = 1 ∧
      t.get F.EDG_REF_STAT_ON_FALLBACK = s.get F.EDG_REF_STAT_ON_FALLBACK)) ∧
    (s.islandHere i = true → s.now ≤ time →
      StagedSpares s [F.EDG_ISL_STAT_CLK_RUN i, F.EDG_ISL_STAT_STATE i, F.EDG_ISL_STAT_IN_RESET i, F.KTR_PORT_STAT_LINK (i - 16)] →
      (stoppable i = true → s.on (F.EDG_ISL_CTL_STOP_EN i) = true → s.get (F.EDG_ISL_CTL_IDLE_TIME i) ≠ 0 → s.get (F.EDG_ISL_CTL_IDLE_TIME i) ≤ idle →
        s.get (F.EDG_ISL_STAT_STATE i) = 0 → s.on (F.EDG_ISL_STAT_IN_RESET i) = false → (32 ≤ i → i < 96 → s.islandIdle i = true) → Answers (.islandClockStop i idle time) s (fun t => clock 0 2 t ∧
          (i < 16 → s.get (F.HBM_STAT_STATE i) = 2 → t.get (F.HBM_STAT_STATE i) = 3))) ∧
      (s.get (F.EDG_ISL_STAT_STATE i) ≠ 0 → Answers (.islandWake i latency time) s (fun t => clock 1 0 t ∧ sat (F.EDG_ISL_STAT_WAKE_COUNT i) 1 t ∧
        t.get (F.EDG_ISL_STAT_WAKE_MAX i) = Max.max (s.get (F.EDG_ISL_STAT_WAKE_MAX i)) (Min.min latency 4095) % 4096 ∧
        (i < 16 → s.get (F.HBM_STAT_STATE i) = 3 → t.get (F.HBM_STAT_STATE i) = 2))) ∧
      (v % 2 = 1 → 96 ≤ i → i < 99 → (∃ f ∈ (farDies (i - 96)).flatMap s.dieFacets, s.drained f = false) → Answers (.islandReset i v inFlight time) s (fun t =>
        t.get (F.EDG_ISL_STAT_IN_RESET i) = s.get (F.EDG_ISL_STAT_IN_RESET i) ∧ t.cores = s.cores)) ∧
      (v % 2 = 1 → (96 ≤ i → i < 99 → ∀ f ∈ (farDies (i - 96)).flatMap s.dieFacets, s.drained f = true) → Answers (.islandReset i v inFlight time) s (fun t =>
        t.get (F.EDG_ISL_STAT_IN_RESET i) = 1 ∧ (inFlight = [] → t.cores = s.cores) ∧ (16 ≤ i → i < 32 → t.get (F.KTR_PORT_STAT_LINK (i - 16)) = 3) ∧
        (32 ≤ i → i < 96 → (∀ o ∈ (s.chan (i - 32)).ops, o.kind ≠ 2) → t.get (F.GEO_CH_STAT_STATE (i - 32)) = 0))) ∧
      (s.on (F.EDG_ISL_STAT_IN_RESET i) = true → Answers (.islandResetExit i time) s (fun t => clock 1 0 t ∧ t.get (F.EDG_ISL_STAT_IN_RESET i) = 0 ∧
        (16 ≤ i → i < 32 → s.get (F.KTR_PORT_STAT_LINK (i - 16)) = 3 → t.get (F.KTR_PORT_STAT_LINK (i - 16)) = 1)))) ∧
    ((s.islandHere i = false ∨ v % 2 = 0) → exec (.islandReset i v inFlight time) s = .next s) ∧
    (port < 16 → s.on (F.KTR_PORT_CTL_EN port) = true → (s.get (F.KTR_PORT_STAT_LINK port) = 1 ∨ s.get (F.KTR_PORT_STAT_LINK port) = 3) →
      Answers (.linkUp port time) s (fun t => t.get (F.KTR_PORT_STAT_LINK port) = if s.modeOk port then 2 else s.get (F.KTR_PORT_STAT_LINK port))) ∧
    (facet < s.cores_ / 4 → unit < 512 →
      let e := Instr.facetStoreUe facet unit time
      Answers e s (fun t => ChangesOnly (mayChange e) s t ∧ facet * 512 + unit ∈ t.ras.units ∧ sat (F.RAS_COUNT_UE 1) 1 t ∧
        ((∀ p ∈ s.cores, coversUnit facet unit p = false) → t.cores = s.cores))) ∧
    (s.linkHere link = true → s.get (F.RAS_D2D_STATE link) = 0 →
      Answers (.d2dRetrain link retries retrains failed time) s (fun t => sat (F.RAS_D2D_RETRIES link) retries t ∧ sat (F.RAS_D2D_RETRAINS link) (if retrains then 1 else 0) t ∧
        (retrains = true → failed = true → Sparse.get [] t.ras.d2d link = (u.now :: Sparse.get [] s.ras.d2d link).take 3)) ∧
      (3 ≤ (Sparse.get [] s.ras.d2d link).length → (∀ t ∈ Sparse.get [] s.ras.d2d link, time ≤ t + 100000000) →
        Answers (.d2dLinkFail link time) s (fun t => t.get (F.RAS_D2D_STATE link) = 2))) ∧
    (src < 5 → src ≠ 3 → stack < 16 → (src = 4 → stack < s.stacks) →
      Answers (.scrubRead (.demand src stack) time) s (fun t => sat (F.RAS_COUNT_CE src) 1 t ∧ (src = 4 → sat (F.HBM_CE_COUNT stack) 1 t))) ∧
    (s.on F.RAS_CTL_SCRUB_EN = true →
      (s.on F.RAS_SCRUB_STAT_PAUSED = false →
        (let e := Instr.scrubRead (.hbm found) time
         Answers e s (fun t => ChangesOnly (mayChange e) s t ∧ t.ras.scrubLine = (if s.ras.scrubLine + 1 < s.hbmLines then s.ras.scrubLine + 1 else 0) ∧
            (found = 1 → s.ras.scrubLine < 16 * 2 ^ 30 → sat (F.HBM_CE_COUNT (s.ras.scrubLine / 2 ^ 30)) 1 t ∧ sat (F.RAS_COUNT_CE 4) 1 t))) ∧
        (found < 2 → Answers (.scrubRead (.sram found m) time) s (fun t => t.ras.scrubWord = (if s.ras.scrubWord + 1 < s.sramWords then s.ras.scrubWord + 1 else 0) ∧
          (found = 1 → sat (F.RAS_COUNT_CE (if s.ras.scrubWord < s.cores_ * coreWords then 0 else 1)) 1 t)))) ∧
      ((if hbm then s.ras.hbmLate else s.ras.storeLate) = false → (if hbm then s.ras.scrubAt + s.get F.RAS_SCRUB_HBM_HOURS * hourUnits
          else s.ras.storeAt + s.get F.RAS_SCRUB_STORE_S * 100000000) < time →
        Answers (.scrubPeriodEnd hbm time) s (fun t => t.ras = if hbm then { s.ras with hbmLate := true } else { s.ras with storeLate := true }))) ∧
    (let source := v / 2 ^ 59 % 8
      let unit := v / 2 ^ 53 % 64
      (v.testBit 63 = false ∨ 4 < source → Answers (.rasInjectWrite v m time) s (fun t => t.get F.RAS_INJECT_ARM = 0 ∧ t.get F.RAS_INJECT_INJECTED = s.get F.RAS_INJECT_INJECTED)) ∧
      (v.testBit 63 = true → source ≤ 4 → s.injectHere source unit = false → Answers (.rasInjectWrite v m time) s (fun t => t.get F.RAS_INJECT_ARM = 1)) ∧
      (v.testBit 63 = true → source ≤ 4 → s.injectHere source unit = true → v.testBit 62 = false → source ≠ 3 → Answers (.rasInjectWrite v m time) s (fun t =>
        t.get F.RAS_INJECT_ARM = 0 ∧ sat F.RAS_INJECT_INJECTED 1 t ∧ sat (F.RAS_COUNT_CE source) 1 t))) ∧
    Answers (.rasRetireClr v) s (fun t => (v.testBit 31 = false → t = s) ∧ (v.testBit 31 = true → (if v.testBit 30 then 64 + (v / 2 ^ 18 % 8) * 512 + v / 2 ^ 9 % 512
      else v % 32) ∈ t.ras.clear ∧ ∀ n ∈ s.ras.clear, n ∈ t.ras.clear))

/-- The power supervisor (R415 to R418, R420, R421, R423 to R431): TARGET, ramps and surge; the input's limits; the throttle; the thermal steps; and the steps of
shedding, each entered and left at its level; a part that loses power runs nothing, and its recorder keeps what was mirrored. -/
def Obligations.PowerSupervisor : Prop :=
  ∀ (s : State) (v reason psm step time : Nat) (m : Meas) (boot : Boot), s.now ≤ time →
    let p := s.power time m
    let shed := s.get F.PWR_STAT_SHED
    let inc := fun (f : RF) (t : State) => t.get f = Min.min (s.get f + 1) (2 ^ f.w - 1)
    let goal : Nat → State → Prop := fun n t => t.pwr.goal = n ∧ t.get F.PWR_STAT_RAMPING = if s.get F.PWR_STAT_POINT = n then 0 else 1
    let base := fun (target : Nat) => if 2 ≤ s.pwr.heat ∨ target = 0 then 0 else 1
    let leaves := fun (why target : Nat) (t : State) => goal (base target) t ∧ t.get F.PWR_STAT_EXIT_REASON = why % 8 ∧ inc F.PWR_EVENTS_SURGE_EXITS t
    Answers (.targetWrite v time) s (fun t =>
      ((v % 4 = 3 ∨ (v % 4 = 2 ∧ s.hasSurge = false)) → t.get F.PWR_CTL_TARGET = s.get F.PWR_CTL_TARGET ∧ t.pwr.goal = s.pwr.goal) ∧
      (v % 4 < 2 ∨ (v % 4 = 2 ∧ s.hasSurge = true) → t.get F.PWR_CTL_TARGET = v % 4) ∧
      (v % 4 < 2 → (s.surging = false → goal (base (v % 4)) t) ∧ (s.surging = true → leaves 6 (v % 4) t)) ∧
      (v % 4 = 2 → s.hasSurge = true → s.surging = true → t.pwr.goal = 2)) ∧
    (s.on F.PWR_STAT_RAMPING = true → Answers (.rampDone time) s (fun t => t.get F.PWR_STAT_POINT = s.pwr.goal % 4 ∧ t.get F.PWR_STAT_RAMPING = 0)) ∧
    (s.surging = false → p.maySurge (hottest m) m.iin = true → Answers (.surgeEnter m time) s (goal 2)) ∧
    (s.surging = true → p.surgeEnds reason (hottest m) m.iin = true → Answers (.surgeLeave reason m time) s (leaves reason (s.get F.PWR_CTL_TARGET))) ∧
    (44000 < m.vin → Answers (.inputOver44V m time) s (fun t => t.pwr.high = true ∧ t.get F.PWR_INPUT_VIN_MV = m.vin % 2 ^ 16 ∧ t.cores = s.cores ∧ t.dsp = s.dsp)) ∧
    (48000 < m.vin → Answers (.inputOver48V m time) s (fun t => t.pwr.off = true ∧ t.cores = [] ∧ t.dsp.reqs = [] ∧ t.rec_.store = t.rec_.mirror)) ∧
    (m.vin < 18000 → s.pwr.off = false → Answers (.inputBelow18V m time) s (fun t => t.pwr.off = true ∧ t.cores = [] ∧ t.dsp.reqs = [] ∧
      t.rec_.store = s.rec_.mirror ∧ t.rec_.mirror = s.rec_.mirror)) ∧
    (psm < 4 → (s.get F.PWR_STAT_PSM_OK).testBit psm = true → Answers (.psmFault psm m time) s (fun t => (t.get F.PWR_STAT_PSM_OK).testBit psm = false ∧
      t.surging = false ∧ (s.surging = true → leaves 5 (s.get F.PWR_CTL_TARGET) t))) ∧
    (s.currentLimit ≤ m.iin →
      (s.pwr.limited = true → exec (.inputCurrentHigh m time) s = .next p) ∧
      (s.pwr.limited = false → Answers (.inputCurrentHigh m time) s (fun t => t.pwr.limited = true ∧ t.pwr.limitDuty = 1 ∧ inc F.PWR_EVENTS_CURRENT_LIMITS t ∧
        (s.pwr.heatDuty ≤ 6 → t.get F.PWR_STAT_DUTY = Max.max 1 s.pwr.heatDuty)))) ∧
    (s.pwr.limited = true → s.pwr.heat < 3 → s.currentLimit ≤ m.iin → s.pwr.dutyAt + 5000 ≤ time → s.pwr.limitDuty < 6 →
      Answers (.dutyStep m time) s (fun t => t.pwr.limitDuty = s.pwr.limitDuty + 1 ∧ t.pwr.limited = true)) ∧
    (s.pwr.limited = true → s.pwr.heat < 3 → m.iin < s.currentBack → s.pwr.dutyAt + 100000 ≤ time →
      Answers (.dutyStep m time) s (fun t => t.pwr.limitDuty = s.pwr.limitDuty - 1 ∧ (t.pwr.limited = true ↔ 1 < s.pwr.limitDuty))) ∧
    (100 ≤ hottest m → s.pwr.heat = 0 → Answers (.tjHot m time) s (fun t => t.pwr.heat = 1 ∧ inc F.PWR_EVENTS_THERMAL t ∧ t.surging = false)) ∧
    (0 < s.pwr.heat → s.pwr.heatAt + 1000000 ≤ time →
      (100 ≤ hottest m → s.pwr.heat < 3 → Answers (.thermalStep m time) s (fun t => t.pwr.heat = s.pwr.heat + 1 ∧ (s.pwr.heat = 1 → goal 0 t) ∧
        (s.pwr.heat = 2 → t.pwr.heatDuty = 1))) ∧
      (hottest m < 97 → Answers (.thermalStep m time) s (fun t => t.pwr.heat = s.pwr.heat - 1 ∧ (s.pwr.heat = 3 → t.pwr.heatDuty = 0)))) ∧
    (105 ≤ hottest m → s.pwr.tripped = false → shed < 7 → Answers (.tjTrip m time) s (fun t => t.pwr.tripped = true ∧ t.get F.PWR_STAT_SHED = 6 ∧
      (shed ≠ 6 → t.pwr.flushing = true))) ∧
    (step = shed + 1 → step < 8 → m.vin < enterBelow step → Answers (.shedStepEnter step m time) s (fun t => t.get F.PWR_STAT_SHED = step ∧ inc F.PWR_EVENTS_SHEDS t ∧
      (step = 2 → t.on F.MEM_CTL_PREFETCH_EN = false ∧ t.on F.IDX_CTL_FOLD_EN = false ∧ t.on F.FTB_CTL_MIG_EN = false ∧ t.on F.GEO_CTL_PATROL_EN = false ∧
        t.get F.RAS_SCRUB_STAT_PAUSED = 1) ∧
      (step = 3 → t.on F.DSP_CTL_ADMIT_EN = false) ∧ (step = 5 → ∀ n, 8 ≤ n → n < 16 → StagedSpares s [F.KTR_PORT_STAT_LINK n] → t.get (F.KTR_PORT_STAT_LINK n) = 4) ∧ (step = 6 → t.pwr.flushing = true) ∧
      (step = 7 → t.cores = [] ∧ t.dsp.reqs = []))) ∧
    (step = shed → 0 < step → exitAbove step < m.vin → s.pwr.tripped = false → s.pwr.off = false →
      let i := Instr.shedStepLeave step m boot time
      Answers i s (fun t => ChangesOnly (mayChange i) s t ∧ (step < 7 → t.get F.PWR_STAT_SHED = step - 1 ∧
        (step = 2 → t.get F.RAS_SCRUB_STAT_PAUSED = 0 ∧ ∀ f ∈ shedFields 2, f.id ∈ s.pwr.cleared → t.get f = 1) ∧
        (step = 3 → F.DSP_CTL_ADMIT_EN.id ∈ s.pwr.cleared → t.get F.DSP_CTL_ADMIT_EN = 1)))) ∧
    (shed = 6 → s.pwr.flushing = true → Answers (.flushComplete time) s (fun t => t.get F.PWR_STAT_SHED = 7 ∧ t.pwr.flushing = false ∧ t.tier.gathered = [] ∧
      t.tier.stripes = [] ∧ t.cores = [] ∧ t.rec_.savedSeconds = (s.tick time).get F.EVR_TIME_OP_SECONDS))

/-! ### Onyx, start-up, management, the recorder and register writes (spec/00, spec/18, spec/19) -/

/-- Onyx (R413, R447 to R457, R459 to R462): each command of its ring ends with the status and the detail that its rules give, and leaves the key slots, the
measurements, the officers, the floor and the revoked roots as they say; zeroisation empties every slot and raises EPOCH. Signatures and
unwrapping are operands (log entry 7). -/
def Obligations.OnyxCommands : Prop :=
  ∀ (s : State) (o : OnxOp) (unwrapped : Option Nat) (env : Option Envelope) (index root cause port time : Nat) (key : List Byte) (boot : Boot),
    let ends : Nat → Nat → State → Prop := fun status detail t => Out.opDone 21 o.opId o.completion status detail 0 0 ∈ t.out
    let sat := fun (f : RF) (t : State) => t.get f = Min.min (s.get f + 1) (2 ^ f.w - 1)
    let slotIs := fun (x : Nat) (t : State) => t.slotState x
    let filled := fun (kcv : Nat) (generated : Bool) (t : State) => ends 0 0 t ∧ slotIs o.slot t = 1 ∧ t.get (F.ONX_SLOT_STAT_GENERATED o.slot) = b2n generated ∧
      t.get (F.ONX_SLOT_KCV_KCV o.slot) = kcv % 2 ^ 64
    let gone := s.get F.ONX_STAT_ROOTS_REVOKED
    let epoch := s.get F.ONX_STAT_EPOCH
    let zero := fun (why : Nat) (t : State) => t.onx.officers = [] ∧ t.onx.saks = [] ∧ t.cores = [] ∧ t.dsp.reqs = [] ∧ t.get F.ONX_STAT_OFFICERS = 0 ∧
      t.get F.ONX_TAMPER_CAUSE = why ∧ (∀ x, x < 1104 → slotIs x t = 0) ∧ (epoch = 15 → t.get F.ONX_STAT_STATE = 4 ∧ t.get F.PWR_STAT_SHED = 7) ∧
      (epoch < 15 → t.get F.ONX_STAT_EPOCH = epoch + 1)
    let refused := fun (t : State) => ends 3 0x1201 t ∧ sat F.ONX_EVENTS_AUTH_FAIL t
    (s.get F.ONX_STAT_STATE = 1 → s.op 21 o.opId = none → o.resv = false →
      (1024 ≤ o.slot → Answers (.report o) s (ends 0x0B 0)) ∧
      (o.slot < 1024 → Answers (.report o) s (fun t => ends 0 0 t ∧ t.mem = (s.store svc (o.arg + 32) (s.reportOf o.slot (s.load svc o.arg 32))).mem)) ∧
      (o.slot < 1024 →
        (∀ detail, s.importStops o unwrapped = some detail → Answers (.keyImport o unwrapped env) s (fun t => ends 3 detail t ∧ sat F.ONX_EVENTS_IMPORT_FAIL t ∧
          slotIs o.slot t = slotIs o.slot s)) ∧
        (s.importStops o unwrapped = none → Answers (.keyImport o unwrapped env) s (filled (unwrapped.getD 0) false)) ∧
        (slotIs o.slot s ≠ 0 → Answers (.keyGenerate o env) s (fun t => ends 3 0x1202 t ∧ slotIs o.slot t = slotIs o.slot s)) ∧
        (slotIs o.slot s = 0 → Answers (.keyGenerate o env) s (fun t => filled (Config.keyCheckValue s.free).toNat true t ∧ t.free = s.free + 1)) ∧
        (s.tenantBusy o.slot = true → Answers (.keyDestroy o env) s (fun t => ends 3 0x1202 t ∧ slotIs o.slot t = slotIs o.slot s)) ∧
        (s.tenantBusy o.slot = false → Answers (.keyDestroy o env) s (fun t => ends 0 0 t ∧ slotIs o.slot t = 0 ∧ t.get (F.ONX_SLOT_KCV_KCV o.slot) = 0))) ∧
      (o.reg % 8 < 2 → Answers (.extend o) s (fun t => ends 3 0x1206 t ∧ ∀ i, t.measured_ i = s.measured_ i)) ∧
      (2 ≤ o.reg % 8 → Answers (.extend o) s (fun t => ends 0 0 t ∧ (∀ n, n < 4 → t.get (F.ONX_MEAS_VALUE (o.reg % 8) n) =
          leNat (((sha256 (s.measured_ (o.reg % 8) ++ s.load svc o.arg 32)).drop (8 * n)).take 8)) ∧
        ∀ i, i < 8 → i ≠ o.reg % 8 → t.measured_ i = s.measured_ i)) ∧
      Answers (.kemRotate o) s (fun t => ends 0 0 t ∧ t.onx.kemGen = s.onx.kemGen + 1) ∧
      (s.onx.officers = [] → index < 4 → key.length = 48 → Answers (.officerEnroll o index key env) s (fun t => ends 0 0 t ∧ t.onx.officers = [(index, key, 0)] ∧
        t.get F.ONX_STAT_OFFICERS = 1)) ∧
      (s.officer env = none →
        Answers (.rollbackCommit o env) s refused ∧ Answers (.rootRevoke o root env) s refused ∧ Answers (.zeroise o env boot) s refused ∧
        Answers (.debugUnlock o env boot) s refused ∧ (s.onx.officers ≠ [] → Answers (.officerEnroll o index key env) s refused) ∧
        (1024 ≤ o.slot → o.slot < 1088 → Answers (.keyGenerate o env) s refused ∧ Answers (.keyDestroy o env) s refused) ∧
        (1024 ≤ o.slot → o.slot < 1104 → Answers (.keyImport o unwrapped env) s refused)) ∧
      (s.officer env ≠ none →
        (s.onx.runSvn ≤ s.get F.ONX_STAT_SVN_FLOOR → Answers (.rollbackCommit o env) s (ends 3 0x1205)) ∧
        (s.get F.ONX_STAT_SVN_FLOOR < s.onx.runSvn → Answers (.rollbackCommit o env) s (fun t => ends 0 0 t ∧ t.get F.ONX_STAT_SVN_FLOOR = s.onx.runSvn % 64)) ∧
        (4 ≤ index ∨ key.length ≠ 48 → s.onx.officers ≠ [] → Answers (.officerEnroll o index key env) s (ends 0x0B 0)) ∧
        (root < 4 → (s.onx.running = true ∧ root = s.onx.runRoot) ∨ (gone ||| 2 ^ root = 15 ∧ gone.testBit root = false) →
          Answers (.rootRevoke o root env) s (fun t => ends 3 0x1207 t ∧ t.get F.ONX_STAT_ROOTS_REVOKED = gone)) ∧
        (root < 4 → ¬(s.onx.running = true ∧ root = s.onx.runRoot) → ¬(gone ||| 2 ^ root = 15 ∧ gone.testBit root = false) →
          Answers (.rootRevoke o root env) s (fun t => ends 0 0 t ∧ (t.get F.ONX_STAT_ROOTS_REVOKED).testBit root = true)) ∧
        Answers (.zeroise o env boot) s (zero 1) ∧ Answers (.debugUnlock o env boot) s (fun t => zero 2 t ∧ t.get F.ONX_STAT_DEBUG = 1))) ∧
    (3 ≤ cause → cause ≤ 6 → s.pwr.off = false → s.now ≤ time → Answers (.tamperTrigger cause boot time) s (zero cause)) ∧
    (port < 16 → s.slotState (1088 + port) = 1 → s.get F.ONX_STAT_STATE = 1 → Answers (.sakRotate port) s (fun t =>
      t.get (F.KTR_PORT_STAT_MACSEC_UP port) = 1 ∧ (t.port port).exhausted = false ∧ port ∈ t.onx.saks))

/-- Start-up, restart and management (R10, R425, R448, R451, R452, R462, R465 to R471, R475): a start stops at step 2 or 3 as its rules say, or ends with STAGE 10 and
the image that boots; a power-on reset is counted, a warm restart is not; READY is written once; a service request completes once; the boot
NOR is erased and programmed only where Bezel may; the sensors and the event log answer (log entries 31, 36 and 37). -/
def Obligations.StartAndManagement : Prop :=
  ∀ (s : State) (cause v time : Nat) (boot : Boot) (r : NorOp) (data : List Byte),
    let boots := fun (t : State) => t.cores = [] ∧ t.dsp.reqs = [] ∧ t.get F.PART_STAT_READY = 0 ∧
      (s.bootImage boot = none → t.get F.PART_STAT_STAGE = 3 ∧ t.get F.ONX_STAT_STATE = 2 ∧ t.onx.running = false) ∧
      (∀ x second, s.bootImage boot = some (x, second) → t.get F.PART_STAT_STAGE = 10 ∧ t.get F.ONX_STAT_STATE = 1 ∧ t.get F.ONX_STAT_IMAGE_B = b2n second ∧
        t.onx.running = true ∧ t.onx.runSvn = x.svn ∧ t.onx.runRoot = x.root)
    let starts := fun (t : State) => t.get F.EVR_CYCLES_POWER_CYCLES = (s.get F.EVR_CYCLES_POWER_CYCLES + 1) % 2 ^ 32 ∧
      t.get F.EVR_TIME_OP_SECONDS = s.rec_.savedSeconds % 2 ^ 40 ∧ t.pwr.off = false ∧
      (boot.onyx = false → t.get F.PART_STAT_STAGE = 2 ∧ t.get F.ONX_STAT_STATE = 3 ∧ t.cores = []) ∧ (boot.onyx = true → boots t ∧ t.onx.kemGen = s.onx.kemGen + 1)
    let h := s.get F.PART_SVC_DONE_H_REQ_HANDLE
    let a := r.addr % 2 ^ 28
    let n := NorOp.bytes r
    let nor := fun (result : Nat) (t : State) => t.get F.MGT_NOR_CTL_RESULT = result ∧ t.get F.MGT_NOR_CTL_BUSY = 0
    let kept := fun (result : Nat) (t : State) => nor result t ∧ t.mgt = s.mgt
    let shown := s.recordFrom (s.get (F.EVR_CURSOR_SEQ 1))
    (s.pwr.off = true ∨ s.get F.PART_STAT_STAGE = 1 → Answers (.powerOnReset boot) s starts) ∧
    Answers (.pldmColdRestart boot) s starts ∧
    (s.now ≤ time →
      (v % 2 = 0 → exec (.warmRestart 0 v boot time) s = .next s) ∧
      (cause ≠ 0 ∨ v % 2 = 1 →
        (s.pwr.tripped = true ∨ s.get F.ONX_STAT_STATE = 3 ∨ s.get F.ONX_STAT_STATE = 4 → exec (.warmRestart cause v boot time) s = .next (s.account_ time)) ∧
        (s.pwr.tripped = false → s.get F.ONX_STAT_STATE ≠ 3 → s.get F.ONX_STAT_STATE ≠ 4 → Answers (.warmRestart cause v boot time) s (fun t => boots t ∧
          t.get F.EVR_CYCLES_POWER_CYCLES = s.get F.EVR_CYCLES_POWER_CYCLES ∧ t.onx.kemGen = s.onx.kemGen + 1)))) ∧
    (s.locks.contains F.PART_STAT_READY.id = true → Answers (.readyWrite v) s (fun t => t.get F.PART_STAT_READY = s.get F.PART_STAT_READY ∧ t.locks = s.locks)) ∧
    (s.locks.contains F.PART_STAT_READY.id = false → Answers (.readyWrite v) s (fun t => t.locks = F.PART_STAT_READY.id :: s.locks ∧
      t.get F.PART_STAT_READY = (if v % 2 = 1 then 1 else s.get F.PART_STAT_READY) ∧ (v % 2 = 1 → t.get F.PART_STAT_STAGE = 10))) ∧
    (v.testBit 31 = false ∨ s.dsp.svcOpen.contains h = false → exec (.partSvcDone v) s = .next s) ∧
    (v.testBit 31 = true → s.dsp.svcOpen.contains h = true → Answers (.partSvcDone v) s (fun t => h ∉ t.dsp.svcOpen ∧ (∀ x ∈ s.dsp.svcOpen, x ≠ h → x ∈ t.dsp.svcOpen) ∧
      ∀ q, s.req h = some q → q.handle = h → q.ended = false → Completed t h (v / 2 ^ 16 % 256) (v % 2 ^ 16))) ∧
    (a % 65536 ≠ 0 ∨ n % 65536 ≠ 0 → Answers (.norErase r) s (kept 2)) ∧
    (data.length = n ∨ (a % 65536 = 0 ∧ n % 65536 = 0) →
      let i := if data.length = n then Instr.norProgram r data else Instr.norErase r
      (s.norAllows a n r.other = false → Answers i s (kept 2)) ∧ (s.norAllows a n r.other = true → r.broken = true → Answers i s (kept 3))) ∧
    (s.norAllows a n r.other = true → r.broken = false →
      (a % 65536 = 0 → n % 65536 = 0 → Answers (.norErase r) s (fun t => nor 1 t ∧ t.mgt.nor = Sparse.splice s.mgt.nor a n [])) ∧
      (data.length = n → Answers (.norProgram r data) s (fun t => nor 1 t ∧ t.mgt.nor = Sparse.write 0xFF s.mgt.nor a data))) ∧
    (r.broken = true → Answers (.norRead r) s (kept 3)) ∧
    (r.broken = false → Answers (.norRead r) s (fun t => nor 1 t ∧ t.mgt.nor = s.mgt.nor ∧ t.mgt.bezel = Sparse.write 0 s.mgt.bezel (r.buf % 2 ^ 40) (s.norBytes a n))) ∧
    (s.pwr.off = false →
      (s.mgt.sensedAt + 10000000 ≤ time → s.now ≤ time → Answers (.pldmSensorUpdate time) s (fun t => t.mgt.sensors = (s.tick time).sensors ∧ t.mgt.sensedAt = t.now)) ∧
      (shown = none → Answers .pldmReadEventLog s (fun t => t.out = s.out ++ [.eventLog (List.replicate 64 0)] ∧
        t.get (F.EVR_CURSOR_SEQ 1) = s.get (F.EVR_CURSOR_SEQ 1))) ∧
      (∀ x, shown = some x → Answers .pldmReadEventLog s (fun t => t.out = s.out ++ [.eventLog x.bytes] ∧ t.get (F.EVR_CURSOR_SEQ 1) = (x.seq + 1) % 2 ^ 64)))

/-- The event recorder (R472 to R478): a release marks every record at or below a SEQ and loses none; a read of word 0 latches the record at the cursor and
a read of word 7 moves the cursor past it; FREEZE holds records back, and clearing it, or 10 s, lets them into the store in their order; a
batch reaches the mirror; and the operating seconds are saved. -/
def Obligations.EventRecorder : Prop :=
  ∀ (s : State) (seq w n v time : Nat),
    let x := s.rec_
    let cursor := F.EVR_CURSOR_SEQ w
    let word := fun (r : Option EvRec) (k : Nat) => match r with
      | some r => leNat ((r.bytes.drop (8 * k)).take 8)
      | none => 0
    let batch := (x.store.filter (fun r => !r.mirrored)).take 64
    let thawed := fun (more : Nat) (t : State) => t.get F.EVR_CTL_FREEZE = 0 ∧ t.rec_.hold = [] ∧
      (x.store.length + x.hold.length + more ≤ storeSlots → t.rec_.store.take x.store.length = x.store)
    Answers (.evrRelease seq) s (fun t => t.regs = s.regs ∧
      t.rec_ = { x with store := x.store.map (fun r => if r.seq ≤ seq % 2 ^ 64 then { r with released := true } else r) }) ∧
    (2 ≤ w ∨ 8 ≤ n → exec (.evrRecRead w n) s = .next s) ∧
    (w < 2 → Answers (.evrRecRead w 0) s (fun t => t.rec_.latch w = s.recordFrom (s.get cursor) ∧ t.get cursor = s.get cursor ∧ t.rec_.store = x.store ∧
      ∀ k, k < 8 → t.get (F.EVR_REC_WORD w k) = word (s.recordFrom (s.get cursor)) k)) ∧
    (w < 2 → 0 < n → n < 7 → exec (.evrRecRead w n) s = .next s) ∧
    (w < 2 → (x.latch w = none → exec (.evrRecRead w 7) s = .next s) ∧
      (∀ r, x.latch w = some r → Answers (.evrRecRead w 7) s (fun t => t.get cursor = (r.seq + 1) % 2 ^ 64 ∧ t.rec_ = x))) ∧
    (s.now ≤ time →
      (v % 2 = 1 → Answers (.evrFreezeWrite v time) s (fun t => t.get F.EVR_CTL_FREEZE = 1 ∧ t.rec_.store = x.store ∧ t.rec_.hold = x.hold)) ∧
      (v % 2 = 0 → Answers (.evrFreezeWrite v time) s (fun t => thawed 0 t ∧ (x.store.length + x.hold.length ≤ storeSlots →
        t.rec_.store.length = x.store.length + x.hold.length ∧ t.get F.EVR_SEQ_NEXT = (s.get F.EVR_SEQ_NEXT + x.hold.length) % 2 ^ 64))) ∧
      (s.on F.EVR_CTL_FREEZE = true → x.frozenAt + 1000000000 ≤ time → Answers (.freezeTimeout time) s (fun t => thawed 1 t ∧
        (x.store.length + x.hold.length < storeSlots → ∃ r, t.rec_.store.getLast? = some r ∧ r.code = evEvrFreezeTimeout ∧ r.sev = .warning))) ∧
      (batch ≠ [] → Answers (.evrMirror time) s (fun t => (∀ r ∈ t.rec_.store, batch.any (fun b => b.seq == r.seq) = true → r.mirrored = true) ∧
        t.rec_.store.map (fun r => r.seq) = x.store.map (fun r => r.seq) ∧
        (x.mirror.length + batch.length ≤ storeSlots → t.rec_.mirror = x.mirror ++ batch.map (fun r => { r with mirrored := true })))) ∧
      (x.savedSeconds + 60 ≤ (s.tick time).get F.EVR_TIME_OP_SECONDS → Answers (.opSecondsSave time) s (fun t =>
        t.rec_ = { x with savedSeconds := t.get F.EVR_TIME_OP_SECONDS } ∧ t.get F.EVR_TIME_OP_SECONDS = (s.tick time).get F.EVR_TIME_OP_SECONDS)))

/-- The register that a privileged write reaches: it is in its block's tables, its unit is present and its selector names an instance. -/
def Reaches (s : State) (w : RegWrite) (a : RegAt) : Prop :=
  w.tenant = false ∧ ∃ r inst, regAt w.block w.offset w.width 0 (blockRegs w.block) = some r ∧ s.unitHere w.block r.i r.desc = true ∧
    s.selected r.desc.sel = some inst ∧ regAt w.block w.offset w.width inst (blockRegs w.block) = some a

/-- Writes of the register space (R4, R8 to R16, R463, R479): none without a register, a unit or a selected instance, and none by tenant software,
changes a register outside the recorder; a read-only field takes no write; a live field takes the bits of its place; a field that locks
takes the first write; a locked register of a busy block takes none; a field staged for the accounting period waits (log entry 38). -/
def Obligations.RegisterWrites : Prop :=
  ∀ (s : State) (w : RegWrite),
    let kept := fun (t : State) => ∀ f : RF, blockOf f.id ≠ 23 → t.get f = s.get f
    let taken := fun (fd : FieldDesc) => w.value % 2 ^ w.width / 2 ^ fd.lo % 2 ^ (fd.hi + 1 - fd.lo)
    (regAt w.block w.offset w.width 0 (blockRegs w.block) = none → exec (.regWrite w) s = .next (s.badAccess w.block w.offset)) ∧
    (∀ r, regAt w.block w.offset w.width 0 (blockRegs w.block) = some r →
      (w.tenant = true → Answers (.regWrite w) s (fun t => kept t ∧ (r.desc.tenant = true → t = s))) ∧
      (w.tenant = false → s.unitHere w.block r.i r.desc = false ∨ s.selected r.desc.sel = none → exec (.regWrite w) s = .next s)) ∧
    (∀ a, Reaches s w a → Answers (.regWrite w) s (fun t =>
      ((∀ fd ∈ a.desc.fields, fd.acc = .ro ∨ fd.acc = .rc) → ∀ f : RF, t.get f = s.get f) ∧
      (∀ fd ∈ a.desc.fields, StagedSpares s [a.field fd] → ownRow w.block a.desc.off fd.lo = false → s.fixedField w.block a.desc.off a.i fd.lo = false →
        (fd.acc = .rw → fd.te = .live → (w.block = 1 → a.desc.off ≠ 24 ∧ a.desc.off ≠ 80) → t.get (a.field fd) = taken fd) ∧
        (fd.acc = .rwl → s.locks.contains (a.field fd).id = true → t.get (a.field fd) = s.get (a.field fd)) ∧
        (fd.acc = .rwl → s.locks.contains (a.field fd).id = false → t.get (a.field fd) = taken fd ∧ (a.field fd).id ∈ t.locks) ∧
        (fd.acc = .rw → fd.te = .period → (w.block = 1 → a.desc.off ≠ 24 ∧ a.desc.off ≠ 80) → t.get (a.field fd) = s.get (a.field fd) ∧
          ⟨a.field fd, taken fd, .period, 0⟩ ∈ t.staged)) ∧
      ((∀ fd ∈ a.desc.fields, fd.acc = .ro ∨ (fd.acc = .rw ∧ fd.te = .locked)) → s.blockBusy w.block a.desc.off a.i a.key = true → kept t)))
end

