-- ==== Sys2Proof/Laws/Sparse.lean ====
section
/-! SUPPORT. What reading a sparse table gives after every change of one, and that every change keeps the canonical form. -/

namespace Sys2Proof.Sparse

set_option Elab.async false

variable {α : Type}

/-! ### Keys of a canonical table -/

theorem wfFrom_mono [DecidableEq α] {d : α} {l : List (Nat × α)} {j k : Nat} (hjk : j ≤ k) (h : wfFrom d k l = true) : wfFrom d j l = true := by
  cases l with
  | nil => rfl
  | cons c r =>
    simp only [wfFrom, Bool.and_eq_true, decide_eq_true_eq] at h ⊢
    exact ⟨⟨by omega, h.1.2⟩, h.2⟩

theorem wfFrom_filter [DecidableEq α] {d : α} (p : Nat × α → Bool) {l : List (Nat × α)} {k : Nat} (h : wfFrom d k l = true) :
    wfFrom d k (l.filter p) = true := by
  induction l generalizing k with
  | nil => rfl
  | cons c r ih =>
    simp only [wfFrom, Bool.and_eq_true, decide_eq_true_eq] at h
    by_cases hp : p c = true
    · simp only [List.filter_cons_of_pos hp, wfFrom, Bool.and_eq_true, decide_eq_true_eq]
      exact ⟨h.1, ih h.2⟩
    · rw [List.filter_cons_of_neg hp]
      exact ih (wfFrom_mono (by omega) h.2)

theorem wfFrom_shift [DecidableEq α] {d : α} (n : Nat) {l : List (Nat × α)} {k : Nat} (h : wfFrom d k l = true) :
    wfFrom d (k + n) (l.map (fun c => (c.1 + n, c.2))) = true := by
  induction l generalizing k with
  | nil => rfl
  | cons c r ih =>
    simp only [wfFrom, Bool.and_eq_true, decide_eq_true_eq, List.map_cons] at h ⊢
    refine ⟨⟨by omega, h.1.2⟩, ?_⟩
    rw [Nat.add_right_comm]
    exact ih h.2

theorem wfFrom_unshift [DecidableEq α] {d : α} (n : Nat) {l : List (Nat × α)} {k : Nat} (hn : n ≤ k) (h : wfFrom d k l = true) :
    wfFrom d (k - n) (l.map (fun c => (c.1 - n, c.2))) = true := by
  induction l generalizing k with
  | nil => rfl
  | cons c r ih =>
    simp only [wfFrom, Bool.and_eq_true, decide_eq_true_eq, List.map_cons] at h ⊢
    refine ⟨⟨by omega, h.1.2⟩, ?_⟩
    rw [show c.1 - n + 1 = c.1 + 1 - n by omega]
    exact ih (by omega) h.2

theorem wfFrom_append [DecidableEq α] {d : α} {l r : List (Nat × α)} {j k : Nat} (hjk : j ≤ k) (hl : wfFrom d j l = true)
    (hlt : ∀ c ∈ l, c.1 < k) (hr : wfFrom d k r = true) : wfFrom d j (l ++ r) = true := by
  induction l generalizing j with
  | nil => exact wfFrom_mono hjk hr
  | cons c t ih =>
    simp only [wfFrom, Bool.and_eq_true, decide_eq_true_eq, List.cons_append] at hl ⊢
    have := hlt c (by simp)
    exact ⟨hl.1, ih (by omega) hl.2 (fun x hx => hlt x (by simp [hx]))⟩

theorem wfFrom_ge [DecidableEq α] {d : α} {l : List (Nat × α)} {k : Nat} (h : wfFrom d k l = true) : ∀ c ∈ l, k ≤ c.1 := by
  induction l generalizing k with
  | nil => simp
  | cons c r ih =>
    simp only [wfFrom, Bool.and_eq_true, decide_eq_true_eq] at h
    intro x hx
    rcases List.mem_cons.1 hx with rfl | hx
    · exact h.1.1
    · exact le_trans (by omega) (ih h.2 x hx)

theorem wfFrom_of_ge [DecidableEq α] {d : α} {l : List (Nat × α)} {j k : Nat} (h : wfFrom d j l = true) (hk : ∀ c ∈ l, k ≤ c.1) : wfFrom d k l = true := by
  cases l with
  | nil => rfl
  | cons c r =>
    simp only [wfFrom, Bool.and_eq_true, decide_eq_true_eq] at h ⊢
    exact ⟨⟨hk c (by simp), h.1.2⟩, h.2⟩

theorem wf_above [DecidableEq α] {d : α} {l : List (Nat × α)} (k : Nat) (h : wf d l = true) : wfFrom d k (above l k) = true :=
  wfFrom_of_ge (wfFrom_filter _ h) (fun c hc => by simpa using (List.mem_filter.1 hc).2)

/-! ### Every change keeps the canonical form -/

theorem wf_splice [DecidableEq α] {d : α} {l : List (Nat × α)} {lo n : Nat} {cells : List (Nat × α)} (h : wf d l = true)
    (hc : wf d cells = true) (hn : ∀ c ∈ cells, c.1 < n) : wf d (splice l lo n cells) = true := by
  unfold splice
  refine wfFrom_append (k := lo) (Nat.zero_le _) (wfFrom_filter _ h) (fun c hc => by simpa using (List.mem_filter.1 hc).2) ?_
  refine wfFrom_append (k := lo + n) (by omega) ?_ ?_ (wf_above _ h)
  · simpa using wfFrom_shift lo hc
  · intro c hc'
    obtain ⟨x, hx, rfl⟩ := List.mem_map.1 hc'
    have := hn x hx
    simp only
    omega

theorem wf_erase [DecidableEq α] {d : α} {l : List (Nat × α)} {k : Nat} (h : wf d l = true) : wf d (erase l k) = true :=
  wf_splice h rfl (by simp)

theorem wf_put [DecidableEq α] {d v : α} {l : List (Nat × α)} {k : Nat} (h : wf d l = true) (hv : v ≠ d) : wf d (put l k v) = true :=
  wf_splice h (by simp [wf, wfFrom, hv]) (by simp)

theorem wf_set [DecidableEq α] {d v : α} {l : List (Nat × α)} {k : Nat} (h : wf d l = true) : wf d (set d l k v) = true := by
  unfold set
  split
  · exact wf_erase h
  · exact wf_put h ‹_›

theorem wfFrom_cells [DecidableEq α] (d : α) (vs : List α) (i : Nat) : wfFrom d i (cells d i vs) = true := by
  induction vs generalizing i with
  | nil => rfl
  | cons v r ih =>
    unfold cells
    split
    · exact wfFrom_mono (by omega) (ih _)
    · simp [wfFrom, *]

theorem cells_lt [DecidableEq α] (d : α) (vs : List α) (i : Nat) : ∀ c ∈ cells d i vs, c.1 < i + vs.length := by
  induction vs generalizing i with
  | nil => simp [cells]
  | cons v r ih =>
    intro c hc
    unfold cells at hc
    have h := ih (i + 1)
    simp only [List.length_cons]
    split at hc
    · have := h c hc; omega
    · rcases List.mem_cons.1 hc with rfl | hc
      · simp
      · have := h c hc; omega

theorem wf_cells [DecidableEq α] (d : α) (vs : List α) : wf d (cells d 0 vs) = true := wfFrom_cells d vs 0

theorem wf_write [DecidableEq α] {d : α} {l : List (Nat × α)} {lo : Nat} {vs : List α} (h : wf d l = true) : wf d (write d l lo vs) = true :=
  wf_splice h (wf_cells d vs) (by simpa using cells_lt d vs 0)

theorem wf_slice [DecidableEq α] {d : α} {l : List (Nat × α)} (lo n : Nat) (h : wf d l = true) : wf d (slice l lo n) = true := by
  unfold slice wf
  have := wfFrom_unshift lo (le_refl lo) (wfFrom_of_ge (k := lo)
    (wfFrom_filter (fun c : Nat × α => decide (lo ≤ c.1) && decide (c.1 < lo + n)) h) (fun c hc => by
      have := (List.mem_filter.1 hc).2
      simp only [Bool.and_eq_true, decide_eq_true_eq] at this
      exact this.1))
  simpa using this

theorem slice_lt (l : List (Nat × α)) (lo n : Nat) : ∀ c ∈ slice l lo n, c.1 < n := by
  intro c hc
  obtain ⟨x, hx, rfl⟩ := List.mem_map.1 hc
  have := (List.mem_filter.1 hx).2
  simp only [Bool.and_eq_true, decide_eq_true_eq] at this
  simp only
  omega

theorem wf_copy [DecidableEq α] {d : α} {src dst : List (Nat × α)} {s n t : Nat} (hs : wf d src = true) (hd : wf d dst = true) :
    wf d (copy src s n dst t) = true :=
  wf_splice hd (wf_slice s n hs) (slice_lt src s n)

/-! ### What a read gives after a change -/

theorem get_append (d : α) (l r : List (Nat × α)) (k : Nat) :
    get d (l ++ r) k = if (find l k).isSome then get d l k else get d r k := by
  induction l with
  | nil => simp [find]
  | cons c t ih =>
    by_cases h : c.1 = k <;> simp [get, find, h, ih]

theorem find_eq_none {l : List (Nat × α)} {k : Nat} (h : ∀ c ∈ l, c.1 ≠ k) : find l k = none := by
  induction l with
  | nil => rfl
  | cons c t ih =>
    have := h c (by simp)
    simp [find, this, ih (fun x hx => h x (by simp [hx]))]

theorem get_eq_default {d : α} {l : List (Nat × α)} {k : Nat} (h : ∀ c ∈ l, c.1 ≠ k) : get d l k = d := by
  induction l with
  | nil => rfl
  | cons c t ih =>
    have := h c (by simp)
    simp [get, this, ih (fun x hx => h x (by simp [hx]))]

theorem get_filter (d : α) (p : Nat → Bool) (l : List (Nat × α)) (k : Nat) :
    get d (l.filter (fun c => p c.1)) k = if p k then get d l k else d := by
  induction l with
  | nil => simp [get]
  | cons c t ih =>
    by_cases hp : p c.1 = true
    · rw [List.filter_cons, if_pos hp]
      by_cases h : c.1 = k
      · subst h; simp [get, hp]
      · simp [get, h, ih]
    · rw [List.filter_cons, if_neg hp, ih]
      by_cases h : c.1 = k
      · subst h; simp [hp]
      · simp [get, h]

theorem find_filter (p : Nat → Bool) (l : List (Nat × α)) (k : Nat) :
    find (l.filter (fun c => p c.1)) k = if p k then find l k else none := by
  induction l with
  | nil => simp [find]
  | cons c t ih =>
    by_cases hp : p c.1 = true
    · rw [List.filter_cons, if_pos hp]
      by_cases h : c.1 = k
      · subst h; simp [find, hp]
      · simp [find, h, ih]
    · rw [List.filter_cons, if_neg hp, ih]
      by_cases h : c.1 = k
      · subst h; simp [hp]
      · simp [find, h]

theorem get_shift (d : α) (l : List (Nat × α)) (n k : Nat) :
    get d (l.map (fun c => (c.1 + n, c.2))) k = if n ≤ k then get d l (k - n) else d := by
  induction l with
  | nil => simp [get]
  | cons c t ih =>
    simp only [List.map_cons, get, ih]
    by_cases h : c.1 + n = k
    · subst h; simp
    · rw [if_neg h]
      split
      · rw [if_neg (by omega)]
      · rfl

theorem find_shift (l : List (Nat × α)) (n k : Nat) :
    find (l.map (fun c => (c.1 + n, c.2))) k = if n ≤ k then find l (k - n) else none := by
  induction l with
  | nil => simp [find]
  | cons c t ih =>
    simp only [List.map_cons, find, ih]
    by_cases h : c.1 + n = k
    · subst h; simp
    · rw [if_neg h]
      split
      · rw [if_neg (by omega)]
      · rfl

theorem find_append (l r : List (Nat × α)) (k : Nat) : find (l ++ r) k = (find l k).or (find r k) := by
  induction l with
  | nil => rfl
  | cons c t ih => by_cases h : c.1 = k <;> simp [find, h, ih]

theorem get_eq_find (d : α) (l : List (Nat × α)) (k : Nat) : get d l k = (find l k).getD d := by
  induction l with
  | nil => rfl
  | cons c t ih => by_cases h : c.1 = k <;> simp [get, find, h, ih]

/-- A splice changes the keys it covers and no other. -/
theorem find_splice (l : List (Nat × α)) (lo n : Nat) (cells : List (Nat × α)) (hn : ∀ c ∈ cells, c.1 < n) (k : Nat) :
    find (splice l lo n cells) k = if lo ≤ k ∧ k < lo + n then find cells (k - lo) else find l k := by
  unfold splice below above
  rw [find_append, find_append, find_filter (fun j => decide (j < lo)), find_shift, find_filter (fun j => decide (lo + n ≤ j))]
  by_cases h1 : k < lo
  · have h2 : ¬ lo ≤ k := by omega
    have h3 : ¬ lo + n ≤ k := by omega
    simp [h1, h2, h3]
  · have h2 : lo ≤ k := by omega
    by_cases h3 : k < lo + n
    · have h4 : ¬ lo + n ≤ k := by omega
      simp [h1, h2, h3, h4]
    · have h4 : lo + n ≤ k := by omega
      have h5 : find cells (k - lo) = none := find_eq_none (fun c hc => by have := hn c hc; omega)
      simp [h1, h2, h3, h4, h5]

theorem get_splice (d : α) (l : List (Nat × α)) (lo n : Nat) (cells : List (Nat × α)) (hn : ∀ c ∈ cells, c.1 < n) (k : Nat) :
    get d (splice l lo n cells) k = if lo ≤ k ∧ k < lo + n then get d cells (k - lo) else get d l k := by
  simp only [get_eq_find, find_splice l lo n cells hn]
  split <;> rfl

theorem find_put (l : List (Nat × α)) (k : Nat) (v : α) (j : Nat) : find (put l k v) j = if j = k then some v else find l j := by
  unfold put
  rw [find_splice _ _ _ _ (by simp)]
  by_cases h : j = k
  · subst h; simp [find]
  · rw [if_neg h, if_neg (by omega)]

theorem find_erase (l : List (Nat × α)) (k j : Nat) : find (erase l k) j = if j = k then none else find l j := by
  unfold erase
  rw [find_splice _ _ _ _ (by simp)]
  by_cases h : j = k
  · subst h; simp [find]
  · rw [if_neg h, if_neg (by omega)]

@[simp] theorem find_put_self (l : List (Nat × α)) (k : Nat) (v : α) : find (put l k v) k = some v := by simp [find_put]
@[simp] theorem find_erase_self (l : List (Nat × α)) (k : Nat) : find (erase l k) k = none := by simp [find_erase]
theorem find_put_ne (l : List (Nat × α)) {k j : Nat} (v : α) (h : j ≠ k) : find (put l k v) j = find l j := by simp [find_put, h]
theorem find_erase_ne (l : List (Nat × α)) {k j : Nat} (h : j ≠ k) : find (erase l k) j = find l j := by simp [find_erase, h]

/-- Reading after a write. -/
theorem get_set [DecidableEq α] (d : α) (l : List (Nat × α)) (k : Nat) (v : α) (j : Nat) :
    get d (set d l k v) j = if j = k then v else get d l j := by
  unfold set
  rw [get_eq_find]
  split
  · rw [find_erase]; subst_vars
    split <;> simp [get_eq_find]
  · rw [find_put]
    split <;> simp [get_eq_find]

@[simp] theorem get_set_self [DecidableEq α] (d : α) (l : List (Nat × α)) (k : Nat) (v : α) : get d (set d l k v) k = v := by simp [get_set]
theorem get_set_ne [DecidableEq α] (d : α) (l : List (Nat × α)) {k j : Nat} (v : α) (h : j ≠ k) : get d (set d l k v) j = get d l j := by
  simp [get_set, h]

theorem get_cells [DecidableEq α] (d : α) (vs : List α) (i k : Nat) : get d (cells d i vs) k = if i ≤ k then (vs[k - i]?).getD d else d := by
  induction vs generalizing i with
  | nil => simp [cells, get]
  | cons v r ih =>
    unfold cells
    have hstep : get d (cells d (i + 1) r) k = if i + 1 ≤ k then (r[k - (i + 1)]?).getD d else d := ih (i + 1)
    by_cases hk : i = k
    · subst hk
      have h0 : get d (cells d (i + 1) r) i = d := by rw [hstep, if_neg (by omega)]
      split
      · simp [*]
      · simp [get]
    · have h1 : get d (if v = d then cells d (i + 1) r else (i, v) :: cells d (i + 1) r) k = get d (cells d (i + 1) r) k := by
        split <;> simp [get, hk]
      rw [h1, hstep]
      by_cases hle : i ≤ k
      · rw [if_pos (by omega), if_pos hle, show k - i = (k - (i + 1)) + 1 by omega, List.getElem?_cons_succ]
      · rw [if_neg (by omega), if_neg hle]

/-- Writing a list of values: each lands at its own key, every other key reads as before. -/
theorem get_write [DecidableEq α] (d : α) (l : List (Nat × α)) (lo : Nat) (vs : List α) (k : Nat) :
    get d (write d l lo vs) k = if lo ≤ k ∧ k < lo + vs.length then (vs[k - lo]?).getD d else get d l k := by
  unfold write
  rw [get_splice d _ _ _ _ (by simpa using cells_lt d vs 0), get_cells]
  simp

/-- The value at a key of a filled run. -/
theorem getElem?_fill [DecidableEq α] (d : α) (n i j : Nat) (l : List (Nat × α)) (h : wfFrom d i l = true) (hj : j < n) :
    (fill d n i l)[j]? = some (get d l (i + j)) := by
  induction n generalizing i j l with
  | zero => omega
  | succ n ih =>
    cases l with
    | nil =>
      cases j with
      | zero => simp [fill, get]
      | succ j => simpa [fill, get] using ih (i + 1) j [] rfl (by omega)
    | cons c r =>
      obtain ⟨k, v⟩ := c
      simp only [wfFrom, Bool.and_eq_true, decide_eq_true_eq] at h
      by_cases hk : k = i
      · subst hk
        simp only [fill, if_true]
        cases j with
        | zero => simp [get]
        | succ j =>
          have := ih (k + 1) j r h.2 (by omega)
          simp only [List.getElem?_cons_succ, this, get, if_neg (show ¬ k = k + (j + 1) by omega)]
          congr 2; omega
      · have hle : i + 1 ≤ k := by omega
        simp only [fill, if_neg hk]
        cases j with
        | zero =>
          have hz : get d r i = d := get_eq_default (fun c hc => by have := wfFrom_ge h.2 c hc; omega)
          simp [get, hk, hz]
        | succ j =>
          have h' : wfFrom d (i + 1) ((k, v) :: r) = true := by
            simp only [wfFrom, Bool.and_eq_true, decide_eq_true_eq]
            exact ⟨⟨hle, h.1.2⟩, h.2⟩
          have := ih (i + 1) j _ h' (by omega)
          simp only [List.getElem?_cons_succ, this]
          congr 2; omega

theorem length_fill (d : α) (n i : Nat) (l : List (Nat × α)) : (fill d n i l).length = n := by
  induction n generalizing i l with
  | zero => rfl
  | succ n ih =>
    cases l with
    | nil => simp [fill, ih]
    | cons c r => unfold fill; split <;> simp [ih]

end Sys2Proof.Sparse
end

