-- ==== Sys2Proof/Laws/Within.lean ====
section
/-! SUPPORT. What an operation can change. `Within m s t` says that `t` differs from `s` in no part of the machine outside the mask `m`,
that the queue of waiting commands is the same, and that `t` keeps the invariant where `s` has it. Every shared operation has one such
lemma, `<name>_within`, with the mask of the parts that it can change; a proof cites the lemma and never unfolds the operation.
Mask bits 0 to 24 are the register blocks by number (0 PART, 1 DSP, 2 CORE, 3 FCT, 4 MX, 5 QNT, 6 SEL, 7 MRG, 8 MEM, 9 HBM, 10 GEO,
11 CSU, 12 IDX, 13 FTB, 14 TXU, 15 GEN, 16 KTR, 17 SHP, 18 EDG, 19 PWR, 20 RAS, 21 ONX, 22 LPE, 23 EVR, 24 MGT); bits 32 to 50 are the
other fields of `State` in their order from `free` on, `regs` left out. -/

namespace Sys2Proof.Machine

set_option Elab.async false

/-- `t` differs from `s` only in the parts of the mask `m`. -/
structure Within (m : Nat) (s t : State) : Prop where
  pending : t.pending = s.pending
  inv : s.Inv → t.Inv
  regs : ∀ k, m.testBit (blockOf k) = false → Sparse.get 0 t.regs k = Sparse.get 0 s.regs k
  free : m.testBit 32 = true ∨ t.free = s.free
  staged : m.testBit 33 = true ∨ t.staged = s.staged
  locks : m.testBit 34 = true ∨ t.locks = s.locks
  mem : m.testBit 35 = true ∨ t.mem = s.mem
  cores : m.testBit 36 = true ∨ t.cores = s.cores
  rec_ : m.testBit 37 = true ∨ t.rec_ = s.rec_
  dsp : m.testBit 38 = true ∨ t.dsp = s.dsp
  tier : m.testBit 39 = true ∨ t.tier = s.tier
  ftb : m.testBit 40 = true ∨ t.ftb = s.ftb
  txu : m.testBit 41 = true ∨ t.txu = s.txu
  idx : m.testBit 42 = true ∨ t.idx = s.idx
  gen : m.testBit 43 = true ∨ t.gen = s.gen
  ras : m.testBit 44 = true ∨ t.ras = s.ras
  ktr : m.testBit 45 = true ∨ t.ktr = s.ktr
  geo : m.testBit 46 = true ∨ t.geo = s.geo
  mgt : m.testBit 47 = true ∨ t.mgt = s.mgt
  pwr : m.testBit 48 = true ∨ t.pwr = s.pwr
  onx : m.testBit 49 = true ∨ t.onx = s.onx
  out : m.testBit 50 = true ∨ t.out = s.out

/-- An outcome that, if it is a next state, is within the mask. -/
structure WithinRes (m : Nat) (s : State) (r : Res) : Prop where
  within : ∀ t, r = .next t → Within m s t

/-- An optional state that, if there is one, is within the mask. -/
structure WithinOpt (m : Nat) (s : State) (o : Option State) : Prop where
  within : ∀ t, o = some t → Within m s t

/-- An optional pair whose state, if there is one, is within the mask. -/
structure WithinOptSnd {α : Type} (m : Nat) (s : State) (o : Option (α × State)) : Prop where
  within : ∀ p, o = some p → Within m s p.2

/-- An optional pair whose state, if there is one, is within the mask. -/
structure WithinOptFst {α : Type} (m : Nat) (s : State) (o : Option (State × α)) : Prop where
  within : ∀ p, o = some p → Within m s p.1

theorem testBit_of_sub {a m : Nat} (h : a &&& m = a) {i : Nat} (hi : a.testBit i = true) : m.testBit i = true := by
  have := congrArg (fun n => n.testBit i) h
  simp only [Nat.testBit_and, hi, Bool.true_and] at this
  exact this

theorem testBit_false_of_sub {a m : Nat} (h : a &&& m = a) {i : Nat} (hi : m.testBit i = false) : a.testBit i = false := by
  cases ha : a.testBit i with
  | false => rfl
  | true => rw [testBit_of_sub h ha] at hi; exact absurd hi (by decide)

theorem sub_trans {a b m : Nat} (hab : a &&& b = a) (hb : b &&& m = b) : a &&& m = a := by
  rw [← hab, Nat.and_assoc, hb]

theorem Within.refl {m : Nat} {s : State} : Within m s s :=
  ⟨rfl, id, fun _ _ => rfl, .inr rfl, .inr rfl, .inr rfl, .inr rfl, .inr rfl, .inr rfl, .inr rfl, .inr rfl, .inr rfl, .inr rfl, .inr rfl,
    .inr rfl, .inr rfl, .inr rfl, .inr rfl, .inr rfl, .inr rfl, .inr rfl, .inr rfl⟩

theorem either {a b m : Nat} {α : Type} {x y z : α} {i : Nat} (ha : a &&& m = a) (hb : b &&& m = b) (h : a.testBit i = true ∨ z = y)
    (h' : b.testBit i = true ∨ y = x) : m.testBit i = true ∨ z = x := by
  rcases h with h | rfl
  · exact .inl (testBit_of_sub ha h)
  · rcases h' with h' | h'
    · exact .inl (testBit_of_sub hb h')
    · exact .inr h'

theorem Within.trans {a b m : Nat} {s t u : State} (g : Within a t u) (h : Within b s t) (ha : a &&& m = a) (hb : b &&& m = b) : Within m s u :=
  ⟨g.pending.trans h.pending, fun i => g.inv (h.inv i),
    fun k hk => (g.regs k (testBit_false_of_sub ha hk)).trans (h.regs k (testBit_false_of_sub hb hk)),
    either ha hb g.free h.free, either ha hb g.staged h.staged, either ha hb g.locks h.locks, either ha hb g.mem h.mem,
    either ha hb g.cores h.cores, either ha hb g.rec_ h.rec_, either ha hb g.dsp h.dsp, either ha hb g.tier h.tier,
    either ha hb g.ftb h.ftb, either ha hb g.txu h.txu, either ha hb g.idx h.idx, either ha hb g.gen h.gen, either ha hb g.ras h.ras,
    either ha hb g.ktr h.ktr, either ha hb g.geo h.geo, either ha hb g.mgt h.mgt, either ha hb g.pwr h.pwr, either ha hb g.onx h.onx,
    either ha hb g.out h.out⟩

/-- One more operation of a smaller mask. -/
theorem Within.step {a m : Nat} {s t u : State} (g : Within a t u) (ha : a &&& m = a) (h : Within m s t) : Within m s u :=
  g.trans h ha (Nat.and_self m)

theorem Within.mono {a m : Nat} {s t : State} (g : Within a s t) (ha : a &&& m = a) : Within m s t := g.step ha .refl

/-- Marks an update that is one: the proof of it fails on a state that is rebuilt as it was. -/
def Alters (_ _ : State) : Prop := True

theorem Alters.same {s t : State} (_ : s = t) : Alters s t := trivial
theorem Alters.intro {s t : State} : Alters s t := trivial

/-- An update that changes no memory, register or recorder. -/
theorem Within.update {m : Nat} {s t : State} {pending free regs staged locks mem cores rec_ dsp tier ftb txu idx gen ras ktr geo mgt pwr onx out}
    (h : Within m s t) (hp : pending = t.pending)
    (_ : Alters (State.mk pending free regs staged locks mem cores rec_ dsp tier ftb txu idx gen ras ktr geo mgt pwr onx out) t := by
      fail_if_success (with_reducible apply Alters.same (Eq.refl _))
      exact Alters.intro) (hr : regs = t.regs := by rfl)
    (hmem : mem = t.mem := by rfl) (hst : rec_.store = t.rec_.store := by rfl) (hh : rec_.hold = t.rec_.hold := by rfl)
    (hmi : rec_.mirror = t.rec_.mirror := by rfl)
    (hco : cores = t.cores := by rfl) (hn : mgt.nor = t.mgt.nor := by rfl) (hb : mgt.bezel = t.mgt.bezel := by rfl)
    (h_free : m.testBit 32 = true ∨ free = t.free := by first | exact .inl rfl | exact .inr rfl)
    (h_staged : m.testBit 33 = true ∨ staged = t.staged := by first | exact .inl rfl | exact .inr rfl)
    (h_locks : m.testBit 34 = true ∨ locks = t.locks := by first | exact .inl rfl | exact .inr rfl)
    (h_rec_ : m.testBit 37 = true ∨ rec_ = t.rec_ := by first | exact .inl rfl | exact .inr rfl)
    (h_dsp : m.testBit 38 = true ∨ dsp = t.dsp := by first | exact .inl rfl | exact .inr rfl)
    (h_tier : m.testBit 39 = true ∨ tier = t.tier := by first | exact .inl rfl | exact .inr rfl)
    (h_ftb : m.testBit 40 = true ∨ ftb = t.ftb := by first | exact .inl rfl | exact .inr rfl)
    (h_txu : m.testBit 41 = true ∨ txu = t.txu := by first | exact .inl rfl | exact .inr rfl)
    (h_idx : m.testBit 42 = true ∨ idx = t.idx := by first | exact .inl rfl | exact .inr rfl)
    (h_gen : m.testBit 43 = true ∨ gen = t.gen := by first | exact .inl rfl | exact .inr rfl)
    (h_ras : m.testBit 44 = true ∨ ras = t.ras := by first | exact .inl rfl | exact .inr rfl)
    (h_ktr : m.testBit 45 = true ∨ ktr = t.ktr := by first | exact .inl rfl | exact .inr rfl)
    (h_geo : m.testBit 46 = true ∨ geo = t.geo := by first | exact .inl rfl | exact .inr rfl)
    (h_mgt : m.testBit 47 = true ∨ mgt = t.mgt := by first | exact .inl rfl | exact .inr rfl)
    (h_pwr : m.testBit 48 = true ∨ pwr = t.pwr := by first | exact .inl rfl | exact .inr rfl)
    (h_onx : m.testBit 49 = true ∨ onx = t.onx := by first | exact .inl rfl | exact .inr rfl)
    (h_out : m.testBit 50 = true ∨ out = t.out := by first | exact .inl rfl | exact .inr rfl) :
    Within m s (State.mk pending free regs staged locks mem cores rec_ dsp tier ftb txu idx gen ras ktr geo mgt pwr onx out) :=
  Within.step (t := t) (a := m)
    ⟨hp, fun i => ⟨⟨hmem ▸ i.canonical.mem, hr ▸ i.canonical.regs, hn ▸ i.canonical.nor, hb ▸ i.canonical.bezel⟩,
        ⟨hst ▸ i.recorder.store, hh ▸ i.recorder.hold, hmi ▸ i.recorder.mirror⟩, fun c k hc => i.cores c k (show Sparse.find t.cores c = some k from hco ▸ hc)⟩,
      fun _ _ => by rw [hr], h_free, h_staged, h_locks, .inr hmem, .inr hco, h_rec_, h_dsp, h_tier, h_ftb, h_txu, h_idx, h_gen, h_ras, h_ktr, h_geo,
      h_mgt, h_pwr, h_onx, h_out⟩
    (Nat.and_self m) h

theorem Within.ite {m : Nat} {s a b : State} {c : Prop} [Decidable c] (ha : Within m s a) (hb : Within m s b) :
    Within m s (if c then a else b) := by split <;> assumption

theorem WithinRes.ite {m : Nat} {s : State} {a b : Res} {c : Prop} [Decidable c] (ha : WithinRes m s a) (hb : WithinRes m s b) :
    WithinRes m s (if c then a else b) := by split <;> assumption

theorem Within.foldl {α : Type} {m : Nat} {s t : State} {f : State → α → State} (l : List α) (hf : ∀ s a, Within m s (f s a)) (h : Within m s t) :
    Within m s (l.foldl f t) := by
  induction l generalizing t with
  | nil => exact h
  | cons a r ih => exact ih ((hf t a).step (Nat.and_self m) h)

theorem Within.foldlFst {α β : Type} {m : Nat} {s : State} {f : State × β → α → State × β} (l : List α) (hf : ∀ p a, Within m p.1 (f p a).1)
    {p : State × β} (h : Within m s p.1) : Within m s (l.foldl f p).1 := by
  induction l generalizing p with
  | nil => exact h
  | cons a r ih => exact ih ((hf p a).step (Nat.and_self m) h)

theorem Within.foldlSnd {α β : Type} {m : Nat} {s : State} {f : β × State → α → β × State} (l : List α) (hf : ∀ p a, Within m p.2 (f p a).2)
    {p : β × State} (h : Within m s p.2) : Within m s (l.foldl f p).2 := by
  induction l generalizing p with
  | nil => exact h
  | cons a r ih => exact ih ((hf p a).step (Nat.and_self m) h)

theorem WithinRes.next {m : Nat} {s t : State} (h : Within m s t) : WithinRes m s (.next t) := ⟨by intro u hu; cases hu; exact h⟩
theorem WithinRes.fault {m : Nat} {s : State} {x : Fault} : WithinRes m s (.fault x) := ⟨by intro u hu; cases hu⟩
theorem WithinRes.refused {m : Nat} {s : State} {x : Refusal} : WithinRes m s (.refused x) := ⟨by intro u hu; cases hu⟩
theorem WithinRes.step {a m : Nat} {s t : State} {r : Res} (g : WithinRes a t r) (ha : a &&& m = a) (h : Within m s t) : WithinRes m s r :=
  ⟨fun u hu => (g.within u hu).step ha h⟩

theorem WithinOpt.some {m : Nat} {s t : State} (h : Within m s t) : WithinOpt m s (Option.some t) := ⟨by intro u hu; cases hu; exact h⟩
theorem WithinOpt.none {m : Nat} {s : State} : WithinOpt m s Option.none := ⟨by intro u hu; cases hu⟩
theorem WithinOpt.step {a m : Nat} {s t : State} {o : Option State} (g : WithinOpt a t o) (ha : a &&& m = a) (h : Within m s t) : WithinOpt m s o :=
  ⟨fun u hu => (g.within u hu).step ha h⟩
theorem WithinOpt.of_eq {m : Nat} {s t : State} {o : Option State} (g : WithinOpt m s o) (h : o = Option.some t) : Within m s t := g.within t h

theorem WithinOptSnd.none {α : Type} {m : Nat} {s : State} : WithinOptSnd (α := α) m s Option.none := ⟨by intro p hp; cases hp⟩
theorem WithinOptSnd.some {α : Type} {m : Nat} {s t : State} {a : α} (h : Within m s t) : WithinOptSnd m s (Option.some (a, t)) :=
  ⟨by intro p hp; cases hp; exact h⟩
theorem WithinOptSnd.of_eq {α : Type} {m : Nat} {s t : State} {a : α} {o : Option (α × State)} (g : WithinOptSnd m s o) (h : o = Option.some (a, t)) :
    Within m s t := g.within _ h
theorem WithinOptSnd.step {α : Type} {a m : Nat} {s t : State} {o : Option (α × State)} (g : WithinOptSnd a t o) (ha : a &&& m = a) (h : Within m s t) :
    WithinOptSnd m s o := ⟨fun u hu => (g.within u hu).step ha h⟩

theorem WithinOptFst.none {α : Type} {m : Nat} {s : State} : WithinOptFst (α := α) m s Option.none := ⟨by intro p hp; cases hp⟩
theorem WithinOptFst.some {α : Type} {m : Nat} {s t : State} {a : α} (h : Within m s t) : WithinOptFst m s (Option.some (t, a)) :=
  ⟨by intro p hp; cases hp; exact h⟩
theorem WithinOptFst.of_eq {α : Type} {m : Nat} {s t : State} {a : α} {o : Option (State × α)} (g : WithinOptFst m s o) (h : o = Option.some (t, a)) :
    Within m s t := g.within _ h
theorem WithinOptFst.step {α : Type} {a m : Nat} {s t : State} {o : Option (State × α)} (g : WithinOptFst a t o) (ha : a &&& m = a) (h : Within m s t) :
    WithinOptFst m s o := ⟨fun u hu => (g.within u hu).step ha h⟩

theorem WithinOpt.getD {m : Nat} {s u : State} {o : Option State} (g : WithinOpt m s o) (h : Within m s u) : Within m s (o.getD u) := by
  cases o with
  | none => exact h
  | some t => exact g.within t rfl

theorem WithinOpt.mapState {m : Nat} {s : State} {o : Option State} {f : State → State} (g : WithinOpt m s o) (hf : ∀ t, Within m t (f t)) :
    WithinOpt m s (o.map f) :=
  ⟨fun u hu => by
    obtain ⟨t, ht, rfl⟩ := Option.map_eq_some_iff.1 hu
    exact (hf t).step (Nat.and_self m) (g.within t ht)⟩

theorem WithinOpt.map {α : Type} {m : Nat} {s : State} {o : Option State} {f : State → State × α} (g : WithinOpt m s o)
    (hf : ∀ t, Within m t (f t).1) : WithinOptFst m s (o.map f) :=
  ⟨fun p hp => by
    obtain ⟨t, ht, rfl⟩ := Option.map_eq_some_iff.1 hp
    exact (hf t).step (Nat.and_self m) (g.within t ht)⟩

theorem Within.of_snd {α : Type} {m : Nat} {s t : State} {a : α} {p : α × State} (g : Within m s p.2) (h : p = (a, t)) : Within m s t := by
  subst h; exact g
theorem Within.of_fst {α : Type} {m : Nat} {s t : State} {a : α} {p : State × α} (g : Within m s p.1) (h : p = (t, a)) : Within m s t := by
  subst h; exact g

/-- A register outside the mask reads the same. -/
theorem Within.get {m : Nat} {s t : State} (h : Within m s t) (f : RF) (hf : m.testBit (blockOf f.id) = false) : t.get f = s.get f := by
  unfold State.get
  rw [h.regs _ hf]

/-! ### Registers -/

theorem put_within {m b : Nat} {s t : State} (f : RF) (v : Nat) (hb : blockOf f.id = b) (hm : m.testBit b = true) (h : Within m s t) :
    Within m s (t.put f v) := by
  refine Within.step (a := m) (t := t) ⟨rfl, fun i => ⟨⟨i.canonical.mem, Sparse.wf_set i.canonical.regs, i.canonical.nor, i.canonical.bezel⟩, ⟨i.recorder.store, i.recorder.hold, i.recorder.mirror⟩, i.cores⟩,
    fun k hk => ?_, .inr rfl, .inr rfl, .inr rfl, .inr rfl, .inr rfl, .inr rfl, .inr rfl, .inr rfl, .inr rfl, .inr rfl, .inr rfl,
    .inr rfl, .inr rfl, .inr rfl, .inr rfl, .inr rfl, .inr rfl, .inr rfl, .inr rfl⟩ (Nat.and_self m) h
  refine Sparse.get_set_ne _ _ _ ?_
  rintro rfl
  rw [hb, hm] at hk
  cases hk

theorem bump_within {m b : Nat} {s t : State} (f : RF) (n : Nat) (hb : blockOf f.id = b) (hm : m.testBit b = true) (h : Within m s t) :
    Within m s (t.bump f n) := put_within f _ hb hm h

theorem bumpSat_within {m b : Nat} {s t : State} (f : RF) (n : Nat) (hb : blockOf f.id = b) (hm : m.testBit b = true) (h : Within m s t) :
    Within m s (t.bumpSat f n) := put_within f _ hb hm h

theorem raise_within {m b : Nat} {s t : State} (f : RF) (n : Nat) (hb : blockOf f.id = b) (hm : m.testBit b = true) (h : Within m s t) :
    Within m s (t.raise f n) := put_within f _ hb hm h

theorem drop_within {m b : Nat} {s t : State} (f : RF) (n : Nat) (hb : blockOf f.id = b) (hm : m.testBit b = true) (h : Within m s t) :
    Within m s (t.drop f n) := put_within f _ hb hm h

theorem every_block (k : Nat) : (0xFFFFFFFF : Nat).testBit (blockOf k) = true := by
  have h : blockOf k < 32 := Nat.mod_lt _ (by decide)
  interval_cases (blockOf k) <;> rfl

theorem every_block_of {m : Nat} (h : 0xFFFFFFFF &&& m = 0xFFFFFFFF) (k : Nat) : m.testBit (blockOf k) = true :=
  testBit_of_sub h (every_block k)

/-- A change of memory alone that keeps its canonical form. -/
theorem Within.memory {m : Nat} {s t : State} {l : List (Nat × Byte)} (hl : Sparse.wf 0 t.mem = true → Sparse.wf 0 l = true)
    (hm : m.testBit 35 = true) (h : Within m s t) : Within m s { t with mem := l } :=
  Within.step (a := m) (t := t)
    ⟨rfl, fun i => ⟨⟨hl i.canonical.mem, i.canonical.regs, i.canonical.nor, i.canonical.bezel⟩, ⟨i.recorder.store, i.recorder.hold, i.recorder.mirror⟩, i.cores⟩,
      fun _ _ => rfl, .inr rfl, .inr rfl, .inr rfl, .inl hm, .inr rfl, .inr rfl, .inr rfl, .inr rfl, .inr rfl, .inr rfl, .inr rfl,
      .inr rfl, .inr rfl, .inr rfl, .inr rfl, .inr rfl, .inr rfl, .inr rfl, .inr rfl⟩ (Nat.and_self m) h

/-- A change of the running cores alone that keeps each of them in canonical form. -/
theorem Within.cores_ {m : Nat} {s t : State} {l : List (Nat × Core)} (hl : t.Inv → ∀ c k, Sparse.find l c = some k → k.Canonical)
    (hm : m.testBit 36 = true) (h : Within m s t) : Within m s { t with cores := l } :=
  Within.step (a := m) (t := t)
    ⟨rfl, fun i => ⟨⟨i.canonical.mem, i.canonical.regs, i.canonical.nor, i.canonical.bezel⟩, ⟨i.recorder.store, i.recorder.hold, i.recorder.mirror⟩, hl i⟩,
      fun _ _ => rfl, .inr rfl, .inr rfl, .inr rfl, .inr rfl, .inl hm, .inr rfl, .inr rfl, .inr rfl, .inr rfl, .inr rfl, .inr rfl, .inr rfl,
      .inr rfl, .inr rfl, .inr rfl, .inr rfl, .inr rfl, .inr rfl, .inr rfl⟩ (Nat.and_self m) h

/-- A core set to one in canonical form. -/
theorem setCore_within {m : Nat} {s t : State} (c : Nat) (k : Core) (hk : t.Inv → k.Canonical) (hm : m.testBit 36 = true) (h : Within m s t) :
    Within m s (t.setCore c k) := by
  refine Within.cores_ (fun i d x hx => ?_) hm h
  rw [Sparse.find_put] at hx
  split at hx
  · cases hx; exact hk i
  · exact i.cores d x hx

/-- A change of what the management unit holds that keeps its canonical forms. -/
theorem Within.management {m : Nat} {s t : State} {g : Mgt} (hn : Sparse.wf 0xFF t.mgt.nor = true → Sparse.wf 0xFF g.nor = true)
    (hb : Sparse.wf 0 t.mgt.bezel = true → Sparse.wf 0 g.bezel = true) (hm : m.testBit 47 = true) (h : Within m s t) : Within m s { t with mgt := g } :=
  Within.step (a := m) (t := t)
    ⟨rfl, fun i => ⟨⟨i.canonical.mem, i.canonical.regs, hn i.canonical.nor, hb i.canonical.bezel⟩, ⟨i.recorder.store, i.recorder.hold, i.recorder.mirror⟩, i.cores⟩,
      fun _ _ => rfl, .inr rfl, .inr rfl, .inr rfl, .inr rfl, .inr rfl, .inr rfl, .inr rfl, .inr rfl, .inr rfl, .inr rfl, .inr rfl,
      .inr rfl, .inr rfl, .inr rfl, .inr rfl, .inl hm, .inr rfl, .inr rfl, .inr rfl⟩ (Nat.and_self m) h

/-- A change of the recorder alone that keeps its bounds. -/
theorem Within.recorder {m : Nat} {s t : State} {r : Recorder} (hs : t.RecorderBounded → r.store.length ≤ storeSlots)
    (hh : t.RecorderBounded → r.hold.length ≤ holdSlots) (hmi : t.RecorderBounded → r.mirror.length ≤ storeSlots) (hm : m.testBit 37 = true) (h : Within m s t) : Within m s { t with rec_ := r } :=
  Within.step (a := m) (t := t)
    ⟨rfl, fun i => ⟨⟨i.canonical.mem, i.canonical.regs, i.canonical.nor, i.canonical.bezel⟩, ⟨hs i.recorder, hh i.recorder, hmi i.recorder⟩, i.cores⟩,
      fun _ _ => rfl, .inr rfl, .inr rfl, .inr rfl, .inr rfl, .inr rfl, .inl hm, .inr rfl, .inr rfl, .inr rfl, .inr rfl, .inr rfl,
      .inr rfl, .inr rfl, .inr rfl, .inr rfl, .inr rfl, .inr rfl, .inr rfl, .inr rfl⟩ (Nat.and_self m) h

theorem length_eraseFirst_le {α : Type} (p : α → Bool) (l : List α) : (eraseFirst p l).length ≤ l.length := by
  induction l with
  | nil => rfl
  | cons a r ih => unfold eraseFirst; split <;> simp [ih]

theorem length_eraseFirst_lt {α : Type} {p : α → Bool} {l : List α} (h : l.any p = true) : (eraseFirst p l).length < l.length := by
  induction l with
  | nil => cases h
  | cons a r ih =>
    unfold eraseFirst
    split
    · simp
    · simp only [List.any_cons, Bool.or_eq_true] at h
      rcases h with h | h
      · exact absurd h ‹_›
      · simpa using ih h

/-- A change of the registers that leaves only those of some blocks out. -/
theorem Within.registers {m : Nat} {s t : State} (keep : Nat → Bool) (hk : ∀ k, m.testBit (blockOf k) = false → keep k = true) (h : Within m s t) :
    Within m s { t with regs := t.regs.filter (fun p => keep p.1) } :=
  Within.step (a := m) (t := t)
    ⟨rfl, fun i => ⟨⟨i.canonical.mem, Sparse.wfFrom_filter _ i.canonical.regs, i.canonical.nor, i.canonical.bezel⟩,
        ⟨i.recorder.store, i.recorder.hold, i.recorder.mirror⟩, i.cores⟩,
      fun k hb => by rw [Sparse.get_filter 0 keep, hk k hb]; rfl, .inr rfl, .inr rfl, .inr rfl, .inr rfl, .inr rfl, .inr rfl, .inr rfl, .inr rfl, .inr rfl,
      .inr rfl, .inr rfl, .inr rfl, .inr rfl, .inr rfl, .inr rfl, .inr rfl, .inr rfl, .inr rfl, .inr rfl⟩ (Nat.and_self m) h

end Sys2Proof.Machine
end

