-- ==== Sys2Proof/Laws/Regs.lean ====
section
/-! SUPPORT. The block of every numbered register that an operation writes. -/

namespace Sys2Proof.Machine

set_option Elab.async false

theorem F.CORE_CMD_CMD_ID_block (i : Nat) : blockOf (F.CORE_CMD_CMD_ID i).id = 2 := by simp only [F.CORE_CMD_CMD_ID, blockOf]; omega
theorem F.CORE_CMD_COUNT_COMMITS_block (i : Nat) : blockOf (F.CORE_CMD_COUNT_COMMITS i).id = 2 := by simp only [F.CORE_CMD_COUNT_COMMITS, blockOf]; omega
theorem F.CORE_CMD_REQ_LOW_block (i : Nat) : blockOf (F.CORE_CMD_REQ_LOW i).id = 2 := by simp only [F.CORE_CMD_REQ_LOW, blockOf]; omega
theorem F.CORE_CTL_RETIRE_block (i : Nat) : blockOf (F.CORE_CTL_RETIRE i).id = 2 := by simp only [F.CORE_CTL_RETIRE, blockOf]; omega
theorem F.CORE_FAULT_DETAIL_block (i : Nat) : blockOf (F.CORE_FAULT_DETAIL i).id = 2 := by simp only [F.CORE_FAULT_DETAIL, blockOf]; omega
theorem F.CORE_FAULT_KIND_block (i : Nat) : blockOf (F.CORE_FAULT_KIND i).id = 2 := by simp only [F.CORE_FAULT_KIND, blockOf]; omega
theorem F.CORE_FAULT_VALID_block (i : Nat) : blockOf (F.CORE_FAULT_VALID i).id = 2 := by simp only [F.CORE_FAULT_VALID, blockOf]; omega
theorem F.CORE_HOLD_BEATS_block (i j : Nat) : blockOf (F.CORE_HOLD_BEATS i j).id = 2 := by simp only [F.CORE_HOLD_BEATS, blockOf]; omega
theorem F.CORE_KILL_COUNT_FAULT_KILLS_block (i : Nat) : blockOf (F.CORE_KILL_COUNT_FAULT_KILLS i).id = 2 := by simp only [F.CORE_KILL_COUNT_FAULT_KILLS, blockOf]; omega
theorem F.CORE_KILL_COUNT_YIELD_KILLS_block (i : Nat) : blockOf (F.CORE_KILL_COUNT_YIELD_KILLS i).id = 2 := by simp only [F.CORE_KILL_COUNT_YIELD_KILLS, blockOf]; omega
theorem F.CORE_STAT_EXTERNAL_block (i : Nat) : blockOf (F.CORE_STAT_EXTERNAL i).id = 2 := by simp only [F.CORE_STAT_EXTERNAL, blockOf]; omega
theorem F.CORE_STAT_SERVICE_block (i : Nat) : blockOf (F.CORE_STAT_SERVICE i).id = 2 := by simp only [F.CORE_STAT_SERVICE, blockOf]; omega
theorem F.CORE_STAT_STATE_block (i : Nat) : blockOf (F.CORE_STAT_STATE i).id = 2 := by simp only [F.CORE_STAT_STATE, blockOf]; omega
theorem F.CORE_STAT_TID_block (i : Nat) : blockOf (F.CORE_STAT_TID i).id = 2 := by simp only [F.CORE_STAT_TID, blockOf]; omega
theorem F.CORE_STAT_YIELD_PENDING_block (i : Nat) : blockOf (F.CORE_STAT_YIELD_PENDING i).id = 2 := by simp only [F.CORE_STAT_YIELD_PENDING, blockOf]; omega
theorem F.CSU_HIDDEN_RECORDS_block (i : Nat) : blockOf (F.CSU_HIDDEN_RECORDS i).id = 11 := by simp only [F.CSU_HIDDEN_RECORDS, blockOf]; omega
theorem F.CSU_NAN_COUNT_block (i : Nat) : blockOf (F.CSU_NAN_COUNT i).id = 11 := by simp only [F.CSU_NAN_COUNT, blockOf]; omega
theorem F.CSU_PASSED_RECORDS_block (i : Nat) : blockOf (F.CSU_PASSED_RECORDS i).id = 11 := by simp only [F.CSU_PASSED_RECORDS, blockOf]; omega
theorem F.CSU_PROG_COST_COST_block (i : Nat) : blockOf (F.CSU_PROG_COST_COST i).id = 11 := by simp only [F.CSU_PROG_COST_COST, blockOf]; omega
theorem F.CSU_PROG_COST_USES_A_block (i : Nat) : blockOf (F.CSU_PROG_COST_USES_A i).id = 11 := by simp only [F.CSU_PROG_COST_USES_A, blockOf]; omega
theorem F.CSU_PROG_COST_USES_B_block (i : Nat) : blockOf (F.CSU_PROG_COST_USES_B i).id = 11 := by simp only [F.CSU_PROG_COST_USES_B, blockOf]; omega
theorem F.CSU_PROG_COST_USES_BITMAP_block (i : Nat) : blockOf (F.CSU_PROG_COST_USES_BITMAP i).id = 11 := by simp only [F.CSU_PROG_COST_USES_BITMAP, blockOf]; omega
theorem F.CSU_PROG_COST_USES_NUM_block (i : Nat) : blockOf (F.CSU_PROG_COST_USES_NUM i).id = 11 := by simp only [F.CSU_PROG_COST_USES_NUM, blockOf]; omega
theorem F.CSU_PROG_COST_USES_QCODE_block (i : Nat) : blockOf (F.CSU_PROG_COST_USES_QCODE i).id = 11 := by simp only [F.CSU_PROG_COST_USES_QCODE, blockOf]; omega
theorem F.CSU_RECORDS_RECORDS_block (i : Nat) : blockOf (F.CSU_RECORDS_RECORDS i).id = 11 := by simp only [F.CSU_RECORDS_RECORDS, blockOf]; omega
theorem F.CSU_SLOW_BYTES_block (i : Nat) : blockOf (F.CSU_SLOW_BYTES i).id = 11 := by simp only [F.CSU_SLOW_BYTES, blockOf]; omega
theorem F.CSU_STAT_CTX_USED_block (i : Nat) : blockOf (F.CSU_STAT_CTX_USED i).id = 11 := by simp only [F.CSU_STAT_CTX_USED, blockOf]; omega
theorem F.DSP_RING_PTR_HEAD_block (i : Nat) : blockOf (F.DSP_RING_PTR_HEAD i).id = 1 := by simp only [F.DSP_RING_PTR_HEAD, blockOf]; omega
theorem F.DSP_RING_PTR_TAIL_block (i : Nat) : blockOf (F.DSP_RING_PTR_TAIL i).id = 1 := by simp only [F.DSP_RING_PTR_TAIL, blockOf]; omega
theorem F.DSP_TNT_CFG_ENABLED_block (i : Nat) : blockOf (F.DSP_TNT_CFG_ENABLED i).id = 1 := by simp only [F.DSP_TNT_CFG_ENABLED, blockOf]; omega
theorem F.DSP_TNT_STAT_CREDITS_block (i : Nat) : blockOf (F.DSP_TNT_STAT_CREDITS i).id = 1 := by simp only [F.DSP_TNT_STAT_CREDITS, blockOf]; omega
theorem F.DSP_TNT_STAT_DEBT_US_block (i : Nat) : blockOf (F.DSP_TNT_STAT_DEBT_US i).id = 1 := by simp only [F.DSP_TNT_STAT_DEBT_US, blockOf]; omega
theorem F.EDG_ISL_STAT_CLK_RUN_block (i : Nat) : blockOf (F.EDG_ISL_STAT_CLK_RUN i).id = 18 := by simp only [F.EDG_ISL_STAT_CLK_RUN, blockOf]; omega
theorem F.EDG_ISL_STAT_IN_RESET_block (i : Nat) : blockOf (F.EDG_ISL_STAT_IN_RESET i).id = 18 := by simp only [F.EDG_ISL_STAT_IN_RESET, blockOf]; omega
theorem F.EDG_ISL_STAT_STATE_block (i : Nat) : blockOf (F.EDG_ISL_STAT_STATE i).id = 18 := by simp only [F.EDG_ISL_STAT_STATE, blockOf]; omega
theorem F.EDG_ISL_STAT_WAKE_COUNT_block (i : Nat) : blockOf (F.EDG_ISL_STAT_WAKE_COUNT i).id = 18 := by simp only [F.EDG_ISL_STAT_WAKE_COUNT, blockOf]; omega
theorem F.EDG_ISL_STAT_WAKE_MAX_block (i : Nat) : blockOf (F.EDG_ISL_STAT_WAKE_MAX i).id = 18 := by simp only [F.EDG_ISL_STAT_WAKE_MAX, blockOf]; omega
theorem F.EVR_CURSOR_SEQ_block (i : Nat) : blockOf (F.EVR_CURSOR_SEQ i).id = 23 := by simp only [F.EVR_CURSOR_SEQ, blockOf]; omega
theorem F.EVR_REC_WORD_block (i j : Nat) : blockOf (F.EVR_REC_WORD i j).id = 23 := by simp only [F.EVR_REC_WORD, blockOf]; omega
theorem F.FCT_CTL_DRAIN_block (i : Nat) : blockOf (F.FCT_CTL_DRAIN i).id = 3 := by simp only [F.FCT_CTL_DRAIN, blockOf]; omega
theorem F.FCT_PORT_BYTES_BYTES_block (i : Nat) : blockOf (F.FCT_PORT_BYTES_BYTES i).id = 3 := by simp only [F.FCT_PORT_BYTES_BYTES, blockOf]; omega
theorem F.FCT_PORT_WAIT_BEATS_block (i : Nat) : blockOf (F.FCT_PORT_WAIT_BEATS i).id = 3 := by simp only [F.FCT_PORT_WAIT_BEATS, blockOf]; omega
theorem F.FTB_DROPPED_GATHERS_block (i : Nat) : blockOf (F.FTB_DROPPED_GATHERS i).id = 13 := by simp only [F.FTB_DROPPED_GATHERS, blockOf]; omega
theorem F.FTB_DROPPED_UPDATES_block (i : Nat) : blockOf (F.FTB_DROPPED_UPDATES i).id = 13 := by simp only [F.FTB_DROPPED_UPDATES, blockOf]; omega
theorem F.FTB_GATHER_GATHERS_block (i : Nat) : blockOf (F.FTB_GATHER_GATHERS i).id = 13 := by simp only [F.FTB_GATHER_GATHERS, blockOf]; omega
theorem F.FTB_GATHER_UNIQUE_block (i : Nat) : blockOf (F.FTB_GATHER_UNIQUE i).id = 13 := by simp only [F.FTB_GATHER_UNIQUE, blockOf]; omega
theorem F.FTB_MIG_ABORTS_block (i : Nat) : blockOf (F.FTB_MIG_ABORTS i).id = 13 := by simp only [F.FTB_MIG_ABORTS, blockOf]; omega
theorem F.FTB_MIG_DEMOTED_block (i : Nat) : blockOf (F.FTB_MIG_DEMOTED i).id = 13 := by simp only [F.FTB_MIG_DEMOTED, blockOf]; omega
theorem F.FTB_MIG_PROMOTED_block (i : Nat) : blockOf (F.FTB_MIG_PROMOTED i).id = 13 := by simp only [F.FTB_MIG_PROMOTED, blockOf]; omega
theorem F.FTB_SAT_COUNT_block (i : Nat) : blockOf (F.FTB_SAT_COUNT i).id = 13 := by simp only [F.FTB_SAT_COUNT, blockOf]; omega
theorem F.GEN_KV_EXHAUSTED_block (i : Nat) : blockOf (F.GEN_KV_EXHAUSTED i).id = 15 := by simp only [F.GEN_KV_EXHAUSTED, blockOf]; omega
theorem F.GEN_KV_RECOMPUTED_block (i : Nat) : blockOf (F.GEN_KV_RECOMPUTED i).id = 15 := by simp only [F.GEN_KV_RECOMPUTED, blockOf]; omega
theorem F.GEN_PASSES_COUNT_block (i : Nat) : blockOf (F.GEN_PASSES_COUNT i).id = 15 := by simp only [F.GEN_PASSES_COUNT, blockOf]; omega
theorem F.GEN_ROWS_DECODE_block (i : Nat) : blockOf (F.GEN_ROWS_DECODE i).id = 15 := by simp only [F.GEN_ROWS_DECODE, blockOf]; omega
theorem F.GEN_ROWS_PREFILL_block (i : Nat) : blockOf (F.GEN_ROWS_PREFILL i).id = 15 := by simp only [F.GEN_ROWS_PREFILL, blockOf]; omega
theorem F.GEN_SAMPLE_CUT_MAX_block (i : Nat) : blockOf (F.GEN_SAMPLE_CUT_MAX i).id = 15 := by simp only [F.GEN_SAMPLE_CUT_MAX, blockOf]; omega
theorem F.GEN_SAMPLE_TOKENS_block (i : Nat) : blockOf (F.GEN_SAMPLE_TOKENS i).id = 15 := by simp only [F.GEN_SAMPLE_TOKENS, blockOf]; omega
theorem F.GEN_SPEC_ACCEPTED_block (i : Nat) : blockOf (F.GEN_SPEC_ACCEPTED i).id = 15 := by simp only [F.GEN_SPEC_ACCEPTED, blockOf]; omega
theorem F.GEN_SPEC_OFFERED_block (i : Nat) : blockOf (F.GEN_SPEC_OFFERED i).id = 15 := by simp only [F.GEN_SPEC_OFFERED, blockOf]; omega
theorem F.GEO_BAY_LDPC_FAILED_block (i : Nat) : blockOf (F.GEO_BAY_LDPC_FAILED i).id = 10 := by simp only [F.GEO_BAY_LDPC_FAILED, blockOf]; omega
theorem F.GEO_BAY_LDPC_SOFT_block (i : Nat) : blockOf (F.GEO_BAY_LDPC_SOFT i).id = 10 := by simp only [F.GEO_BAY_LDPC_SOFT, blockOf]; omega
theorem F.GEO_BAY_SERIAL_SERIAL_block (i : Nat) : blockOf (F.GEO_BAY_SERIAL_SERIAL i).id = 10 := by simp only [F.GEO_BAY_SERIAL_SERIAL, blockOf]; omega
theorem F.GEO_BAY_STAT_PRESENT_block (i : Nat) : blockOf (F.GEO_BAY_STAT_PRESENT i).id = 10 := by simp only [F.GEO_BAY_STAT_PRESENT, blockOf]; omega
theorem F.GEO_BAY_STAT_REASON_block (i : Nat) : blockOf (F.GEO_BAY_STAT_REASON i).id = 10 := by simp only [F.GEO_BAY_STAT_REASON, blockOf]; omega
theorem F.GEO_BAY_STAT_STATE_block (i : Nat) : blockOf (F.GEO_BAY_STAT_STATE i).id = 10 := by simp only [F.GEO_BAY_STAT_STATE, blockOf]; omega
theorem F.GEO_BAY_WEAR_LIFE_USED_block (i : Nat) : blockOf (F.GEO_BAY_WEAR_LIFE_USED i).id = 10 := by simp only [F.GEO_BAY_WEAR_LIFE_USED, blockOf]; omega
theorem F.GEO_BAY_WEAR_PROGRAMMED_GB_block (i : Nat) : blockOf (F.GEO_BAY_WEAR_PROGRAMMED_GB i).id = 10 := by simp only [F.GEO_BAY_WEAR_PROGRAMMED_GB, blockOf]; omega
theorem F.GEO_BAY_WEAR_SPARE_PCT_block (i : Nat) : blockOf (F.GEO_BAY_WEAR_SPARE_PCT i).id = 10 := by simp only [F.GEO_BAY_WEAR_SPARE_PCT, blockOf]; omega
theorem F.GEO_CH_STAT_Q1_block (i : Nat) : blockOf (F.GEO_CH_STAT_Q1 i).id = 10 := by simp only [F.GEO_CH_STAT_Q1, blockOf]; omega
theorem F.GEO_CH_STAT_Q2_block (i : Nat) : blockOf (F.GEO_CH_STAT_Q2 i).id = 10 := by simp only [F.GEO_CH_STAT_Q2, blockOf]; omega
theorem F.GEO_CH_STAT_Q3_block (i : Nat) : blockOf (F.GEO_CH_STAT_Q3 i).id = 10 := by simp only [F.GEO_CH_STAT_Q3, blockOf]; omega
theorem F.GEO_CH_STAT_STATE_block (i : Nat) : blockOf (F.GEO_CH_STAT_STATE i).id = 10 := by simp only [F.GEO_CH_STAT_STATE, blockOf]; omega
theorem F.HBM_BYTES_BYTES_block (i : Nat) : blockOf (F.HBM_BYTES_BYTES i).id = 9 := by simp only [F.HBM_BYTES_BYTES, blockOf]; omega
theorem F.HBM_CE_COUNT_block (i : Nat) : blockOf (F.HBM_CE_COUNT i).id = 9 := by simp only [F.HBM_CE_COUNT, blockOf]; omega
theorem F.HBM_CTL_RETIRE_block (i : Nat) : blockOf (F.HBM_CTL_RETIRE i).id = 9 := by simp only [F.HBM_CTL_RETIRE, blockOf]; omega
theorem F.HBM_ERR_ADDR_LINE_block (i : Nat) : blockOf (F.HBM_ERR_ADDR_LINE i).id = 9 := by simp only [F.HBM_ERR_ADDR_LINE, blockOf]; omega
theorem F.HBM_ERR_ADDR_VALID_block (i : Nat) : blockOf (F.HBM_ERR_ADDR_VALID i).id = 9 := by simp only [F.HBM_ERR_ADDR_VALID, blockOf]; omega
theorem F.HBM_STAT_STATE_block (i : Nat) : blockOf (F.HBM_STAT_STATE i).id = 9 := by simp only [F.HBM_STAT_STATE, blockOf]; omega
theorem F.HBM_UE_COUNT_block (i : Nat) : blockOf (F.HBM_UE_COUNT i).id = 9 := by simp only [F.HBM_UE_COUNT, blockOf]; omega
theorem F.IDX_PIN_WAIT_COUNT_block (i : Nat) : blockOf (F.IDX_PIN_WAIT_COUNT i).id = 12 := by simp only [F.IDX_PIN_WAIT_COUNT, blockOf]; omega
theorem F.IDX_TUNE_AUTO_FOLD_PCT_block (i : Nat) : blockOf (F.IDX_TUNE_AUTO_FOLD_PCT i).id = 12 := by simp only [F.IDX_TUNE_AUTO_FOLD_PCT, blockOf]; omega
theorem F.KTR_LINK_ERR_MACSEC_DROP_block (i : Nat) : blockOf (F.KTR_LINK_ERR_MACSEC_DROP i).id = 16 := by simp only [F.KTR_LINK_ERR_MACSEC_DROP, blockOf]; omega
theorem F.KTR_LINK_ERR_RETX_block (i : Nat) : blockOf (F.KTR_LINK_ERR_RETX i).id = 16 := by simp only [F.KTR_LINK_ERR_RETX, blockOf]; omega
theorem F.KTR_PORT_STAT_LINK_block (i : Nat) : blockOf (F.KTR_PORT_STAT_LINK i).id = 16 := by simp only [F.KTR_PORT_STAT_LINK, blockOf]; omega
theorem F.KTR_PORT_STAT_MACSEC_UP_block (i : Nat) : blockOf (F.KTR_PORT_STAT_MACSEC_UP i).id = 16 := by simp only [F.KTR_PORT_STAT_MACSEC_UP, blockOf]; omega
theorem F.KTR_PORT_STAT_PTP_LOCKED_block (i : Nat) : blockOf (F.KTR_PORT_STAT_PTP_LOCKED i).id = 16 := by simp only [F.KTR_PORT_STAT_PTP_LOCKED, blockOf]; omega
theorem F.KTR_PORT_TIME_NS_block (i : Nat) : blockOf (F.KTR_PORT_TIME_NS i).id = 16 := by simp only [F.KTR_PORT_TIME_NS, blockOf]; omega
theorem F.KTR_PTP_STAT_OFFSET_NS_block (i : Nat) : blockOf (F.KTR_PTP_STAT_OFFSET_NS i).id = 16 := by simp only [F.KTR_PTP_STAT_OFFSET_NS, blockOf]; omega
theorem F.KTR_PTP_STAT_PATH_NS_block (i : Nat) : blockOf (F.KTR_PTP_STAT_PATH_NS i).id = 16 := by simp only [F.KTR_PTP_STAT_PATH_NS, blockOf]; omega
theorem F.KTR_RX_BYTES_BYTES_block (i : Nat) : blockOf (F.KTR_RX_BYTES_BYTES i).id = 16 := by simp only [F.KTR_RX_BYTES_BYTES, blockOf]; omega
theorem F.KTR_TX_BYTES_BYTES_block (i : Nat) : blockOf (F.KTR_TX_BYTES_BYTES i).id = 16 := by simp only [F.KTR_TX_BYTES_BYTES, blockOf]; omega
theorem F.MX_DRAIN_ROWS_block (i : Nat) : blockOf (F.MX_DRAIN_ROWS i).id = 4 := by simp only [F.MX_DRAIN_ROWS, blockOf]; omega
theorem F.MX_LAST_ROWS_block (i : Nat) : blockOf (F.MX_LAST_ROWS i).id = 4 := by simp only [F.MX_LAST_ROWS, blockOf]; omega
theorem F.MX_LAST_TILES_block (i : Nat) : blockOf (F.MX_LAST_TILES i).id = 4 := by simp only [F.MX_LAST_TILES, blockOf]; omega
theorem F.MX_ROWS_ROWS_block (i : Nat) : blockOf (F.MX_ROWS_ROWS i).id = 4 := by simp only [F.MX_ROWS_ROWS, blockOf]; omega
theorem F.MX_STAT_ACC_SPECIAL_block (i : Nat) : blockOf (F.MX_STAT_ACC_SPECIAL i).id = 4 := by simp only [F.MX_STAT_ACC_SPECIAL, blockOf]; omega
theorem F.MX_STAT_ACTIVE_PAIRING_block (i : Nat) : blockOf (F.MX_STAT_ACTIVE_PAIRING i).id = 4 := by simp only [F.MX_STAT_ACTIVE_PAIRING, blockOf]; omega
theorem F.MX_STAT_SHADOW_FULL_block (i : Nat) : blockOf (F.MX_STAT_SHADOW_FULL i).id = 4 := by simp only [F.MX_STAT_SHADOW_FULL, blockOf]; omega
theorem F.MX_STAT_SHADOW_PAIRING_block (i : Nat) : blockOf (F.MX_STAT_SHADOW_PAIRING i).id = 4 := by simp only [F.MX_STAT_SHADOW_PAIRING, blockOf]; omega
theorem F.MX_TILES_DISCARDED_LOADS_block (i : Nat) : blockOf (F.MX_TILES_DISCARDED_LOADS i).id = 4 := by simp only [F.MX_TILES_DISCARDED_LOADS, blockOf]; omega
theorem F.MX_TILES_LOADS_block (i : Nat) : blockOf (F.MX_TILES_LOADS i).id = 4 := by simp only [F.MX_TILES_LOADS, blockOf]; omega
theorem F.MX_TILE_WAIT_ARRAY_BEATS_block (i : Nat) : blockOf (F.MX_TILE_WAIT_ARRAY_BEATS i).id = 4 := by simp only [F.MX_TILE_WAIT_ARRAY_BEATS, blockOf]; omega
theorem F.MX_ZERO_ACT_ELEMS_block (i : Nat) : blockOf (F.MX_ZERO_ACT_ELEMS i).id = 4 := by simp only [F.MX_ZERO_ACT_ELEMS, blockOf]; omega
theorem F.MX_ZERO_WT_ELEMS_block (i : Nat) : blockOf (F.MX_ZERO_WT_ELEMS i).id = 4 := by simp only [F.MX_ZERO_WT_ELEMS, blockOf]; omega
theorem F.ONX_MEAS_VALUE_block (i j : Nat) : blockOf (F.ONX_MEAS_VALUE i j).id = 21 := by simp only [F.ONX_MEAS_VALUE, blockOf]; omega
theorem F.ONX_SLOT_KCV_KCV_block (i : Nat) : blockOf (F.ONX_SLOT_KCV_KCV i).id = 21 := by simp only [F.ONX_SLOT_KCV_KCV, blockOf]; omega
theorem F.ONX_SLOT_STAT_GENERATED_block (i : Nat) : blockOf (F.ONX_SLOT_STAT_GENERATED i).id = 21 := by simp only [F.ONX_SLOT_STAT_GENERATED, blockOf]; omega
theorem F.ONX_SLOT_STAT_STATE_block (i : Nat) : blockOf (F.ONX_SLOT_STAT_STATE i).id = 21 := by simp only [F.ONX_SLOT_STAT_STATE, blockOf]; omega
theorem F.QNT_CONV_ELEMS_block (i : Nat) : blockOf (F.QNT_CONV_ELEMS i).id = 5 := by simp only [F.QNT_CONV_ELEMS, blockOf]; omega
theorem F.QNT_DEGEN_COUNT_block (i : Nat) : blockOf (F.QNT_DEGEN_COUNT i).id = 5 := by simp only [F.QNT_DEGEN_COUNT, blockOf]; omega
theorem F.QNT_DRAWS_DRAWS_block (i : Nat) : blockOf (F.QNT_DRAWS_DRAWS i).id = 5 := by simp only [F.QNT_DRAWS_DRAWS, blockOf]; omega
theorem F.QNT_LAST_DEGEN_block (i : Nat) : blockOf (F.QNT_LAST_DEGEN i).id = 5 := by simp only [F.QNT_LAST_DEGEN, blockOf]; omega
theorem F.QNT_LAST_NAN_block (i : Nat) : blockOf (F.QNT_LAST_NAN i).id = 5 := by simp only [F.QNT_LAST_NAN, blockOf]; omega
theorem F.QNT_LAST_SAT_block (i : Nat) : blockOf (F.QNT_LAST_SAT i).id = 5 := by simp only [F.QNT_LAST_SAT, blockOf]; omega
theorem F.QNT_NAN_COUNT_block (i : Nat) : blockOf (F.QNT_NAN_COUNT i).id = 5 := by simp only [F.QNT_NAN_COUNT, blockOf]; omega
theorem F.QNT_SAT_COUNT_block (i : Nat) : blockOf (F.QNT_SAT_COUNT i).id = 5 := by simp only [F.QNT_SAT_COUNT, blockOf]; omega
theorem F.RAS_COUNT_CE_block (i : Nat) : blockOf (F.RAS_COUNT_CE i).id = 20 := by simp only [F.RAS_COUNT_CE, blockOf]; omega
theorem F.RAS_COUNT_UE_block (i : Nat) : blockOf (F.RAS_COUNT_UE i).id = 20 := by simp only [F.RAS_COUNT_UE, blockOf]; omega
theorem F.RAS_D2D_RETRAINS_block (i : Nat) : blockOf (F.RAS_D2D_RETRAINS i).id = 20 := by simp only [F.RAS_D2D_RETRAINS, blockOf]; omega
theorem F.RAS_D2D_RETRIES_block (i : Nat) : blockOf (F.RAS_D2D_RETRIES i).id = 20 := by simp only [F.RAS_D2D_RETRIES, blockOf]; omega
theorem F.RAS_D2D_STATE_block (i : Nat) : blockOf (F.RAS_D2D_STATE i).id = 20 := by simp only [F.RAS_D2D_STATE, blockOf]; omega
theorem F.SEL_COUNT_SELK_block (i : Nat) : blockOf (F.SEL_COUNT_SELK i).id = 6 := by simp only [F.SEL_COUNT_SELK, blockOf]; omega
theorem F.SEL_COUNT_SELT_block (i : Nat) : blockOf (F.SEL_COUNT_SELT i).id = 6 := by simp only [F.SEL_COUNT_SELT, blockOf]; omega
theorem F.SEL_ELEMS_ELEMS_block (i : Nat) : blockOf (F.SEL_ELEMS_ELEMS i).id = 6 := by simp only [F.SEL_ELEMS_ELEMS, blockOf]; omega
theorem F.SEL_LAST_BEATS_block (i : Nat) : blockOf (F.SEL_LAST_BEATS i).id = 6 := by simp only [F.SEL_LAST_BEATS, blockOf]; omega
theorem F.SEL_LAST_READS_block (i : Nat) : blockOf (F.SEL_LAST_READS i).id = 6 := by simp only [F.SEL_LAST_READS, blockOf]; omega
theorem F.SEL_NAN_COUNT_block (i : Nat) : blockOf (F.SEL_NAN_COUNT i).id = 6 := by simp only [F.SEL_NAN_COUNT, blockOf]; omega
theorem F.SEL_REREAD_BEATS_block (i : Nat) : blockOf (F.SEL_REREAD_BEATS i).id = 6 := by simp only [F.SEL_REREAD_BEATS, blockOf]; omega
theorem F.SEL_VEC_BEATS_BEATS_block (i : Nat) : blockOf (F.SEL_VEC_BEATS_BEATS i).id = 6 := by simp only [F.SEL_VEC_BEATS_BEATS, blockOf]; omega
theorem F.SEL_VEC_FN_BEATS_block (i : Nat) : blockOf (F.SEL_VEC_FN_BEATS i).id = 6 := by simp only [F.SEL_VEC_FN_BEATS, blockOf]; omega
theorem F.SHP_GATE_ACTIVE_COUNT_block (i : Nat) : blockOf (F.SHP_GATE_ACTIVE_COUNT i).id = 17 := by simp only [F.SHP_GATE_ACTIVE_COUNT, blockOf]; omega
theorem F.SHP_GATE_ACTIVE_CYCLE_NS_block (i : Nat) : blockOf (F.SHP_GATE_ACTIVE_CYCLE_NS i).id = 17 := by simp only [F.SHP_GATE_ACTIVE_CYCLE_NS, blockOf]; omega
theorem F.SHP_GATE_BASE_BASE_TIME_block (i : Nat) : blockOf (F.SHP_GATE_BASE_BASE_TIME i).id = 17 := by simp only [F.SHP_GATE_BASE_BASE_TIME, blockOf]; omega
theorem F.SHP_GATE_CTL_COUNT_block (i : Nat) : blockOf (F.SHP_GATE_CTL_COUNT i).id = 17 := by simp only [F.SHP_GATE_CTL_COUNT, blockOf]; omega
theorem F.SHP_GATE_CTL_PENDING_block (i : Nat) : blockOf (F.SHP_GATE_CTL_PENDING i).id = 17 := by simp only [F.SHP_GATE_CTL_PENDING, blockOf]; omega
theorem F.SHP_GATE_ENTRY_ACTIVE_GATES_block (i j : Nat) : blockOf (F.SHP_GATE_ENTRY_ACTIVE_GATES i j).id = 17 := by simp only [F.SHP_GATE_ENTRY_ACTIVE_GATES, blockOf]; omega
theorem F.SHP_GATE_ENTRY_ACTIVE_INTERVAL_block (i j : Nat) : blockOf (F.SHP_GATE_ENTRY_ACTIVE_INTERVAL i j).id = 17 := by simp only [F.SHP_GATE_ENTRY_ACTIVE_INTERVAL, blockOf]; omega

end Sys2Proof.Machine
end

