-- ==== Sys2Proof/Laws/Ops.lean ====
section
/-! SUPPORT. What each operation of Machine/Ops.lean can change (`Within`, Laws/Within.lean). -/

namespace Sys2Proof.Machine

set_option Elab.async false

theorem State.tick_within (s a1) : Within 0x800002 s (State.tick s a1) :=
  bump_within _ _ rfl rfl (put_within _ _ rfl rfl .refl)

/-- The register field of an update. -/
def Upd.field : Upd → RF
  | .add f _ => f
  | .set f _ => f

theorem State.update_within {m : Nat} {s t : State} (u : Upd) (hb : m.testBit (blockOf u.field.id) = true) (h : Within m s t) :
    Within m s (t.update u) := by
  cases u with
  | add f n => exact bump_within f n rfl hb h
  | set f n => exact put_within f n rfl hb h

theorem State.boundary_within (s a1 a2) : Within 0x2ffffffff s (State.boundary s a1 a2) := by
  unfold State.boundary
  exact Within.update (Within.foldl _ (fun s w => put_within _ _ rfl (every_block_of (m := 0x2ffffffff) rfl _) .refl) .refl) rfl

theorem State.draw_within (s) : Within 0x100000000 s (State.draw s).2 := by
  unfold State.draw
  try dsimp only
  repeat' first
    | with_reducible apply Within.refl
    | with_reducible refine Within.update ?_ rfl

theorem Within.recordStored {m : Nat} {s t : State} (l : List EvRec) (r : EvRec) (n : Nat) (hl : t.RecorderBounded → l.length < storeSlots)
    (hm : m.testBit 37 = true) (hb : m.testBit 23 = true) (h : Within m s t) :
    Within m s (({ t with rec_ := { t.rec_ with store := l ++ [r] } } : State).put F.EVR_SEQ_NEXT n) :=
  put_within _ _ rfl hb (Within.recorder (fun i => by rw [List.length_append]; exact hl i) (fun i => i.hold) (fun i => i.mirror) hm h)

theorem State.enter_within (s a1) : Within 0x2000800000 s (State.enter s a1) := by
  unfold State.enter
  dsimp only
  split
  · exact Within.recordStored _ _ _ (fun _ => ‹_›) rfl rfl .refl
  · split
    · exact Within.recordStored _ _ _ (fun i => (length_eraseFirst_lt ‹_›).trans_le i.store) rfl rfl .refl
    · split
      · exact Within.recordStored _ _ _ (fun i => (length_eraseFirst_lt ‹_›).trans_le i.store) rfl rfl .refl
      · exact bumpSat_within _ _ rfl rfl .refl

theorem length_eraseLast_lt {α : Type} {p : α → Bool} {l : List α} (h : l.any p = true) : (eraseLast p l).length < l.length := by
  have := length_eraseFirst_lt (p := p) (l := l.reverse) (by simpa using h)
  simpa [eraseLast] using this

theorem le_worst (l : List EvRec) (k : Nat) : k ≤ l.foldl (fun m x => Nat.max m x.sev.val) k := by
  induction l generalizing k with
  | nil => exact le_refl k
  | cons b t ih => exact (Nat.le_max_left _ _).trans (ih _)

theorem any_worst (l : List EvRec) (m : Nat) (h : m < l.foldl (fun m x => Nat.max m x.sev.val) m) :
    l.any (fun x => x.sev.val == l.foldl (fun m x => Nat.max m x.sev.val) m) = true := by
  induction l generalizing m with
  | nil => exact absurd h (lt_irrefl m)
  | cons a r ih =>
    rw [List.foldl_cons] at h ⊢
    rw [List.any_cons, Bool.or_eq_true]
    by_cases hlt : Nat.max m a.sev.val < r.foldl (fun m x => Nat.max m x.sev.val) (Nat.max m a.sev.val)
    · exact .inr (ih _ hlt)
    · have heq := le_antisymm (not_lt.1 hlt) (le_worst r _)
      rw [heq] at h ⊢
      rcases Nat.le_total a.sev.val m with h' | h'
      · rw [show Nat.max m a.sev.val = m from Nat.max_eq_left h'] at h; exact absurd h (lt_irrefl m)
      · exact .inl (by rw [show Nat.max m a.sev.val = a.sev.val from Nat.max_eq_right h']; exact beq_self_eq_true _)

theorem State.holdRecord_within (s a1) : Within 0x2000800000 s (State.holdRecord s a1) := by
  unfold State.holdRecord
  dsimp only
  split
  · rename_i h
    exact Within.recorder (fun r => r.store) (fun _ => by rw [List.length_append]; exact h) (fun r => r.mirror) rfl .refl
  · split
    · rename_i h
      refine bumpSat_within _ _ rfl rfl (Within.recorder (fun r => r.store) (fun r => ?_) (fun r => r.mirror) rfl .refl)
      rw [List.length_append]
      exact (length_eraseLast_lt (any_worst s.rec_.hold 0 h.2)).trans_le r.hold
    · exact bumpSat_within _ _ rfl rfl .refl

theorem State.event_within (s a1 a2 a3 a4 a5) : Within 0x2000800000 s (State.event s a1 a2 a3 a4 a5) := by
  unfold State.event
  try dsimp only
  repeat' first
    | with_reducible apply Within.refl
    | with_reducible apply Within.ite
    | ((with_reducible apply Within.step (State.enter_within ..)); · rfl)
    | ((with_reducible apply Within.step (State.holdRecord_within ..)); · rfl)

theorem State.cfgDropped_within (s a1) : Within 0x2000800000 s (State.cfgDropped s a1) := by
  unfold State.cfgDropped
  try dsimp only
  repeat' first
    | with_reducible apply Within.refl
    | ((with_reducible apply Within.step (State.event_within ..)); · rfl)

theorem State.setPte_within (s a1 a2) : Within 0x8000000000 s (State.setPte s a1 a2) := by
  unfold State.setPte
  try dsimp only
  repeat' first
    | with_reducible apply Within.refl
    | with_reducible apply Within.ite
    | with_reducible refine Within.update ?_ rfl

theorem wf_foldl_splices {β : Type} (f : List (Nat × Byte) → β → List (Nat × Byte)) (hf : ∀ l b, Sparse.wf 0 l = true → Sparse.wf 0 (f l b) = true)
    (ps : List β) {l : List (Nat × Byte)} (h : Sparse.wf 0 l = true) : Sparse.wf 0 (ps.foldl f l) = true := by
  induction ps generalizing l with
  | nil => exact h
  | cons p r ih => exact ih (hf _ _ h)

theorem State.store_within (s a1 a2 a3) : Within 0x800000000 s (State.store s a1 a2 a3) :=
  Within.memory (fun h => wf_foldl_splices _ (fun _ _ h => Sparse.wf_write h) _ h) rfl .refl

theorem State.soil_within (s a1 a2 a3) : Within 0x8000000000 s (State.soil s a1 a2 a3) := by
  unfold State.soil
  try dsimp only
  repeat' first
    | with_reducible apply Within.refl
    | with_reducible apply Within.ite
    | ((with_reducible apply Within.step (State.setPte_within ..)); · rfl)
    | with_reducible refine Within.update ?_ rfl
    | with_reducible apply Within.foldl
    | intro _ _

end Sys2Proof.Machine
end

