-- ==== Sys2Proof/Laws/ReqOps.lean ====
section
/-! SUPPORT. What each operation of Machine/ReqOps.lean can change (`Within`, Laws/Within.lean). -/

namespace Sys2Proof.Machine

set_option Elab.async false

theorem State.setReq_within (s a1) : Within 0x4000000000 s (State.setReq s a1) := by
  unfold State.setReq
  try dsimp only
  repeat' first
    | with_reducible apply Within.refl
    | with_reducible refine Within.update ?_ rfl

theorem State.modReq_within (s a1 a2) : Within 0x4000000000 s (State.modReq s a1 a2) := by
  unfold State.modReq
  try dsimp only
  repeat' first
    | with_reducible apply Within.refl
    | ((with_reducible apply Within.step (State.setReq_within ..)); · rfl)
    | with_reducible refine Within.update ?_ rfl
    | split

theorem State.setQuery_within (s a1) : Within 0x40000000000 s (State.setQuery s a1) := by
  unfold State.setQuery
  try dsimp only
  repeat' first
    | with_reducible apply Within.refl
    | with_reducible refine Within.update ?_ rfl

theorem State.setIndex_within (s a1) : Within 0x40000000000 s (State.setIndex s a1) := by
  unfold State.setIndex
  try dsimp only
  repeat' first
    | with_reducible apply Within.refl
    | with_reducible refine Within.update ?_ rfl

theorem State.setGreq_within (s a1) : Within 0x80000000000 s (State.setGreq s a1) := by
  unfold State.setGreq
  try dsimp only
  repeat' first
    | with_reducible apply Within.refl
    | with_reducible refine Within.update ?_ rfl

theorem State.setInst_within (s a1 a2) : Within 0x80000000000 s (State.setInst s a1 a2) := by
  unfold State.setInst
  try dsimp only
  repeat' first
    | with_reducible apply Within.refl
    | with_reducible refine Within.update ?_ rfl

theorem State.setTable_within (s a1 a2) : Within 0x10000000000 s (State.setTable s a1 a2) := by
  unfold State.setTable
  try dsimp only
  repeat' first
    | with_reducible apply Within.refl
    | with_reducible refine Within.update ?_ rfl

theorem State.setObject_within (s a1 a2) : Within 0x8000000000 s (State.setObject s a1 a2) := by
  unfold State.setObject
  try dsimp only
  repeat' first
    | with_reducible apply Within.refl
    | with_reducible refine Within.update ?_ rfl

theorem State.emit_within (s a1) : Within 0x4000000000000 s (State.emit s a1) := by
  unfold State.emit
  try dsimp only
  repeat' first
    | with_reducible apply Within.refl
    | with_reducible refine Within.update ?_ rfl

theorem State.allot_within (s a1) : WithinOptSnd 0x8000000100 s (State.allot s a1) := by
  unfold State.allot
  try dsimp only
  repeat' first
    | with_reducible apply Within.refl
    | with_reducible apply Within.ite
    | with_reducible apply WithinOptSnd.none
    | with_reducible apply WithinOptSnd.some
    | ((with_reducible apply drop_within _ _ rfl); · rfl)
    | with_reducible refine Within.update ?_ rfl
    | split

theorem State.freeFrame_within (s a1) : Within 0x8000000100 s (State.freeFrame s a1) := by
  unfold State.freeFrame
  try dsimp only
  repeat' first
    | with_reducible apply Within.refl
    | with_reducible apply Within.ite
    | ((with_reducible apply bump_within _ _ rfl); · rfl)
    | with_reducible refine Within.update ?_ rfl

theorem State.leaveFrame_within (s a1) : Within 0x8000000100 s (State.leaveFrame s a1) := by
  unfold State.leaveFrame
  try dsimp only
  repeat' first
    | with_reducible apply Within.refl
    | with_reducible apply Within.ite
    | ((with_reducible apply Within.step (State.freeFrame_within ..)); · rfl)
    | with_reducible refine Within.update ?_ rfl

theorem State.unpinFrames_within (s a1) : Within 0x8000000100 s (State.unpinFrames s a1) := by
  unfold State.unpinFrames
  try dsimp only
  repeat' first
    | with_reducible apply Within.refl
    | with_reducible apply Within.ite
    | ((with_reducible apply Within.step (State.freeFrame_within ..)); · rfl)
    | with_reducible apply WithinOpt.mapState
    | intro _
    | with_reducible refine Within.update ?_ rfl
    | with_reducible apply Within.foldl

theorem State.unhold_within (s a1) : Within 0x8000000100 s (State.unhold s a1) := by
  unfold State.unhold
  try dsimp only
  repeat' first
    | with_reducible apply Within.refl
    | with_reducible apply Within.ite
    | ((with_reducible apply drop_within _ _ rfl); · rfl)
    | ((with_reducible apply Within.step (State.setPte_within ..)); · rfl)
    | with_reducible refine Within.update ?_ rfl
    | with_reducible apply Within.foldl
    | intro _ _

theorem State.release_within (s a1) : Within 0x8000000100 s (State.release s a1) := by
  unfold State.release
  try dsimp only
  repeat' first
    | with_reducible apply Within.refl
    | ((with_reducible apply drop_within _ _ rfl); · rfl)
    | ((with_reducible apply Within.step (State.unhold_within ..)); · rfl)
    | ((with_reducible apply Within.step (State.unpinFrames_within ..)); · rfl)
    | ((with_reducible apply Within.step (State.freeFrame_within ..)); · rfl)
    | with_reducible refine Within.update ?_ rfl
    | with_reducible apply Within.foldl
    | intro _ _

theorem State.enterWindows_within (s) : Within 0x4000000000 s (State.enterWindows s) := by
  unfold State.enterWindows
  try dsimp only
  repeat' first
    | with_reducible apply Within.refl
    | with_reducible apply Within.ite
    | with_reducible apply WithinOpt.mapState
    | intro _
    | with_reducible refine Within.update ?_ rfl
    | with_reducible apply Within.foldl

theorem State.setJob_within (s a1 a2 a3) : Within 0x4000000000 s (State.setJob s a1 a2 a3) := by
  unfold State.setJob
  try dsimp only
  repeat' first
    | with_reducible apply Within.refl
    | with_reducible apply Within.ite
    | with_reducible apply WithinOpt.mapState
    | intro _
    | with_reducible refine Within.update ?_ rfl

theorem State.hostPush_within (s a1 a2 a3 a4) : Within 0x4000000000 s (State.hostPush s a1 a2 a3 a4) := by
  unfold State.hostPush
  try dsimp only
  repeat' first
    | with_reducible apply Within.refl
    | with_reducible apply Within.ite
    | with_reducible apply WithinOpt.mapState
    | intro _
    | with_reducible refine Within.update ?_ rfl

theorem State.streamPush_within (s a1 a2 a3) : Within 0x4000000000 s (State.streamPush s a1 a2 a3) := by
  unfold State.streamPush
  try dsimp only
  repeat' first
    | with_reducible apply Within.refl
    | with_reducible apply Within.ite
    | ((with_reducible apply Within.step (State.hostPush_within ..)); · rfl)
    | ((with_reducible apply Within.step (State.modReq_within ..)); · rfl)
    | with_reducible refine Within.update ?_ rfl
    | split

theorem State.streamText_within (s a1 a2) : Within 0x4000000000 s (State.streamText s a1 a2) := by
  unfold State.streamText
  try dsimp only
  repeat' first
    | with_reducible apply Within.refl
    | ((with_reducible apply Within.step (State.streamPush_within ..)); · rfl)
    | with_reducible apply WithinOpt.mapState
    | intro _
    | with_reducible refine Within.update ?_ rfl
    | with_reducible apply Within.foldl

theorem State.acctWrite_within (s a1) : Within 0x800000002 s (State.acctWrite s a1) := by
  unfold State.acctWrite
  try dsimp only
  repeat' first
    | with_reducible apply Within.refl
    | ((with_reducible apply put_within _ _ rfl); · rfl)
    | ((with_reducible apply Within.step (State.store_within ..)); · rfl)
    | with_reducible refine Within.update ?_ rfl
    | with_reducible apply Within.foldl
    | intro _ _

theorem State.acctDrain_within (n : Nat) (s : State) : Within 0x4800000002 s (State.acctDrain n s) := by
  induction n generalizing s with
  | zero => exact .refl
  | succ n ih =>
    unfold State.acctDrain
    split
    · exact .refl
    · split
      · exact (ih _).step rfl ((State.acctWrite_within ..).step rfl (Within.update .refl rfl))
      · exact .refl

theorem State.account_within (s a1) : Within 0x4800000002 s (State.account s a1) := by
  unfold State.account
  try dsimp only
  repeat' first
    | with_reducible apply Within.refl
    | with_reducible apply Within.ite
    | ((with_reducible apply bumpSat_within _ _ rfl); · rfl)
    | ((with_reducible apply Within.step (State.acctDrain_within ..)); · rfl)
    | ((with_reducible apply Within.step (State.acctWrite_within ..)); · rfl)
    | with_reducible refine Within.update ?_ rfl

theorem State.complete_within (s a1 a2 a3) : Within 0x4000000000 s (State.complete s a1 a2 a3) := by
  unfold State.complete
  try dsimp only
  repeat' first
    | with_reducible apply Within.refl
    | with_reducible apply Within.ite
    | ((with_reducible apply Within.step (State.hostPush_within ..)); · rfl)

end Sys2Proof.Machine
end

