-- ==== Sys2Proof/Laws/KtrOps.lean ====
section
/-! SUPPORT. What each operation of Machine/KtrOps.lean can change (`Within`, Laws/Within.lean). -/

namespace Sys2Proof.Machine

set_option Elab.async false

theorem State.setFlow_within (s a1) : Within 0x200000000000 s (State.setFlow s a1) := by
  unfold State.setFlow
  try dsimp only
  repeat' first
    | with_reducible apply Within.refl
    | with_reducible refine Within.update ?_ rfl

theorem State.sendDgram_within (s a1 a2 a3 a4) : Within 0x200000000000 s (State.sendDgram s a1 a2 a3 a4) := by
  unfold State.sendDgram
  try dsimp only
  repeat' first
    | with_reducible apply Within.refl
    | ((with_reducible apply Within.step (State.setFlow_within ..)); · rfl)

theorem State.issue_within (s a1 a2 a3 a4 a5) : Within 0x200000000000 s (State.issue s a1 a2 a3 a4 a5) := by
  unfold State.issue
  try dsimp only
  repeat' first
    | with_reducible apply Within.refl
    | ((with_reducible apply Within.step (State.sendDgram_within ..)); · rfl)
    | with_reducible refine Within.update ?_ rfl
    | with_reducible apply Within.foldl
    | intro _ _

theorem State.putHall_within (s a1 a2 a3 a4 a5) : Within 0x4200000000000 s (State.putHall s a1 a2 a3 a4 a5) := by
  unfold State.putHall
  try dsimp only
  repeat' first
    | with_reducible apply Within.refl
    | ((with_reducible apply Within.step (State.issue_within ..)); · rfl)
    | ((with_reducible apply Within.step (State.emit_within ..)); · rfl)

theorem State.sendShip_within (s a1 a2 a3 a4) : Within 0x4200000000000 s (State.sendShip s a1 a2 a3 a4) := by
  unfold State.sendShip
  try dsimp only
  repeat' first
    | with_reducible apply Within.refl
    | ((with_reducible apply Within.step (State.issue_within ..)); · rfl)
    | ((with_reducible apply Within.step (State.emit_within ..)); · rfl)

end Sys2Proof.Machine
end

