-- ==== Sys2Proof/Laws/EndOps.lean ====
section
/-! SUPPORT. What each operation of Machine/EndOps.lean can change (`Within`, Laws/Within.lean). -/

namespace Sys2Proof.Machine

set_option Elab.async false

theorem State.sweep_within (s) : Within 0xe0000000000 s (State.sweep s) := by
  unfold State.sweep
  try dsimp only
  repeat' first
    | with_reducible apply Within.refl
    | with_reducible refine Within.update ?_ rfl

theorem State.deliver_within (s a1 a2) : Within 0x84000004000 s (State.deliver s a1 a2) := by
  unfold State.deliver
  try dsimp only
  repeat' first
    | with_reducible apply Within.refl
    | with_reducible apply Within.ite
    | ((with_reducible apply bump_within _ _ rfl); · rfl)
    | ((with_reducible apply raise_within _ _ rfl); · rfl)
    | ((with_reducible apply Within.step (State.setGreq_within ..)); · rfl)
    | ((with_reducible apply Within.step (State.streamPush_within ..)); · rfl)
    | ((with_reducible apply Within.step (State.streamText_within ..)); · rfl)
    | ((with_reducible apply Within.step (State.modReq_within ..)); · rfl)
    | with_reducible refine Within.update ?_ rfl
    | with_reducible apply Within.foldl
    | intro _ _
    | split

theorem State.flushText_within (s a1) : Within 0x84000004000 s (State.flushText s a1) := by
  unfold State.flushText
  try dsimp only
  repeat' first
    | with_reducible apply Within.refl
    | ((with_reducible apply Within.step (State.deliver_within ..)); · rfl)
    | with_reducible refine Within.update ?_ rfl
    | split

theorem State.sendReply_within (s a1 a2) : Within 0x4200000000000 s (State.sendReply s a1 a2) := by
  unfold State.sendReply
  try dsimp only
  repeat' first
    | with_reducible apply Within.refl
    | ((with_reducible apply Within.step (State.sendShip_within ..)); · rfl)

theorem State.sendGrants_within (s a1 a2) : Within 0x4200000000000 s (State.sendGrants s a1 a2) := by
  unfold State.sendGrants
  try dsimp only
  repeat' first
    | with_reducible apply Within.refl
    | ((with_reducible apply Within.step (State.sendReply_within ..)); · rfl)
    | with_reducible apply WithinOpt.mapState
    | intro _
    | with_reducible refine Within.update ?_ rfl
    | with_reducible apply Within.foldl

theorem State.serveClaims_within (s) : Within 0x4280000008000 s (State.serveClaims s) := by
  unfold State.serveClaims
  dsimp only
  refine put_within _ _ rfl rfl (Within.update (Within.foldlFst _ (fun p c => ?_) .refl) rfl)
  split
  · exact .refl
  · split
    · exact .refl
    · split
      · exact .refl
      · exact (State.sendGrants_within ..).step rfl (Within.update ((State.setInst_within ..).mono rfl) rfl)

theorem State.freeBlocks_within (s a1 a2 a3) : Within 0x4280000008000 s (State.freeBlocks s a1 a2 a3) := by
  unfold State.freeBlocks
  try dsimp only
  repeat' first
    | with_reducible apply Within.refl
    | ((with_reducible apply Within.step (State.serveClaims_within ..)); · rfl)
    | ((with_reducible apply Within.step (State.setInst_within ..)); · rfl)
    | with_reducible refine Within.update ?_ rfl
    | split

theorem State.releaseGen_within (s a1) : Within 0x4280000008000 s (State.releaseGen s a1) := by
  unfold State.releaseGen
  try dsimp only
  repeat' first
    | with_reducible apply Within.refl
    | with_reducible apply Within.ite
    | ((with_reducible apply Within.step (State.freeBlocks_within ..)); · rfl)
    | ((with_reducible apply Within.step (State.sendShip_within ..)); · rfl)
    | with_reducible refine Within.update ?_ rfl
    | split

theorem State.endReq_within (s a1 a2 a3) : Within 0x42e480000c002 s (State.endReq s a1 a2 a3) := by
  unfold State.endReq
  try dsimp only
  repeat' first
    | with_reducible apply Within.refl
    | with_reducible apply Within.ite
    | ((with_reducible apply Within.step (State.releaseGen_within ..)); · rfl)
    | ((with_reducible apply Within.step (State.flushText_within ..)); · rfl)
    | ((with_reducible apply Within.step (State.complete_within ..)); · rfl)
    | ((with_reducible apply Within.step (State.setReq_within ..)); · rfl)
    | ((with_reducible apply Within.step (State.account_within ..)); · rfl)
    | ((with_reducible apply Within.step (State.sweep_within ..)); · rfl)
    | with_reducible apply WithinOpt.mapState
    | intro _
    | with_reducible refine Within.update ?_ rfl
    | split

theorem State.settleSuspends_within (s a1) : Within 0x4000000000 s (State.settleSuspends s a1) := by
  unfold State.settleSuspends
  try dsimp only
  repeat' first
    | with_reducible apply Within.refl
    | with_reducible apply Within.ite
    | ((with_reducible apply Within.step (State.complete_within ..)); · rfl)
    | with_reducible refine Within.update ?_ rfl
    | with_reducible apply Within.foldl
    | intro _ _
    | split

theorem State.settle_within (s a1) : Within 0x42e480000c002 s (State.settle s a1) := by
  unfold State.settle
  try dsimp only
  repeat' first
    | with_reducible apply Within.refl
    | with_reducible apply Within.ite
    | ((with_reducible apply Within.step (State.endReq_within ..)); · rfl)
    | ((with_reducible apply Within.step (State.settleSuspends_within ..)); · rfl)
    | with_reducible refine Within.update ?_ rfl
    | split

theorem State.dropItems_within (s a1) : Within 0xc000000100 s (State.dropItems s a1) := by
  unfold State.dropItems
  try dsimp only
  repeat' first
    | with_reducible apply Within.refl
    | with_reducible apply Within.ite
    | ((with_reducible apply Within.step (State.release_within ..)); · rfl)
    | ((with_reducible apply Within.step (State.enterWindows_within ..)); · rfl)
    | with_reducible apply WithinOpt.mapState
    | intro _
    | with_reducible refine Within.update ?_ rfl
    | with_reducible apply Within.foldl

theorem State.yieldAll_within (s a1) : Within 0x4000000004 s (State.yieldAll s a1) := by
  unfold State.yieldAll
  try dsimp only
  repeat' first
    | with_reducible apply Within.refl
    | ((with_reducible apply put_within _ _ (F.CORE_STAT_YIELD_PENDING_block _)); · rfl)
    | with_reducible refine Within.update ?_ rfl
    | with_reducible apply Within.foldl
    | intro _ _
    | split

theorem State.stopReq_within (s a1 a2 a3) : Within 0x42ec80000c106 s (State.stopReq s a1 a2 a3) := by
  unfold State.stopReq
  try dsimp only
  repeat' first
    | with_reducible apply Within.refl
    | with_reducible apply Within.ite
    | ((with_reducible apply Within.step (State.settle_within ..)); · rfl)
    | ((with_reducible apply Within.step (State.setReq_within ..)); · rfl)
    | ((with_reducible apply Within.step (State.dropItems_within ..)); · rfl)
    | ((with_reducible apply Within.step (State.yieldAll_within ..)); · rfl)
    | with_reducible refine Within.update ?_ rfl
    | split

theorem State.failReq_within (s a1 a2) : Within 0x42ec80000c106 s (State.failReq s a1 a2) := by
  unfold State.failReq
  try dsimp only
  repeat' first
    | with_reducible apply Within.refl
    | with_reducible apply Within.ite
    | ((with_reducible apply Within.step (State.setReq_within ..)); · rfl)
    | ((with_reducible apply Within.step (State.stopReq_within ..)); · rfl)
    | ((with_reducible apply Within.step (State.modReq_within ..)); · rfl)
    | with_reducible refine Within.update ?_ rfl
    | split

theorem State.leavePass_within (s a1 a2 a3) : Within 0x80000000000 s (State.leavePass s a1 a2 a3) := by
  unfold State.leavePass
  try dsimp only
  repeat' first
    | with_reducible apply Within.refl
    | with_reducible apply Within.ite
    | ((with_reducible apply Within.step (State.setInst_within ..)); · rfl)
    | with_reducible refine Within.update ?_ rfl
    | split

theorem State.jobFailed_within (s a1 a2 a3) : Within 0x42ec80000c106 s (State.jobFailed s a1 a2 a3) := by
  unfold State.jobFailed
  try dsimp only
  repeat' first
    | with_reducible apply Within.refl
    | ((with_reducible apply Within.step (State.failReq_within ..)); · rfl)
    | ((with_reducible apply Within.step (State.leavePass_within ..)); · rfl)
    | ((with_reducible apply Within.step (State.setJob_within ..)); · rfl)
    | with_reducible apply WithinOpt.mapState
    | intro _
    | with_reducible refine Within.update ?_ rfl
    | with_reducible apply Within.foldl
    | intro _ _
    | split

end Sys2Proof.Machine
end

