-- ==== Sys2Proof/Laws/QstateOps.lean ====
section
/-! SUPPORT. What each operation of Machine/QstateOps.lean can change (`Within`, Laws/Within.lean). -/

namespace Sys2Proof.Machine

set_option Elab.async false

theorem State.applyQRec_within (s a1 a2) : Within 0x8800000000 s (State.applyQRec s a1 a2) := by
  unfold State.applyQRec
  try dsimp only
  repeat' first
    | with_reducible apply Within.refl
    | with_reducible apply Within.ite
    | ((with_reducible apply Within.step (State.soil_within ..)); · rfl)
    | ((with_reducible apply Within.step (State.store_within ..)); · rfl)
    | with_reducible refine Within.update ?_ rfl
    | split

end Sys2Proof.Machine
end

