-- ==== Sys2Proof/Laws/TierOps.lean ====
section
/-! SUPPORT. What each operation of Machine/TierOps.lean can change (`Within`, Laws/Within.lean). -/

namespace Sys2Proof.Machine

set_option Elab.async false

theorem State.storeKept_within (s a1 a2 a3 a4) : Within 0x8800000000 s (State.storeKept s a1 a2 a3 a4) := by
  unfold State.storeKept
  try dsimp only
  repeat' first
    | with_reducible apply Within.refl
    | with_reducible apply Within.ite
    | ((with_reducible apply Within.step (State.soil_within ..)); · rfl)
    | ((with_reducible apply Within.step (State.store_within ..)); · rfl)
    | with_reducible refine Within.update ?_ rfl
    | with_reducible apply Within.foldl
    | intro _ _

theorem State.publishOut_within (s a1 a2 a3) : Within 0x8800000000 s (State.publishOut s a1 a2 a3) := by
  unfold State.publishOut
  try dsimp only
  repeat' first
    | with_reducible apply Within.refl
    | with_reducible apply Within.ite
    | ((with_reducible apply Within.step (State.applyQRec_within ..)); · rfl)
    | ((with_reducible apply Within.step (State.storeKept_within ..)); · rfl)
    | with_reducible refine Within.update ?_ rfl
    | with_reducible apply Within.foldl
    | intro _ _

theorem State.installFrame_within (s a1 a2) : Within 0x8000000100 s (State.installFrame s a1 a2) := by
  unfold State.installFrame
  try dsimp only
  repeat' first
    | with_reducible apply Within.refl
    | with_reducible apply Within.ite
    | ((with_reducible apply Within.step (State.setPte_within ..)); · rfl)
    | ((with_reducible apply Within.step (State.leaveFrame_within ..)); · rfl)
    | with_reducible refine Within.update ?_ rfl

theorem State.jobDone_within (s a1 a2 a3) : Within 0x4000000000 s (State.jobDone s a1 a2 a3) := by
  unfold State.jobDone
  try dsimp only
  repeat' first
    | with_reducible apply Within.refl
    | ((with_reducible apply Within.step (State.setJob_within ..)); · rfl)
    | ((with_reducible apply Within.step (State.modReq_within ..)); · rfl)
    | with_reducible refine Within.update ?_ rfl

theorem State.takeEffect_within (s a1) : Within 0xc800000100 s (State.takeEffect s a1) := by
  unfold State.takeEffect
  try dsimp only
  repeat' first
    | with_reducible apply Within.refl
    | with_reducible apply Within.ite
    | ((with_reducible apply Within.step (State.freeFrame_within ..)); · rfl)
    | ((with_reducible apply Within.step (State.publishOut_within ..)); · rfl)
    | ((with_reducible apply Within.step (State.jobDone_within ..)); · rfl)
    | ((with_reducible apply Within.step (State.installFrame_within ..)); · rfl)
    | with_reducible refine Within.update ?_ rfl
    | with_reducible apply Within.foldl
    | intro _ _

theorem State.settlePubs_within (n : Nat) (s : State) : Within 0xc800000100 s (State.settlePubs n s) := by
  induction n generalizing s with
  | zero => exact .refl
  | succ n ih =>
    unfold State.settlePubs
    split
    · exact .refl
    · exact (ih _).step rfl ((State.takeEffect_within ..).step rfl (Within.update .refl rfl))

theorem State.onceIn_within (s a1) : Within 0x8800000000 s (State.onceIn s a1) := by
  unfold State.onceIn
  try dsimp only
  repeat' first
    | with_reducible apply Within.refl
    | ((with_reducible apply Within.step (State.publishOut_within ..)); · rfl)
    | with_reducible refine Within.update ?_ rfl
    | with_reducible apply Within.foldl
    | intro _ _

theorem State.journal_within (s a1 a2) : Within 0x8800000000 s (State.journal s a1 a2) := by
  unfold State.journal
  try dsimp only
  repeat' first
    | with_reducible apply Within.refl
    | with_reducible apply Within.ite
    | with_reducible refine Within.update ?_ rfl

theorem State.publish_within (s a1 a2 a3 a4 a5 a6 a7) : Within 0xc800000100 s (State.publish s a1 a2 a3 a4 a5 a6 a7) := by
  unfold State.publish
  try dsimp only
  repeat' first
    | with_reducible apply Within.refl
    | with_reducible apply Within.ite
    | ((with_reducible apply Within.step (State.journal_within ..)); · rfl)
    | ((with_reducible apply Within.step (State.settlePubs_within ..)); · rfl)
    | with_reducible refine Within.update ?_ rfl

theorem State.takeEntry_within (s a1) : Within 0x20f100 s (State.takeEntry s a1) := by
  unfold State.takeEntry opRing
  split
  · exact .refl
  · rename_i h
    split at h <;> cases h <;> exact put_within _ _ rfl rfl .refl

theorem State.setOp_within (s a1) : Within 0x8000000000 s (State.setOp s a1) := by
  unfold State.setOp
  try dsimp only
  repeat' first
    | with_reducible apply Within.refl
    | with_reducible apply Within.ite
    | with_reducible apply WithinOpt.mapState
    | intro _
    | with_reducible refine Within.update ?_ rfl

theorem State.opEnd_within (s a1 a2 a3 a4 a5 a6 a7) : Within 0x400c800000002 s (State.opEnd s a1 a2 a3 a4 a5 a6 a7) := by
  unfold State.opEnd
  try dsimp only
  repeat' first
    | with_reducible apply Within.refl
    | with_reducible apply Within.ite
    | ((with_reducible apply Within.step (State.account_within ..)); · rfl)
    | ((with_reducible apply Within.step (State.setOp_within ..)); · rfl)
    | ((with_reducible apply Within.step (State.emit_within ..)); · rfl)

theorem State.opStart_within (s a1 a2 a3 a4 a5) : Within 0x800020f100 s (State.opStart s a1 a2 a3 a4 a5) := by
  unfold State.opStart
  try dsimp only
  repeat' first
    | with_reducible apply Within.refl
    | with_reducible apply Within.ite
    | ((with_reducible apply Within.step (State.takeEntry_within ..)); · rfl)
    | ((with_reducible apply Within.step (State.setOp_within ..)); · rfl)
    | with_reducible refine Within.update ?_ rfl
    | split

theorem State.opDead_within (s a1 a2 a3) : WithinOpt 0x400c80020f102 s (State.opDead s a1 a2 a3) := by
  unfold State.opDead
  try dsimp only
  repeat' first
    | with_reducible apply Within.refl
    | with_reducible apply Within.ite
    | with_reducible apply WithinOpt.none
    | with_reducible apply WithinOpt.some
    | ((with_reducible apply Within.step (State.takeEntry_within ..)); · rfl)
    | ((with_reducible apply Within.step (State.opEnd_within ..)); · rfl)
    | with_reducible refine Within.update ?_ rfl
    | split

theorem State.opFor_within (s a1 a2 a3) : Within 0x8000000000 s (State.opFor s a1 a2 a3) := by
  unfold State.opFor
  try dsimp only
  repeat' first
    | with_reducible apply Within.refl
    | with_reducible apply Within.ite
    | ((with_reducible apply Within.step (State.setOp_within ..)); · rfl)
    | with_reducible refine Within.update ?_ rfl
    | split

end Sys2Proof.Machine
end

