-- ==== Sys2Proof/Laws/KernelOps.lean ====
section
/-! SUPPORT. What each operation of Machine/KernelOps.lean can change (`Within`, Laws/Within.lean). -/

namespace Sys2Proof.Machine

set_option Elab.async false

theorem Core.Canonical.atPc {k : Core} (h : k.Canonical) (n : Nat) : ({ k with pc := n, opens := k.opens + 1 } : Core).Canonical :=
  ⟨h.sregs, h.vregs, h.masks, h.acc, h.store⟩

theorem Core.Canonical.atEnd {k : Core} (h : k.Canonical) (x : Option Stop) : ({ k with ended := x } : Core).Canonical :=
  ⟨h.sregs, h.vregs, h.masks, h.acc, h.store⟩

theorem stopCore_within {m : Nat} {s t : State} (c : Nat) (k : Core) (x : Stop) (hk : t.Inv → k.Canonical) (hm : m.testBit 36 = true) (h : Within m s t) :
    Within m s (t.stopCore c k x) := setCore_within c _ (fun i => (hk i).atEnd _) hm h

/-- The register blocks of the updates of an instruction, and that it keeps a core in canonical form. -/
structure KRes.Counts (m : Nat) (k : Core) (r : KRes) : Prop where
  upds : ∀ k' upd jump, r = .ok k' upd jump → ∀ u ∈ upd, m.testBit (blockOf u.field.id) = true
  core : k.Canonical → ∀ k' upd jump, r = .ok k' upd jump → k'.Canonical

theorem State.updates_within {m : Nat} {s t : State} (l : List Upd) (hl : ∀ u ∈ l, m.testBit (blockOf u.field.id) = true) (h : Within m s t) :
    Within m s (l.foldl State.update t) := by
  induction l generalizing t with
  | nil => exact h
  | cons u r ih => exact ih (fun x hx => hl x (List.mem_cons_of_mem _ hx)) (State.update_within u (hl u List.mem_cons_self) h)

theorem State.land_within {m : Nat} {s t : State} (c : Nat) (k : Core) (r : KRes) (hc : r.Counts m k) (hk : s.Inv → k.Canonical)
    (hm : 0x1000000000 &&& m = 0x1000000000) (h : Within m s t) : Within m s (State.land t c k r) := by
  have h36 := testBit_of_sub hm (i := 36) rfl
  have set : ∀ (u : State) (k' : Core), Within m s u → (s.Inv → k'.Canonical) → Within m s (u.setCore c k') := by
    intro u k' hu hk'
    refine ⟨hu.pending, fun i => ?_, hu.regs, hu.free, hu.staged, hu.locks, hu.mem, .inl h36, hu.rec_, hu.dsp, hu.tier, hu.ftb, hu.txu, hu.idx, hu.gen, hu.ras, hu.ktr,
      hu.geo, hu.mgt, hu.pwr, hu.onx, hu.out⟩
    exact (setCore_within (m := m) c k' (fun _ => hk' i) h36 (.refl (s := u))).inv (hu.inv i)
  unfold State.land
  split
  · exact set _ _ h (fun i => (hk i).atEnd _)
  · rename_i k' upd jump
    have g : Within m s (upd.foldl State.update t) := State.updates_within upd (hc.upds _ _ _ rfl) h
    have hk' := fun i => hc.core (hk i) _ _ _ rfl
    dsimp only
    split
    · exact set _ _ g (fun i => (hk' i).atEnd _)
    · exact set _ _ g (fun i => (hk' i).atPc _)

theorem onCore_within {m : Nat} (c : Nat) (s : State) (f : Nat → Core → KRes) (hf : ∀ free k, (f free k).Counts m k)
    (hm : 0x1000000000 &&& m = 0x1000000000) : WithinRes m s (onCore c s f) := by
  unfold onCore
  split
  · exact WithinRes.fault
  · split
    · exact WithinRes.next (State.land_within c _ _ (hf _ _) (fun i => i.cores _ _ ‹_›) hm .refl)
    · exact WithinRes.fault

theorem State.commitCounts_within (s a1 a2) : Within 0x2000800034 s (State.commitCounts s a1 a2) := by
  unfold State.commitCounts
  try dsimp only
  repeat' first
    | with_reducible apply Within.refl
    | with_reducible apply Within.ite
    | ((with_reducible apply bump_within _ _ (F.CORE_CMD_COUNT_COMMITS_block _)); · rfl)
    | ((with_reducible apply put_within _ _ (F.MX_LAST_ROWS_block _)); · rfl)
    | ((with_reducible apply put_within _ _ (F.MX_LAST_TILES_block _)); · rfl)
    | ((with_reducible apply put_within _ _ (F.QNT_LAST_DEGEN_block _)); · rfl)
    | ((with_reducible apply put_within _ _ (F.QNT_LAST_NAN_block _)); · rfl)
    | ((with_reducible apply put_within _ _ (F.QNT_LAST_SAT_block _)); · rfl)
    | ((with_reducible apply Within.step (State.event_within ..)); · rfl)

theorem State.handUpdates_within (s a1 a2) : Within 0x10000000000 s (State.handUpdates s a1 a2) := by
  unfold State.handUpdates
  try dsimp only
  repeat' first
    | with_reducible apply Within.refl
    | with_reducible apply WithinOpt.mapState
    | intro _
    | with_reducible refine Within.update ?_ rfl

theorem State.commitPhase_within (s a1 a2 a3) (hk : s.Inv → a3.Canonical) : Within 0x1faffffffff s (State.commitPhase s a1 a2 a3) := by
  unfold State.commitPhase
  try dsimp only
  repeat' first
    | with_reducible apply Within.refl
    | with_reducible apply Within.ite
    | ((with_reducible apply put_within _ _ (F.CORE_STAT_STATE_block _)); · rfl)
    | ((with_reducible apply drop_within _ _ rfl); · rfl)
    | ((with_reducible apply Within.step (State.freeFrame_within ..)); · rfl)
    | ((with_reducible apply Within.step (State.setJob_within ..)); · rfl)
    | ((with_reducible apply Within.step (State.publish_within ..)); · rfl)
    | ((with_reducible apply Within.step (State.handUpdates_within ..)); · rfl)
    | ((with_reducible apply Within.step (State.commitCounts_within ..)); · rfl)
    | ((with_reducible refine setCore_within _ _ ?_ rfl ?_); · exact fun i => (hk i).atEnd _)
    | ((with_reducible apply Within.step (State.boundary_within ..)); · rfl)
    | with_reducible refine Within.update ?_ rfl
    | with_reducible apply Within.foldl
    | intro _ _

end Sys2Proof.Machine
end

