-- ==== Sys2Proof/Laws/RegOps.lean ====
section
/-! SUPPORT. What each operation of Machine/RegOps.lean can change (`Within`, Laws/Within.lean). -/

namespace Sys2Proof.Machine

set_option Elab.async false

theorem State.settleIdle_within (s) : Within 0x200050000 s (State.settleIdle s) := by
  unfold State.settleIdle
  refine Within.update (Within.foldl _ (fun s w => ?_) .refl) rfl
  split
  · rename_i h
    unfold RF.byIdle at h
    rw [Bool.or_eq_true, beq_iff_eq, beq_iff_eq] at h
    rcases h with h | h
    · exact put_within (b := 16) _ _ h rfl .refl
    · exact put_within (b := 18) _ _ h rfl .refl
  · exact .refl

theorem State.refreshStack_within (s a1) : Within 0x200 s (State.refreshStack s a1) := by
  unfold State.refreshStack
  try dsimp only
  repeat' first
    | with_reducible apply Within.refl
    | with_reducible apply Within.ite
    | ((with_reducible apply put_within _ _ (F.HBM_STAT_STATE_block _)); · rfl)

theorem State.wakeAfter_within (s a1 a2) : Within 0x40200 s (State.wakeAfter s a1 a2) := by
  unfold State.wakeAfter
  try dsimp only
  repeat' first
    | with_reducible apply Within.refl
    | ((with_reducible apply put_within _ _ (F.EDG_ISL_STAT_CLK_RUN_block _)); · rfl)
    | ((with_reducible apply put_within _ _ (F.EDG_ISL_STAT_STATE_block _)); · rfl)
    | ((with_reducible apply bumpSat_within _ _ (F.EDG_ISL_STAT_WAKE_COUNT_block _)); · rfl)
    | ((with_reducible apply raise_within _ _ (F.EDG_ISL_STAT_WAKE_MAX_block _)); · rfl)
    | ((with_reducible apply Within.step (State.refreshStack_within ..)); · rfl)

theorem State.wake_within (s a1) : Within 0x100040200 s (State.wake s a1) := by
  unfold State.wake
  try dsimp only
  repeat' first
    | with_reducible apply Within.refl
    | with_reducible apply Within.ite
    | ((with_reducible apply Within.step (State.draw_within ..)); · rfl)
    | ((with_reducible apply Within.step (State.wakeAfter_within ..)); · rfl)

theorem State.badAccess_within (s a1 a2) : Within 0x2000800000 s (State.badAccess s a1 a2) := by
  unfold State.badAccess
  try dsimp only
  repeat' first
    | with_reducible apply Within.refl
    | with_reducible apply Within.ite
    | ((with_reducible apply Within.step (State.event_within ..)); · rfl)
    | with_reducible refine Within.update ?_ rfl

end Sys2Proof.Machine
end

