-- ==== Sys2Proof/Laws/DispatchOps.lean ====
section
/-! SUPPORT. What each operation of Machine/DispatchOps.lean can change (`Within`, Laws/Within.lean). -/

namespace Sys2Proof.Machine

set_option Elab.async false

theorem startCore_canonical (i : QItem) (d : CmdDesc) (t window : Nat) : (startCore i d t window).Canonical :=
  ⟨Sparse.wfFrom_mono (Nat.zero_le 1) (Sparse.wfFrom_cells 0 d.args 1), rfl, rfl, rfl, rfl⟩

theorem State.hour_within (s) : Within 0x100000000000 s (State.hour s) := by
  unfold State.hour
  try dsimp only
  repeat' first
    | with_reducible apply Within.refl
    | with_reducible apply Within.ite
    | with_reducible refine Within.update ?_ rfl

theorem State.errors_within (s a1 a2 a3) : Within 0x102000900000 s (State.errors s a1 a2 a3) := by
  unfold State.errors
  try dsimp only
  repeat' first
    | with_reducible apply Within.refl
    | with_reducible apply Within.ite
    | ((with_reducible apply bumpSat_within _ _ (F.RAS_COUNT_CE_block _)); · rfl)
    | ((with_reducible apply bumpSat_within _ _ (F.RAS_COUNT_UE_block _)); · rfl)
    | ((with_reducible apply Within.step (State.event_within ..)); · rfl)
    | ((with_reducible apply Within.step (State.hour_within ..)); · rfl)
    | with_reducible refine Within.update ?_ rfl

theorem State.coresChanged_within (s) : Within 0x4000000000 s (State.coresChanged s) := by
  unfold State.coresChanged
  try dsimp only
  repeat' first
    | with_reducible apply Within.refl
    | with_reducible refine Within.update ?_ rfl

theorem State.settleCore_within (s a1) : Within 0x4000000004 s (State.settleCore s a1) := by
  unfold State.settleCore
  try dsimp only
  repeat' first
    | with_reducible apply Within.refl
    | with_reducible apply Within.ite
    | ((with_reducible apply put_within _ _ (F.CORE_STAT_STATE_block _)); · rfl)
    | ((with_reducible apply Within.step (State.coresChanged_within ..)); · rfl)

theorem State.retireCore_within (s a1 a2) : Within 0x102000900004 s (State.retireCore s a1 a2) := by
  unfold State.retireCore
  try dsimp only
  repeat' first
    | with_reducible apply Within.refl
    | with_reducible apply Within.ite
    | ((with_reducible apply put_within _ _ (F.CORE_CTL_RETIRE_block _)); · rfl)
    | ((with_reducible apply put_within _ _ rfl); · rfl)
    | ((with_reducible apply Within.step (State.event_within ..)); · rfl)
    | with_reducible refine Within.update ?_ rfl

theorem State.noteRefused_within (s a1) : Within 0x4000000000 s (State.noteRefused s a1) := by
  unfold State.noteRefused
  try dsimp only
  repeat' first
    | with_reducible apply Within.refl
    | with_reducible apply Within.ite
    | with_reducible refine Within.update ?_ rfl

theorem State.enqueue_within (s a1 a2) : Within 0x42ec80000c106 s (State.enqueue s a1 a2) := by
  unfold State.enqueue
  try dsimp only
  repeat' first
    | with_reducible apply Within.refl
    | with_reducible apply Within.ite
    | ((with_reducible apply Within.step (State.jobFailed_within ..)); · rfl)
    | ((with_reducible apply Within.step (State.enterWindows_within ..)); · rfl)
    | ((with_reducible apply Within.step (State.noteRefused_within ..)); · rfl)
    | ((with_reducible apply Within.step (State.emit_within ..)); · rfl)
    | with_reducible refine Within.update ?_ rfl
    | split

theorem State.enqueueAll_within (s a1 a2) : Within 0x42ec80000c106 s (State.enqueueAll s a1 a2) := by
  unfold State.enqueueAll
  try dsimp only
  repeat' first
    | with_reducible apply Within.refl
    | ((with_reducible apply Within.step (State.enqueue_within ..)); · rfl)
    | with_reducible refine Within.update ?_ rfl
    | with_reducible apply Within.foldl
    | intro _ _

theorem State.markReady_within (s) : Within 0x4000000000 s (State.markReady s) := by
  unfold State.markReady
  try dsimp only
  repeat' first
    | with_reducible apply Within.refl
    | with_reducible apply Within.ite
    | with_reducible apply WithinOpt.mapState
    | intro _
    | with_reducible refine Within.update ?_ rfl

theorem State.failItem_within (s a1 a2) : Within 0x42ec80000c106 s (State.failItem s a1 a2) := by
  unfold State.failItem
  try dsimp only
  repeat' first
    | with_reducible apply Within.refl
    | ((with_reducible apply Within.step (State.enterWindows_within ..)); · rfl)
    | ((with_reducible apply Within.step (State.jobFailed_within ..)); · rfl)
    | ((with_reducible apply Within.step (State.emit_within ..)); · rfl)
    | ((with_reducible apply Within.step (State.release_within ..)); · rfl)
    | with_reducible refine Within.update ?_ rfl

theorem State.examineAll_within (s) : Within 0x42ec80000c106 s (State.examineAll s) := by
  unfold State.examineAll
  try dsimp only
  repeat' first
    | with_reducible apply Within.refl
    | with_reducible apply Within.ite
    | ((with_reducible apply Within.step (State.failItem_within ..)); · rfl)
    | with_reducible refine Within.update ?_ rfl
    | with_reducible apply Within.foldl
    | intro _ _
    | split

theorem State.setCredits_within (s a1 a2) : Within 0x2 s (State.setCredits s a1 a2) := by
  unfold State.setCredits
  try dsimp only
  repeat' first
    | with_reducible apply Within.refl
    | ((with_reducible apply put_within _ _ (F.DSP_TNT_STAT_CREDITS_block _)); · rfl)

theorem State.newSlice_within (s a1 a2 a3) : Within 0x42ffffffff s (State.newSlice s a1 a2 a3) := by
  unfold State.newSlice
  try dsimp only
  repeat' first
    | with_reducible apply Within.refl
    | with_reducible apply Within.ite
    | ((with_reducible apply drop_within _ _ (F.DSP_TNT_STAT_DEBT_US_block _)); · rfl)
    | ((with_reducible apply Within.step (State.boundary_within ..)); · rfl)
    | with_reducible refine Within.update ?_ rfl
    | split

theorem State.occupy_within (s a1 a2 a3) : Within 0x42ffffffff s (State.occupy s a1 a2 a3) := by
  unfold State.occupy
  try dsimp only
  repeat' first
    | with_reducible apply Within.refl
    | ((with_reducible apply Within.step (State.newSlice_within ..)); · rfl)
    | with_reducible refine Within.update ?_ rfl
    | split

theorem State.stampPages_within (s a1) : Within 0x8000000000 s (State.stampPages s a1) := by
  unfold State.stampPages
  try dsimp only
  repeat' first
    | with_reducible apply Within.refl
    | with_reducible apply Within.ite
    | ((with_reducible apply Within.step (State.setPte_within ..)); · rfl)
    | with_reducible refine Within.update ?_ rfl
    | with_reducible apply Within.foldl
    | intro _ _

theorem State.takeItem_within (s a1) : Within 0xc000000100 s (State.takeItem s a1).2 := by
  unfold State.takeItem
  try dsimp only
  repeat' first
    | with_reducible apply Within.refl
    | ((with_reducible apply Within.step (State.unhold_within ..)); · rfl)
    | ((with_reducible apply Within.step (State.enterWindows_within ..)); · rfl)
    | ((with_reducible apply Within.step (State.stampPages_within ..)); · rfl)
    | with_reducible refine Within.update ?_ rfl

theorem State.countWait_within (s a1 a2) : Within 0x4000000000 s (State.countWait s a1 a2) := by
  unfold State.countWait
  try dsimp only
  repeat' first
    | with_reducible apply Within.refl
    | ((with_reducible apply Within.step (State.modReq_within ..)); · rfl)

theorem State.showRun_within (s a1 a2 a3) : Within 0x4 s (State.showRun s a1 a2 a3) := by
  unfold State.showRun
  try dsimp only
  repeat' first
    | with_reducible apply Within.refl
    | with_reducible apply Within.ite
    | ((with_reducible apply put_within _ _ (F.CORE_CMD_CMD_ID_block _)); · rfl)
    | ((with_reducible apply put_within _ _ (F.CORE_CMD_REQ_LOW_block _)); · rfl)
    | ((with_reducible apply put_within _ _ (F.CORE_STAT_EXTERNAL_block _)); · rfl)
    | ((with_reducible apply put_within _ _ (F.CORE_STAT_SERVICE_block _)); · rfl)
    | ((with_reducible apply put_within _ _ (F.CORE_STAT_STATE_block _)); · rfl)
    | ((with_reducible apply put_within _ _ (F.CORE_STAT_TID_block _)); · rfl)
    | ((with_reducible apply put_within _ _ (F.CORE_STAT_YIELD_PENDING_block _)); · rfl)

theorem State.placeItem_within (s a1 a2 a3 a4 a5) : Within 0x42edaffffffff s (State.placeItem s a1 a2 a3 a4 a5) := by
  unfold State.placeItem
  try dsimp only
  repeat' first
    | with_reducible apply Within.refl
    | with_reducible apply Within.ite
    | ((with_reducible apply Within.step (State.failItem_within ..)); · rfl)
    | ((with_reducible apply Within.step (State.takeItem_within ..)); · rfl)
    | ((with_reducible apply Within.step (State.tick_within ..)); · rfl)
    | ((with_reducible refine setCore_within _ _ ?_ rfl ?_); · exact fun _ => startCore_canonical ..)
    | ((with_reducible apply Within.step (State.countWait_within ..)); · rfl)
    | ((with_reducible apply Within.step (State.occupy_within ..)); · rfl)
    | ((with_reducible apply Within.step (State.showRun_within ..)); · rfl)
    | with_reducible refine Within.update ?_ rfl

theorem State.noteEmpty_within (s) : Within 0x6000800000 s (State.noteEmpty s) := by
  unfold State.noteEmpty
  try dsimp only
  repeat' first
    | with_reducible apply Within.refl
    | with_reducible apply Within.ite
    | ((with_reducible apply Within.step (State.event_within ..)); · rfl)
    | with_reducible apply WithinOpt.mapState
    | intro _
    | with_reducible refine Within.update ?_ rfl
    | with_reducible apply Within.foldl

theorem State.charge_within (s a1 a2) : Within 0x4000000002 s (State.charge s a1 a2) := by
  unfold State.charge
  try dsimp only
  repeat' first
    | with_reducible apply Within.refl
    | with_reducible apply Within.ite
    | ((with_reducible apply Within.step (State.setCredits_within ..)); · rfl)
    | with_reducible refine Within.update ?_ rfl

theorem State.countRun_within (s a1 a2) : Within 0x21c s (State.countRun s a1 a2) := by
  unfold State.countRun
  try dsimp only
  repeat' first
    | with_reducible apply Within.refl
    | ((with_reducible apply bump_within _ _ (F.CORE_HOLD_BEATS_block _ _)); · rfl)
    | ((with_reducible apply bump_within _ _ (F.FCT_PORT_BYTES_BYTES_block _)); · rfl)
    | ((with_reducible apply bump_within _ _ (F.FCT_PORT_WAIT_BEATS_block _)); · rfl)
    | ((with_reducible apply bump_within _ _ (F.HBM_BYTES_BYTES_block _)); · rfl)
    | ((with_reducible apply bump_within _ _ (F.MX_TILE_WAIT_ARRAY_BEATS_block _)); · rfl)
    | with_reducible refine Within.update ?_ rfl
    | with_reducible apply Within.foldl
    | intro _ _

theorem State.loupeRun_within (s a1 a2 a3 a4 a5 a6) : Within 0x4000000000 s (State.loupeRun s a1 a2 a3 a4 a5 a6) := by
  unfold State.loupeRun
  try dsimp only
  repeat' first
    | with_reducible apply Within.refl
    | with_reducible apply WithinOpt.mapState
    | intro _
    | with_reducible refine Within.update ?_ rfl

theorem State.showIdle_within (s a1) : Within 0x14 s (State.showIdle s a1) := by
  unfold State.showIdle
  try dsimp only
  repeat' first
    | with_reducible apply Within.refl
    | ((with_reducible apply put_within _ _ (F.CORE_CMD_CMD_ID_block _)); · rfl)
    | ((with_reducible apply put_within _ _ (F.CORE_CMD_REQ_LOW_block _)); · rfl)
    | ((with_reducible apply put_within _ _ (F.CORE_STAT_EXTERNAL_block _)); · rfl)
    | ((with_reducible apply put_within _ _ (F.CORE_STAT_SERVICE_block _)); · rfl)
    | ((with_reducible apply put_within _ _ (F.CORE_STAT_STATE_block _)); · rfl)
    | ((with_reducible apply put_within _ _ (F.CORE_STAT_TID_block _)); · rfl)
    | ((with_reducible apply put_within _ _ (F.CORE_STAT_YIELD_PENDING_block _)); · rfl)
    | ((with_reducible apply put_within _ _ (F.MX_STAT_ACTIVE_PAIRING_block _)); · rfl)
    | ((with_reducible apply put_within _ _ (F.MX_STAT_SHADOW_FULL_block _)); · rfl)
    | ((with_reducible apply put_within _ _ (F.MX_STAT_SHADOW_PAIRING_block _)); · rfl)

theorem State.freeAt_within (s a1 a2) : Within 0x4000000000 s (State.freeAt s a1 a2) := by
  unfold State.freeAt
  try dsimp only
  repeat' first
    | with_reducible apply Within.refl
    | with_reducible refine Within.update ?_ rfl

theorem State.freeCore_within (s a1 a2) : Within 0x52ffffffff s (State.freeCore s a1 a2) := by
  unfold State.freeCore
  have h : Within 0x52ffffffff s { s with cores := Sparse.erase s.cores a1 } := Within.cores_ (fun i c k h => by
    rw [Sparse.find_erase] at h
    split at h
    · cases h
    · exact i.cores _ _ h) rfl .refl
  exact (State.settleIdle_within ..).step rfl ((State.settleCore_within ..).step rfl ((State.boundary_within ..).step rfl ((State.freeAt_within ..).step rfl ((State.showIdle_within ..).step rfl
    (Within.update h rfl)))))

theorem State.debt_within (s a1 a2 a3 a4) : Within 0x4000000002 s (State.debt s a1 a2 a3 a4) := by
  unfold State.debt
  try dsimp only
  repeat' first
    | with_reducible apply Within.refl
    | with_reducible apply Within.ite
    | ((with_reducible apply bumpSat_within _ _ rfl); · rfl)
    | ((with_reducible apply bumpSat_within _ _ (F.DSP_TNT_STAT_DEBT_US_block _)); · rfl)
    | ((with_reducible apply Within.step (State.modReq_within ..)); · rfl)
    | with_reducible refine Within.update ?_ rfl
    | split

theorem State.chargeRun_within (s a1 a2 a3) : Within 0x4000000002 s (State.chargeRun s a1 a2 a3) := by
  unfold State.chargeRun
  try dsimp only
  repeat' first
    | with_reducible apply Within.refl
    | ((with_reducible apply Within.step (State.modReq_within ..)); · rfl)
    | ((with_reducible apply Within.step (State.charge_within ..)); · rfl)

theorem State.endRun_within (s a1 a2 a3 a4 a5) : Within 0x42edaffffffff s (State.endRun s a1 a2 a3 a4 a5) := by
  unfold State.endRun
  try dsimp only
  repeat' first
    | with_reducible apply Within.refl
    | with_reducible apply Within.ite
    | ((with_reducible apply drop_within _ _ rfl); · rfl)
    | ((with_reducible apply Within.step (State.freeCore_within ..)); · rfl)
    | ((with_reducible apply Within.step (State.freeFrame_within ..)); · rfl)
    | ((with_reducible apply Within.step (State.countRun_within ..)); · rfl)
    | ((with_reducible apply Within.step (State.settle_within ..)); · rfl)
    | ((with_reducible apply Within.step (State.unpinFrames_within ..)); · rfl)
    | ((with_reducible apply Within.step (State.chargeRun_within ..)); · rfl)
    | ((with_reducible apply Within.step (State.jobFailed_within ..)); · rfl)
    | ((with_reducible apply Within.step (State.loupeRun_within ..)); · rfl)
    | ((with_reducible apply Within.step (State.debt_within ..)); · rfl)
    | with_reducible refine Within.update ?_ rfl
    | with_reducible apply Within.foldl
    | intro _ _

theorem State.requeue_within (s a1 a2) : Within 0x42ec80000c102 s (State.requeue s a1 a2) := by
  unfold State.requeue
  try dsimp only
  repeat' first
    | with_reducible apply Within.refl
    | with_reducible apply Within.ite
    | ((with_reducible apply drop_within _ _ rfl); · rfl)
    | ((with_reducible apply Within.step (State.freeFrame_within ..)); · rfl)
    | ((with_reducible apply Within.step (State.setJob_within ..)); · rfl)
    | ((with_reducible apply Within.step (State.unpinFrames_within ..)); · rfl)
    | ((with_reducible apply Within.step (State.settle_within ..)); · rfl)
    | ((with_reducible apply Within.step (State.modReq_within ..)); · rfl)
    | ((with_reducible apply Within.step (State.enterWindows_within ..)); · rfl)
    | with_reducible refine Within.update ?_ rfl
    | with_reducible apply Within.foldl
    | intro _ _

theorem State.killRun_within (s a1 a2 a3 a4 a5) : Within 0x42edaffffffff s (State.killRun s a1 a2 a3 a4 a5) := by
  unfold State.killRun
  try dsimp only
  repeat' first
    | with_reducible apply Within.refl
    | with_reducible apply Within.ite
    | ((with_reducible apply bumpSat_within _ _ (F.CORE_KILL_COUNT_FAULT_KILLS_block _)); · rfl)
    | ((with_reducible apply bumpSat_within _ _ (F.CORE_KILL_COUNT_YIELD_KILLS_block _)); · rfl)
    | ((with_reducible apply bumpSat_within _ _ rfl); · rfl)
    | ((with_reducible apply Within.step (State.freeCore_within ..)); · rfl)
    | ((with_reducible apply Within.step (State.countRun_within ..)); · rfl)
    | ((with_reducible apply Within.step (State.chargeRun_within ..)); · rfl)
    | ((with_reducible apply Within.step (State.loupeRun_within ..)); · rfl)
    | ((with_reducible apply Within.step (State.requeue_within ..)); · rfl)

theorem State.withdraw_within (s a1 a2 a3) : WithinOptSnd 0x1c000000104 s (State.withdraw s a1 a2 a3) := by
  refine ⟨fun p h => ?_⟩
  obtain ⟨x, -, rfl⟩ := Option.map_eq_some_iff.1 h
  exact drop_within _ _ (F.CORE_CMD_COUNT_COMMITS_block _) rfl (bump_within _ _ rfl rfl ((State.setJob_within ..).step rfl (Within.update .refl rfl)))

theorem State.killCores_within (s a1) : Within 0x42edaffffffff s (State.killCores s a1) := by
  unfold State.killCores
  try dsimp only
  repeat' first
    | with_reducible apply Within.refl
    | with_reducible apply Within.ite
    | ((with_reducible apply Within.step (State.killRun_within ..)); · rfl)
    | with_reducible refine Within.update ?_ rfl
    | with_reducible apply Within.foldl
    | intro _ _
    | split

end Sys2Proof.Machine
end

