-- ==== Sys2Proof/Laws/CoreForms.lean ====
section
/-! SUPPORT. Every operation on a core keeps its tables in canonical form. -/

namespace Sys2Proof.Machine

set_option Elab.async false

variable {k : Core}

theorem Core.Canonical.setS (h : k.Canonical) (r : Reg5) (v : Word64) : (k.setS r v).Canonical := by
  unfold Core.setS
  split
  · exact h
  · exact ⟨Sparse.wf_set h.sregs, h.vregs, h.masks, h.acc, h.store⟩

theorem Core.Canonical.setV (h : k.Canonical) (r : Reg5) (l : List F32) : (k.setV r l).Canonical :=
  ⟨h.sregs, Sparse.wf_write h.vregs, h.masks, h.acc, h.store⟩

theorem Core.Canonical.setM (h : k.Canonical) (r : Reg3) (v : BitVec 512) : (k.setM r v).Canonical := by
  unfold Core.setM
  split
  · exact h
  · exact ⟨h.sregs, h.vregs, Sparse.wf_set h.masks, h.acc, h.store⟩

theorem Core.Canonical.save (h : k.Canonical) (a : Nat) (bs : List Byte) : (k.save a bs).Canonical :=
  ⟨h.sregs, h.vregs, h.masks, h.acc, Sparse.wf_write h.store⟩

theorem Core.Canonical.saveSome (h : k.Canonical) (a : Nat) (bs : List (Option Byte)) : (k.saveSome a bs).Canonical :=
  ⟨h.sregs, h.vregs, h.masks, h.acc, Sparse.wf_write h.store⟩

theorem Core.Canonical.clearRows (h : k.Canonical) (row m : Nat) : (k.clearRows row m).Canonical :=
  ⟨h.sregs, h.vregs, h.masks, Sparse.wf_splice h.acc rfl (by simp), h.store⟩

theorem Core.Canonical.swap (h : k.Canonical) : k.swap.Canonical := ⟨h.sregs, h.vregs, h.masks, h.acc, h.store⟩

theorem Core.Canonical.putRegion (h : k.Canonical) (free : Nat) (r : Region) : (k.putRegion free r).Canonical :=
  ⟨h.sregs, h.vregs, h.masks, h.acc, h.store⟩

theorem Core.Canonical.ite {a b : Core} {c : Prop} [Decidable c] (ha : a.Canonical) (hb : b.Canonical) : (if c then a else b).Canonical := by
  split <;> assumption

theorem landRow_canonical {d : StageDesc} {i : Nat} {bs : List Byte} {k' : Core} (h : k.Canonical) (hr : landRow d i bs k = .ok k') : k'.Canonical := by
  unfold landRow at hr
  split at hr
  · cases hr
  · split at hr
    · split at hr
      · cases hr; exact ⟨h.sregs, h.vregs, h.masks, h.acc, h.store⟩
      · cases hr
    · split at hr
      · cases hr; exact h.save _ _
      · cases hr

theorem landRows_canonical {d : StageDesc} (l : List (List Byte)) {i : Nat} {k k' : Core} (h : k.Canonical) (hr : landRows d i l k = .ok k') :
    k'.Canonical := by
  induction l generalizing i k with
  | nil => cases hr; exact h
  | cons r l ih =>
    unfold landRows at hr
    split at hr
    · cases hr
    · exact ih (landRow_canonical h ‹_›) hr

theorem runRows_canonical (tile : Tile) (p : Pairing) (r : Region) (rowf : Nat → F32) (sr colsel : Nat) (accum : Bool) (m : Nat) (i : Nat)
    (st : List (Nat × F32) × Bool × Nat) (h : Sparse.wf 0 st.1 = true) :
    Sparse.wf 0 (runRows tile p r rowf sr colsel accum i m st).1 = true := by
  induction m generalizing i st with
  | zero => exact h
  | succ m ih =>
    obtain ⟨acc, special, zeros⟩ := st
    exact ih _ _ (Sparse.wf_write h)

theorem stageStep_masks (k : Core) (vm : Nat) (st : StageWord) (cs : ChainState) (h : Sparse.wf 0 cs.masks = true) :
    Sparse.wf 0 (stageStep k vm st cs).masks = true := by
  unfold stageStep
  dsimp only
  repeat' split
  all_goals first
    | exact Sparse.wf_set h
    | exact h

theorem runStages_masks (k : Core) (vm : Nat) (l : List StageWord) (cs : ChainState) (h : Sparse.wf 0 cs.masks = true) :
    Sparse.wf 0 (runStages k vm l cs).masks = true := by
  induction l generalizing cs with
  | nil => exact h
  | cons st r ih =>
    unfold runStages
    refine ih _ ?_
    split <;> exact stageStep_masks k vm st cs h

theorem landWrites_canonical (zero : Bool) (l : List (Nat × List F32 × BitVec 512)) {k : Core} (h : k.Canonical) : (landWrites zero l k).Canonical := by
  induction l generalizing k with
  | nil => exact h
  | cons w r ih => exact ih (h.setV _ _)

end Sys2Proof.Machine
end

