-- ==== Sys2Proof/Laws/KernelCounts.lean ====
section
/-! SUPPORT. Which register blocks each kernel instruction counts in, and that it keeps its core in canonical form (`KRes.Counts`): the scalar
and control instructions count in none, the others in FCT, MX, QNT and SEL alone. -/

namespace Sys2Proof.Machine

set_option Elab.async false

/-- Every update of a list is of a register block of the mask. -/
def UpdsIn (m : Nat) (l : List Upd) : Prop := ∀ u ∈ l, m.testBit (blockOf u.field.id) = true

theorem UpdsIn.nil {m : Nat} : UpdsIn m [] := by intro u hu; cases hu
theorem UpdsIn.cons {m b : Nat} {u : Upd} {l : List Upd} (hu : blockOf u.field.id = b) (hb : m.testBit b = true) (hl : UpdsIn m l) : UpdsIn m (u :: l) := by
  intro x hx
  rcases List.mem_cons.1 hx with rfl | hx
  · rw [hu]; exact hb
  · exact hl x hx
theorem UpdsIn.add {m b n : Nat} {f : RF} {l : List Upd} (hf : blockOf f.id = b) (hb : m.testBit b = true) (hl : UpdsIn m l) : UpdsIn m (.add f n :: l) :=
  UpdsIn.cons (u := .add f n) hf hb hl
theorem UpdsIn.set {m b n : Nat} {f : RF} {l : List Upd} (hf : blockOf f.id = b) (hb : m.testBit b = true) (hl : UpdsIn m l) : UpdsIn m (.set f n :: l) :=
  UpdsIn.cons (u := .set f n) hf hb hl
theorem UpdsIn.append {m : Nat} {l r : List Upd} (hl : UpdsIn m l) (hr : UpdsIn m r) : UpdsIn m (l ++ r) := by
  intro x hx
  rcases List.mem_append.1 hx with hx | hx
  · exact hl x hx
  · exact hr x hx

theorem KRes.Counts.stop {m : Nat} {k : Core} {x : Stop} : KRes.Counts m k (.stop x) := ⟨(by intro _ _ _ h; cases h), (by intro _ _ _ _ h; cases h)⟩
theorem KRes.Counts.ok {m : Nat} {k k' : Core} {l : List Upd} {j : Option Int} (h : UpdsIn m l) (hc : k.Canonical → k'.Canonical) :
    KRes.Counts m k (.ok k' l j) := ⟨(by intro _ _ _ e; cases e; exact h), (by intro i _ _ _ e; cases e; exact hc i)⟩
theorem KRes.Counts.go {m : Nat} {k k' : Core} (hc : k.Canonical → k'.Canonical) : KRes.Counts m k (.go k') := KRes.Counts.ok UpdsIn.nil hc
theorem KRes.Counts.ite {m : Nat} {k : Core} {a b : KRes} {c : Prop} [Decidable c] (ha : a.Counts m k) (hb : b.Counts m k) :
    KRes.Counts m k (if c then a else b) := by split <;> assumption
theorem KRes.Counts.start {m : Nat} {k k' : Core} {r : KRes} (h : r.Counts m k') (hc : k.Canonical → k'.Canonical) : r.Counts m k :=
  ⟨h.upds, fun i => h.core (hc i)⟩

theorem KRes.Counts.showTiles {c : Nat} {k : Core} {r : KRes} (h : r.Counts 0x1000000078 k) : (r.showTiles c).Counts 0x1000000078 k := by
  unfold KRes.showTiles
  split
  · rename_i k' l j
    exact KRes.Counts.ok (UpdsIn.append (h.upds _ _ _ rfl) (UpdsIn.cons (F.MX_STAT_SHADOW_FULL_block _) rfl
      (UpdsIn.cons (F.MX_STAT_SHADOW_PAIRING_block _) rfl (UpdsIn.cons (F.MX_STAT_ACTIVE_PAIRING_block _) rfl UpdsIn.nil))))
      (fun i => h.core i _ _ _ rfl)
  · exact KRes.Counts.stop

theorem scalarOp_counts (f : Word64 → Word64 → Word64) (hasReg hasImm : Bool) (sd sa : Reg5) (b : Src) (k : Core) : (scalarOp f hasReg hasImm sd sa b k).Counts 0x1000000000 k := by
  unfold scalarOp
  try dsimp only
  repeat' first
    | with_reducible apply KRes.Counts.stop
    | with_reducible apply KRes.Counts.go
    | with_reducible apply KRes.Counts.ok
    | with_reducible apply KRes.Counts.ite
    | with_reducible apply UpdsIn.nil
    | with_reducible apply UpdsIn.append
    | exact fun h => h.setS _ _
    | split

theorem branch_counts (sa sb : Reg5) (cond : BitVec 3) (zero : BitVec 17) (off : BitVec 24) (k : Core) : (branch sa sb cond zero off k).Counts 0x1000000000 k := by
  unfold branch
  try dsimp only
  repeat' first
    | with_reducible apply KRes.Counts.stop
    | with_reducible apply KRes.Counts.go
    | with_reducible apply KRes.Counts.ok
    | with_reducible apply KRes.Counts.ite
    | with_reducible apply UpdsIn.nil
    | with_reducible apply UpdsIn.append
    | exact id
    | split

theorem jumpLink_counts (sa sb : Reg5) (cond : BitVec 3) (zero : BitVec 17) (off : BitVec 24) (k : Core) : (jumpLink sa sb cond zero off k).Counts 0x1000000000 k := by
  unfold jumpLink
  try dsimp only
  repeat' first
    | with_reducible apply KRes.Counts.stop
    | with_reducible apply KRes.Counts.go
    | with_reducible apply KRes.Counts.ok
    | with_reducible apply KRes.Counts.ite
    | with_reducible apply UpdsIn.nil
    | with_reducible apply UpdsIn.append
    | exact fun h => h.setS _ _
    | split

theorem jumpReg_counts (sa sb : Reg5) (cond : BitVec 3) (zero : BitVec 17) (off : BitVec 24) (k : Core) : (jumpReg sa sb cond zero off k).Counts 0x1000000000 k := by
  unfold jumpReg
  try dsimp only
  repeat' first
    | with_reducible apply KRes.Counts.stop
    | with_reducible apply KRes.Counts.go
    | with_reducible apply KRes.Counts.ok
    | with_reducible apply KRes.Counts.ite
    | with_reducible apply UpdsIn.nil
    | with_reducible apply UpdsIn.append
    | exact id
    | split

theorem scalarLoad_counts (n : Nat) (sd sa : Reg5) (zero : BitVec 20) (off : BitVec 24) (free : Nat) (k : Core) : (scalarLoad n sd sa zero off free k).Counts 0x1000000000 k := by
  unfold scalarLoad
  try dsimp only
  repeat' first
    | with_reducible apply KRes.Counts.stop
    | with_reducible apply KRes.Counts.go
    | with_reducible apply KRes.Counts.ok
    | with_reducible apply KRes.Counts.ite
    | with_reducible apply UpdsIn.nil
    | with_reducible apply UpdsIn.append
    | exact fun h => h.setS _ _
    | split

theorem scalarStore_counts (n : Nat) (ss sa : Reg5) (zero : BitVec 20) (off : BitVec 24) (k : Core) : (scalarStore n ss sa zero off k).Counts 0x1000000000 k := by
  unfold scalarStore
  try dsimp only
  repeat' first
    | with_reducible apply KRes.Counts.stop
    | with_reducible apply KRes.Counts.go
    | with_reducible apply KRes.Counts.ok
    | with_reducible apply KRes.Counts.ite
    | with_reducible apply UpdsIn.nil
    | with_reducible apply UpdsIn.append
    | exact fun h => h.save _ _
    | split

theorem nopOp_counts (zero : BitVec 54) (k : Core) : (nopOp zero k).Counts 0x1000000000 k := by
  unfold nopOp
  try dsimp only
  repeat' first
    | with_reducible apply KRes.Counts.stop
    | with_reducible apply KRes.Counts.go
    | with_reducible apply KRes.Counts.ok
    | with_reducible apply KRes.Counts.ite
    | with_reducible apply UpdsIn.nil
    | with_reducible apply UpdsIn.append
    | exact id
    | split

theorem fenceOp_counts (zero : BitVec 52) (scope : BitVec 2) (k : Core) : (fenceOp zero scope k).Counts 0x1000000000 k := by
  unfold fenceOp
  try dsimp only
  repeat' first
    | with_reducible apply KRes.Counts.stop
    | with_reducible apply KRes.Counts.go
    | with_reducible apply KRes.Counts.ok
    | with_reducible apply KRes.Counts.ite
    | with_reducible apply UpdsIn.nil
    | with_reducible apply UpdsIn.append
    | exact fun h => ⟨h.sregs, h.vregs, h.masks, h.acc, h.store⟩
    | split

theorem abortOp_counts (zero : BitVec 38) (code : BitVec 16) (k : Core) : (abortOp zero code).Counts 0x1000000000 k := by
  unfold abortOp
  try dsimp only
  repeat' first
    | with_reducible apply KRes.Counts.stop
    | with_reducible apply KRes.Counts.go
    | with_reducible apply KRes.Counts.ok
    | with_reducible apply KRes.Counts.ite
    | with_reducible apply UpdsIn.nil
    | with_reducible apply UpdsIn.append
    | split

theorem stageApply_counts (c : Nat) (d : StageDesc) (free : Nat) (k : Core) : (stageApply c d free k).Counts 0x1000000078 k := by
  unfold stageApply
  try dsimp only
  repeat' first
    | with_reducible apply KRes.Counts.stop
    | with_reducible apply KRes.Counts.go
    | with_reducible apply KRes.Counts.ok
    | with_reducible apply KRes.Counts.ite
    | with_reducible apply UpdsIn.nil
    | with_reducible apply UpdsIn.append
    | ((with_reducible apply UpdsIn.add (F.FCT_PORT_BYTES_BYTES_block _)); · rfl)
    | exact fun h => landRows_canonical _ h (by assumption)
    | exact fun h => h.putRegion _ _
    | split

theorem stageOp_counts (c : Nat) (sa : Reg5) (zero : BitVec 49) (free : Nat) (k : Core) : (stageOp c sa zero free k).Counts 0x1000000078 k := by
  unfold stageOp
  try dsimp only
  repeat' first
    | with_reducible apply KRes.Counts.stop
    | with_reducible apply KRes.Counts.go
    | with_reducible apply KRes.Counts.ok
    | with_reducible apply KRes.Counts.ite
    | with_reducible apply UpdsIn.nil
    | with_reducible apply UpdsIn.append
    | with_reducible apply stageApply_counts
    | split

theorem mloadOp_counts (c : Nat) (sa sf : Reg5) (pairing : BitVec 4) (cscale : BitVec 1) (zero : BitVec 39) (free : Nat) (k : Core) : (mloadOp c sa sf pairing cscale zero free k).Counts 0x1000000078 k := by
  unfold mloadOp
  try dsimp only
  repeat' first
    | with_reducible apply KRes.Counts.stop
    | with_reducible apply KRes.Counts.go
    | with_reducible apply KRes.Counts.ok
    | with_reducible apply KRes.Counts.ite
    | with_reducible apply UpdsIn.nil
    | with_reducible apply UpdsIn.append
    | ((with_reducible apply UpdsIn.add (F.MX_TILES_DISCARDED_LOADS_block _)); · rfl)
    | ((with_reducible apply UpdsIn.add (F.MX_TILES_LOADS_block _)); · rfl)
    | ((with_reducible apply UpdsIn.add (F.MX_ZERO_WT_ELEMS_block _)); · rfl)
    | exact fun h => ⟨h.sregs, h.vregs, h.masks, h.acc, h.store⟩
    | split

theorem runActive_counts (c arrays : Nat) (sa sm sr sf : Reg5) (rscale : Nat) (accum : Bool) (colsel : Nat) (pairing : Nat) (p : Pairing) (free : Nat) (k : Core) : (runActive c arrays sa sm sr sf rscale accum colsel pairing p free k).Counts 0x1000000078 k := by
  unfold runActive
  try dsimp only
  repeat' first
    | with_reducible apply KRes.Counts.stop
    | with_reducible apply KRes.Counts.go
    | with_reducible apply KRes.Counts.ok
    | with_reducible apply KRes.Counts.ite
    | with_reducible apply UpdsIn.nil
    | with_reducible apply UpdsIn.append
    | ((with_reducible apply UpdsIn.add (F.MX_ROWS_ROWS_block _)); · rfl)
    | ((with_reducible apply UpdsIn.set (F.MX_STAT_ACC_SPECIAL_block _)); · rfl)
    | ((with_reducible apply UpdsIn.add (F.MX_ZERO_ACT_ELEMS_block _)); · rfl)
    | exact id
    | exact fun h => ⟨h.sregs, h.vregs, h.masks, runRows_canonical _ _ _ _ _ _ _ _ _ _ h.acc, h.store⟩
    | split

theorem mrunOp_counts (c arrays : Nat) (sa sm sr sf : Reg5) (rscale : BitVec 2) (accum swap : BitVec 1) (colsel : BitVec 2) (pairing : BitVec 4) (zero : BitVec 24) (free : Nat) (k : Core) : (mrunOp c arrays sa sm sr sf rscale accum swap colsel pairing zero free k).Counts 0x1000000078 k := by
  unfold mrunOp
  try dsimp only
  repeat' first
    | with_reducible apply KRes.Counts.stop
    | with_reducible apply KRes.Counts.go
    | with_reducible apply KRes.Counts.ok
    | with_reducible apply KRes.Counts.ite
    | with_reducible apply UpdsIn.nil
    | with_reducible apply UpdsIn.append
    | exact (runActive_counts ..).start (fun h => .ite h.swap h)
    | with_reducible apply runActive_counts
    | split

theorem mdrainOp_counts (c arrays : Nat) (sd sm sr : Reg5) (clear : BitVec 1) (zero : BitVec 38) (k : Core) : (mdrainOp c arrays sd sm sr clear zero k).Counts 0x1000000078 k := by
  unfold mdrainOp
  try dsimp only
  repeat' first
    | with_reducible apply KRes.Counts.stop
    | with_reducible apply KRes.Counts.go
    | with_reducible apply KRes.Counts.ok
    | with_reducible apply KRes.Counts.ite
    | with_reducible apply UpdsIn.nil
    | with_reducible apply UpdsIn.append
    | ((with_reducible apply UpdsIn.add (F.MX_DRAIN_ROWS_block _)); · rfl)
    | exact fun h => .ite ((h.save _ _).clearRows _ _) (h.save _ _)
    | split

theorem mtovOp_counts (c arrays : Nat) (vd sr : Reg5) (clear : BitVec 1) (zero : BitVec 43) (k : Core) : (mtovOp c arrays vd sr clear zero k).Counts 0x1000000078 k := by
  unfold mtovOp
  try dsimp only
  repeat' first
    | with_reducible apply KRes.Counts.stop
    | with_reducible apply KRes.Counts.go
    | with_reducible apply KRes.Counts.ok
    | with_reducible apply KRes.Counts.ite
    | with_reducible apply UpdsIn.nil
    | with_reducible apply UpdsIn.append
    | ((with_reducible apply UpdsIn.add (F.MX_DRAIN_ROWS_block _)); · rfl)
    | exact fun h => .ite ((h.setV _ _).clearRows _ _) (h.setV _ _)
    | split

theorem vldOp_counts (c : Nat) (vd sa : Reg5) (elem : BitVec 8) (widen : BitVec 1) (zero : BitVec 35) (free : Nat) (k : Core) : (vldOp c vd sa elem widen zero free k).Counts 0x1000000078 k := by
  unfold vldOp vecBeats
  try dsimp only
  repeat' first
    | with_reducible apply KRes.Counts.stop
    | with_reducible apply KRes.Counts.go
    | with_reducible apply KRes.Counts.ok
    | with_reducible apply KRes.Counts.ite
    | with_reducible apply UpdsIn.nil
    | with_reducible apply UpdsIn.append
    | ((with_reducible apply UpdsIn.add (F.SEL_VEC_BEATS_BEATS_block _)); · rfl)
    | exact fun h => h.setV _ _
    | split

theorem vstOp_counts (c : Nat) (vs sa : Reg5) (elem : BitVec 8) (vm : Reg3) (zero : BitVec 33) (k : Core) : (vstOp c vs sa elem vm zero k).Counts 0x1000000078 k := by
  unfold vstOp vecBeats
  try dsimp only
  repeat' first
    | with_reducible apply KRes.Counts.stop
    | with_reducible apply KRes.Counts.go
    | with_reducible apply KRes.Counts.ok
    | with_reducible apply KRes.Counts.ite
    | with_reducible apply UpdsIn.nil
    | with_reducible apply UpdsIn.append
    | ((with_reducible apply UpdsIn.add (F.SEL_VEC_BEATS_BEATS_block _)); · rfl)
    | exact fun h => .ite (h.save _ _) (h.saveSome _ _)
    | split

theorem vbcastOp_counts (c : Nat) (vd sa : Reg5) (zero : BitVec 44) (k : Core) : (vbcastOp c vd sa zero k).Counts 0x1000000078 k := by
  unfold vbcastOp vecBeats
  try dsimp only
  repeat' first
    | with_reducible apply KRes.Counts.stop
    | with_reducible apply KRes.Counts.go
    | with_reducible apply KRes.Counts.ok
    | with_reducible apply KRes.Counts.ite
    | with_reducible apply UpdsIn.nil
    | with_reducible apply UpdsIn.append
    | ((with_reducible apply UpdsIn.add (F.SEL_VEC_BEATS_BEATS_block _)); · rfl)
    | exact fun h => h.setV _ _
    | split

theorem vmsetOp_counts (c : Nat) (md : Reg3) (sa : Reg5) (zero : BitVec 46) (k : Core) : (vmsetOp c md sa zero k).Counts 0x1000000078 k := by
  unfold vmsetOp vecBeats
  try dsimp only
  repeat' first
    | with_reducible apply KRes.Counts.stop
    | with_reducible apply KRes.Counts.go
    | with_reducible apply KRes.Counts.ok
    | with_reducible apply KRes.Counts.ite
    | with_reducible apply UpdsIn.nil
    | with_reducible apply UpdsIn.append
    | ((with_reducible apply UpdsIn.add (F.SEL_VEC_BEATS_BEATS_block _)); · rfl)
    | exact fun h => h.setM _ _
    | split

theorem vmldOp_counts (c : Nat) (md : Reg3) (sa : Reg5) (zero : BitVec 46) (free : Nat) (k : Core) : (vmldOp c md sa zero free k).Counts 0x1000000078 k := by
  unfold vmldOp vecBeats
  try dsimp only
  repeat' first
    | with_reducible apply KRes.Counts.stop
    | with_reducible apply KRes.Counts.go
    | with_reducible apply KRes.Counts.ok
    | with_reducible apply KRes.Counts.ite
    | with_reducible apply UpdsIn.nil
    | with_reducible apply UpdsIn.append
    | ((with_reducible apply UpdsIn.add (F.SEL_VEC_BEATS_BEATS_block _)); · rfl)
    | exact fun h => h.setM _ _
    | split

theorem vmstOp_counts (c : Nat) (ms : Reg3) (sa : Reg5) (zero : BitVec 46) (k : Core) : (vmstOp c ms sa zero k).Counts 0x1000000078 k := by
  unfold vmstOp vecBeats
  try dsimp only
  repeat' first
    | with_reducible apply KRes.Counts.stop
    | with_reducible apply KRes.Counts.go
    | with_reducible apply KRes.Counts.ok
    | with_reducible apply KRes.Counts.ite
    | with_reducible apply UpdsIn.nil
    | with_reducible apply UpdsIn.append
    | ((with_reducible apply UpdsIn.add (F.SEL_VEC_BEATS_BEATS_block _)); · rfl)
    | exact fun h => h.save _ _
    | split

theorem vredOp_counts (c : Nat) (sd va : Reg5) (vm : Reg3) (op : BitVec 3) (zero : BitVec 38) (k : Core) : (vredOp c sd va vm op zero k).Counts 0x1000000078 k := by
  unfold vredOp vecBeats
  try dsimp only
  repeat' first
    | with_reducible apply KRes.Counts.stop
    | with_reducible apply KRes.Counts.go
    | with_reducible apply KRes.Counts.ok
    | with_reducible apply KRes.Counts.ite
    | with_reducible apply UpdsIn.nil
    | with_reducible apply UpdsIn.append
    | ((with_reducible apply UpdsIn.add (F.SEL_VEC_BEATS_BEATS_block _)); · rfl)
    | exact fun h => h.setS _ _
    | split

theorem vderivOp_counts (c : Nat) (vd ve sa sb : Reg5) (zero : BitVec 34) (free : Nat) (k : Core) : (vderivOp c vd ve sa sb zero free k).Counts 0x1000000078 k := by
  unfold vderivOp vecBeats
  try dsimp only
  repeat' first
    | with_reducible apply KRes.Counts.stop
    | with_reducible apply KRes.Counts.go
    | with_reducible apply KRes.Counts.ok
    | with_reducible apply KRes.Counts.ite
    | with_reducible apply UpdsIn.nil
    | with_reducible apply UpdsIn.append
    | ((with_reducible apply UpdsIn.add (F.QNT_DEGEN_COUNT_block _)); · rfl)
    | ((with_reducible apply UpdsIn.add (F.SEL_VEC_BEATS_BEATS_block _)); · rfl)
    | exact fun h => let g := (h.setV _ _).setV _ _; ⟨g.sregs, g.vregs, g.masks, g.acc, g.store⟩
    | split

theorem vchainOp_counts (c : Nat) (sa : Reg5) (zero : BitVec 49) (free : Nat) (k : Core) : (vchainOp c sa zero free k).Counts 0x1000000078 k := by
  unfold vchainOp vecBeats
  try dsimp only
  repeat' first
    | with_reducible apply KRes.Counts.stop
    | with_reducible apply KRes.Counts.go
    | with_reducible apply KRes.Counts.ok
    | with_reducible apply KRes.Counts.ite
    | with_reducible apply UpdsIn.nil
    | with_reducible apply UpdsIn.append
    | ((with_reducible apply UpdsIn.add (F.QNT_CONV_ELEMS_block _)); · rfl)
    | ((with_reducible apply UpdsIn.add (F.QNT_DRAWS_DRAWS_block _)); · rfl)
    | ((with_reducible apply UpdsIn.add (F.QNT_NAN_COUNT_block _)); · rfl)
    | ((with_reducible apply UpdsIn.add (F.QNT_SAT_COUNT_block _)); · rfl)
    | ((with_reducible apply UpdsIn.add (F.SEL_VEC_BEATS_BEATS_block _)); · rfl)
    | ((with_reducible apply UpdsIn.add (F.SEL_VEC_FN_BEATS_block _)); · rfl)
    | exact fun h => let g := landWrites_canonical _ _ h; ⟨g.sregs, g.vregs, runStages_masks _ _ _ _ h.masks, g.acc, g.store⟩
    | split

theorem selkApply_counts (c free : Nat) (d : SelDesc) (inp : SelInput) (k : Core) : (selkApply c free d inp k).Counts 0x1000000078 k := by
  unfold selkApply selLast
  try dsimp only
  repeat' first
    | with_reducible apply KRes.Counts.stop
    | with_reducible apply KRes.Counts.go
    | with_reducible apply KRes.Counts.ok
    | with_reducible apply KRes.Counts.ite
    | with_reducible apply UpdsIn.nil
    | with_reducible apply UpdsIn.append
    | ((with_reducible apply UpdsIn.add (F.SEL_COUNT_SELK_block _)); · rfl)
    | ((with_reducible apply UpdsIn.add (F.SEL_ELEMS_ELEMS_block _)); · rfl)
    | ((with_reducible apply UpdsIn.set (F.SEL_LAST_BEATS_block _)); · rfl)
    | ((with_reducible apply UpdsIn.set (F.SEL_LAST_READS_block _)); · rfl)
    | ((with_reducible apply UpdsIn.add (F.SEL_NAN_COUNT_block _)); · rfl)
    | ((with_reducible apply UpdsIn.add (F.SEL_REREAD_BEATS_block _)); · rfl)
    | exact fun h => let g := (h.save _ _).save _ _; ⟨g.sregs, g.vregs, g.masks, g.acc, g.store⟩
    | split

theorem seltApply_counts (c free : Nat) (d : SelDesc) (inp : SelInput) (k : Core) : (seltApply c free d inp k).Counts 0x1000000078 k := by
  unfold seltApply selLast
  try dsimp only
  repeat' first
    | with_reducible apply KRes.Counts.stop
    | with_reducible apply KRes.Counts.go
    | with_reducible apply KRes.Counts.ok
    | with_reducible apply KRes.Counts.ite
    | with_reducible apply UpdsIn.nil
    | with_reducible apply UpdsIn.append
    | ((with_reducible apply UpdsIn.add (F.SEL_COUNT_SELT_block _)); · rfl)
    | ((with_reducible apply UpdsIn.add (F.SEL_ELEMS_ELEMS_block _)); · rfl)
    | ((with_reducible apply UpdsIn.set (F.SEL_LAST_BEATS_block _)); · rfl)
    | ((with_reducible apply UpdsIn.set (F.SEL_LAST_READS_block _)); · rfl)
    | ((with_reducible apply UpdsIn.add (F.SEL_NAN_COUNT_block _)); · rfl)
    | exact fun h => let g := (h.save _ _).save _ _; ⟨g.sregs, g.vregs, g.masks, g.acc, g.store⟩
    | split

theorem selectOp_counts (thr has : Bool) (c : Nat) (sa : Reg5) (zero : BitVec 49) (free : Nat) (k : Core) : (selectOp thr has c sa zero free k).Counts 0x1000000078 k := by
  unfold selectOp
  try dsimp only
  repeat' first
    | with_reducible apply KRes.Counts.stop
    | with_reducible apply KRes.Counts.go
    | with_reducible apply KRes.Counts.ok
    | with_reducible apply KRes.Counts.ite
    | with_reducible apply UpdsIn.nil
    | with_reducible apply UpdsIn.append
    | with_reducible apply selkApply_counts
    | with_reducible apply seltApply_counts
    | split

end Sys2Proof.Machine
end

