-- ==== Sys2Proof/Laws/Control.lean ====
section
/-! SUPPORT. What each operation of Machine/Control.lean can change (`Within`, Laws/Within.lean). -/

namespace Sys2Proof.Machine

set_option Elab.async false

theorem State.stageWakes_within (s a1 a2 a3) : Within 0x100040200 s (State.stageWakes s a1 a2 a3) := by
  unfold State.stageWakes
  try dsimp only
  repeat' first
    | with_reducible apply Within.refl
    | ((with_reducible apply Within.step (State.wake_within ..)); · rfl)
    | with_reducible apply WithinOpt.mapState
    | intro _
    | with_reducible refine Within.update ?_ rfl
    | with_reducible apply Within.foldl
    | intro _ _
    | split

theorem execStage_within (a0 a1 a2 s) : WithinRes 0x1100040278 s (execStage a0 a1 a2 s) := by
  have hc := fun t => onCore_within (m := 0x1000000078) a0 t (stageOp a0 a1 a2) (fun _ _ => stageOp_counts ..) rfl
  unfold execStage
  split
  · exact (hc _).step rfl .refl
  · split
    · exact (hc _).step rfl (.ite ((State.stageWakes_within ..).mono rfl) .refl)
    · exact (hc _).step rfl .refl

theorem execNop_within (a0 a1 s) : WithinRes 0x1000000000 s (execNop a0 a1 s) :=
  onCore_within _ _ _ (fun _ _ => nopOp_counts ..) rfl

theorem execFence_within (a0 a1 a2 s) : WithinRes 0x1000000000 s (execFence a0 a1 a2 s) :=
  onCore_within _ _ _ (fun _ _ => fenceOp_counts ..) rfl

theorem execCommit_within (a0 a1 s) : WithinRes 0x1faffffffff s (execCommit a0 a1 s) := by
  unfold execCommit
  split
  · rename_i k i hc hi
    have hk : s.Inv → k.Canonical := fun i => i.cores _ _ hc
    split
    · split
      · exact .next (stopCore_within _ _ _ hk rfl .refl)
      · split
        · exact .next (stopCore_within _ _ _ hk rfl .refl)
        · exact .next ((State.commitPhase_within _ _ _ _ hk).mono rfl)
    · exact .fault
  · exact .fault

theorem execAbort_within (a0 a1 a2 s) : WithinRes 0x1000000000 s (execAbort a0 a1 a2 s) :=
  onCore_within _ _ _ (fun _ _ => abortOp_counts ..) rfl

theorem execReservedInstructionWord_within (a0 a1 s) : WithinRes 0x1000000000 s (execReservedInstructionWord a0 a1 s) := by
  unfold execReservedInstructionWord
  split
  · exact WithinRes.next .refl
  · exact onCore_within _ _ _ (fun _ _ => KRes.Counts.stop) rfl

end Sys2Proof.Machine
end

