-- ==== Sys2Proof/Laws/FrameOps.lean ====
section
/-! SUPPORT. What each operation of Machine/FrameOps.lean can change (`Within`, Laws/Within.lean). -/

namespace Sys2Proof.Machine

set_option Elab.async false

theorem State.startUp_within (s a1) : WithinOpt 0x8000000100 s (State.startUp s a1) := by
  refine ⟨fun t h => ?_⟩
  obtain ⟨p, hp, rfl⟩ := Option.map_eq_some_iff.1 h
  exact (State.setPte_within ..).step rfl ((State.allot_within s (some a1)).within p hp)

theorem State.arrive_within (s a1) : Within 0x8000000100 s (State.arrive s a1) := by
  unfold State.arrive
  try dsimp only
  repeat' first
    | with_reducible apply Within.refl
    | ((with_reducible apply bump_within _ _ rfl); · rfl)
    | ((with_reducible apply Within.step (State.setPte_within ..)); · rfl)
    | with_reducible refine Within.update ?_ rfl
    | split

theorem State.bringUp_within (s a1) : WithinOpt 0x8000000100 s (State.bringUp s a1) := by
  refine ⟨fun t h => ?_⟩
  unfold State.bringUp at h
  split at h
  · split at h
    · cases h
    · obtain ⟨u, hu, rfl⟩ := Option.map_eq_some_iff.1 h
      exact (State.arrive_within ..).step rfl ((State.startUp_within s a1).within u hu)
  · cases h; exact .refl

theorem State.bringAll_within (l : List Nat) (s : State) : WithinOpt 0x8000000100 s (State.bringAll s l) := by
  induction l generalizing s with
  | nil => exact WithinOpt.some .refl
  | cons k r ih =>
    unfold State.bringAll
    split
    · exact WithinOpt.none
    · exact (ih _).step rfl ((State.bringUp_within _ _).of_eq ‹_›)

theorem State.fillZero_within (l : List Nat) (s : State) : WithinOpt 0x8000000100 s (State.fillZero s l) := by
  induction l generalizing s with
  | nil => exact WithinOpt.some .refl
  | cons k r ih =>
    unfold State.fillZero
    split
    · split
      · exact WithinOpt.none
      · exact (ih _).step rfl ((State.setPte_within ..).step rfl (((State.allot_within _ _).of_eq ‹_›).mono rfl))
    · exact ih s

theorem State.pagesReady_within (s a1) : WithinOpt 0x8000000100 s (State.pagesReady s a1) := by
  refine ⟨fun t h => ?_⟩
  obtain ⟨u, hu, ht⟩ := Option.bind_eq_some_iff.1 h
  exact ((State.fillZero_within a1 u).within t ht).step rfl (((State.bringAll_within a1 s).within u hu).mono rfl)

theorem State.freshFrames_within (l : List Nat) (acc : List (Nat × Nat)) (s : State) : WithinOptSnd 0x8000000100 s (State.freshFrames s l acc) := by
  induction l generalizing acc s with
  | nil => exact WithinOptSnd.some .refl
  | cons k r ih =>
    unfold State.freshFrames
    split
    · exact WithinOptSnd.none
    · exact (ih _ _).step rfl ((State.allot_within _ _).of_eq ‹_›)

theorem State.holdPage_within (s a1 a2) : WithinOpt 0x8000000100 s (State.holdPage s a1 a2) := by
  refine ⟨fun t h => ?_⟩
  obtain ⟨u, hu, rfl⟩ := Option.map_eq_some_iff.1 h
  have hs : Within 0x8000000100 s u := by
    split at hu
    · exact (State.startUp_within s a2).within u hu
    · cases hu; exact .refl
  have hp := fun p => (State.setPte_within u a2 p).step (m := 0x8000000100) rfl hs
  exact .ite hs (.ite (bump_within _ _ rfl rfl (hp _)) (hp _))

theorem State.holdPages_within (mine : List Nat) (l : List Nat) (s : State) : WithinOpt 0x8000000100 s (State.holdPages s mine l) := by
  induction l generalizing s with
  | nil => exact WithinOpt.some .refl
  | cons k r ih =>
    unfold State.holdPages
    split
    · exact WithinOpt.none
    · exact (ih _).step rfl ((State.holdPage_within ..).of_eq ‹_›)

theorem State.grant_within (s a1) : WithinOpt 0xc000000100 s (State.grant s a1) := by
  unfold State.grant
  dsimp only
  split
  · exact WithinOpt.none
  · have h := ((State.holdPages_within ..).of_eq ‹_›).mono (m := 0xc000000100) rfl
    split
    · exact WithinOpt.none
    · exact WithinOpt.some (bump_within _ _ rfl rfl (Within.update (((State.freshFrames_within ..).of_eq ‹_›).step rfl h) rfl))

theorem State.toHome_within (s a1) : Within 0x8000000100 s (State.toHome s a1) := by
  unfold State.toHome
  try dsimp only
  repeat' first
    | with_reducible apply Within.refl
    | ((with_reducible apply Within.step (State.freeFrame_within ..)); · rfl)
    | ((with_reducible apply Within.step (State.setPte_within ..)); · rfl)

theorem State.noFrame_within (s) : Within 0xa000800000 s (State.noFrame s) := by
  unfold State.noFrame
  try dsimp only
  repeat' first
    | with_reducible apply Within.refl
    | with_reducible apply Within.ite
    | ((with_reducible apply Within.step (State.event_within ..)); · rfl)
    | with_reducible refine Within.update ?_ rfl

theorem State.loseBlocks_within (s a1) : Within 0x80000000000 s (State.loseBlocks s a1) := by
  unfold State.loseBlocks
  try dsimp only
  repeat' first
    | with_reducible apply Within.refl
    | with_reducible apply WithinOpt.mapState
    | intro _
    | with_reducible refine Within.update ?_ rfl

theorem State.loseVersion_within (s a1) : Within 0x42edaffffffff s (State.loseVersion s a1) := by
  unfold State.loseVersion
  try dsimp only
  repeat' first
    | with_reducible apply Within.refl
    | with_reducible apply Within.ite
    | ((with_reducible apply Within.step (State.failItem_within ..)); · rfl)
    | ((with_reducible apply Within.step (State.endRun_within ..)); · rfl)
    | with_reducible refine Within.update ?_ rfl
    | with_reducible apply Within.foldl
    | intro _ _
    | split

theorem State.loseFrame_within (s a1) : Within 0x42edaffffffff s (State.loseFrame s a1) := by
  unfold State.loseFrame
  try dsimp only
  repeat' first
    | with_reducible apply Within.refl
    | with_reducible apply Within.ite
    | ((with_reducible apply Within.step (State.loseBlocks_within ..)); · rfl)
    | ((with_reducible apply Within.step (State.setPte_within ..)); · rfl)
    | ((with_reducible apply Within.step (State.killCores_within ..)); · rfl)
    | ((with_reducible apply Within.step (State.loseVersion_within ..)); · rfl)
    | with_reducible apply WithinOpt.mapState
    | intro _
    | with_reducible refine Within.update ?_ rfl
    | split

theorem State.placeTables_within (s) : Within 0x8000000000 s (State.placeTables s) := by
  unfold State.placeTables
  try dsimp only
  repeat' first
    | with_reducible apply Within.refl
    | with_reducible apply Within.ite
    | with_reducible apply WithinOpt.mapState
    | intro _
    | with_reducible refine Within.update ?_ rfl
    | split

theorem State.rebuildCopy_within (s a1) : Within 0x8000000000 s (State.rebuildCopy s a1) := by
  unfold State.rebuildCopy
  try dsimp only
  repeat' first
    | with_reducible apply Within.refl
    | with_reducible apply Within.ite
    | with_reducible apply WithinOpt.mapState
    | intro _
    | with_reducible refine Within.update ?_ rfl

theorem State.loseCopies_within (s a1 a2) : Within 0x8000000000 s (State.loseCopies s a1 a2) := by
  unfold State.loseCopies
  try dsimp only
  repeat' first
    | with_reducible apply Within.refl
    | ((with_reducible apply Within.step (State.rebuildCopy_within ..)); · rfl)
    | with_reducible refine Within.update ?_ rfl
    | with_reducible apply Within.foldl
    | intro _ _

theorem State.dropStack_within (s a1 a2) : Within 0x42edaffffffff s (State.dropStack s a1 a2) := by
  unfold State.dropStack
  try dsimp only
  repeat' first
    | with_reducible apply Within.refl
    | ((with_reducible apply put_within _ _ (F.HBM_CTL_RETIRE_block _)); · rfl)
    | ((with_reducible apply put_within _ _ (F.HBM_STAT_STATE_block _)); · rfl)
    | ((with_reducible apply drop_within _ _ rfl); · rfl)
    | ((with_reducible apply Within.step (State.loseCopies_within ..)); · rfl)
    | ((with_reducible apply Within.step (State.loseFrame_within ..)); · rfl)
    | with_reducible refine Within.update ?_ rfl
    | with_reducible apply Within.foldl
    | intro _ _

theorem State.failWaiters_within (s a1) : Within 0x42ec80000c106 s (State.failWaiters s a1) := by
  unfold State.failWaiters
  try dsimp only
  repeat' first
    | with_reducible apply Within.refl
    | with_reducible apply Within.ite
    | ((with_reducible apply Within.step (State.failItem_within ..)); · rfl)
    | with_reducible refine Within.update ?_ rfl
    | with_reducible apply Within.foldl
    | intro _ _

theorem State.poison_within (s a1 a2 a3) : Within 0x42ee80080c106 s (State.poison s a1 a2 a3) := by
  unfold State.poison
  try dsimp only
  repeat' first
    | with_reducible apply Within.refl
    | ((with_reducible apply Within.step (State.freeFrame_within ..)); · rfl)
    | ((with_reducible apply Within.step (State.setPte_within ..)); · rfl)
    | ((with_reducible apply Within.step (State.failWaiters_within ..)); · rfl)
    | ((with_reducible apply Within.step (State.setObject_within ..)); · rfl)
    | ((with_reducible apply Within.step (State.event_within ..)); · rfl)
    | with_reducible refine Within.update ?_ rfl
    | with_reducible apply Within.foldl
    | intro _ _

theorem State.endEpisode_within (s a1) : Within 0xa000800000 s (State.endEpisode s a1) := by
  unfold State.endEpisode
  try dsimp only
  repeat' first
    | with_reducible apply Within.refl
    | with_reducible apply Within.ite
    | ((with_reducible apply Within.step (State.setObject_within ..)); · rfl)
    | ((with_reducible apply Within.step (State.event_within ..)); · rfl)
    | with_reducible refine Within.update ?_ rfl
    | split

theorem State.freeLpages_within (s a1) : Within 0x400000000000 s (State.freeLpages s a1) := by
  unfold State.freeLpages
  try dsimp only
  repeat' first
    | with_reducible apply Within.refl
    | with_reducible refine Within.update ?_ rfl
    | split

theorem State.dropWriteBack_within (s a1) : Within 0x400000000000 s (State.dropWriteBack s a1) := by
  unfold State.dropWriteBack
  try dsimp only
  repeat' first
    | with_reducible apply Within.refl
    | with_reducible apply Within.ite
    | with_reducible apply WithinOpt.mapState
    | intro _
    | with_reducible refine Within.update ?_ rfl

theorem State.unmapPage_within (s a1) : Within 0x408800000100 s (State.unmapPage s a1) := by
  unfold State.unmapPage
  dsimp only
  generalize hx : State.dropWriteBack _ _ = x
  have h : Within 0x408800000100 s x := by
    subst hx
    exact (State.dropWriteBack_within ..).step rfl ((State.freeLpages_within ..).step rfl ((State.setPte_within ..).step rfl (.ite
      (.ite ((State.leaveFrame_within ..).mono rfl) .refl) (drop_within _ _ rfl rfl (.ite ((State.leaveFrame_within ..).mono rfl) .refl)))))
  split
  · exact h
  · exact Within.update (t := { x with mem := Sparse.splice x.mem (a1 * pageBytes) pageBytes [] })
      (Within.memory (fun h => Sparse.wf_splice h rfl (by simp)) rfl h) rfl

theorem State.failUnmapped_within (s a1) : Within 0x42ec80000c106 s (State.failUnmapped s a1) := by
  unfold State.failUnmapped
  try dsimp only
  repeat' first
    | with_reducible apply Within.refl
    | with_reducible apply Within.ite
    | ((with_reducible apply Within.step (State.failItem_within ..)); · rfl)
    | with_reducible refine Within.update ?_ rfl
    | with_reducible apply Within.foldl
    | intro _ _

theorem State.finishRetire_within (s) : Within 0x440c800000102 s (State.finishRetire s) := by
  unfold State.finishRetire
  try dsimp only
  repeat' first
    | with_reducible apply Within.refl
    | with_reducible apply Within.ite
    | ((with_reducible apply Within.step (State.unmapPage_within ..)); · rfl)
    | ((with_reducible apply Within.step (State.opEnd_within ..)); · rfl)
    | with_reducible refine Within.update ?_ rfl
    | with_reducible apply Within.foldl
    | intro _ _
    | split

end Sys2Proof.Machine
end

