-- ==== Sys2Proof/Laws/FtbOps.lean ====
section
/-! SUPPORT. What each operation of Machine/FtbOps.lean can change (`Within`, Laws/Within.lean). -/

namespace Sys2Proof.Machine

set_option Elab.async false

theorem State.ahead_within (s a1 a2) : Within 0x8800000000 s (State.ahead s a1 a2) := by
  unfold State.ahead
  try dsimp only
  repeat' first
    | with_reducible apply Within.refl
    | ((with_reducible apply Within.step (State.publishOut_within ..)); · rfl)
    | with_reducible refine Within.update ?_ rfl
    | with_reducible apply Within.foldl
    | intro _ _

theorem State.tableAway_within (s a1) : WithinOpt 0x8000000100 s (State.tableAway s a1) := by
  unfold State.tableAway
  try dsimp only
  repeat' first
    | with_reducible apply Within.refl
    | with_reducible apply Within.ite
    | with_reducible apply WithinOpt.none
    | with_reducible apply WithinOpt.some
    | ((with_reducible apply WithinOpt.step (State.startUp_within ..)); · rfl)
    | with_reducible apply WithinOpt.getD
    | with_reducible apply WithinOpt.mapState
    | intro _
    | with_reducible refine Within.update ?_ rfl
    | with_reducible apply Within.foldl
    | intro _ _
    | split

theorem State.sweepTables_within (s) : Within 0x18000000000 s (State.sweepTables s) := by
  unfold State.sweepTables
  try dsimp only
  repeat' first
    | with_reducible apply Within.refl
    | with_reducible apply Within.ite
    | ((with_reducible apply Within.step (State.setPte_within ..)); · rfl)
    | with_reducible apply WithinOpt.mapState
    | intro _
    | with_reducible refine Within.update ?_ rfl
    | with_reducible apply Within.foldl

theorem State.dropMig_within (s a1 a2) : Within 0x10000000000 s (State.dropMig s a1 a2) := by
  unfold State.dropMig
  try dsimp only
  repeat' first
    | with_reducible apply Within.refl
    | ((with_reducible apply Within.step (State.setTable_within ..)); · rfl)
    | with_reducible refine Within.update ?_ rfl
    | split

theorem State.abandonMigs_within (s a1) : Within 0x401c800002002 s (State.abandonMigs s a1) := by
  unfold State.abandonMigs
  try dsimp only
  repeat' first
    | with_reducible apply Within.refl
    | ((with_reducible apply bumpSat_within _ _ (F.FTB_MIG_ABORTS_block _)); · rfl)
    | ((with_reducible apply Within.step (State.opEnd_within ..)); · rfl)
    | ((with_reducible apply Within.step (State.dropMig_within ..)); · rfl)
    | with_reducible refine Within.update ?_ rfl
    | with_reducible apply Within.foldl
    | intro _ _
    | split

theorem State.publishJob_within (s a1 a2) : Within 0xc800000100 s (State.publishJob s a1 a2) := by
  unfold State.publishJob
  try dsimp only
  repeat' first
    | with_reducible apply Within.refl
    | with_reducible apply Within.ite
    | ((with_reducible apply drop_within _ _ rfl); · rfl)
    | ((with_reducible apply Within.step (State.unpinFrames_within ..)); · rfl)
    | ((with_reducible apply Within.step (State.setJob_within ..)); · rfl)
    | ((with_reducible apply Within.step (State.publish_within ..)); · rfl)

theorem State.ringStep_within {m : Nat} (s : State) (block opId completion : Nat) (long bad : Bool) (f : State → Res) (hf : ∀ s, WithinRes m s (f s))
    (hm : 0x400c80020f102 &&& m = 0x400c80020f102) : WithinRes m s (State.ringStep s block opId completion long bad f) := by
  unfold State.ringStep
  split
  · exact WithinRes.next (((State.opDead_within ..).of_eq ‹_›).mono hm)
  · split
    · have h := (State.opStart_within s block opId long completion 0).mono (m := 0x400c80020f102) rfl
      dsimp only
      split
      · exact WithinRes.next (((State.opEnd_within ..).step rfl h).mono hm)
      · exact (hf _).step (Nat.and_self m) (h.mono hm)
    · exact WithinRes.next .refl

end Sys2Proof.Machine
end

