-- ==== Sys2Proof/Laws/Inline.lean ====
section
/-! SUPPORT. What each operation of Machine/Inline.lean can change (`Within`, Laws/Within.lean). -/

namespace Sys2Proof.Machine

set_option Elab.async false

theorem State.copyHome_within (s a1 a2) : Within 0x8000000000 s (State.copyHome s a1 a2) := by
  unfold State.copyHome
  try dsimp only
  repeat' first
    | with_reducible apply Within.refl
    | with_reducible refine Within.update ?_ rfl

theorem State.putHome_within (s a1 a2) : Within 0x4200000000000 s (State.putHome s a1 a2) := by
  unfold State.putHome
  try dsimp only
  repeat' first
    | with_reducible apply Within.refl
    | with_reducible apply Within.ite
    | ((with_reducible apply Within.step (State.putHall_within ..)); · rfl)
    | with_reducible refine Within.update ?_ rfl
    | with_reducible apply Within.foldl
    | intro _ _
    | split

end Sys2Proof.Machine
end

