-- ==== Sys2Proof/Laws/GeoOps.lean ====
section
/-! SUPPORT. What each operation of Machine/GeoOps.lean can change (`Within`, Laws/Within.lean). -/

namespace Sys2Proof.Machine

set_option Elab.async false

theorem State.setBay_within (s a1 a2) : Within 0x400000000000 s (State.setBay s a1 a2) := by
  unfold State.setBay
  try dsimp only
  repeat' first
    | with_reducible apply Within.refl
    | with_reducible refine Within.update ?_ rfl

theorem State.modStripe_within (s a1 a2) : Within 0x400000000000 s (State.modStripe s a1 a2) := by
  unfold State.modStripe
  try dsimp only
  repeat' first
    | with_reducible apply Within.refl
    | with_reducible refine Within.update ?_ rfl
    | split

theorem State.setChan_within (s a1 a2) : Within 0x400200050400 s (State.setChan s a1 a2) := by
  unfold State.setChan
  try dsimp only
  repeat' first
    | with_reducible apply Within.refl
    | with_reducible apply Within.ite
    | ((with_reducible apply put_within _ _ (F.GEO_CH_STAT_Q1_block _)); · rfl)
    | ((with_reducible apply put_within _ _ (F.GEO_CH_STAT_Q2_block _)); · rfl)
    | ((with_reducible apply put_within _ _ (F.GEO_CH_STAT_Q3_block _)); · rfl)
    | ((with_reducible apply put_within _ _ (F.GEO_CH_STAT_STATE_block _)); · rfl)
    | ((with_reducible apply Within.step (State.settleIdle_within ..)); · rfl)
    | with_reducible refine Within.update ?_ rfl

theorem State.queueOp_within (s a1 a2) : Within 0x400200050400 s (State.queueOp s a1 a2) := by
  unfold State.queueOp
  try dsimp only
  repeat' first
    | with_reducible apply Within.refl
    | ((with_reducible apply Within.step (State.setChan_within ..)); · rfl)

theorem State.queueRebuild_within (s a1 a2 a3) : Within 0x400200050400 s (State.queueRebuild s a1 a2 a3) := by
  unfold State.queueRebuild
  try dsimp only
  repeat' first
    | with_reducible apply Within.refl
    | ((with_reducible apply Within.step (State.queueOp_within ..)); · rfl)
    | with_reducible refine Within.update ?_ rfl
    | with_reducible apply Within.foldl
    | intro _ _

theorem State.showWear_within (s a1) : Within 0x2000800400 s (State.showWear s a1) := by
  unfold State.showWear
  try dsimp only
  repeat' first
    | with_reducible apply Within.refl
    | with_reducible apply Within.ite
    | ((with_reducible apply put_within _ _ (F.GEO_BAY_WEAR_LIFE_USED_block _)); · rfl)
    | ((with_reducible apply put_within _ _ (F.GEO_BAY_WEAR_PROGRAMMED_GB_block _)); · rfl)
    | ((with_reducible apply Within.step (State.event_within ..)); · rfl)

theorem State.wear_within (s a1) : Within 0x402000800400 s (State.wear s a1) := by
  unfold State.wear
  try dsimp only
  repeat' first
    | with_reducible apply Within.refl
    | ((with_reducible apply Within.step (State.setBay_within ..)); · rfl)
    | ((with_reducible apply Within.step (State.showWear_within ..)); · rfl)

theorem State.leaveOut_within (s a1 a2) : Within 0x400000000000 s (State.leaveOut s a1 a2) := by
  unfold State.leaveOut
  try dsimp only
  repeat' first
    | with_reducible apply Within.refl
    | with_reducible apply Within.ite
    | ((with_reducible apply Within.step (State.setBay_within ..)); · rfl)

theorem State.placeStripe_within (s a1 a2 a3 a4) : Within 0x402200850400 s (State.placeStripe s a1 a2 a3 a4) := by
  unfold State.placeStripe
  try dsimp only
  repeat' first
    | with_reducible apply Within.refl
    | with_reducible apply Within.ite
    | ((with_reducible apply Within.step (State.wear_within ..)); · rfl)
    | ((with_reducible apply Within.step (State.queueOp_within ..)); · rfl)
    | ((with_reducible apply Within.step (State.leaveOut_within ..)); · rfl)
    | with_reducible refine Within.update ?_ rfl
    | with_reducible apply Within.foldl
    | intro _ _
    | split

theorem State.placeUnits_within (folded : Bool) (work : Option FlashWork) (n : Nat) (us : List Nat) (s : State) :
    Within 0x402200850400 s (State.placeUnits s folded work n us) := by
  induction n generalizing s us with
  | zero => exact .refl
  | succ n ih =>
    unfold State.placeUnits
    exact .ite .refl ((ih _ _).step rfl ((State.placeStripe_within ..).mono rfl))

theorem State.mapStripe_within (s a1) : Within 0x400000000000 s (State.mapStripe s a1) := by
  unfold State.mapStripe
  try dsimp only
  repeat' first
    | with_reducible apply Within.refl
    | with_reducible refine Within.update ?_ rfl
    | with_reducible apply Within.foldl
    | intro _ _
    | split

theorem State.geoPlace_within (s a1 a2 a3) : Within 0x402200850400 s (State.geoPlace s a1 a2 a3) := by
  unfold State.geoPlace
  try dsimp only
  repeat' first
    | with_reducible apply Within.refl
    | with_reducible apply Within.ite
    | ((with_reducible apply Within.step (State.placeUnits_within ..)); · rfl)

theorem State.geoWrite_within (s a1 a2) : Within 0x402200850400 s (State.geoWrite s a1 a2) := by
  unfold State.geoWrite
  try dsimp only
  repeat' first
    | with_reducible apply Within.refl
    | ((with_reducible apply Within.step (State.geoPlace_within ..)); · rfl)
    | ((with_reducible apply Within.step (State.mapStripe_within ..)); · rfl)
    | with_reducible refine Within.update ?_ rfl
    | with_reducible apply Within.foldl
    | intro _ _

theorem State.ackWork_within (s a1) : Within 0x400000000000 s (State.ackWork s a1) := by
  unfold State.ackWork
  try dsimp only
  repeat' first
    | with_reducible apply Within.refl
    | ((with_reducible apply Within.step (State.modStripe_within ..)); · rfl)
    | ((with_reducible apply Within.step (State.mapStripe_within ..)); · rfl)
    | with_reducible apply WithinOpt.mapState
    | intro _
    | with_reducible refine Within.update ?_ rfl
    | with_reducible apply Within.foldl

theorem State.freeStripe_within (s a1) : Within 0x400000000000 s (State.freeStripe s a1) := by
  unfold State.freeStripe
  try dsimp only
  repeat' first
    | with_reducible apply Within.refl
    | with_reducible apply WithinOpt.mapState
    | intro _
    | with_reducible refine Within.update ?_ rfl

theorem State.relocate_within (s a1 a2) : Within 0x402200850400 s (State.relocate s a1 a2) := by
  unfold State.relocate
  try dsimp only
  repeat' first
    | with_reducible apply Within.refl
    | with_reducible apply Within.ite
    | ((with_reducible apply Within.step (State.placeStripe_within ..)); · rfl)
    | ((with_reducible apply Within.step (State.freeStripe_within ..)); · rfl)
    | ((with_reducible apply Within.step (State.geoWrite_within ..)); · rfl)
    | with_reducible refine Within.update ?_ rfl
    | split

theorem State.raiseGen_within (s) : Within 0x400000000400 s (State.raiseGen s) := by
  unfold State.raiseGen
  try dsimp only
  repeat' first
    | with_reducible apply Within.refl
    | with_reducible apply Within.ite
    | ((with_reducible apply bump_within _ _ rfl); · rfl)
    | ((with_reducible apply Within.step (State.setBay_within ..)); · rfl)
    | with_reducible apply WithinOpt.mapState
    | intro _
    | with_reducible refine Within.update ?_ rfl
    | with_reducible apply Within.foldl

theorem State.refreshTier_within (s) : Within 0x2000800400 s (State.refreshTier s) := by
  unfold State.refreshTier
  try dsimp only
  repeat' first
    | with_reducible apply Within.refl
    | with_reducible apply Within.ite
    | ((with_reducible apply put_within _ _ rfl); · rfl)
    | ((with_reducible apply Within.step (State.event_within ..)); · rfl)

theorem State.startRebuild_within (s) : Within 0x400000000400 s (State.startRebuild s) := by
  unfold State.startRebuild
  try dsimp only
  repeat' first
    | with_reducible apply Within.refl
    | with_reducible apply Within.ite
    | ((with_reducible apply put_within _ _ rfl); · rfl)
    | with_reducible apply WithinOpt.mapState
    | intro _
    | with_reducible refine Within.update ?_ rfl
    | split

theorem State.setBayState_within (s a1 a2 a3) : Within 0x400200050400 s (State.setBayState s a1 a2 a3) := by
  unfold State.setBayState
  try dsimp only
  repeat' first
    | with_reducible apply Within.refl
    | with_reducible apply Within.ite
    | ((with_reducible apply put_within _ _ (F.GEO_BAY_STAT_REASON_block _)); · rfl)
    | ((with_reducible apply put_within _ _ (F.GEO_BAY_STAT_STATE_block _)); · rfl)
    | ((with_reducible apply put_within _ _ (F.GEO_CH_STAT_STATE_block _)); · rfl)
    | ((with_reducible apply Within.step (State.setChan_within ..)); · rfl)
    | with_reducible refine Within.update ?_ rfl
    | with_reducible apply Within.foldl
    | intro _ _

theorem State.reissue_within (s a1 a2) : Within 0x400200050400 s (State.reissue s a1 a2) := by
  unfold State.reissue
  try dsimp only
  repeat' first
    | with_reducible apply Within.refl
    | with_reducible apply Within.ite
    | ((with_reducible apply Within.step (State.queueRebuild_within ..)); · rfl)
    | ((with_reducible apply Within.step (State.leaveOut_within ..)); · rfl)
    | ((with_reducible apply Within.step (State.modStripe_within ..)); · rfl)
    | with_reducible refine Within.update ?_ rfl
    | with_reducible apply Within.foldl
    | intro _ _
    | split

theorem State.missAll_within (s a1) : Within 0x400000000000 s (State.missAll s a1) := by
  unfold State.missAll
  try dsimp only
  repeat' first
    | with_reducible apply Within.refl
    | with_reducible apply Within.ite
    | with_reducible apply WithinOpt.mapState
    | intro _
    | with_reducible refine Within.update ?_ rfl

theorem State.dropRebuild_within (s a1) : Within 0x400000000000 s (State.dropRebuild s a1) := by
  unfold State.dropRebuild
  try dsimp only
  repeat' first
    | with_reducible apply Within.refl
    | with_reducible apply Within.ite
    | ((with_reducible apply Within.step (State.setBay_within ..)); · rfl)
    | with_reducible refine Within.update ?_ rfl

theorem State.bayGone_within (s a1 a2) : Within 0x402200850400 s (State.bayGone s a1 a2) := by
  unfold State.bayGone
  try dsimp only
  repeat' first
    | with_reducible apply Within.refl
    | with_reducible apply Within.ite
    | ((with_reducible apply Within.step (State.reissue_within ..)); · rfl)
    | ((with_reducible apply Within.step (State.raiseGen_within ..)); · rfl)
    | ((with_reducible apply Within.step (State.dropRebuild_within ..)); · rfl)
    | ((with_reducible apply Within.step (State.startRebuild_within ..)); · rfl)
    | ((with_reducible apply Within.step (State.setBayState_within ..)); · rfl)
    | ((with_reducible apply Within.step (State.event_within ..)); · rfl)
    | ((with_reducible apply Within.step (State.refreshTier_within ..)); · rfl)

theorem State.lpageOf_within (s a1) : Within 0x400000000000 s (State.lpageOf s a1).2 := by
  unfold State.lpageOf
  try dsimp only
  repeat' first
    | with_reducible apply Within.refl
    | with_reducible apply WithinOpt.mapState
    | intro _
    | with_reducible refine Within.update ?_ rfl
    | with_reducible apply Within.foldl
    | with_reducible apply Within.foldlFst
    | with_reducible apply Within.foldlSnd
    | intro _ _
    | split

theorem State.writeHome_within (s a1 a2 a3) : Within 0x460a200850400 s (State.writeHome s a1 a2 a3) := by
  unfold State.writeHome
  try dsimp only
  repeat' first
    | with_reducible apply Within.refl
    | ((with_reducible apply Within.step (State.geoPlace_within ..)); · rfl)
    | ((with_reducible apply Within.step (State.copyHome_within ..)); · rfl)
    | ((with_reducible apply Within.step (State.lpageOf_within ..)); · rfl)
    | ((with_reducible apply Within.step (State.putHome_within ..)); · rfl)
    | ((with_reducible apply Within.step (State.geoWrite_within ..)); · rfl)
    | with_reducible refine Within.update ?_ rfl
    | split

theorem State.homeWrite_within (s a1 a2) : Within 0x460a200850400 s (State.homeWrite s a1 a2) := by
  unfold State.homeWrite
  try dsimp only
  repeat' first
    | with_reducible apply Within.refl
    | ((with_reducible apply Within.step (State.writeHome_within ..)); · rfl)

theorem State.journalPut_within (s a1 a2) : Within 0x4208000000000 s (State.journalPut s a1 a2) := by
  unfold State.journalPut
  try dsimp only
  repeat' first
    | with_reducible apply Within.refl
    | with_reducible apply Within.ite
    | ((with_reducible apply Within.step (State.putHall_within ..)); · rfl)
    | with_reducible refine Within.update ?_ rfl
    | with_reducible apply Within.foldl
    | intro _ _
    | split

theorem State.writeGroup_within (s a1) : Within 0x460a200850400 s (State.writeGroup s a1) := by
  unfold State.writeGroup
  try dsimp only
  repeat' first
    | with_reducible apply Within.refl
    | with_reducible apply Within.ite
    | ((with_reducible apply Within.step (State.placeStripe_within ..)); · rfl)
    | ((with_reducible apply Within.step (State.journalPut_within ..)); · rfl)
    | with_reducible apply WithinOpt.mapState
    | intro _
    | with_reducible refine Within.update ?_ rfl
    | with_reducible apply Within.foldl

theorem State.freeJournal_within (s) : Within 0x400000000000 s (State.freeJournal s) := by
  unfold State.freeJournal
  try dsimp only
  repeat' first
    | with_reducible apply Within.refl
    | ((with_reducible apply Within.step (State.freeStripe_within ..)); · rfl)
    | with_reducible apply WithinOpt.mapState
    | intro _
    | with_reducible refine Within.update ?_ rfl
    | with_reducible apply Within.foldl

end Sys2Proof.Machine
end

