-- ==== Sys2Proof/Laws/IdxOps.lean ====
section
/-! SUPPORT. What each operation of Machine/IdxOps.lean can change (`Within`, Laws/Within.lean). -/

namespace Sys2Proof.Machine

set_option Elab.async false

theorem State.dropWork_within (s a1) : Within 0x400000000000 s (State.dropWork s a1) := by
  unfold State.dropWork
  try dsimp only
  repeat' first
    | with_reducible apply Within.refl
    | ((with_reducible apply Within.step (State.freeStripe_within ..)); · rfl)
    | with_reducible apply WithinOpt.mapState
    | intro _
    | with_reducible refine Within.update ?_ rfl
    | with_reducible apply Within.foldl

theorem State.flashWrites_within (s a1 a2 a3) : Within 0x402a00850400 s (State.flashWrites s a1 a2 a3) := by
  unfold State.flashWrites
  try dsimp only
  repeat' first
    | with_reducible apply Within.refl
    | ((with_reducible apply Within.step (State.geoPlace_within ..)); · rfl)
    | ((with_reducible apply Within.step (State.geoWrite_within ..)); · rfl)
    | ((with_reducible apply Within.step (State.store_within ..)); · rfl)
    | with_reducible apply WithinOpt.mapState
    | intro _
    | with_reducible refine Within.update ?_ rfl
    | with_reducible apply Within.foldl
    | intro _ _
    | split

theorem State.idxPublish_within (s a1 a2 a3) : Within 0xc800000100 s (State.idxPublish s a1 a2 a3).2 := by
  unfold State.idxPublish
  try dsimp only
  repeat' first
    | with_reducible apply Within.refl
    | ((with_reducible apply Within.step (State.publish_within ..)); · rfl)

theorem State.idxNote_within (s a1 a2) : Within 0xc800000100 s (State.idxNote s a1 a2) := by
  unfold State.idxNote
  try dsimp only
  repeat' first
    | with_reducible apply Within.refl
    | ((with_reducible apply Within.step (State.idxPublish_within ..)); · rfl)

theorem State.freeUnits_within (s a1 a2) : Within 0x400000000000 s (State.freeUnits s a1 a2) := by
  unfold State.freeUnits
  try dsimp only
  repeat' first
    | with_reducible apply Within.refl
    | with_reducible apply Within.ite
    | with_reducible apply WithinOpt.mapState
    | intro _
    | with_reducible refine Within.update ?_ rfl
    | with_reducible apply Within.foldl
    | intro _ _
    | split

theorem State.commitUpdate_within (s a1 a2) : WithinOpt 0x44aa00850500 s (State.commitUpdate s a1 a2) := by
  unfold State.commitUpdate
  try dsimp only
  repeat' first
    | with_reducible apply Within.refl
    | with_reducible apply Within.ite
    | with_reducible apply WithinOpt.none
    | with_reducible apply WithinOpt.some
    | ((with_reducible apply Within.step (State.setIndex_within ..)); · rfl)
    | ((with_reducible apply Within.step (State.flashWrites_within ..)); · rfl)
    | ((with_reducible apply WithinOpt.step (State.pagesReady_within ..)); · rfl)
    | with_reducible apply WithinOpt.mapState
    | intro _
    | with_reducible refine Within.update ?_ rfl
    | split

theorem State.commitUpdates_within (i : Nat) (l : List Update) (s : State) : Within 0x46eea0085d502 s (State.commitUpdates s i l) := by
  induction l generalizing s with
  | nil => exact .refl
  | cons u r ih =>
    unfold State.commitUpdates
    repeat' first
      | with_reducible exact Within.refl
      | with_reducible refine Within.step (ih _) rfl ?_
      | with_reducible refine Within.step (State.setIndex_within ..) rfl ?_
      | with_reducible refine Within.step (State.endReq_within ..) rfl ?_
      | with_reducible refine Within.step ((State.commitUpdate_within ..).of_eq (by assumption)) rfl ?_
      | ((with_reducible refine bumpSat_within _ _ (F.IDX_PIN_WAIT_COUNT_block _) rfl ?_))
      | dsimp only
      | split

theorem State.publishUpdates_within (i : Nat) (l : List Update) (s : State) : Within 0x44c800000100 s (State.publishUpdates s i l) := by
  induction l generalizing s with
  | nil => exact .refl
  | cons u r ih =>
    unfold State.publishUpdates
    repeat' first
      | with_reducible exact Within.refl
      | with_reducible refine Within.step (ih _) rfl ?_
      | with_reducible refine Within.step (State.setIndex_within ..) rfl ?_
      | with_reducible refine Within.step (State.idxPublish_within ..) rfl ?_
      | with_reducible refine Within.step (State.ackWork_within ..) rfl ?_
      | dsimp only
      | split

theorem State.stirIndex_within (s a1) : Within 0x46eea0085d502 s (State.stirIndex s a1) := by
  unfold State.stirIndex
  try dsimp only
  repeat' first
    | with_reducible apply Within.refl
    | ((with_reducible apply Within.step (State.commitUpdates_within ..)); · rfl)
    | ((with_reducible apply Within.step (State.publishUpdates_within ..)); · rfl)
    | with_reducible refine Within.update ?_ rfl
    | split

theorem State.stirAll_within (s) : Within 0x46eea0085d502 s (State.stirAll s) := by
  unfold State.stirAll
  try dsimp only
  repeat' first
    | with_reducible apply Within.refl
    | ((with_reducible apply Within.step (State.stirIndex_within ..)); · rfl)
    | with_reducible apply WithinOpt.mapState
    | intro _
    | with_reducible refine Within.update ?_ rfl
    | with_reducible apply Within.foldl

theorem State.foldOne_within (s a1 a2 a3) : WithinOptFst 0x40ea00850500 s (State.foldOne s a1 a2 a3) := by
  unfold State.foldOne
  try dsimp only
  repeat' first
    | with_reducible apply Within.refl
    | with_reducible apply Within.ite
    | with_reducible apply WithinOptFst.none
    | with_reducible apply WithinOptFst.some
    | ((with_reducible apply Within.step (State.flashWrites_within ..)); · rfl)
    | ((with_reducible apply Within.step (State.idxPublish_within ..)); · rfl)
    | ((with_reducible apply WithinOpt.step (State.pagesReady_within ..)); · rfl)
    | with_reducible apply WithinOpt.mapState
    | with_reducible apply WithinOpt.map
    | with_reducible apply WithinOpt.some
    | with_reducible apply WithinOpt.none
    | intro _
    | with_reducible refine Within.update ?_ rfl
    | split

theorem State.foldParts_within (n : Nat) (s : State) (x : Index) : Within 0x40ea00850500 s (State.foldParts s n x).1 := by
  induction n generalizing s x with
  | zero => exact .refl
  | succ n ih =>
    unfold State.foldParts
    split
    · exact .refl
    · split
      · exact .refl
      · split
        · exact .refl
        · exact (ih _ _).step rfl (((State.foldOne_within ..).of_eq ‹_›).mono rfl)

theorem State.autoFold_within (s a1) : Within 0x40000000000 s (State.autoFold s a1) := by
  unfold State.autoFold
  try dsimp only
  repeat' first
    | with_reducible apply Within.refl
    | with_reducible apply Within.ite
    | ((with_reducible apply Within.step (State.setIndex_within ..)); · rfl)
    | with_reducible refine Within.update ?_ rfl
    | split

theorem State.settleFold_within (s a1 a2) : Within 0x400c800000002 s (State.settleFold s a1 a2).1 := by
  unfold State.settleFold
  try dsimp only
  repeat' first
    | with_reducible apply Within.refl
    | with_reducible apply Within.ite
    | ((with_reducible apply Within.step (State.opEnd_within ..)); · rfl)
    | with_reducible refine Within.update ?_ rfl
    | with_reducible apply Within.foldl
    | with_reducible apply Within.foldlFst
    | with_reducible apply Within.foldlSnd
    | intro _ _
    | split

theorem State.settleIndex_within (s a1) : Within 0x46eea0085d502 s (State.settleIndex s a1) := by
  unfold State.settleIndex
  try dsimp only
  repeat' first
    | with_reducible apply Within.refl
    | with_reducible apply Within.ite
    | ((with_reducible apply Within.step (State.endReq_within ..)); · rfl)
    | ((with_reducible apply Within.step (State.setIndex_within ..)); · rfl)
    | ((with_reducible apply Within.step (State.settleFold_within ..)); · rfl)
    | ((with_reducible apply Within.step (State.autoFold_within ..)); · rfl)
    | ((with_reducible apply Within.step (State.stirIndex_within ..)); · rfl)
    | ((with_reducible apply Within.step (State.sweep_within ..)); · rfl)
    | ((with_reducible apply Within.step (State.modReq_within ..)); · rfl)
    | ((with_reducible apply Within.step (State.opEnd_within ..)); · rfl)
    | with_reducible refine Within.update ?_ rfl
    | with_reducible apply Within.foldl
    | intro _ _
    | split

theorem State.settleIdx_within (s) : Within 0x46eea0085d502 s (State.settleIdx s) := by
  unfold State.settleIdx
  try dsimp only
  repeat' first
    | with_reducible apply Within.refl
    | ((with_reducible apply Within.step (State.settleIndex_within ..)); · rfl)
    | with_reducible apply WithinOpt.mapState
    | intro _
    | with_reducible refine Within.update ?_ rfl
    | with_reducible apply Within.foldl

theorem State.loseMemberUnit_within (s a1 a2) : Within 0x4e800800100 s (State.loseMemberUnit s a1 a2) := by
  unfold State.loseMemberUnit
  try dsimp only
  repeat' first
    | with_reducible apply Within.refl
    | ((with_reducible apply Within.step (State.setIndex_within ..)); · rfl)
    | ((with_reducible apply Within.step (State.idxNote_within ..)); · rfl)
    | ((with_reducible apply Within.step (State.event_within ..)); · rfl)
    | with_reducible apply WithinOpt.mapState
    | intro _
    | with_reducible refine Within.update ?_ rfl
    | split

theorem State.loseItemUnit_within (s a1 a2) : Within 0x40000000000 s (State.loseItemUnit s a1 a2) := by
  unfold State.loseItemUnit
  try dsimp only
  repeat' first
    | with_reducible apply Within.refl
    | with_reducible apply Within.ite
    | ((with_reducible apply Within.step (State.setIndex_within ..)); · rfl)
    | with_reducible apply WithinOpt.mapState
    | intro _
    | with_reducible refine Within.update ?_ rfl
    | split

theorem State.losePassUnit_within (s a1 a2) : Within 0x40000000000 s (State.losePassUnit s a1 a2) := by
  unfold State.losePassUnit
  try dsimp only
  repeat' first
    | with_reducible apply Within.refl
    | with_reducible apply Within.ite
    | ((with_reducible apply Within.step (State.setIndex_within ..)); · rfl)
    | with_reducible apply WithinOpt.mapState
    | intro _
    | with_reducible refine Within.update ?_ rfl
    | split

end Sys2Proof.Machine
end

