-- ==== Sys2Proof/Laws/Dispatcher.lean ====
section
/-! SUPPORT. What each operation of Machine/Dispatcher.lean can change (`Within`, Laws/Within.lean). -/

namespace Sys2Proof.Machine

set_option Elab.async false

theorem execCommandDispatch_within (a0 a1 a2 s) : WithinRes 0x42edaffffffff s (execCommandDispatch a0 a1 a2 s) := by
  unfold execCommandDispatch
  try dsimp only
  repeat' first
    | with_reducible apply Within.refl
    | with_reducible apply Within.ite
    | with_reducible apply WithinRes.ite
    | with_reducible apply WithinRes.fault
    | with_reducible apply WithinRes.next
    | ((with_reducible apply Within.step (State.placeItem_within ..)); · rfl)
    | with_reducible refine Within.update ?_ rfl
    | split

theorem execPlacement_within (a0 s) : WithinRes 0x42efaffffffff s (execPlacement a0 s) := by
  unfold execPlacement
  try dsimp only
  repeat' first
    | with_reducible apply Within.refl
    | with_reducible apply Within.ite
    | with_reducible apply WithinRes.ite
    | with_reducible apply WithinRes.fault
    | with_reducible apply WithinRes.next
    | ((with_reducible apply Within.step (State.tick_within ..)); · rfl)
    | ((with_reducible apply Within.step (State.examineAll_within ..)); · rfl)
    | ((with_reducible apply Within.step (State.placeItem_within ..)); · rfl)
    | ((with_reducible apply Within.step (State.markReady_within ..)); · rfl)
    | ((with_reducible apply Within.step (State.noteEmpty_within ..)); · rfl)
    | with_reducible refine Within.update ?_ rfl
    | split

theorem execCommandEnd_within (a0 a1 s) : WithinRes 0x46efaffffffff s (execCommandEnd a0 a1 s) := by
  unfold execCommandEnd
  try dsimp only
  repeat' first
    | with_reducible apply Within.refl
    | with_reducible apply Within.ite
    | with_reducible apply WithinRes.ite
    | with_reducible apply WithinRes.fault
    | with_reducible apply WithinRes.next
    | ((with_reducible apply Within.step (State.tick_within ..)); · rfl)
    | ((with_reducible apply Within.step (State.stirAll_within ..)); · rfl)
    | ((with_reducible apply Within.step (State.markReady_within ..)); · rfl)
    | ((with_reducible apply Within.step (State.endRun_within ..)); · rfl)
    | with_reducible refine Within.update ?_ rfl
    | split

theorem State.noteFault_within (s a1 a2 a3 a4) : Within 0x102000900004 s (State.noteFault s a1 a2 a3 a4) := by
  unfold State.noteFault
  try dsimp only
  repeat' first
    | with_reducible apply Within.refl
    | ((with_reducible apply put_within _ _ (F.CORE_FAULT_DETAIL_block _)); · rfl)
    | ((with_reducible apply put_within _ _ (F.CORE_FAULT_KIND_block _)); · rfl)
    | ((with_reducible apply put_within _ _ (F.CORE_FAULT_VALID_block _)); · rfl)
    | ((with_reducible apply Within.step (State.errors_within ..)); · rfl)

theorem execCoreFault_within (a0 a1 a2 a3 a4 s) : WithinRes 0x43ffaffffffff s (execCoreFault a0 a1 a2 a3 a4 s) := by
  unfold execCoreFault
  try dsimp only
  repeat' first
    | with_reducible apply Within.refl
    | with_reducible apply Within.ite
    | with_reducible apply WithinRes.ite
    | with_reducible apply WithinRes.fault
    | with_reducible apply WithinRes.next
    | ((with_reducible apply Within.step (State.tick_within ..)); · rfl)
    | ((with_reducible apply Within.step (State.settleCore_within ..)); · rfl)
    | ((with_reducible apply Within.step (State.retireCore_within ..)); · rfl)
    | ((with_reducible apply Within.step (WithinOptSnd.of_eq (State.withdraw_within ..) (by assumption))); · rfl)
    | ((with_reducible apply Within.step (State.markReady_within ..)); · rfl)
    | ((with_reducible apply Within.step (State.endRun_within ..)); · rfl)
    | ((with_reducible apply Within.step (State.killRun_within ..)); · rfl)
    | ((with_reducible apply Within.step (State.noteFault_within ..)); · rfl)
    | with_reducible refine Within.update ?_ rfl
    | split

theorem execExternalOverrunTimeout_within (a0 a1 a2 s) : WithinRes 0x42edaffffffff s (execExternalOverrunTimeout a0 a1 a2 s) := by
  unfold execExternalOverrunTimeout
  try dsimp only
  repeat' first
    | with_reducible apply Within.refl
    | with_reducible apply Within.ite
    | with_reducible apply WithinRes.ite
    | with_reducible apply WithinRes.fault
    | with_reducible apply WithinRes.next
    | ((with_reducible apply Within.step (State.tick_within ..)); · rfl)
    | ((with_reducible apply Within.step (State.markReady_within ..)); · rfl)
    | ((with_reducible apply Within.step (State.endRun_within ..)); · rfl)
    | with_reducible refine Within.update ?_ rfl
    | split

theorem State.coreField_within (s a1 a2 a3) : Within 0x42ffffffff s (State.coreField s a1 a2 a3) := by
  unfold State.coreField
  split
  · exact Within.update .refl rfl
  · exact (State.settleCore_within ..).step rfl (put_within _ _ rfl (every_block_of (m := 0x42ffffffff) rfl _) .refl)

theorem execCoreRetire_within (a0 a1 s) : WithinRes 0x66ffffffff s (execCoreRetire a0 a1 s) := by
  unfold execCoreRetire
  try dsimp only
  repeat' first
    | with_reducible apply Within.refl
    | with_reducible apply Within.ite
    | with_reducible apply WithinRes.ite
    | with_reducible apply WithinRes.fault
    | with_reducible apply WithinRes.next
    | ((with_reducible apply Within.step (State.coreField_within ..)); · rfl)
    | ((with_reducible apply Within.step (State.cfgDropped_within ..)); · rfl)
    | with_reducible refine Within.update ?_ rfl

theorem execCoreOffline_within (a0 a1 s) : WithinRes 0x42ffffffff s (execCoreOffline a0 a1 s) := by
  unfold execCoreOffline
  try dsimp only
  repeat' first
    | with_reducible apply Within.refl
    | with_reducible apply Within.ite
    | with_reducible apply WithinRes.ite
    | with_reducible apply WithinRes.fault
    | with_reducible apply WithinRes.next
    | ((with_reducible apply Within.step (State.coreField_within ..)); · rfl)

theorem execFacetDrain_within (a0 a1 s) : WithinRes 0x8 s (execFacetDrain a0 a1 s) := by
  unfold execFacetDrain
  try dsimp only
  repeat' first
    | with_reducible apply Within.refl
    | with_reducible apply Within.ite
    | with_reducible apply WithinRes.ite
    | with_reducible apply WithinRes.fault
    | with_reducible apply WithinRes.next
    | ((with_reducible apply put_within _ _ (F.FCT_CTL_DRAIN_block _)); · rfl)

theorem execSliceEnd_within (a0 a1 s) : WithinRes 0x42ffffffff s (execSliceEnd a0 a1 s) := by
  unfold execSliceEnd
  try dsimp only
  repeat' first
    | with_reducible apply Within.refl
    | with_reducible apply Within.ite
    | with_reducible apply WithinRes.ite
    | with_reducible apply WithinRes.fault
    | with_reducible apply WithinRes.next
    | ((with_reducible apply put_within _ _ (F.CORE_STAT_YIELD_PENDING_block _)); · rfl)
    | ((with_reducible apply Within.step (State.tick_within ..)); · rfl)
    | ((with_reducible apply Within.step (State.newSlice_within ..)); · rfl)
    | with_reducible refine Within.update ?_ rfl
    | split

theorem execGraceWindowEnd_within (a0 a1 a2 s) : WithinRes 0x42edaffffffff s (execGraceWindowEnd a0 a1 a2 s) := by
  unfold execGraceWindowEnd
  try dsimp only
  repeat' first
    | with_reducible apply Within.refl
    | with_reducible apply Within.ite
    | with_reducible apply WithinRes.ite
    | with_reducible apply WithinRes.fault
    | with_reducible apply WithinRes.next
    | ((with_reducible apply Within.step (State.tick_within ..)); · rfl)
    | ((with_reducible apply Within.step (State.markReady_within ..)); · rfl)
    | ((with_reducible apply Within.step (State.killRun_within ..)); · rfl)
    | with_reducible refine Within.update ?_ rfl
    | split

theorem State.refill_within (s a1) : Within 0x2 s (State.refill s a1) := by
  unfold State.refill
  try dsimp only
  repeat' first
    | with_reducible apply Within.refl
    | with_reducible apply Within.ite
    | ((with_reducible apply Within.step (State.setCredits_within ..)); · rfl)

theorem State.countAccounts_within (s) : Within 0x4800000002 s (State.countAccounts s) := by
  unfold State.countAccounts
  try dsimp only
  repeat' first
    | with_reducible apply Within.refl
    | with_reducible apply Within.ite
    | ((with_reducible apply Within.step (State.account_within ..)); · rfl)
    | with_reducible refine Within.update ?_ rfl
    | with_reducible apply Within.foldl
    | intro _ _

theorem execPeriodBoundary_within (a0 s) : WithinRes 0x4affffffff s (execPeriodBoundary a0 s) := by
  unfold execPeriodBoundary
  try dsimp only
  repeat' first
    | with_reducible apply Within.refl
    | with_reducible apply Within.ite
    | with_reducible apply WithinRes.ite
    | with_reducible apply WithinRes.fault
    | with_reducible apply WithinRes.next
    | ((with_reducible apply Within.step (State.refill_within ..)); · rfl)
    | ((with_reducible apply Within.step (State.tick_within ..)); · rfl)
    | ((with_reducible apply Within.step (State.boundary_within ..)); · rfl)
    | ((with_reducible apply Within.step (State.countAccounts_within ..)); · rfl)
    | with_reducible refine Within.update ?_ rfl
    | with_reducible apply Within.foldl
    | intro _ _

theorem State.loupeReport_within (s a1) : Within 0x2900c00000 s (State.loupeReport s a1) := by
  unfold State.loupeReport
  try dsimp only
  repeat' first
    | with_reducible apply Within.refl
    | with_reducible apply Within.ite
    | ((with_reducible apply bumpSat_within _ _ rfl); · rfl)
    | ((with_reducible apply put_within _ _ rfl); · rfl)
    | ((with_reducible apply Within.step (State.event_within ..)); · rfl)
    | ((with_reducible apply Within.step (State.draw_within ..)); · rfl)
    | ((with_reducible apply Within.step (State.store_within ..)); · rfl)

theorem execLoupeWindowEnd_within (a0 s) : WithinRes 0x6900c00002 s (execLoupeWindowEnd a0 s) := by
  unfold execLoupeWindowEnd
  try dsimp only
  repeat' first
    | with_reducible apply Within.refl
    | with_reducible apply Within.ite
    | with_reducible apply WithinRes.ite
    | with_reducible apply WithinRes.fault
    | with_reducible apply WithinRes.next
    | ((with_reducible apply bump_within _ _ rfl); · rfl)
    | ((with_reducible apply Within.step (State.loupeReport_within ..)); · rfl)
    | ((with_reducible apply Within.step (State.tick_within ..)); · rfl)
    | with_reducible refine Within.update ?_ rfl
    | with_reducible apply Within.foldl
    | intro _ _

theorem State.doorbell_within (s a1 a2 a3) : Within 0x6000800002 s (State.doorbell s a1 a2 a3) := by
  unfold State.doorbell
  try dsimp only
  repeat' first
    | with_reducible apply Within.refl
    | with_reducible apply Within.ite
    | ((with_reducible apply put_within _ _ (F.DSP_RING_PTR_TAIL_block _)); · rfl)
    | ((with_reducible apply Within.step (State.event_within ..)); · rfl)
    | with_reducible refine Within.update ?_ rfl

theorem execBrxDoorbell_within (a0 a1 a2 a3 s) : WithinRes 0x6000800002 s (execBrxDoorbell a0 a1 a2 a3 s) := by
  unfold execBrxDoorbell
  try dsimp only
  repeat' first
    | with_reducible apply Within.refl
    | with_reducible apply Within.ite
    | with_reducible apply WithinRes.ite
    | with_reducible apply WithinRes.fault
    | with_reducible apply WithinRes.next
    | ((with_reducible apply Within.step (State.tick_within ..)); · rfl)
    | ((with_reducible apply Within.step (State.doorbell_within ..)); · rfl)

theorem execHostRecordWrite_within (a0 s) : WithinRes 0x4204000000000 s (execHostRecordWrite a0 s) := by
  unfold execHostRecordWrite
  try dsimp only
  repeat' first
    | with_reducible apply Within.refl
    | with_reducible apply Within.ite
    | with_reducible apply WithinRes.ite
    | with_reducible apply WithinRes.fault
    | with_reducible apply WithinRes.next
    | ((with_reducible apply Within.step (State.putHall_within ..)); · rfl)
    | with_reducible apply WithinOpt.mapState
    | intro _
    | with_reducible refine Within.update ?_ rfl
    | split

theorem execHostHeadPoll_within (a0 a1 a2 s) : WithinRes 0x4000800002 s (execHostHeadPoll a0 a1 a2 s) := by
  unfold execHostHeadPoll
  try dsimp only
  repeat' first
    | with_reducible apply Within.refl
    | with_reducible apply Within.ite
    | with_reducible apply WithinRes.ite
    | with_reducible apply WithinRes.fault
    | with_reducible apply WithinRes.next
    | ((with_reducible apply Within.step (State.tick_within ..)); · rfl)
    | with_reducible apply WithinOpt.mapState
    | intro _
    | with_reducible refine Within.update ?_ rfl
    | split

theorem execTenantEnable_within (a0 a1 s) : WithinRes 0x42e680080c002 s (execTenantEnable a0 a1 s) := by
  unfold execTenantEnable
  dsimp only
  repeat' first
    | with_reducible apply Within.refl
    | with_reducible apply Within.ite
    | with_reducible apply WithinRes.ite
    | with_reducible apply WithinRes.next
    | ((with_reducible apply put_within _ _ (F.DSP_TNT_CFG_ENABLED_block _)); · rfl)
    | ((with_reducible apply Within.step (State.cfgDropped_within ..)); · rfl)
    | ((with_reducible apply Within.step (State.setCredits_within ..)); · rfl)
    | ((with_reducible apply Within.step (State.endReq_within ..)); · rfl)
    | with_reducible apply Within.foldl
    | intro _ _

theorem execDspPostTail_within (a0 a1 s) : WithinRes 0x42ec80000c106 s (execDspPostTail a0 a1 s) := by
  unfold execDspPostTail
  try dsimp only
  repeat' first
    | with_reducible apply Within.refl
    | with_reducible apply Within.ite
    | with_reducible apply WithinRes.ite
    | with_reducible apply WithinRes.fault
    | with_reducible apply WithinRes.next
    | ((with_reducible apply put_within _ _ rfl); · rfl)
    | ((with_reducible apply Within.step (State.enqueueAll_within ..)); · rfl)
    | ((with_reducible apply Within.step (State.markReady_within ..)); · rfl)
    | with_reducible refine Within.update ?_ rfl

end Sys2Proof.Machine
end

