-- ==== Sys2Proof/Laws/Ports.lean ====
section
/-! SUPPORT. What each operation of Machine/Ports.lean can change (`Within`, Laws/Within.lean). -/

namespace Sys2Proof.Machine

set_option Elab.async false

theorem State.setPort_within (s a1 a2) : Within 0x200000000000 s (State.setPort s a1 a2) := by
  unfold State.setPort
  try dsimp only
  repeat' first
    | with_reducible apply Within.refl
    | with_reducible refine Within.update ?_ rfl

theorem State.portTick_within (s a1 a2) : Within 0x10000 s (State.portTick s a1 a2) := by
  unfold State.portTick
  try dsimp only
  repeat' first
    | with_reducible apply Within.refl
    | ((with_reducible apply put_within _ _ (F.KTR_PORT_TIME_NS_block _)); · rfl)

theorem State.switchGates_within (s a1 a2 a3) : Within 0x200000020000 s (State.switchGates s a1 a2 a3) := by
  unfold State.switchGates
  try dsimp only
  repeat' first
    | with_reducible apply Within.refl
    | ((with_reducible apply put_within _ _ (F.SHP_GATE_ACTIVE_COUNT_block _)); · rfl)
    | ((with_reducible apply put_within _ _ (F.SHP_GATE_ACTIVE_CYCLE_NS_block _)); · rfl)
    | ((with_reducible apply put_within _ _ (F.SHP_GATE_BASE_BASE_TIME_block _)); · rfl)
    | ((with_reducible apply put_within _ _ (F.SHP_GATE_CTL_PENDING_block _)); · rfl)
    | ((with_reducible apply put_within _ _ (F.SHP_GATE_ENTRY_ACTIVE_GATES_block _ _)); · rfl)
    | ((with_reducible apply put_within _ _ (F.SHP_GATE_ENTRY_ACTIVE_INTERVAL_block _ _)); · rfl)
    | ((with_reducible apply Within.step (State.setPort_within ..)); · rfl)
    | with_reducible refine Within.update ?_ rfl
    | with_reducible apply Within.foldl
    | intro _ _

theorem State.takeList_within (s a1 a2) : Within 0x200000020000 s (State.takeList s a1 a2) := by
  unfold State.takeList
  try dsimp only
  repeat' first
    | with_reducible apply Within.refl
    | ((with_reducible apply put_within _ _ (F.SHP_GATE_CTL_PENDING_block _)); · rfl)
    | ((with_reducible apply Within.step (State.setPort_within ..)); · rfl)
    | ((with_reducible apply Within.step (State.switchGates_within ..)); · rfl)
    | with_reducible refine Within.update ?_ rfl
    | split

theorem execGateGo_within (a0 a1 a2 s) : WithinRes 0x202000830000 s (execGateGo a0 a1 a2 s) := by
  unfold execGateGo
  try dsimp only
  repeat' first
    | with_reducible apply Within.refl
    | with_reducible apply Within.ite
    | with_reducible apply WithinRes.ite
    | with_reducible apply WithinRes.fault
    | with_reducible apply WithinRes.next
    | ((with_reducible apply put_within _ _ (F.SHP_GATE_CTL_COUNT_block _)); · rfl)
    | ((with_reducible apply put_within _ _ (F.SHP_GATE_CTL_PENDING_block _)); · rfl)
    | ((with_reducible apply Within.step (State.portTick_within ..)); · rfl)
    | ((with_reducible apply Within.step (State.takeList_within ..)); · rfl)
    | ((with_reducible apply Within.step (State.setPort_within ..)); · rfl)
    | ((with_reducible apply Within.step (State.event_within ..)); · rfl)

theorem execGateSwitch_within (a0 a1 s) : WithinRes 0x200000030000 s (execGateSwitch a0 a1 s) := by
  unfold execGateSwitch
  try dsimp only
  repeat' first
    | with_reducible apply Within.refl
    | with_reducible apply Within.ite
    | with_reducible apply WithinRes.ite
    | with_reducible apply WithinRes.fault
    | with_reducible apply WithinRes.next
    | ((with_reducible apply Within.step (State.portTick_within ..)); · rfl)
    | ((with_reducible apply Within.step (State.takeList_within ..)); · rfl)
    | with_reducible refine Within.update ?_ rfl
    | split

theorem execGateEntryEnd_within (a0 a1 s) : WithinRes 0x200000010000 s (execGateEntryEnd a0 a1 s) := by
  unfold execGateEntryEnd
  try dsimp only
  repeat' first
    | with_reducible apply Within.refl
    | with_reducible apply Within.ite
    | with_reducible apply WithinRes.ite
    | with_reducible apply WithinRes.fault
    | with_reducible apply WithinRes.next
    | ((with_reducible apply Within.step (State.portTick_within ..)); · rfl)
    | ((with_reducible apply Within.step (State.setPort_within ..)); · rfl)

theorem execPtpLock_within (a0 a1 a2 a3 s) : WithinRes 0x200000010000 s (execPtpLock a0 a1 a2 a3 s) := by
  unfold execPtpLock
  try dsimp only
  repeat' first
    | with_reducible apply Within.refl
    | with_reducible apply Within.ite
    | with_reducible apply WithinRes.ite
    | with_reducible apply WithinRes.fault
    | with_reducible apply WithinRes.next
    | ((with_reducible apply put_within _ _ (F.KTR_PORT_STAT_PTP_LOCKED_block _)); · rfl)
    | ((with_reducible apply put_within _ _ (F.KTR_PORT_TIME_NS_block _)); · rfl)
    | ((with_reducible apply put_within _ _ (F.KTR_PTP_STAT_OFFSET_NS_block _)); · rfl)
    | ((with_reducible apply put_within _ _ (F.KTR_PTP_STAT_PATH_NS_block _)); · rfl)
    | ((with_reducible apply Within.step (State.setPort_within ..)); · rfl)

theorem execPtpMasterLost_within (a0 a1 s) : WithinRes 0x2000810000 s (execPtpMasterLost a0 a1 s) := by
  unfold execPtpMasterLost
  try dsimp only
  repeat' first
    | with_reducible apply Within.refl
    | with_reducible apply Within.ite
    | with_reducible apply WithinRes.ite
    | with_reducible apply WithinRes.fault
    | with_reducible apply WithinRes.next
    | ((with_reducible apply put_within _ _ (F.KTR_PORT_STAT_PTP_LOCKED_block _)); · rfl)
    | ((with_reducible apply Within.step (State.portTick_within ..)); · rfl)
    | ((with_reducible apply Within.step (State.event_within ..)); · rfl)

theorem State.sendFrame_within (s a1 a2 a3 a4) : Within 0x200000010000 s (State.sendFrame s a1 a2 a3 a4) := by
  unfold State.sendFrame
  try dsimp only
  repeat' first
    | with_reducible apply Within.refl
    | with_reducible apply Within.ite
    | ((with_reducible apply bump_within _ _ (F.KTR_TX_BYTES_BYTES_block _)); · rfl)
    | ((with_reducible apply Within.step (State.setPort_within ..)); · rfl)

theorem execFrameSend_within (a0 a1 a2 a3 s) : WithinRes 0x202000810000 s (execFrameSend a0 a1 a2 a3 s) := by
  unfold execFrameSend
  try dsimp only
  repeat' first
    | with_reducible apply Within.refl
    | with_reducible apply Within.ite
    | with_reducible apply WithinRes.ite
    | with_reducible apply WithinRes.fault
    | with_reducible apply WithinRes.next
    | ((with_reducible apply Within.step (State.portTick_within ..)); · rfl)
    | ((with_reducible apply Within.step (State.sendFrame_within ..)); · rfl)
    | ((with_reducible apply Within.step (State.setPort_within ..)); · rfl)
    | ((with_reducible apply Within.step (State.event_within ..)); · rfl)
    | with_reducible refine Within.update ?_ rfl
    | split

theorem State.police_within (s a1 a2 a3 a4) : Within 0x200000020000 s (State.police s a1 a2 a3 a4) := by
  unfold State.police
  try dsimp only
  repeat' first
    | with_reducible apply Within.refl
    | with_reducible apply Within.ite
    | ((with_reducible apply bumpSat_within _ _ rfl); · rfl)
    | ((with_reducible apply Within.step (State.setPort_within ..)); · rfl)

theorem execFrameReceive_within (a0 a1 a2 s) : WithinRes 0x200000030000 s (execFrameReceive a0 a1 a2 s) := by
  unfold execFrameReceive
  try dsimp only
  repeat' first
    | with_reducible apply Within.refl
    | with_reducible apply Within.ite
    | with_reducible apply WithinRes.ite
    | with_reducible apply WithinRes.fault
    | with_reducible apply WithinRes.next
    | ((with_reducible apply bumpSat_within _ _ (F.KTR_LINK_ERR_MACSEC_DROP_block _)); · rfl)
    | ((with_reducible apply bump_within _ _ (F.KTR_RX_BYTES_BYTES_block _)); · rfl)
    | ((with_reducible apply Within.step (State.portTick_within ..)); · rfl)
    | ((with_reducible apply Within.step (State.police_within ..)); · rfl)
    | with_reducible refine Within.update ?_ rfl
    | split

theorem State.pushSample_within (s a1) : Within 0x800020000 s (State.pushSample s a1) := by
  unfold State.pushSample
  try dsimp only
  repeat' first
    | with_reducible apply Within.refl
    | with_reducible apply Within.ite
    | ((with_reducible apply bumpSat_within _ _ rfl); · rfl)
    | ((with_reducible apply put_within _ _ rfl); · rfl)
    | ((with_reducible apply Within.step (State.store_within ..)); · rfl)

theorem execQueueSample_within (a0 a1 a2 s) : WithinRes 0x200800030000 s (execQueueSample a0 a1 a2 s) := by
  unfold execQueueSample
  try dsimp only
  repeat' first
    | with_reducible apply Within.refl
    | with_reducible apply Within.ite
    | with_reducible apply WithinRes.ite
    | with_reducible apply WithinRes.fault
    | with_reducible apply WithinRes.next
    | ((with_reducible apply Within.step (State.portTick_within ..)); · rfl)
    | ((with_reducible apply Within.step (State.pushSample_within ..)); · rfl)
    | ((with_reducible apply Within.step (State.setPort_within ..)); · rfl)
    | with_reducible refine Within.update ?_ rfl
    | with_reducible apply Within.foldl
    | intro _ _

end Sys2Proof.Machine
end

