-- ==== Sys2Proof/Laws/KtrIn.lean ====
section
/-! SUPPORT. What each operation of Machine/KtrIn.lean can change (`Within`, Laws/Within.lean). -/

namespace Sys2Proof.Machine

set_option Elab.async false

theorem State.setInFlow_within (s a1) : Within 0x200000000000 s (State.setInFlow s a1) := by
  unfold State.setInFlow
  try dsimp only
  repeat' first
    | with_reducible apply Within.refl
    | with_reducible refine Within.update ?_ rfl

theorem State.resend_within (s a1) : Within 0x200000000000 s (State.resend s a1) := by
  unfold State.resend
  try dsimp only
  repeat' first
    | with_reducible apply Within.refl
    | ((with_reducible apply Within.step (State.sendDgram_within ..)); · rfl)
    | with_reducible refine Within.update ?_ rfl
    | with_reducible apply Within.foldl
    | intro _ _

theorem State.restarted_within (s a1) : Within 0x42ec80000c106 s (State.restarted s a1) := by
  unfold State.restarted
  try dsimp only
  repeat' first
    | with_reducible apply Within.refl
    | with_reducible apply Within.ite
    | ((with_reducible apply Within.step (State.stopReq_within ..)); · rfl)
    | ((with_reducible apply Within.step (State.resend_within ..)); · rfl)
    | with_reducible refine Within.update ?_ rfl
    | with_reducible apply Within.foldl
    | intro _ _
    | split

theorem State.hear_within (s a1 a2) : Within 0x42ec80000c106 s (State.hear s a1 a2) := by
  unfold State.hear
  try dsimp only
  repeat' first
    | with_reducible apply Within.refl
    | with_reducible apply Within.ite
    | ((with_reducible apply Within.step (State.restarted_within ..)); · rfl)
    | with_reducible refine Within.update ?_ rfl

theorem State.nack_within (s a1 a2 a3) : Within 0x4202000810000 s (State.nack s a1 a2 a3) := by
  unfold State.nack
  try dsimp only
  repeat' first
    | with_reducible apply Within.refl
    | with_reducible apply Within.ite
    | ((with_reducible apply bumpSat_within _ _ rfl); · rfl)
    | ((with_reducible apply put_within _ _ rfl); · rfl)
    | ((with_reducible apply Within.step (State.event_within ..)); · rfl)
    | ((with_reducible apply Within.step (State.emit_within ..)); · rfl)
    | with_reducible refine Within.update ?_ rfl

theorem State.ringBells_within (s a1 a2 a3) : Within 0x6000800002 s (State.ringBells s a1 a2 a3) := by
  unfold State.ringBells
  try dsimp only
  repeat' first
    | with_reducible apply Within.refl
    | with_reducible apply Within.ite
    | ((with_reducible apply Within.step (State.doorbell_within ..)); · rfl)
    | with_reducible refine Within.update ?_ rfl
    | with_reducible apply Within.foldl
    | intro _ _

theorem State.inWrite_within (s a1 a2 a3) : WithinOptFst 0xe800800102 s (State.inWrite s a1 a2 a3) := by
  unfold State.inWrite
  try dsimp only
  repeat' first
    | with_reducible apply Within.refl
    | with_reducible apply Within.ite
    | with_reducible apply WithinOptFst.none
    | with_reducible apply WithinOptFst.some
    | ((with_reducible apply Within.step (State.soil_within ..)); · rfl)
    | ((with_reducible apply Within.step (WithinOpt.of_eq (State.fillZero_within ..) (by assumption))); · rfl)
    | ((with_reducible apply Within.step (State.ringBells_within ..)); · rfl)
    | ((with_reducible apply Within.step (State.publish_within ..)); · rfl)
    | ((with_reducible apply Within.step (State.store_within ..)); · rfl)
    | with_reducible refine Within.update ?_ rfl
    | split

theorem State.inDone_within (s a1 a2 a3) : Within 0x4200000000000 s (State.inDone s a1 a2 a3) := by
  unfold State.inDone
  try dsimp only
  repeat' first
    | with_reducible apply Within.refl
    | with_reducible apply Within.ite
    | ((with_reducible apply Within.step (State.setInFlow_within ..)); · rfl)
    | ((with_reducible apply Within.step (State.emit_within ..)); · rfl)
    | with_reducible refine Within.update ?_ rfl
    | with_reducible apply Within.foldl
    | intro _ _
    | split

theorem State.tryApply_within (s a1) : WithinOpt 0x420e800810102 s (State.tryApply s a1) := by
  unfold State.tryApply
  try dsimp only
  repeat' first
    | with_reducible apply Within.refl
    | with_reducible apply Within.ite
    | with_reducible apply WithinOpt.none
    | with_reducible apply WithinOpt.some
    | ((with_reducible apply Within.step (WithinOptFst.of_eq (State.inWrite_within ..) (by assumption))); · rfl)
    | ((with_reducible apply Within.step (State.ringBells_within ..)); · rfl)
    | ((with_reducible apply Within.step (State.inDone_within ..)); · rfl)
    | ((with_reducible apply Within.step (State.nack_within ..)); · rfl)
    | ((with_reducible apply Within.step (State.setInFlow_within ..)); · rfl)
    | with_reducible apply WithinOpt.mapState
    | intro _
    | with_reducible refine Within.update ?_ rfl
    | split

theorem State.liftHeld_within (s) : Within 0x8000000100 s (State.liftHeld s) := by
  unfold State.liftHeld
  refine Within.foldl _ (fun s x => Within.foldl _ (fun s k => ?_) .refl) .refl
  dsimp only
  split
  · cases h : s.startUp (s.governing k) with
    | none => exact .refl
    | some t => exact (State.startUp_within _ _).of_eq h
  · exact .refl

theorem State.settleHeld_within (n : Nat) (s : State) : Within 0x420e800810102 s (State.settleHeld n s) := by
  induction n generalizing s with
  | zero => exact .refl
  | succ n ih =>
    unfold State.settleHeld
    split
    · exact .refl
    · rename_i t h
      obtain ⟨x, -, hx⟩ := List.exists_of_findSome?_eq_some h
      exact (ih t).step rfl (((State.tryApply_within s x).of_eq hx).mono rfl)

theorem State.settleInbound_within (s) : Within 0x420e800810102 s (State.settleInbound s) := by
  unfold State.settleInbound
  try dsimp only
  repeat' first
    | with_reducible apply Within.refl
    | ((with_reducible apply Within.step (State.liftHeld_within ..)); · rfl)
    | ((with_reducible apply Within.step (State.settleHeld_within ..)); · rfl)

theorem State.accept_within (s a1 a2 a3 a4) : Within 0x420e800810102 s (State.accept s a1 a2 a3 a4) := by
  unfold State.accept
  try dsimp only
  repeat' first
    | with_reducible apply Within.refl
    | with_reducible apply Within.ite
    | ((with_reducible apply Within.step (State.settleInbound_within ..)); · rfl)
    | ((with_reducible apply Within.step (State.nack_within ..)); · rfl)
    | ((with_reducible apply Within.step (State.setInFlow_within ..)); · rfl)
    | ((with_reducible apply Within.step (State.emit_within ..)); · rfl)
    | with_reducible refine Within.update ?_ rfl
    | split

theorem State.repeated_within (s a1 a2 a3) : Within 0x4000000000000 s (State.repeated s a1 a2 a3) := by
  unfold State.repeated
  try dsimp only
  repeat' first
    | with_reducible apply Within.refl
    | ((with_reducible apply Within.step (State.emit_within ..)); · rfl)
    | with_reducible refine Within.update ?_ rfl
    | split

theorem State.inbound_within (s a1 a2) : Within 0x42ee80081c106 s (State.inbound s a1 a2) := by
  unfold State.inbound
  try dsimp only
  repeat' first
    | with_reducible apply Within.refl
    | with_reducible apply Within.ite
    | ((with_reducible apply Within.step (State.repeated_within ..)); · rfl)
    | ((with_reducible apply Within.step (State.nack_within ..)); · rfl)
    | ((with_reducible apply Within.step (State.accept_within ..)); · rfl)
    | ((with_reducible apply Within.step (State.hear_within ..)); · rfl)
    | with_reducible refine Within.update ?_ rfl
    | split

end Sys2Proof.Machine
end

