-- ==== Sys2Proof/Laws/Tier.lean ====
section
/-! SUPPORT. What each operation of Machine/Tier.lean can change (`Within`, Laws/Within.lean). -/

namespace Sys2Proof.Machine

set_option Elab.async false

theorem execReservationGrant_within (a0 a1 s) : WithinRes 0x42ee80080c106 s (execReservationGrant a0 a1 s) := by
  unfold execReservationGrant
  try dsimp only
  repeat' first
    | with_reducible apply Within.refl
    | with_reducible apply Within.ite
    | with_reducible apply WithinRes.ite
    | with_reducible apply WithinRes.fault
    | with_reducible apply WithinRes.next
    | ((with_reducible apply Within.step (State.failItem_within ..)); · rfl)
    | ((with_reducible apply Within.step (State.tick_within ..)); · rfl)
    | ((with_reducible apply Within.step (State.noFrame_within ..)); · rfl)
    | ((with_reducible apply Within.step (WithinOpt.of_eq (State.grant_within ..) (by assumption))); · rfl)
    | ((with_reducible apply Within.step (State.markReady_within ..)); · rfl)
    | with_reducible refine Within.update ?_ rfl
    | split

theorem State.endWaits_within (s) : Within 0x4000000100 s (State.endWaits s) := by
  unfold State.endWaits
  try dsimp only
  repeat' first
    | with_reducible apply Within.refl
    | with_reducible apply Within.ite
    | ((with_reducible apply bumpSat_within _ _ rfl); · rfl)
    | ((with_reducible apply raise_within _ _ rfl); · rfl)
    | with_reducible apply WithinOpt.mapState
    | intro _
    | with_reducible refine Within.update ?_ rfl
    | with_reducible apply Within.foldl

theorem execPageBringUpDone_within (a0 a1 s) : WithinRes 0x420e800810102 s (execPageBringUpDone a0 a1 s) := by
  unfold execPageBringUpDone
  try dsimp only
  repeat' first
    | with_reducible apply Within.refl
    | with_reducible apply Within.ite
    | with_reducible apply WithinRes.ite
    | with_reducible apply WithinRes.fault
    | with_reducible apply WithinRes.next
    | ((with_reducible apply Within.step (State.setPte_within ..)); · rfl)
    | ((with_reducible apply Within.step (State.arrive_within ..)); · rfl)
    | ((with_reducible apply Within.step (State.endWaits_within ..)); · rfl)
    | ((with_reducible apply Within.step (State.settleInbound_within ..)); · rfl)
    | ((with_reducible apply Within.step (State.tick_within ..)); · rfl)
    | ((with_reducible apply Within.step (State.setObject_within ..)); · rfl)
    | ((with_reducible apply Within.step (State.markReady_within ..)); · rfl)
    | ((with_reducible apply Within.step (State.endEpisode_within ..)); · rfl)
    | with_reducible refine Within.update ?_ rfl
    | split

theorem execWriteBack_within (a0 a1 s) : WithinRes 0x460a200850402 s (execWriteBack a0 a1 s) := by
  unfold execWriteBack
  try dsimp only
  repeat' first
    | with_reducible apply Within.refl
    | with_reducible apply Within.ite
    | with_reducible apply WithinRes.ite
    | with_reducible apply WithinRes.fault
    | with_reducible apply WithinRes.next
    | ((with_reducible apply Within.step (State.tick_within ..)); · rfl)
    | ((with_reducible apply Within.step (State.writeHome_within ..)); · rfl)
    | ((with_reducible apply Within.step (State.setPte_within ..)); · rfl)

theorem execWriteBackDone_within (a0 a1 a2 s) : WithinRes 0x40a000800102 s (execWriteBackDone a0 a1 a2 s) := by
  unfold execWriteBackDone
  try dsimp only
  repeat' first
    | with_reducible apply Within.refl
    | with_reducible apply Within.ite
    | with_reducible apply WithinRes.ite
    | with_reducible apply WithinRes.fault
    | with_reducible apply WithinRes.next
    | ((with_reducible apply bump_within _ _ rfl); · rfl)
    | ((with_reducible apply Within.step (State.tick_within ..)); · rfl)
    | ((with_reducible apply Within.step (State.setPte_within ..)); · rfl)
    | ((with_reducible apply Within.step (State.ackWork_within ..)); · rfl)
    | ((with_reducible apply Within.step (State.event_within ..)); · rfl)

theorem execPageEvict_within (a0 a1 s) : WithinRes 0xa000800102 s (execPageEvict a0 a1 s) := by
  unfold execPageEvict
  try dsimp only
  repeat' first
    | with_reducible apply Within.refl
    | with_reducible apply Within.ite
    | with_reducible apply WithinRes.ite
    | with_reducible apply WithinRes.fault
    | with_reducible apply WithinRes.next
    | ((with_reducible apply Within.step (State.tick_within ..)); · rfl)
    | ((with_reducible apply Within.step (State.toHome_within ..)); · rfl)
    | ((with_reducible apply Within.step (State.noFrame_within ..)); · rfl)

theorem State.failStack_within (s a1) : Within 0x42efaffffffff s (State.failStack s a1) := by
  unfold State.failStack
  try dsimp only
  repeat' first
    | with_reducible apply Within.refl
    | with_reducible apply Within.ite
    | ((with_reducible apply put_within _ _ (F.HBM_STAT_STATE_block _)); · rfl)
    | ((with_reducible apply Within.step (State.event_within ..)); · rfl)
    | ((with_reducible apply Within.step (State.dropStack_within ..)); · rfl)

theorem State.ueLine_within (s a1 a2) : Within 0x43efaffffffff s (State.ueLine s a1 a2) := by
  unfold State.ueLine
  try dsimp only
  repeat' first
    | with_reducible apply Within.refl
    | with_reducible apply Within.ite
    | ((with_reducible apply put_within _ _ (F.HBM_ERR_ADDR_LINE_block _)); · rfl)
    | ((with_reducible apply put_within _ _ (F.HBM_ERR_ADDR_VALID_block _)); · rfl)
    | ((with_reducible apply bumpSat_within _ _ (F.HBM_UE_COUNT_block _)); · rfl)
    | ((with_reducible apply Within.step (State.failStack_within ..)); · rfl)
    | ((with_reducible apply Within.step (State.loseCopies_within ..)); · rfl)
    | ((with_reducible apply Within.step (State.loseFrame_within ..)); · rfl)
    | ((with_reducible apply Within.step (State.errors_within ..)); · rfl)
    | with_reducible refine Within.update ?_ rfl

theorem execHbmUeLine_within (a0 a1 a2 s) : WithinRes 0x43efaffffffff s (execHbmUeLine a0 a1 a2 s) := by
  unfold execHbmUeLine
  try dsimp only
  repeat' first
    | with_reducible apply Within.refl
    | with_reducible apply Within.ite
    | with_reducible apply WithinRes.ite
    | with_reducible apply WithinRes.fault
    | with_reducible apply WithinRes.next
    | ((with_reducible apply Within.step (State.ueLine_within ..)); · rfl)
    | ((with_reducible apply Within.step (State.tick_within ..)); · rfl)
    | ((with_reducible apply Within.step (State.markReady_within ..)); · rfl)

theorem execJournalGroupFlush_within (a0 s) : WithinRes 0x460a200850502 s (execJournalGroupFlush a0 s) := by
  unfold execJournalGroupFlush
  try dsimp only
  repeat' first
    | with_reducible apply Within.refl
    | with_reducible apply Within.ite
    | with_reducible apply WithinRes.ite
    | with_reducible apply WithinRes.fault
    | with_reducible apply WithinRes.next
    | ((with_reducible apply bumpSat_within _ _ rfl); · rfl)
    | ((with_reducible apply Within.step (State.event_within ..)); · rfl)
    | ((with_reducible apply Within.step (State.tick_within ..)); · rfl)
    | ((with_reducible apply Within.step (State.writeGroup_within ..)); · rfl)
    | with_reducible refine Within.update ?_ rfl

theorem State.checkpointPage_within (s a1) : Within 0x460a200850500 s (State.checkpointPage s a1) := by
  unfold State.checkpointPage
  try dsimp only
  repeat' first
    | with_reducible apply Within.refl
    | ((with_reducible apply bump_within _ _ rfl); · rfl)
    | ((with_reducible apply Within.step (State.setPte_within ..)); · rfl)
    | ((with_reducible apply Within.step (State.dropWriteBack_within ..)); · rfl)
    | ((with_reducible apply Within.step (State.homeWrite_within ..)); · rfl)

theorem execCheckpoint_within (a0 s) : WithinRes 0x460a200850502 s (execCheckpoint a0 s) := by
  unfold execCheckpoint
  try dsimp only
  repeat' first
    | with_reducible apply Within.refl
    | with_reducible apply Within.ite
    | with_reducible apply WithinRes.ite
    | with_reducible apply WithinRes.fault
    | with_reducible apply WithinRes.next
    | ((with_reducible apply Within.step (State.freeJournal_within ..)); · rfl)
    | ((with_reducible apply Within.step (State.checkpointPage_within ..)); · rfl)
    | ((with_reducible apply Within.step (State.tick_within ..)); · rfl)
    | with_reducible apply WithinOpt.mapState
    | intro _
    | with_reducible refine Within.update ?_ rfl
    | with_reducible apply Within.foldl

theorem State.recoverPages_within (s a1 a2 a3) : Within 0x42ee80080c106 s (State.recoverPages s a1 a2 a3) := by
  unfold State.recoverPages
  try dsimp only
  repeat' first
    | with_reducible apply Within.refl
    | with_reducible apply Within.ite
    | ((with_reducible apply Within.step (State.setObject_within ..)); · rfl)
    | ((with_reducible apply Within.step (State.arrive_within ..)); · rfl)
    | ((with_reducible apply Within.step (State.poison_within ..)); · rfl)
    | ((with_reducible apply Within.step (State.endWaits_within ..)); · rfl)
    | ((with_reducible apply Within.step (State.markReady_within ..)); · rfl)
    | ((with_reducible apply Within.step (State.endEpisode_within ..)); · rfl)
    | with_reducible apply WithinOpt.mapState
    | intro _
    | with_reducible refine Within.update ?_ rfl
    | with_reducible apply Within.foldl

theorem execObjPageRecovery_within (a0 a1 a2 s) : WithinRes 0x42ee80080c106 s (execObjPageRecovery a0 a1 a2 s) := by
  unfold execObjPageRecovery
  try dsimp only
  repeat' first
    | with_reducible apply Within.refl
    | with_reducible apply Within.ite
    | with_reducible apply WithinRes.ite
    | with_reducible apply WithinRes.fault
    | with_reducible apply WithinRes.next
    | ((with_reducible apply Within.step (State.tick_within ..)); · rfl)
    | ((with_reducible apply Within.step (State.recoverPages_within ..)); · rfl)
    | with_reducible refine Within.update ?_ rfl
    | split

theorem execAltFetchTimeout_within (a0 a1 s) : WithinRes 0x42ee80080c106 s (execAltFetchTimeout a0 a1 s) := by
  unfold execAltFetchTimeout
  try dsimp only
  repeat' first
    | with_reducible apply Within.refl
    | with_reducible apply Within.ite
    | with_reducible apply WithinRes.ite
    | with_reducible apply WithinRes.fault
    | with_reducible apply WithinRes.next
    | ((with_reducible apply Within.step (State.tick_within ..)); · rfl)
    | ((with_reducible apply Within.step (State.poison_within ..)); · rfl)
    | ((with_reducible apply Within.step (State.markReady_within ..)); · rfl)
    | with_reducible refine Within.update ?_ rfl
    | split

theorem State.tierOp_within {m : Nat} {t : State} (s : State) (o : TierOp) (f : State → State × Nat × Nat × Nat) (hf : ∀ s, Within m s (f s).1)
    (hm : 0x400c80020f102 &&& m = 0x400c80020f102) (ht : Within m t s) : Within m t (State.tierOp s o f) := by
  unfold State.tierOp
  have h := ((State.opStart_within s 8 o.opId false o.completion 0).mono (m := 0x400c80020f102) rfl).step hm ht
  dsimp only
  split
  · exact ((State.opEnd_within ..).mono (m := 0x400c80020f102) rfl).step hm h
  · exact ((State.opEnd_within ..).mono (m := 0x400c80020f102) rfl).step hm ((hf _).step (Nat.and_self m) h)

theorem State.tierStep_within {m : Nat} (s : State) (o : TierOp) (r : State) (hm : 0x4000000000 &&& m = 0x4000000000) (h : Within m s r) :
    WithinRes m s (State.tierStep s o r) := by
  unfold State.tierStep
  split
  · exact WithinRes.next ((State.markReady_within ..).step hm h)
  · exact WithinRes.next .refl

theorem execMap_within (a0 s) : WithinRes 0x400c80020f102 s (execMap a0 s) := by
  unfold execMap
  try dsimp only
  repeat' first
    | with_reducible apply Within.refl
    | with_reducible apply Within.ite
    | with_reducible apply WithinRes.ite
    | with_reducible apply WithinRes.fault
    | with_reducible apply WithinRes.next
    | ((with_reducible apply Within.step (State.setPte_within ..)); · rfl)
    | ((with_reducible apply State.tierOp_within); swap; · rfl)
    | intro _
    | dsimp only
    | ((with_reducible apply State.tierStep_within); · rfl)
    | with_reducible refine Within.update ?_ rfl
    | with_reducible apply Within.foldl
    | intro _ _
    | split

theorem execUnmap_within (a0 s) : WithinRes 0x46ec80020f106 s (execUnmap a0 s) := by
  unfold execUnmap
  try dsimp only
  repeat' first
    | with_reducible apply Within.refl
    | with_reducible apply WithinRes.fault
    | with_reducible apply WithinRes.next
    | ((with_reducible apply Within.step (State.unmapPage_within ..)); · rfl)
    | ((with_reducible apply Within.step (State.failUnmapped_within ..)); · rfl)
    | ((with_reducible apply Within.step (State.finishRetire_within ..)); · rfl)
    | ((with_reducible apply State.tierOp_within); swap; · rfl)
    | intro _
    | dsimp only
    | ((with_reducible apply State.tierStep_within); · rfl)
    | with_reducible refine Within.update ?_ rfl
    | with_reducible apply Within.foldl

theorem State.setHome_within (s a1 a2 a3 a4) : Within 0x460a200850500 s (State.setHome s a1 a2 a3 a4) := by
  unfold State.setHome
  try dsimp only
  repeat' first
    | with_reducible apply Within.refl
    | with_reducible apply Within.ite
    | ((with_reducible apply bump_within _ _ rfl); · rfl)
    | ((with_reducible apply Within.step (State.setPte_within ..)); · rfl)
    | ((with_reducible apply Within.step (State.freeLpages_within ..)); · rfl)
    | ((with_reducible apply Within.step (State.dropWriteBack_within ..)); · rfl)
    | ((with_reducible apply Within.step (State.homeWrite_within ..)); · rfl)

theorem State.rehome_within (s a1 a2) : WithinOptFst 0x460a200850500 s (State.rehome s a1 a2) := by
  have h := fun (t : State) p n => (State.setHome_within t a1 a2 p n).mono (m := 0x460a200850500) rfl
  have hb := fun k => (State.bringUp_within s k).step (m := 0x460a200850500) rfl .refl
  unfold State.rehome
  dsimp only
  split
  · exact .none
  · split
    · exact .some .refl
    · exact .some .refl
    · exact .some .refl
    · exact .some .refl
    · split
      · exact .some (h ..)
      · exact .none
    · exact .some (h ..)
    · exact .some (.ite (h ..) (h ..))
    · split
      · exact (hb _).map (fun t => h t _ _)
      · exact .some (h ..)

theorem State.prefetchPage_within (s a1 a2) : WithinOptFst 0x8000000100 s (State.prefetchPage s a1 a2) := by
  unfold State.prefetchPage
  dsimp only
  split
  · exact WithinOptFst.some .refl
  · exact WithinOptFst.some .refl
  · exact WithinOptFst.some .refl
  · exact WithinOptFst.none
  · split
    · exact ((State.bringUp_within ..).step rfl .refl).map (fun _ => .refl)
    · exact WithinOptFst.some .refl
  · exact WithinOptFst.some .refl

theorem State.evictPage_within (s a1 a2) : WithinOptFst 0x460a200850500 s (State.evictPage s a1 a2) := by
  unfold State.evictPage
  try dsimp only
  repeat' first
    | with_reducible apply Within.refl
    | with_reducible apply Within.ite
    | with_reducible apply WithinOptFst.none
    | with_reducible apply WithinOptFst.some
    | ((with_reducible apply bump_within _ _ rfl); · rfl)
    | ((with_reducible apply Within.step (State.toHome_within ..)); · rfl)
    | ((with_reducible apply Within.step (State.setPte_within ..)); · rfl)
    | ((with_reducible apply Within.step (State.dropWriteBack_within ..)); · rfl)
    | ((with_reducible apply Within.step (State.homeWrite_within ..)); · rfl)
    | with_reducible refine Within.update ?_ rfl
    | split

theorem runPages_within {m : Nat} {f : State → Nat → Option (State × Option Nat)} (hf : ∀ s i, WithinOptFst m s (f s i)) (n i : Nat) (s : State) :
    WithinOptFst m s (runPages f n i s) := by
  induction n generalizing i s with
  | zero => exact WithinOptFst.some .refl
  | succ n ih =>
    unfold runPages
    split
    · exact WithinOptFst.none
    · exact WithinOptFst.some ((hf _ _).of_eq ‹_›)
    · exact (ih _ _).step (Nat.and_self m) ((hf _ _).of_eq ‹_›)

theorem State.longStep_within {m : Nat} (s : State) (o : TierOp) (n : Nat) (f : State → Nat → Option (State × Option Nat))
    (hf : ∀ s i, WithinOptFst m s (f s i)) (hm : 0x400c80020f102 &&& m = 0x400c80020f102) : WithinRes m s (State.longStep s o n f) := by
  unfold State.longStep
  split
  · exact WithinRes.next (((State.opDead_within ..).of_eq ‹_›).mono hm)
  · split
    · exact WithinRes.next .refl
    · have h := (State.opFor_within (s.opStart 8 o.opId (decide (64 < o.pages)) o.completion o.pages) 8 o.opId (if o.service then svc else o.tid)).step
        (m := 0x400c80020f102) rfl ((State.opStart_within ..).mono rfl)
      have hend := fun (t : State) (a b c : Nat) => (State.markReady_within ..).step (m := 0x400c80020f102) rfl ((State.opEnd_within t 8 o.opId o.completion a b c 0).mono rfl)
      dsimp only
      split
      · exact WithinRes.next (((State.opEnd_within ..).step rfl h).mono hm)
      · split
        · exact WithinRes.next (h.mono hm)
        · exact WithinRes.next ((hend _ _ _ _).step hm (((runPages_within hf _ _ _).of_eq ‹_›).step (Nat.and_self m) (h.mono hm)))
        · have hr := ((runPages_within hf _ _ _).of_eq ‹_›).step (Nat.and_self m) (h.mono hm)
          split
          · exact WithinRes.next ((hend _ _ _ _).step hm hr)
          · split
            · exact WithinRes.next hr
            · exact WithinRes.next (((State.markReady_within ..).step (m := 0x400c80020f102) rfl ((State.setOp_within ..).mono rfl)).step hm hr)

theorem execSetHome_within (a0 a1 s) : WithinRes 0x460ea00a5f502 s (execSetHome a0 a1 s) := by
  unfold execSetHome
  split
  · exact State.tierStep_within _ _ _ rfl (State.tierOp_within _ _ _ (fun _ => .refl) rfl .refl)
  · exact State.longStep_within _ _ _ _ (fun t i => (State.rehome_within t a0 i).step rfl .refl) rfl

theorem execPrefetch_within (a0 a1 s) : WithinRes 0x400c80020f102 s (execPrefetch a0 a1 s) := by
  unfold execPrefetch
  split
  · exact (State.longStep_within _ _ _ _ (fun t i => (State.prefetchPage_within t a0 i).step rfl .refl) rfl)
  · exact .next .refl

theorem execEvict_within (a0 a1 s) : WithinRes 0x460ea00a5f502 s (execEvict a0 a1 s) :=
  State.longStep_within _ _ _ _ (fun t i => (State.evictPage_within t a0 i).step rfl .refl) rfl

theorem execPin_within (a0 s) : WithinRes 0x400c80020f102 s (execPin a0 s) := by
  unfold execPin
  try dsimp only
  repeat' first
    | with_reducible apply Within.refl
    | with_reducible apply Within.ite
    | with_reducible apply WithinRes.ite
    | with_reducible apply WithinRes.fault
    | with_reducible apply WithinRes.next
    | ((with_reducible apply Within.step (State.setPte_within ..)); · rfl)
    | ((with_reducible apply Within.step (WithinOpt.of_eq (State.bringAll_within ..) (by assumption))); · rfl)
    | ((with_reducible apply State.tierOp_within); swap; · rfl)
    | intro _
    | dsimp only
    | ((with_reducible apply State.tierStep_within); · rfl)
    | with_reducible apply WithinOpt.mapState
    | with_reducible refine Within.update ?_ rfl
    | with_reducible apply Within.foldl
    | intro _ _
    | split

theorem execUnpin_within (a0 s) : WithinRes 0x400c80020f102 s (execUnpin a0 s) := by
  unfold execUnpin
  try dsimp only
  repeat' first
    | with_reducible apply Within.refl
    | with_reducible apply Within.ite
    | with_reducible apply WithinRes.ite
    | with_reducible apply WithinRes.fault
    | with_reducible apply WithinRes.next
    | ((with_reducible apply Within.step (State.setPte_within ..)); · rfl)
    | ((with_reducible apply State.tierOp_within); swap; · rfl)
    | intro _
    | dsimp only
    | ((with_reducible apply State.tierStep_within); · rfl)
    | with_reducible apply WithinOpt.mapState
    | with_reducible refine Within.update ?_ rfl
    | with_reducible apply Within.foldl
    | intro _ _
    | split

theorem execMapShared_within (a0 s) : WithinRes 0x400c80020f102 s (execMapShared a0 s) := by
  unfold execMapShared
  try dsimp only
  repeat' first
    | with_reducible apply Within.refl
    | with_reducible apply Within.ite
    | with_reducible apply WithinRes.ite
    | with_reducible apply WithinRes.fault
    | with_reducible apply WithinRes.next
    | ((with_reducible apply Within.step (State.setPte_within ..)); · rfl)
    | ((with_reducible apply State.tierOp_within); swap; · rfl)
    | intro _
    | dsimp only
    | ((with_reducible apply State.tierStep_within); · rfl)
    | with_reducible refine Within.update ?_ rfl
    | with_reducible apply Within.foldl
    | intro _ _
    | split

theorem execObjRegister_within (a0 s) : WithinRes 0x400c80020f102 s (execObjRegister a0 s) := by
  unfold execObjRegister
  try dsimp only
  repeat' first
    | with_reducible apply Within.refl
    | with_reducible apply Within.ite
    | with_reducible apply WithinRes.ite
    | with_reducible apply WithinRes.fault
    | with_reducible apply WithinRes.next
    | ((with_reducible apply Within.step (State.setPte_within ..)); · rfl)
    | ((with_reducible apply Within.step (State.setObject_within ..)); · rfl)
    | ((with_reducible apply State.tierOp_within); swap; · rfl)
    | intro _
    | dsimp only
    | ((with_reducible apply State.tierStep_within); · rfl)
    | with_reducible refine Within.update ?_ rfl
    | with_reducible apply Within.foldl
    | intro _ _
    | split

theorem execObjSetAlt_within (a0 s) : WithinRes 0x400c80020f102 s (execObjSetAlt a0 s) := by
  unfold execObjSetAlt
  try dsimp only
  repeat' first
    | with_reducible apply Within.refl
    | with_reducible apply Within.ite
    | with_reducible apply WithinRes.ite
    | with_reducible apply WithinRes.fault
    | with_reducible apply WithinRes.next
    | ((with_reducible apply Within.step (State.setObject_within ..)); · rfl)
    | ((with_reducible apply State.tierOp_within); swap; · rfl)
    | intro _
    | dsimp only
    | ((with_reducible apply State.tierStep_within); · rfl)
    | with_reducible refine Within.update ?_ rfl
    | split

theorem execObjSeal_within (a0 s) : WithinRes 0x460ea00a5f502 s (execObjSeal a0 s) := by
  unfold execObjSeal
  try dsimp only
  repeat' first
    | with_reducible apply Within.refl
    | with_reducible apply Within.ite
    | with_reducible apply WithinRes.ite
    | with_reducible apply WithinRes.fault
    | with_reducible apply WithinRes.next
    | ((with_reducible apply bump_within _ _ rfl); · rfl)
    | ((with_reducible apply Within.step (State.setPte_within ..)); · rfl)
    | ((with_reducible apply Within.step (State.homeWrite_within ..)); · rfl)
    | ((with_reducible apply Within.step (State.setObject_within ..)); · rfl)
    | ((with_reducible apply Within.step (State.dropWriteBack_within ..)); · rfl)
    | ((with_reducible apply State.tierOp_within); swap; · rfl)
    | intro _
    | dsimp only
    | ((with_reducible apply State.tierStep_within); · rfl)
    | with_reducible refine Within.update ?_ rfl
    | with_reducible apply Within.foldl
    | intro _ _
    | split

theorem execObjRewrite_within (a0 s) : WithinRes 0x400c80020f102 s (execObjRewrite a0 s) := by
  unfold execObjRewrite
  try dsimp only
  repeat' first
    | with_reducible apply Within.refl
    | with_reducible apply Within.ite
    | with_reducible apply WithinRes.ite
    | with_reducible apply WithinRes.fault
    | with_reducible apply WithinRes.next
    | ((with_reducible apply Within.step (State.setPte_within ..)); · rfl)
    | ((with_reducible apply Within.step (State.setObject_within ..)); · rfl)
    | ((with_reducible apply State.tierOp_within); swap; · rfl)
    | intro _
    | dsimp only
    | ((with_reducible apply State.tierStep_within); · rfl)
    | with_reducible refine Within.update ?_ rfl
    | with_reducible apply Within.foldl
    | intro _ _
    | split

theorem execObjRetire_within (a0 s) : WithinRes 0x440c80020f102 s (execObjRetire a0 s) := by
  unfold execObjRetire
  try dsimp only
  repeat' first
    | with_reducible apply Within.refl
    | with_reducible apply Within.ite
    | with_reducible apply WithinRes.ite
    | with_reducible apply WithinRes.fault
    | with_reducible apply WithinRes.next
    | ((with_reducible apply Within.step (State.opStart_within ..)); · rfl)
    | ((with_reducible apply Within.step (State.setObject_within ..)); · rfl)
    | ((with_reducible apply Within.step (State.finishRetire_within ..)); · rfl)
    | ((with_reducible apply State.tierOp_within); swap; · rfl)
    | intro _
    | dsimp only
    | ((with_reducible apply State.tierStep_within); · rfl)
    | with_reducible refine Within.update ?_ rfl
    | split

theorem execHbmRetire_within (a0 a1 s) : WithinRes 0x42efeffffffff s (execHbmRetire a0 a1 s) := by
  unfold execHbmRetire
  try dsimp only
  repeat' first
    | with_reducible apply Within.refl
    | with_reducible apply Within.ite
    | with_reducible apply WithinRes.ite
    | with_reducible apply WithinRes.fault
    | with_reducible apply WithinRes.next
    | ((with_reducible apply Within.step (State.dropStack_within ..)); · rfl)
    | ((with_reducible apply Within.step (State.markReady_within ..)); · rfl)
    | ((with_reducible apply Within.step (State.event_within ..)); · rfl)
    | with_reducible refine Within.update ?_ rfl

theorem execStackFail_within (a0 a1 s) : WithinRes 0x42efaffffffff s (execStackFail a0 a1 s) := by
  unfold execStackFail
  try dsimp only
  repeat' first
    | with_reducible apply Within.refl
    | with_reducible apply Within.ite
    | with_reducible apply WithinRes.ite
    | with_reducible apply WithinRes.fault
    | with_reducible apply WithinRes.next
    | ((with_reducible apply Within.step (State.tick_within ..)); · rfl)
    | ((with_reducible apply Within.step (State.failStack_within ..)); · rfl)
    | ((with_reducible apply Within.step (State.markReady_within ..)); · rfl)

end Sys2Proof.Machine
end

