-- ==== Sys2Proof/Laws/Journal.lean ====
section
/-! SUPPORT. What each operation of Machine/Journal.lean can change (`Within`, Laws/Within.lean). -/

namespace Sys2Proof.Machine

set_option Elab.async false

theorem State.coverStripe_within (s a1 a2) : Within 0x8000000100 s (State.coverStripe s a1 a2) := by
  unfold State.coverStripe
  try dsimp only
  repeat' first
    | with_reducible apply Within.refl
    | with_reducible apply Within.ite
    | ((with_reducible apply put_within _ _ rfl); · rfl)
    | with_reducible apply WithinOpt.mapState
    | intro _
    | with_reducible refine Within.update ?_ rfl

theorem execJournalStripeAck_within (a0 a1 s) : WithinRes 0x46fea0085d502 s (execJournalStripeAck a0 a1 s) := by
  unfold execJournalStripeAck
  try dsimp only
  repeat' first
    | with_reducible apply Within.refl
    | with_reducible apply Within.ite
    | with_reducible apply WithinRes.ite
    | with_reducible apply WithinRes.fault
    | with_reducible apply WithinRes.next
    | ((with_reducible apply Within.step (State.tick_within ..)); · rfl)
    | ((with_reducible apply Within.step (State.coverStripe_within ..)); · rfl)
    | ((with_reducible apply Within.step (State.sweepTables_within ..)); · rfl)
    | ((with_reducible apply Within.step (State.ackWork_within ..)); · rfl)
    | ((with_reducible apply Within.step (State.markReady_within ..)); · rfl)
    | ((with_reducible apply Within.step (State.settlePubs_within ..)); · rfl)
    | ((with_reducible apply Within.step (State.settleInbound_within ..)); · rfl)
    | ((with_reducible apply Within.step (State.settleIdx_within ..)); · rfl)
    | with_reducible refine Within.update ?_ rfl
    | split

end Sys2Proof.Machine
end

