-- ==== Sys2Proof/Laws/Geode.lean ====
section
/-! SUPPORT. What each operation of Machine/Geode.lean can change (`Within`, Laws/Within.lean). -/

namespace Sys2Proof.Machine

set_option Elab.async false

theorem execFlashOpStart_within (a0 a1 a2 a3 s) : WithinRes 0x46eeb0085d702 s (execFlashOpStart a0 a1 a2 a3 s) := by
  unfold execFlashOpStart
  try dsimp only
  repeat' first
    | with_reducible apply Within.refl
    | with_reducible apply Within.ite
    | with_reducible apply WithinRes.ite
    | with_reducible apply WithinRes.fault
    | with_reducible apply WithinRes.next
    | ((with_reducible apply Within.step (State.tick_within ..)); · rfl)
    | ((with_reducible apply Within.step (State.setChan_within ..)); · rfl)
    | ((with_reducible apply Within.step (State.wake_within ..)); · rfl)
    | ((with_reducible apply Within.step (State.stirAll_within ..)); · rfl)
    | ((with_reducible apply Within.step (State.markReady_within ..)); · rfl)

theorem State.failPoisoned_within (s a1) : Within 0x42ec80000c106 s (State.failPoisoned s a1) := by
  unfold State.failPoisoned
  try dsimp only
  repeat' first
    | with_reducible apply Within.refl
    | with_reducible apply Within.ite
    | ((with_reducible apply Within.step (State.failItem_within ..)); · rfl)
    | with_reducible refine Within.update ?_ rfl
    | with_reducible apply Within.foldl
    | intro _ _

theorem State.poisonPage_within (s a1) : Within 0x42ec80000c106 s (State.poisonPage s a1) := by
  unfold State.poisonPage
  try dsimp only
  repeat' first
    | with_reducible apply Within.refl
    | with_reducible apply Within.ite
    | ((with_reducible apply Within.step (State.freeFrame_within ..)); · rfl)
    | ((with_reducible apply Within.step (State.setPte_within ..)); · rfl)
    | ((with_reducible apply Within.step (State.failPoisoned_within ..)); · rfl)

theorem State.loseExtentUnit_within (s a1 a2) : Within 0x4e800800100 s (State.loseExtentUnit s a1 a2) := by
  unfold State.loseExtentUnit
  try dsimp only
  repeat' first
    | with_reducible apply Within.refl
    | with_reducible apply Within.ite
    | ((with_reducible apply Within.step (State.losePassUnit_within ..)); · rfl)
    | ((with_reducible apply Within.step (State.loseMemberUnit_within ..)); · rfl)
    | ((with_reducible apply Within.step (State.loseItemUnit_within ..)); · rfl)
    | with_reducible apply WithinOpt.mapState
    | intro _
    | with_reducible refine Within.update ?_ rfl
    | with_reducible apply Within.foldl
    | intro _ _
    | split

theorem State.loseUnit_within (s a1) : Within 0x46eea0085c506 s (State.loseUnit s a1) := by
  have hx := fun k t => Within.step (State.event_within (s.poisonPage k) evGeoUnitLost .error (some t) (a1 / unitsPerPage) a1)
    (m := 0x46eea0085c506) rfl ((State.poisonPage_within s k).mono rfl)
  unfold State.loseUnit
  dsimp only
  split
  · split
    · exact (State.homeWrite_within ..).mono rfl
    · split
      · exact (State.recoverPages_within ..).step rfl (.ite (((State.startUp_within ..).step rfl .refl).getD .refl) .refl)
      · exact hx _ _
  · split
    · exact (State.loseExtentUnit_within ..).step rfl ((State.event_within ..).mono rfl)
    · exact (State.event_within ..).mono rfl

theorem State.unitRead_within (s a1 a2 a3) : Within 0x47eea0095c506 s (State.unitRead s a1 a2 a3) := by
  unfold State.unitRead
  try dsimp only
  repeat' first
    | with_reducible apply Within.refl
    | with_reducible apply Within.ite
    | ((with_reducible apply bumpSat_within _ _ (F.GEO_BAY_LDPC_FAILED_block _)); · rfl)
    | ((with_reducible apply bumpSat_within _ _ (F.GEO_BAY_LDPC_SOFT_block _)); · rfl)
    | ((with_reducible apply bumpSat_within _ _ rfl); · rfl)
    | ((with_reducible apply Within.step (State.relocate_within ..)); · rfl)
    | ((with_reducible apply Within.step (State.setBay_within ..)); · rfl)
    | ((with_reducible apply Within.step (State.loseUnit_within ..)); · rfl)
    | ((with_reducible apply Within.step (State.errors_within ..)); · rfl)
    | with_reducible refine Within.update ?_ rfl
    | split

theorem State.noteScan_within (s a1 a2) : Within 0x40000000000 s (State.noteScan s a1 a2) := by
  unfold State.noteScan
  try dsimp only
  repeat' first
    | with_reducible apply Within.refl
    | with_reducible apply Within.ite
    | with_reducible refine Within.update ?_ rfl
    | split

theorem execFlashUnitRead_within (a0 a1 a2 s) : WithinRes 0x47eea0095c506 s (execFlashUnitRead a0 a1 a2 s) := by
  unfold execFlashUnitRead
  try dsimp only
  repeat' first
    | with_reducible apply Within.refl
    | with_reducible apply Within.ite
    | with_reducible apply WithinRes.ite
    | with_reducible apply WithinRes.fault
    | with_reducible apply WithinRes.next
    | ((with_reducible apply Within.step (State.tick_within ..)); · rfl)
    | ((with_reducible apply Within.step (State.setChan_within ..)); · rfl)
    | ((with_reducible apply Within.step (State.noteScan_within ..)); · rfl)
    | ((with_reducible apply Within.step (State.markReady_within ..)); · rfl)
    | ((with_reducible apply Within.step (State.unitRead_within ..)); · rfl)
    | with_reducible refine Within.update ?_ rfl
    | split

theorem State.ackExt_within (s a1 a2) : Within 0x1000000000 s (State.ackExt s a1 a2) := by
  unfold State.ackExt
  split
  · exact .refl
  · rename_i k hc
    refine setCore_within _ _ (fun i => ?_) rfl .refl
    have g := i.cores _ _ hc
    exact ⟨g.sregs, g.vregs, g.masks, g.acc, g.store⟩

theorem execGeoProgramAck_within (a0 a1 a2 s) : WithinRes 0x401800800002 s (execGeoProgramAck a0 a1 a2 s) := by
  unfold execGeoProgramAck
  try dsimp only
  repeat' first
    | with_reducible apply Within.refl
    | with_reducible apply Within.ite
    | with_reducible apply WithinRes.ite
    | with_reducible apply WithinRes.fault
    | with_reducible apply WithinRes.next
    | ((with_reducible apply Within.step (State.store_within ..)); · rfl)
    | ((with_reducible apply Within.step (State.tick_within ..)); · rfl)
    | ((with_reducible apply Within.step (State.ackWork_within ..)); · rfl)
    | ((with_reducible apply Within.step (State.ackExt_within ..)); · rfl)
    | with_reducible refine Within.update ?_ rfl
    | with_reducible apply Within.foldl
    | intro _ _
    | split

theorem execGarbageCollect_within (a0 a1 a2 a3 s) : WithinRes 0x402200850402 s (execGarbageCollect a0 a1 a2 a3 s) := by
  unfold execGarbageCollect
  try dsimp only
  repeat' first
    | with_reducible apply Within.refl
    | with_reducible apply Within.ite
    | with_reducible apply WithinRes.ite
    | with_reducible apply WithinRes.fault
    | with_reducible apply WithinRes.next
    | ((with_reducible apply put_within _ _ (F.GEO_BAY_WEAR_SPARE_PCT_block _)); · rfl)
    | ((with_reducible apply Within.step (State.freeJournal_within ..)); · rfl)
    | ((with_reducible apply Within.step (State.tick_within ..)); · rfl)
    | ((with_reducible apply Within.step (State.placeStripe_within ..)); · rfl)
    | ((with_reducible apply Within.step (State.setBay_within ..)); · rfl)
    | ((with_reducible apply Within.step (State.freeStripe_within ..)); · rfl)
    | ((with_reducible apply Within.step (State.showWear_within ..)); · rfl)
    | ((with_reducible apply Within.step (State.geoWrite_within ..)); · rfl)
    | ((with_reducible apply Within.step (State.bayGone_within ..)); · rfl)
    | with_reducible apply WithinOpt.mapState
    | intro _
    | with_reducible refine Within.update ?_ rfl
    | with_reducible apply Within.foldl

theorem State.beginPass_within (s) : Within 0x400000000000 s (State.beginPass s) := by
  unfold State.beginPass
  try dsimp only
  repeat' first
    | with_reducible apply Within.refl
    | with_reducible refine Within.update ?_ rfl

theorem State.patrolOn_within (s a1 a2) : Within 0x400000000400 s (State.patrolOn s a1 a2) := by
  unfold State.patrolOn
  try dsimp only
  repeat' first
    | with_reducible apply Within.refl
    | with_reducible apply Within.ite
    | ((with_reducible apply bump_within _ _ rfl); · rfl)
    | ((with_reducible apply put_within _ _ rfl); · rfl)
    | ((with_reducible apply Within.step (State.beginPass_within ..)); · rfl)
    | with_reducible refine Within.update ?_ rfl

theorem State.openPass_within (s) : Within 0x400000000000 s (State.openPass s) := by
  unfold State.openPass
  try dsimp only
  repeat' first
    | with_reducible apply Within.refl
    | with_reducible apply Within.ite
    | ((with_reducible apply Within.step (State.beginPass_within ..)); · rfl)
    | with_reducible refine Within.update ?_ rfl

theorem execPatrolRead_within (a0 a1 s) : WithinRes 0x47eea0095c506 s (execPatrolRead a0 a1 s) := by
  unfold execPatrolRead
  try dsimp only
  repeat' first
    | with_reducible apply Within.refl
    | with_reducible apply Within.ite
    | with_reducible apply WithinRes.ite
    | with_reducible apply WithinRes.fault
    | with_reducible apply WithinRes.next
    | ((with_reducible apply Within.step (State.tick_within ..)); · rfl)
    | ((with_reducible apply Within.step (State.markReady_within ..)); · rfl)
    | ((with_reducible apply Within.step (State.unitRead_within ..)); · rfl)
    | ((with_reducible apply Within.step (State.openPass_within ..)); · rfl)
    | ((with_reducible apply Within.step (State.patrolOn_within ..)); · rfl)
    | with_reducible refine Within.update ?_ rfl
    | split

theorem execPatrolPeriodEnd_within (a0 s) : WithinRes 0x402000800002 s (execPatrolPeriodEnd a0 s) := by
  unfold execPatrolPeriodEnd
  try dsimp only
  repeat' first
    | with_reducible apply Within.refl
    | with_reducible apply Within.ite
    | with_reducible apply WithinRes.ite
    | with_reducible apply WithinRes.fault
    | with_reducible apply WithinRes.next
    | ((with_reducible apply Within.step (State.tick_within ..)); · rfl)
    | ((with_reducible apply Within.step (State.event_within ..)); · rfl)
    | with_reducible refine Within.update ?_ rfl

theorem State.adopt_within (s a1) : Within 0x400000000000 s (State.adopt s a1) := by
  unfold State.adopt
  try dsimp only
  repeat' first
    | with_reducible apply Within.refl
    | ((with_reducible apply Within.step (State.setBay_within ..)); · rfl)

theorem State.present_within (s a1 a2) : Within 0x402000800400 s (State.present s a1 a2) := by
  unfold State.present
  try dsimp only
  repeat' first
    | with_reducible apply Within.refl
    | ((with_reducible apply put_within _ _ (F.GEO_BAY_SERIAL_SERIAL_block _)); · rfl)
    | ((with_reducible apply put_within _ _ (F.GEO_BAY_STAT_PRESENT_block _)); · rfl)
    | ((with_reducible apply put_within _ _ (F.GEO_BAY_WEAR_SPARE_PCT_block _)); · rfl)
    | ((with_reducible apply Within.step (State.setBay_within ..)); · rfl)
    | ((with_reducible apply Within.step (State.showWear_within ..)); · rfl)

theorem State.admitCart_within (s a1 a2) : Within 0x400200050400 s (State.admitCart s a1 a2) := by
  unfold State.admitCart
  try dsimp only
  repeat' first
    | with_reducible apply Within.refl
    | with_reducible apply Within.ite
    | ((with_reducible apply Within.step (State.missAll_within ..)); · rfl)
    | ((with_reducible apply Within.step (State.adopt_within ..)); · rfl)
    | ((with_reducible apply Within.step (State.setBayState_within ..)); · rfl)

theorem execCartridgeInsert_within (a0 a1 a2 s) : WithinRes 0x406200850402 s (execCartridgeInsert a0 a1 a2 s) := by
  unfold execCartridgeInsert
  try dsimp only
  repeat' first
    | with_reducible apply Within.refl
    | with_reducible apply Within.ite
    | with_reducible apply WithinRes.ite
    | with_reducible apply WithinRes.fault
    | with_reducible apply WithinRes.next
    | ((with_reducible apply Within.step (State.tick_within ..)); · rfl)
    | ((with_reducible apply Within.step (State.raiseGen_within ..)); · rfl)
    | ((with_reducible apply Within.step (State.present_within ..)); · rfl)
    | ((with_reducible apply Within.step (State.startRebuild_within ..)); · rfl)
    | ((with_reducible apply Within.step (State.markReady_within ..)); · rfl)
    | ((with_reducible apply Within.step (State.admitCart_within ..)); · rfl)
    | ((with_reducible apply Within.step (State.refreshTier_within ..)); · rfl)

theorem State.foundGone_within (s a1 a2) : Within 0x402000800400 s (State.foundGone s a1 a2) := by
  unfold State.foundGone
  try dsimp only
  repeat' first
    | with_reducible apply Within.refl
    | with_reducible apply Within.ite
    | ((with_reducible apply Within.step (State.raiseGen_within ..)); · rfl)
    | ((with_reducible apply Within.step (State.setBay_within ..)); · rfl)
    | ((with_reducible apply Within.step (State.event_within ..)); · rfl)

theorem State.startTier_within (s a1) : Within 0x402200850400 s (State.startTier s a1) := by
  unfold State.startTier
  try dsimp only
  repeat' first
    | with_reducible apply Within.refl
    | with_reducible apply Within.ite
    | ((with_reducible apply put_within _ _ rfl); · rfl)
    | ((with_reducible apply Within.step (State.present_within ..)); · rfl)
    | ((with_reducible apply Within.step (State.startRebuild_within ..)); · rfl)
    | ((with_reducible apply Within.step (State.refreshTier_within ..)); · rfl)
    | ((with_reducible apply Within.step (State.admitCart_within ..)); · rfl)
    | ((with_reducible apply Within.step (State.event_within ..)); · rfl)
    | ((with_reducible apply Within.step (State.foundGone_within ..)); · rfl)
    | with_reducible apply WithinOpt.mapState
    | intro _
    | with_reducible refine Within.update ?_ rfl
    | with_reducible apply Within.foldl

theorem execCartridgeRemoved_within (a0 a1 s) : WithinRes 0x406200850402 s (execCartridgeRemoved a0 a1 s) := by
  unfold execCartridgeRemoved
  try dsimp only
  repeat' first
    | with_reducible apply Within.refl
    | with_reducible apply Within.ite
    | with_reducible apply WithinRes.ite
    | with_reducible apply WithinRes.fault
    | with_reducible apply WithinRes.next
    | ((with_reducible apply put_within _ _ (F.GEO_BAY_SERIAL_SERIAL_block _)); · rfl)
    | ((with_reducible apply put_within _ _ (F.GEO_BAY_STAT_PRESENT_block _)); · rfl)
    | ((with_reducible apply put_within _ _ (F.GEO_BAY_WEAR_LIFE_USED_block _)); · rfl)
    | ((with_reducible apply put_within _ _ (F.GEO_BAY_WEAR_PROGRAMMED_GB_block _)); · rfl)
    | ((with_reducible apply put_within _ _ (F.GEO_BAY_WEAR_SPARE_PCT_block _)); · rfl)
    | ((with_reducible apply Within.step (State.tick_within ..)); · rfl)
    | ((with_reducible apply Within.step (State.setBay_within ..)); · rfl)
    | ((with_reducible apply Within.step (State.markReady_within ..)); · rfl)
    | ((with_reducible apply Within.step (State.bayGone_within ..)); · rfl)

theorem execChannelUnanswered_within (a0 a1 s) : WithinRes 0x406200850402 s (execChannelUnanswered a0 a1 s) := by
  unfold execChannelUnanswered
  try dsimp only
  repeat' first
    | with_reducible apply Within.refl
    | with_reducible apply Within.ite
    | with_reducible apply WithinRes.ite
    | with_reducible apply WithinRes.fault
    | with_reducible apply WithinRes.next
    | ((with_reducible apply Within.step (State.tick_within ..)); · rfl)
    | ((with_reducible apply Within.step (State.markReady_within ..)); · rfl)
    | ((with_reducible apply Within.step (State.bayGone_within ..)); · rfl)
    | with_reducible refine Within.update ?_ rfl
    | split

theorem execBayEject_within (a0 a1 s) : WithinRes 0x402200850400 s (execBayEject a0 a1 s) := by
  unfold execBayEject
  try dsimp only
  repeat' first
    | with_reducible apply Within.refl
    | with_reducible apply Within.ite
    | with_reducible apply WithinRes.ite
    | with_reducible apply WithinRes.fault
    | with_reducible apply WithinRes.next
    | ((with_reducible apply Within.step (State.reissue_within ..)); · rfl)
    | ((with_reducible apply Within.step (State.raiseGen_within ..)); · rfl)
    | ((with_reducible apply Within.step (State.dropRebuild_within ..)); · rfl)
    | ((with_reducible apply Within.step (State.startRebuild_within ..)); · rfl)
    | ((with_reducible apply Within.step (State.setBayState_within ..)); · rfl)
    | ((with_reducible apply Within.step (State.event_within ..)); · rfl)
    | ((with_reducible apply Within.step (State.refreshTier_within ..)); · rfl)

theorem execBayReadyToPull_within (a0 a1 s) : WithinRes 0x4400200850402 s (execBayReadyToPull a0 a1 s) := by
  unfold execBayReadyToPull
  try dsimp only
  repeat' first
    | with_reducible apply Within.refl
    | with_reducible apply Within.ite
    | with_reducible apply WithinRes.ite
    | with_reducible apply WithinRes.fault
    | with_reducible apply WithinRes.next
    | ((with_reducible apply Within.step (State.tick_within ..)); · rfl)
    | ((with_reducible apply Within.step (State.setBayState_within ..)); · rfl)
    | ((with_reducible apply Within.step (State.emit_within ..)); · rfl)

theorem execBayAdmit_within (a0 a1 s) : WithinRes 0x402200850400 s (execBayAdmit a0 a1 s) := by
  unfold execBayAdmit
  try dsimp only
  repeat' first
    | with_reducible apply Within.refl
    | with_reducible apply Within.ite
    | with_reducible apply WithinRes.ite
    | with_reducible apply WithinRes.fault
    | with_reducible apply WithinRes.next
    | ((with_reducible apply Within.step (State.missAll_within ..)); · rfl)
    | ((with_reducible apply Within.step (State.startRebuild_within ..)); · rfl)
    | ((with_reducible apply Within.step (State.adopt_within ..)); · rfl)
    | ((with_reducible apply Within.step (State.setBayState_within ..)); · rfl)
    | ((with_reducible apply Within.step (State.event_within ..)); · rfl)
    | ((with_reducible apply Within.step (State.refreshTier_within ..)); · rfl)

theorem State.endRebuild_within (s a1) : Within 0x402200850400 s (State.endRebuild s a1) := by
  unfold State.endRebuild
  try dsimp only
  repeat' first
    | with_reducible apply Within.refl
    | ((with_reducible apply Within.step (State.raiseGen_within ..)); · rfl)
    | ((with_reducible apply Within.step (State.setBay_within ..)); · rfl)
    | ((with_reducible apply Within.step (State.startRebuild_within ..)); · rfl)
    | ((with_reducible apply Within.step (State.setBayState_within ..)); · rfl)
    | ((with_reducible apply Within.step (State.event_within ..)); · rfl)
    | ((with_reducible apply Within.step (State.refreshTier_within ..)); · rfl)
    | with_reducible refine Within.update ?_ rfl

theorem State.fillStripe_within (s a1 a2) : Within 0x402000800400 s (State.fillStripe s a1 a2) := by
  unfold State.fillStripe
  try dsimp only
  repeat' first
    | with_reducible apply Within.refl
    | with_reducible apply Within.ite
    | ((with_reducible apply bump_within _ _ rfl); · rfl)
    | ((with_reducible apply Within.step (State.wear_within ..)); · rfl)
    | ((with_reducible apply Within.step (State.setBay_within ..)); · rfl)
    | ((with_reducible apply Within.step (State.modStripe_within ..)); · rfl)
    | with_reducible refine Within.update ?_ rfl
    | split

theorem execRebuildStripe_within (a0 a1 s) : WithinRes 0x406200850402 s (execRebuildStripe a0 a1 s) := by
  unfold execRebuildStripe
  try dsimp only
  repeat' first
    | with_reducible apply Within.refl
    | with_reducible apply Within.ite
    | with_reducible apply WithinRes.ite
    | with_reducible apply WithinRes.fault
    | with_reducible apply WithinRes.next
    | ((with_reducible apply Within.step (State.tick_within ..)); · rfl)
    | ((with_reducible apply Within.step (State.fillStripe_within ..)); · rfl)
    | ((with_reducible apply Within.step (State.endRebuild_within ..)); · rfl)
    | ((with_reducible apply Within.step (State.markReady_within ..)); · rfl)
    | with_reducible refine Within.update ?_ rfl
    | split

end Sys2Proof.Machine
end

