-- ==== Sys2Proof/Laws/SearchOps.lean ====
section
/-! SUPPORT. What each operation of Machine/SearchOps.lean can change (`Within`, Laws/Within.lean). -/

namespace Sys2Proof.Machine

set_option Elab.async false

theorem State.admitQuery_within (s a1 a2 a3) : Within 0x40000000000 s (State.admitQuery s a1 a2 a3) := by
  unfold State.admitQuery
  try dsimp only
  repeat' first
    | with_reducible apply Within.refl
    | ((with_reducible apply Within.step (State.setQuery_within ..)); · rfl)
    | with_reducible refine Within.update ?_ rfl
    | split

theorem State.queryDone_within (s a1) : Within 0xe6000800080 s (State.queryDone s a1) := by
  unfold State.queryDone
  try dsimp only
  repeat' first
    | with_reducible apply Within.refl
    | with_reducible apply Within.ite
    | ((with_reducible apply bumpSat_within _ _ rfl); · rfl)
    | ((with_reducible apply bump_within _ _ rfl); · rfl)
    | ((with_reducible apply Within.step (State.event_within ..)); · rfl)
    | ((with_reducible apply Within.step (State.setQuery_within ..)); · rfl)
    | ((with_reducible apply Within.step (State.sweep_within ..)); · rfl)
    | ((with_reducible apply Within.step (State.modReq_within ..)); · rfl)

theorem State.writeResults_within (s a1 a2) : Within 0x42e480000c002 s (State.writeResults s a1 a2) := by
  unfold State.writeResults
  try dsimp only
  repeat' first
    | with_reducible apply Within.refl
    | with_reducible apply Within.ite
    | ((with_reducible apply Within.step (State.hostPush_within ..)); · rfl)
    | ((with_reducible apply Within.step (State.endReq_within ..)); · rfl)
    | with_reducible refine Within.update ?_ rfl
    | split

theorem State.finishSearch_within (s a1 a2) : Within 0x42e680080c082 s (State.finishSearch s a1 a2) := by
  unfold State.finishSearch
  try dsimp only
  repeat' first
    | with_reducible apply Within.refl
    | ((with_reducible apply Within.step (State.queryDone_within ..)); · rfl)
    | ((with_reducible apply Within.step (State.writeResults_within ..)); · rfl)

end Sys2Proof.Machine
end

