-- ==== Sys2Proof/Laws/PathOps.lean ====
section
/-! SUPPORT. What each operation of Machine/PathOps.lean can change (`Within`, Laws/Within.lean). -/

namespace Sys2Proof.Machine

set_option Elab.async false

theorem State.inStage_within (s a1 a2) : Within 0x4000000000 s (State.inStage s a1 a2) := by
  unfold State.inStage
  try dsimp only
  repeat' first
    | with_reducible apply Within.refl
    | ((with_reducible apply Within.step (State.modReq_within ..)); · rfl)

theorem State.pastStage_within (s a1 a2) : Within 0x4000000000 s (State.pastStage s a1 a2) := by
  unfold State.pastStage
  try dsimp only
  repeat' first
    | with_reducible apply Within.refl
    | ((with_reducible apply Within.step (State.modReq_within ..)); · rfl)

end Sys2Proof.Machine
end

