-- ==== Sys2Proof/Laws/GenOps.lean ====
section
/-! SUPPORT. What each operation of Machine/GenOps.lean can change (`Within`, Laws/Within.lean). -/

namespace Sys2Proof.Machine

set_option Elab.async false

theorem State.growTo_within (s a1 a2 a3) : WithinOptSnd 0x80000000000 s (State.growTo s a1 a2 a3) := by
  unfold State.growTo
  split
  · exact WithinOptSnd.none
  · refine ⟨fun p h => ?_⟩
    obtain ⟨x, -, rfl⟩ := Option.map_eq_some_iff.1 h
    exact State.setInst_within ..

theorem State.enterKv_within (s a1) : WithinOptSnd 0x80000000000 s (State.enterKv s a1) := by
  unfold State.enterKv
  try dsimp only
  repeat' first
    | with_reducible apply Within.refl
    | with_reducible apply Within.ite
    | with_reducible apply WithinOptSnd.none
    | with_reducible apply WithinOptSnd.some
    | ((with_reducible apply WithinOptSnd.step (State.growTo_within ..)); · rfl)
    | with_reducible refine Within.update ?_ rfl
    | split

theorem State.trimKv_within (s a1) : Within 0x4280000008000 s (State.trimKv s a1) := by
  unfold State.trimKv
  try dsimp only
  repeat' first
    | with_reducible apply Within.refl
    | ((with_reducible apply Within.step (State.freeBlocks_within ..)); · rfl)
    | ((with_reducible apply Within.step (State.setGreq_within ..)); · rfl)
    | with_reducible refine Within.update ?_ rfl
    | split

theorem State.join_within (s a1 a2 a3) : Within 0x80000000000 s (State.join s a1 a2 a3).2 := by
  unfold State.join
  try dsimp only
  repeat' first
    | with_reducible apply Within.refl
    | ((with_reducible apply Within.step (State.setGreq_within ..)); · rfl)

theorem State.formDecode_within (a0 a1 s a3) : Within 0x80000000000 s.2 (State.formDecode a0 a1 s a3).2 := by
  unfold State.formDecode
  try dsimp only
  repeat' first
    | with_reducible apply Within.refl
    | with_reducible apply Within.ite
    | ((with_reducible apply Within.step (WithinOptSnd.of_eq (State.growTo_within ..) (by assumption))); · rfl)
    | ((with_reducible apply Within.step (State.setGreq_within ..)); · rfl)
    | ((with_reducible apply Within.step (State.join_within ..)); · rfl)
    | with_reducible refine Within.update ?_ rfl
    | split

theorem State.formPrefill_within (a0 s a2) : Within 0x80000000000 s.2 (State.formPrefill a0 s a2).2 := by
  unfold State.formPrefill
  try dsimp only
  repeat' first
    | with_reducible apply Within.refl
    | with_reducible apply Within.ite
    | ((with_reducible apply Within.step (State.setGreq_within ..)); · rfl)
    | ((with_reducible apply Within.step (WithinOptSnd.of_eq (State.enterKv_within ..) (by assumption))); · rfl)
    | ((with_reducible apply Within.step (State.join_within ..)); · rfl)
    | with_reducible refine Within.update ?_ rfl
    | split

theorem State.formLost_within (s a1) : Within 0x80000000000 s.2 (State.formLost s a1).2 := by
  unfold State.formLost
  try dsimp only
  repeat' first
    | with_reducible apply Within.refl
    | ((with_reducible apply Within.step (State.join_within ..)); · rfl)

theorem State.formDecoder_within (s a1 a2) : Within 0x80000000000 s (State.formDecoder s a1 a2).2 := by
  unfold State.formDecoder
  try dsimp only
  repeat' first
    | with_reducible apply Within.refl
    | ((with_reducible apply Within.step (State.formPrefill_within ..)); · rfl)
    | ((with_reducible apply Within.step (State.formLost_within ..)); · rfl)
    | ((with_reducible apply Within.step (State.formDecode_within ..)); · rfl)
    | with_reducible refine Within.update ?_ rfl
    | with_reducible apply Within.foldl
    | with_reducible apply Within.foldlFst
    | with_reducible apply Within.foldlSnd
    | intro _ _

theorem State.formEncoder_within (s a1 a2) : Within 0x4000000000 s (State.formEncoder s a1 a2).2 := by
  unfold State.formEncoder
  try dsimp only
  repeat' first
    | with_reducible apply Within.refl
    | with_reducible apply Within.ite
    | ((with_reducible apply Within.step (State.setReq_within ..)); · rfl)
    | with_reducible apply WithinOpt.mapState
    | intro _
    | with_reducible refine Within.update ?_ rfl
    | with_reducible apply Within.foldl
    | with_reducible apply Within.foldlFst
    | with_reducible apply Within.foldlSnd
    | intro _ _
    | split

theorem State.formPass_within (n i : Nat) (x : Inst) (s : State) : Within 0x42ec80000c106 s (State.formPass s i x n).2 := by
  induction n generalizing s with
  | zero => exact (State.formDecoder_within ..).mono rfl
  | succ n ih =>
    unfold State.formPass
    have hd := (State.formDecoder_within s i x).mono (m := 0x42ec80000c106) rfl
    dsimp only
    split
    · exact hd
    · split
      · exact hd
      · exact (ih _).step rfl ((State.stopReq_within ..).step rfl (bumpSat_within _ _ (F.GEN_KV_EXHAUSTED_block _) rfl hd))

theorem State.makeSites_within (s a1) : Within 0x8800000000 s (State.makeSites s a1) := by
  unfold State.makeSites
  try dsimp only
  repeat' first
    | with_reducible apply Within.refl
    | with_reducible apply Within.ite
    | ((with_reducible apply Within.step (State.soil_within ..)); · rfl)
    | ((with_reducible apply Within.step (State.store_within ..)); · rfl)
    | with_reducible refine Within.update ?_ rfl
    | split

theorem State.enterGen_within (s a1) : Within 0x88800000000 s (State.enterGen s a1) := by
  unfold State.enterGen
  try dsimp only
  repeat' first
    | with_reducible apply Within.refl
    | with_reducible apply Within.ite
    | ((with_reducible apply Within.step (State.setGreq_within ..)); · rfl)
    | ((with_reducible apply Within.step (State.makeSites_within ..)); · rfl)

end Sys2Proof.Machine
end

