-- ==== Sys2Proof/Laws/Generation.lean ====
section
/-! SUPPORT. What each operation of Machine/Generation.lean can change (`Within`, Laws/Within.lean). -/

namespace Sys2Proof.Machine

set_option Elab.async false

theorem State.genEnd_within (s a1 a2 a3) : WithinRes 0x400c800000002 s (State.genEnd s a1 a2 a3) := by
  unfold State.genEnd
  try dsimp only
  repeat' first
    | with_reducible apply Within.refl
    | with_reducible apply WithinRes.fault
    | with_reducible apply WithinRes.next
    | ((with_reducible apply Within.step (State.opEnd_within ..)); · rfl)

theorem execGenModelLoad_within (a0 s) : WithinRes 0x408c80020f102 s (execGenModelLoad a0 s) := by
  unfold execGenModelLoad
  refine State.ringStep_within _ _ _ _ _ _ _ (fun s => ?_) rfl
  dsimp only
  split
  · exact (State.genEnd_within ..).step rfl .refl
  · refine (State.genEnd_within ..).step rfl ?_
    simp only [List.foldl_cons, List.foldl_nil]
    exact put_within _ _ (F.GEN_SPEC_ACCEPTED_block _) rfl (put_within _ _ (F.GEN_SPEC_OFFERED_block _) rfl (put_within _ _ (F.GEN_ROWS_PREFILL_block _) rfl
      (put_within _ _ (F.GEN_ROWS_DECODE_block _) rfl (put_within _ _ (F.GEN_PASSES_COUNT_block _) rfl ((State.setInst_within ..).step rfl .refl)))))

theorem execGenModelUnload_within (a0 s) : WithinRes 0x40ec80020f102 s (execGenModelUnload a0 s) := by
  unfold execGenModelUnload
  try dsimp only
  repeat' first
    | with_reducible apply Within.refl
    | with_reducible apply WithinRes.fault
    | with_reducible apply WithinRes.next
    | ((with_reducible apply Within.step (State.sweep_within ..)); · rfl)
    | ((with_reducible apply Within.step (State.setInst_within ..)); · rfl)
    | ((with_reducible apply WithinRes.step (State.genEnd_within ..)); · rfl)
    | ((with_reducible apply State.ringStep_within); swap; · rfl)
    | intro _
    | dsimp only
    | with_reducible refine Within.update ?_ rfl
    | split

theorem State.claimChunk_within (s a1 a2) : Within 0x4280000000000 s (State.claimChunk s a1 a2) := by
  unfold State.claimChunk
  try dsimp only
  repeat' first
    | with_reducible apply Within.refl
    | with_reducible apply Within.ite
    | ((with_reducible apply Within.step (State.setGreq_within ..)); · rfl)
    | ((with_reducible apply Within.step (State.sendShip_within ..)); · rfl)
    | with_reducible refine Within.update ?_ rfl
    | split

theorem execFormPass_within (a0 a1 a2 s) : WithinRes 0x42ec80080c106 s (execFormPass a0 a1 a2 s) := by
  unfold execFormPass
  try dsimp only
  repeat' first
    | with_reducible apply Within.refl
    | with_reducible apply Within.ite
    | with_reducible apply WithinRes.ite
    | with_reducible apply WithinRes.fault
    | with_reducible apply WithinRes.next
    | ((with_reducible apply Within.step (State.formEncoder_within ..)); · rfl)
    | ((with_reducible apply Within.step (State.tick_within ..)); · rfl)
    | ((with_reducible apply Within.step (State.enqueueAll_within ..)); · rfl)
    | ((with_reducible apply Within.step (State.setInst_within ..)); · rfl)
    | ((with_reducible apply Within.step (State.formPass_within ..)); · rfl)
    | ((with_reducible apply Within.step (State.claimChunk_within ..)); · rfl)
    | ((with_reducible apply Within.step (State.markReady_within ..)); · rfl)
    | with_reducible apply WithinOpt.mapState
    | intro _
    | with_reducible refine Within.update ?_ rfl
    | with_reducible apply Within.foldl
    | with_reducible apply Within.foldlFst
    | with_reducible apply Within.foldlSnd
    | intro _ _
    | split

theorem State.commitTokens_within (s a1 a2 a3 a4 a5 a6) : Within 0x42ec80000c106 s (State.commitTokens s a1 a2 a3 a4 a5 a6) := by
  unfold State.commitTokens
  try dsimp only
  repeat' first
    | with_reducible apply Within.refl
    | with_reducible apply Within.ite
    | ((with_reducible apply raise_within _ _ (F.GEN_SAMPLE_CUT_MAX_block _)); · rfl)
    | ((with_reducible apply bump_within _ _ (F.GEN_SAMPLE_TOKENS_block _)); · rfl)
    | ((with_reducible apply bump_within _ _ rfl); · rfl)
    | ((with_reducible apply Within.step (State.trimKv_within ..)); · rfl)
    | ((with_reducible apply Within.step (State.endReq_within ..)); · rfl)
    | ((with_reducible apply Within.step (State.setGreq_within ..)); · rfl)
    | ((with_reducible apply Within.step (State.stopReq_within ..)); · rfl)
    | ((with_reducible apply Within.step (State.modReq_within ..)); · rfl)

theorem State.encoderDone_within (s a1 a2) : Within 0x42e480000c002 s (State.encoderDone s a1 a2) := by
  unfold State.encoderDone
  try dsimp only
  repeat' first
    | with_reducible apply Within.refl
    | with_reducible apply Within.ite
    | ((with_reducible apply Within.step (State.writeResults_within ..)); · rfl)
    | ((with_reducible apply Within.step (State.modReq_within ..)); · rfl)
    | ((with_reducible apply Within.step (State.pastStage_within ..)); · rfl)
    | ((with_reducible apply Within.step (State.endReq_within ..)); · rfl)
    | with_reducible apply WithinOpt.mapState
    | intro _
    | with_reducible refine Within.update ?_ rfl
    | split

theorem State.commitInputs_within (s a1 a2 a3) : Within 0x42e480000c002 s (State.commitInputs s a1 a2 a3) := by
  unfold State.commitInputs
  try dsimp only
  repeat' first
    | with_reducible apply Within.refl
    | with_reducible apply Within.ite
    | ((with_reducible apply Within.step (State.encoderDone_within ..)); · rfl)
    | ((with_reducible apply Within.step (State.setReq_within ..)); · rfl)
    | with_reducible refine Within.update ?_ rfl
    | split

theorem State.commitMember_within (s a1 a2 a3 a4 a5) : Within 0x42ee80080c106 s (State.commitMember s a1 a2 a3 a4 a5) := by
  unfold State.commitMember
  try dsimp only
  repeat' first
    | with_reducible apply Within.refl
    | with_reducible apply Within.ite
    | ((with_reducible apply bumpSat_within _ _ (F.GEN_KV_RECOMPUTED_block _)); · rfl)
    | ((with_reducible apply bumpSat_within _ _ rfl); · rfl)
    | ((with_reducible apply bump_within _ _ (F.GEN_ROWS_DECODE_block _)); · rfl)
    | ((with_reducible apply bump_within _ _ (F.GEN_ROWS_PREFILL_block _)); · rfl)
    | ((with_reducible apply bump_within _ _ (F.GEN_SPEC_ACCEPTED_block _)); · rfl)
    | ((with_reducible apply bump_within _ _ (F.GEN_SPEC_OFFERED_block _)); · rfl)
    | ((with_reducible apply Within.step (State.inStage_within ..)); · rfl)
    | ((with_reducible apply Within.step (State.event_within ..)); · rfl)
    | ((with_reducible apply Within.step (State.endReq_within ..)); · rfl)
    | ((with_reducible apply Within.step (State.commitTokens_within ..)); · rfl)
    | ((with_reducible apply Within.step (State.commitInputs_within ..)); · rfl)
    | ((with_reducible apply Within.step (State.setGreq_within ..)); · rfl)
    | ((with_reducible apply Within.step (State.modReq_within ..)); · rfl)
    | with_reducible refine Within.update ?_ rfl
    | split

theorem execPassCommit_within (a0 a1 a2 a3 s) : WithinRes 0x42ee80080c106 s (execPassCommit a0 a1 a2 a3 s) := by
  unfold execPassCommit
  try dsimp only
  repeat' first
    | with_reducible apply Within.refl
    | with_reducible apply Within.ite
    | with_reducible apply WithinRes.ite
    | with_reducible apply WithinRes.fault
    | with_reducible apply WithinRes.next
    | ((with_reducible apply bump_within _ _ (F.GEN_PASSES_COUNT_block _)); · rfl)
    | ((with_reducible apply Within.step (State.tick_within ..)); · rfl)
    | ((with_reducible apply Within.step (State.sweep_within ..)); · rfl)
    | ((with_reducible apply Within.step (State.commitMember_within ..)); · rfl)
    | ((with_reducible apply Within.step (State.settleSuspends_within ..)); · rfl)
    | ((with_reducible apply Within.step (State.setInst_within ..)); · rfl)
    | ((with_reducible apply Within.step (State.markReady_within ..)); · rfl)
    | with_reducible refine Within.update ?_ rfl
    | with_reducible apply Within.foldl
    | intro _ _
    | split

theorem execDetokenise_within (a0 a1 s) : WithinRes 0x84000804002 s (execDetokenise a0 a1 s) := by
  unfold execDetokenise
  try dsimp only
  repeat' first
    | with_reducible apply Within.refl
    | with_reducible apply Within.ite
    | with_reducible apply WithinRes.ite
    | with_reducible apply WithinRes.fault
    | with_reducible apply WithinRes.next
    | ((with_reducible apply Within.step (State.tick_within ..)); · rfl)
    | ((with_reducible apply Within.step (State.deliver_within ..)); · rfl)
    | with_reducible refine Within.update ?_ rfl
    | split

theorem State.publishMasks_within (s a1 a2 a3 a4 a5 a6) : Within 0xe800804100 s (State.publishMasks s a1 a2 a3 a4 a5 a6) := by
  unfold State.publishMasks
  try dsimp only
  repeat' first
    | with_reducible apply Within.refl
    | with_reducible apply Within.ite
    | ((with_reducible apply bump_within _ _ rfl); · rfl)
    | ((with_reducible apply bumpSat_within _ _ rfl); · rfl)
    | ((with_reducible apply raise_within _ _ rfl); · rfl)
    | ((with_reducible apply Within.step (State.event_within ..)); · rfl)
    | ((with_reducible apply Within.step (State.publish_within ..)); · rfl)
    | ((with_reducible apply Within.step (State.markReady_within ..)); · rfl)
    | with_reducible refine Within.update ?_ rfl

theorem execGrammarAdvance_within (a0 a1 a2 a3 s) : WithinRes 0x8e800804102 s (execGrammarAdvance a0 a1 a2 a3 s) := by
  unfold execGrammarAdvance
  try dsimp only
  repeat' first
    | with_reducible apply Within.refl
    | with_reducible apply Within.ite
    | with_reducible apply WithinRes.ite
    | with_reducible apply WithinRes.fault
    | with_reducible apply WithinRes.next
    | ((with_reducible apply Within.step (State.tick_within ..)); · rfl)
    | ((with_reducible apply Within.step (State.publishMasks_within ..)); · rfl)
    | ((with_reducible apply Within.step (State.setGreq_within ..)); · rfl)
    | with_reducible refine Within.update ?_ rfl
    | split

theorem execDraftWalk_within (a0 a1 a2 a3 a4 s) : WithinRes 0x8e800804102 s (execDraftWalk a0 a1 a2 a3 a4 s) := by
  unfold execDraftWalk
  try dsimp only
  repeat' first
    | with_reducible apply Within.refl
    | with_reducible apply Within.ite
    | with_reducible apply WithinRes.ite
    | with_reducible apply WithinRes.fault
    | with_reducible apply WithinRes.next
    | ((with_reducible apply Within.step (State.tick_within ..)); · rfl)
    | ((with_reducible apply Within.step (State.setGreq_within ..)); · rfl)
    | ((with_reducible apply Within.step (State.publishMasks_within ..)); · rfl)
    | with_reducible refine Within.update ?_ rfl
    | split

theorem State.beginStage_within (s a1 a2) : WithinRes 0x42ec80000c106 s (State.beginStage s a1 a2) := by
  unfold State.beginStage
  try dsimp only
  repeat' first
    | with_reducible apply Within.refl
    | with_reducible apply Within.ite
    | with_reducible apply WithinRes.ite
    | with_reducible apply WithinRes.fault
    | with_reducible apply WithinRes.next
    | ((with_reducible apply Within.step (State.encoderDone_within ..)); · rfl)
    | ((with_reducible apply Within.step (State.modReq_within ..)); · rfl)
    | ((with_reducible apply Within.step (State.enqueueAll_within ..)); · rfl)
    | ((with_reducible apply Within.step (State.pastStage_within ..)); · rfl)
    | ((with_reducible apply Within.step (State.markReady_within ..)); · rfl)
    | ((with_reducible apply Within.step (State.inStage_within ..)); · rfl)
    | ((with_reducible apply Within.step (State.stopReq_within ..)); · rfl)
    | ((with_reducible apply Within.step (State.enterGen_within ..)); · rfl)
    | with_reducible apply WithinOpt.mapState
    | intro _
    | with_reducible refine Within.update ?_ rfl
    | split

theorem execStageAdvance_within (a0 a1 a2 s) : WithinRes 0x42ec80080c106 s (execStageAdvance a0 a1 a2 s) := by
  unfold execStageAdvance
  try dsimp only
  repeat' first
    | with_reducible apply Within.refl
    | with_reducible apply Within.ite
    | with_reducible apply WithinRes.ite
    | with_reducible apply WithinRes.fault
    | with_reducible apply WithinRes.next
    | ((with_reducible apply Within.step (State.tick_within ..)); · rfl)
    | ((with_reducible apply Within.step (State.pastStage_within ..)); · rfl)
    | ((with_reducible apply WithinRes.step (State.beginStage_within ..)); · rfl)
    | with_reducible refine Within.update ?_ rfl
    | split

end Sys2Proof.Machine
end

