-- ==== Sys2Proof/Laws/Ship.lean ====
section
/-! SUPPORT. What each operation of Machine/Ship.lean can change (`Within`, Laws/Within.lean). -/

namespace Sys2Proof.Machine

set_option Elab.async false

theorem State.freePages_within (s a1 a2) : Within 0x80000000000 s (State.freePages s a1 a2) := by
  unfold State.freePages
  try dsimp only
  repeat' first
    | with_reducible apply Within.refl
    | ((with_reducible apply Within.step (State.setInst_within ..)); · rfl)
    | with_reducible refine Within.update ?_ rfl
    | split

theorem State.freeGrant_within (s a1 a2) : Within 0x4280000008000 s (State.freeGrant s a1 a2) := by
  unfold State.freeGrant
  try dsimp only
  repeat' first
    | with_reducible apply Within.refl
    | ((with_reducible apply Within.step (State.serveClaims_within ..)); · rfl)
    | ((with_reducible apply Within.step (State.freePages_within ..)); · rfl)
    | with_reducible refine Within.update ?_ rfl

theorem State.seenShip_within (s a1) : Within 0x80000000000 s (State.seenShip s a1) := by
  unfold State.seenShip
  try dsimp only
  repeat' first
    | with_reducible apply Within.refl
    | with_reducible apply Within.ite
    | with_reducible apply WithinOpt.mapState
    | intro _
    | with_reducible refine Within.update ?_ rfl

theorem State.putPages_within (s a1 a2 a3) : Within 0x4200000000000 s (State.putPages s a1 a2 a3) := by
  unfold State.putPages
  try dsimp only
  repeat' first
    | with_reducible apply Within.refl
    | ((with_reducible apply Within.step (State.putHall_within ..)); · rfl)
    | with_reducible refine Within.update ?_ rfl
    | with_reducible apply Within.foldl
    | intro _ _

theorem State.sendManifest_within (s a1) : Within 0x4280000008000 s (State.sendManifest s a1) := by
  unfold State.sendManifest
  try dsimp only
  repeat' first
    | with_reducible apply Within.refl
    | with_reducible apply Within.ite
    | ((with_reducible apply bump_within _ _ rfl); · rfl)
    | ((with_reducible apply Within.step (State.putPages_within ..)); · rfl)
    | ((with_reducible apply Within.step (State.setGreq_within ..)); · rfl)
    | ((with_reducible apply Within.step (State.sendShip_within ..)); · rfl)
    | with_reducible refine Within.update ?_ rfl
    | split

theorem State.pageAcked_within (s a1) : Within 0x4280000000000 s (State.pageAcked s a1) := by
  unfold State.pageAcked
  try dsimp only
  repeat' first
    | with_reducible apply Within.refl
    | with_reducible apply Within.ite
    | ((with_reducible apply Within.step (State.sendShip_within ..)); · rfl)
    | ((with_reducible apply Within.step (State.setGreq_within ..)); · rfl)
    | with_reducible refine Within.update ?_ rfl
    | split

theorem execShipClaim_within (a0 a1 s) : WithinRes 0x4280000808002 s (execShipClaim a0 a1 s) := by
  unfold execShipClaim
  try dsimp only
  repeat' first
    | with_reducible apply Within.refl
    | with_reducible apply Within.ite
    | with_reducible apply WithinRes.ite
    | with_reducible apply WithinRes.fault
    | with_reducible apply WithinRes.next
    | ((with_reducible apply Within.step (State.tick_within ..)); · rfl)
    | ((with_reducible apply Within.step (State.serveClaims_within ..)); · rfl)
    | ((with_reducible apply Within.step (State.seenShip_within ..)); · rfl)
    | with_reducible refine Within.update ?_ rfl

theorem execShipGrant_within (a0 a1 a2 s) : WithinRes 0x4280000808002 s (execShipGrant a0 a1 a2 s) := by
  unfold execShipGrant
  try dsimp only
  repeat' first
    | with_reducible apply Within.refl
    | with_reducible apply Within.ite
    | with_reducible apply WithinRes.ite
    | with_reducible apply WithinRes.fault
    | with_reducible apply WithinRes.next
    | ((with_reducible apply Within.step (State.tick_within ..)); · rfl)
    | ((with_reducible apply Within.step (State.sendManifest_within ..)); · rfl)
    | ((with_reducible apply Within.step (State.setGreq_within ..)); · rfl)
    | with_reducible refine Within.update ?_ rfl
    | split

theorem execShipChunk_within (a0 a1 s) : WithinRes 0x4280000800002 s (execShipChunk a0 a1 s) := by
  unfold execShipChunk
  try dsimp only
  repeat' first
    | with_reducible apply Within.refl
    | with_reducible apply Within.ite
    | with_reducible apply WithinRes.ite
    | with_reducible apply WithinRes.fault
    | with_reducible apply WithinRes.next
    | ((with_reducible apply Within.step (State.putPages_within ..)); · rfl)
    | ((with_reducible apply Within.step (State.tick_within ..)); · rfl)
    | ((with_reducible apply Within.step (State.setGreq_within ..)); · rfl)
    | with_reducible apply WithinOpt.mapState
    | intro _
    | with_reducible refine Within.update ?_ rfl
    | split

theorem State.admitShipped_within (s a1 a2 a3 a4 a5) : Within 0x8c800004000 s (State.admitShipped s a1 a2 a3 a4 a5) := by
  unfold State.admitShipped
  try dsimp only
  repeat' first
    | with_reducible apply Within.refl
    | with_reducible apply Within.ite
    | ((with_reducible apply Within.step (State.soil_within ..)); · rfl)
    | ((with_reducible apply Within.step (State.deliver_within ..)); · rfl)
    | ((with_reducible apply Within.step (State.store_within ..)); · rfl)
    | ((with_reducible apply Within.step (State.setGreq_within ..)); · rfl)
    | ((with_reducible apply Within.step (State.setReq_within ..)); · rfl)
    | with_reducible refine Within.update ?_ rfl

theorem execShipManifest_within (a0 a1 a2 a3 s) : WithinRes 0x428c80080c002 s (execShipManifest a0 a1 a2 a3 s) := by
  unfold execShipManifest
  try dsimp only
  repeat' first
    | with_reducible apply Within.refl
    | with_reducible apply Within.ite
    | with_reducible apply WithinRes.ite
    | with_reducible apply WithinRes.fault
    | with_reducible apply WithinRes.next
    | ((with_reducible apply bump_within _ _ rfl); · rfl)
    | ((with_reducible apply bumpSat_within _ _ rfl); · rfl)
    | ((with_reducible apply Within.step (State.serveClaims_within ..)); · rfl)
    | ((with_reducible apply Within.step (State.freeGrant_within ..)); · rfl)
    | ((with_reducible apply Within.step (State.tick_within ..)); · rfl)
    | ((with_reducible apply Within.step (State.seenShip_within ..)); · rfl)
    | ((with_reducible apply Within.step (State.admitShipped_within ..)); · rfl)
    | ((with_reducible apply Within.step (State.sendReply_within ..)); · rfl)
    | ((with_reducible apply Within.step (State.freePages_within ..)); · rfl)
    | with_reducible apply WithinOpt.mapState
    | intro _
    | with_reducible refine Within.update ?_ rfl
    | split

theorem State.dropShipped_within (s a1) : Within 0x80000000000 s (State.dropShipped s a1) := by
  unfold State.dropShipped
  try dsimp only
  repeat' first
    | with_reducible apply Within.refl
    | ((with_reducible apply Within.step (State.setGreq_within ..)); · rfl)

theorem execShipAck_within (a0 a1 s) : WithinRes 0x42e480080c002 s (execShipAck a0 a1 s) := by
  unfold execShipAck
  try dsimp only
  repeat' first
    | with_reducible apply Within.refl
    | with_reducible apply Within.ite
    | with_reducible apply WithinRes.ite
    | with_reducible apply WithinRes.fault
    | with_reducible apply WithinRes.next
    | ((with_reducible apply Within.step (State.endReq_within ..)); · rfl)
    | ((with_reducible apply Within.step (State.releaseGen_within ..)); · rfl)
    | ((with_reducible apply Within.step (State.tick_within ..)); · rfl)
    | ((with_reducible apply Within.step (State.modReq_within ..)); · rfl)
    | ((with_reducible apply Within.step (State.dropShipped_within ..)); · rfl)
    | with_reducible refine Within.update ?_ rfl
    | split

theorem execShipNack_within (a0 a1 s) : WithinRes 0x42ec80080c106 s (execShipNack a0 a1 s) := by
  unfold execShipNack
  try dsimp only
  repeat' first
    | with_reducible apply Within.refl
    | with_reducible apply Within.ite
    | with_reducible apply WithinRes.ite
    | with_reducible apply WithinRes.fault
    | with_reducible apply WithinRes.next
    | ((with_reducible apply bumpSat_within _ _ rfl); · rfl)
    | ((with_reducible apply Within.step (State.tick_within ..)); · rfl)
    | ((with_reducible apply Within.step (State.dropShipped_within ..)); · rfl)
    | ((with_reducible apply Within.step (State.stopReq_within ..)); · rfl)
    | with_reducible refine Within.update ?_ rfl
    | split

theorem execShipAbort_within (a0 a1 s) : WithinRes 0x4280000808002 s (execShipAbort a0 a1 s) := by
  unfold execShipAbort
  try dsimp only
  repeat' first
    | with_reducible apply Within.refl
    | with_reducible apply Within.ite
    | with_reducible apply WithinRes.ite
    | with_reducible apply WithinRes.fault
    | with_reducible apply WithinRes.next
    | ((with_reducible apply Within.step (State.tick_within ..)); · rfl)
    | ((with_reducible apply Within.step (State.freeGrant_within ..)); · rfl)

theorem execOrphanMsExpiry_within (a0 a1 a2 s) : WithinRes 0x4282000808002 s (execOrphanMsExpiry a0 a1 a2 s) := by
  unfold execOrphanMsExpiry
  try dsimp only
  repeat' first
    | with_reducible apply Within.refl
    | with_reducible apply Within.ite
    | with_reducible apply WithinRes.ite
    | with_reducible apply WithinRes.fault
    | with_reducible apply WithinRes.next
    | ((with_reducible apply bumpSat_within _ _ rfl); · rfl)
    | ((with_reducible apply Within.step (State.tick_within ..)); · rfl)
    | ((with_reducible apply Within.step (State.freeGrant_within ..)); · rfl)
    | ((with_reducible apply Within.step (State.event_within ..)); · rfl)
    | with_reducible refine Within.update ?_ rfl
    | split

end Sys2Proof.Machine
end

