-- ==== Sys2Proof/Laws/Keator.lean ====
section
/-! SUPPORT. What each operation of Machine/Keator.lean can change (`Within`, Laws/Within.lean). -/

namespace Sys2Proof.Machine

set_option Elab.async false

theorem execLoad_within (a0 a1 s) : WithinRes 0x42ee80081c106 s (execLoad a0 a1 s) := by
  unfold execLoad
  try dsimp only
  repeat' first
    | with_reducible apply Within.refl
    | with_reducible apply Within.ite
    | with_reducible apply WithinRes.ite
    | with_reducible apply WithinRes.fault
    | with_reducible apply WithinRes.next
    | ((with_reducible apply Within.step (State.tick_within ..)); · rfl)
    | ((with_reducible apply Within.step (State.inbound_within ..)); · rfl)
    | ((with_reducible apply Within.step (State.markReady_within ..)); · rfl)

theorem execStore_within (a0 a1 a2 s) : WithinRes 0x42ee80081c106 s (execStore a0 a1 a2 s) := by
  unfold execStore
  try dsimp only
  repeat' first
    | with_reducible apply Within.refl
    | with_reducible apply Within.ite
    | with_reducible apply WithinRes.ite
    | with_reducible apply WithinRes.fault
    | with_reducible apply WithinRes.next
    | ((with_reducible apply Within.step (State.tick_within ..)); · rfl)
    | ((with_reducible apply Within.step (State.inbound_within ..)); · rfl)
    | ((with_reducible apply Within.step (State.markReady_within ..)); · rfl)

theorem execPut_within (a0 a1 a2 s) : WithinRes 0x42ee80081c106 s (execPut a0 a1 a2 s) := by
  unfold execPut
  try dsimp only
  repeat' first
    | with_reducible apply Within.refl
    | with_reducible apply Within.ite
    | with_reducible apply WithinRes.ite
    | with_reducible apply WithinRes.fault
    | with_reducible apply WithinRes.next
    | ((with_reducible apply Within.step (State.tick_within ..)); · rfl)
    | ((with_reducible apply Within.step (State.inbound_within ..)); · rfl)
    | ((with_reducible apply Within.step (State.markReady_within ..)); · rfl)

theorem execFadd64_within (a0 a1 a2 s) : WithinRes 0x42ee80081c106 s (execFadd64 a0 a1 a2 s) := by
  unfold execFadd64
  try dsimp only
  repeat' first
    | with_reducible apply Within.refl
    | with_reducible apply Within.ite
    | with_reducible apply WithinRes.ite
    | with_reducible apply WithinRes.fault
    | with_reducible apply WithinRes.next
    | ((with_reducible apply Within.step (State.tick_within ..)); · rfl)
    | ((with_reducible apply Within.step (State.markReady_within ..)); · rfl)
    | ((with_reducible apply Within.step (State.inbound_within ..)); · rfl)

theorem execSwap64_within (a0 a1 a2 s) : WithinRes 0x42ee80081c106 s (execSwap64 a0 a1 a2 s) := by
  unfold execSwap64
  try dsimp only
  repeat' first
    | with_reducible apply Within.refl
    | with_reducible apply Within.ite
    | with_reducible apply WithinRes.ite
    | with_reducible apply WithinRes.fault
    | with_reducible apply WithinRes.next
    | ((with_reducible apply Within.step (State.tick_within ..)); · rfl)
    | ((with_reducible apply Within.step (State.markReady_within ..)); · rfl)
    | ((with_reducible apply Within.step (State.inbound_within ..)); · rfl)

theorem execCas64_within (a0 a1 a2 a3 s) : WithinRes 0x42ee80081c106 s (execCas64 a0 a1 a2 a3 s) := by
  unfold execCas64
  try dsimp only
  repeat' first
    | with_reducible apply Within.refl
    | with_reducible apply Within.ite
    | with_reducible apply WithinRes.ite
    | with_reducible apply WithinRes.fault
    | with_reducible apply WithinRes.next
    | ((with_reducible apply Within.step (State.tick_within ..)); · rfl)
    | ((with_reducible apply Within.step (State.markReady_within ..)); · rfl)
    | ((with_reducible apply Within.step (State.inbound_within ..)); · rfl)

theorem execKtrAck_within (a0 a1 a2 a3 a4 a5 a6 s) : WithinRes 0x42ec80080c106 s (execKtrAck a0 a1 a2 a3 a4 a5 a6 s) := by
  unfold execKtrAck
  try dsimp only
  repeat' first
    | with_reducible apply Within.refl
    | with_reducible apply Within.ite
    | with_reducible apply WithinRes.ite
    | with_reducible apply WithinRes.fault
    | with_reducible apply WithinRes.next
    | ((with_reducible apply Within.step (State.tick_within ..)); · rfl)
    | ((with_reducible apply Within.step (State.setFlow_within ..)); · rfl)
    | ((with_reducible apply Within.step (State.hear_within ..)); · rfl)
    | with_reducible refine Within.update ?_ rfl
    | split

theorem execKtrResp_within (a0 a1 a2 s) : WithinRes 0x42ed80080c106 s (execKtrResp a0 a1 a2 s) := by
  unfold execKtrResp
  try dsimp only
  repeat' first
    | with_reducible apply Within.refl
    | with_reducible apply Within.ite
    | with_reducible apply WithinRes.ite
    | with_reducible apply WithinRes.fault
    | with_reducible apply WithinRes.next
    | ((with_reducible apply Within.step (State.hear_within ..)); · rfl)
    | ((with_reducible apply Within.step (State.tick_within ..)); · rfl)
    | ((with_reducible apply Within.step (State.ackExt_within ..)); · rfl)
    | ((with_reducible apply Within.step (State.markReady_within ..)); · rfl)
    | ((with_reducible apply Within.step (State.pageAcked_within ..)); · rfl)
    | with_reducible apply WithinOpt.mapState
    | intro _
    | with_reducible refine Within.update ?_ rfl
    | split

theorem State.wbRefused_within (s a1) : Within 0xa000800000 s (State.wbRefused s a1) := by
  unfold State.wbRefused
  try dsimp only
  repeat' first
    | with_reducible apply Within.refl
    | with_reducible apply Within.ite
    | ((with_reducible apply Within.step (State.setPte_within ..)); · rfl)
    | ((with_reducible apply Within.step (State.event_within ..)); · rfl)

theorem State.refusedOp_within (s a1) : Within 0x42ef80080c106 s (State.refusedOp s a1) := by
  unfold State.refusedOp
  try dsimp only
  repeat' first
    | with_reducible apply Within.refl
    | with_reducible apply Within.ite
    | ((with_reducible refine stopCore_within _ _ _ ?_ rfl ?_); · exact fun i => i.cores _ _ (by assumption))
    | ((with_reducible apply Within.step (State.stopReq_within ..)); · rfl)
    | ((with_reducible apply Within.step (State.wbRefused_within ..)); · rfl)
    | ((with_reducible apply Within.step (State.dropShipped_within ..)); · rfl)
    | with_reducible apply WithinOpt.mapState
    | intro _
    | with_reducible refine Within.update ?_ rfl
    | split

theorem execKtrNack_within (a0 a1 a2 s) : WithinRes 0x42ef80080c106 s (execKtrNack a0 a1 a2 s) := by
  unfold execKtrNack
  try dsimp only
  repeat' first
    | with_reducible apply Within.refl
    | with_reducible apply Within.ite
    | with_reducible apply WithinRes.ite
    | with_reducible apply WithinRes.fault
    | with_reducible apply WithinRes.next
    | ((with_reducible apply Within.step (State.poison_within ..)); · rfl)
    | ((with_reducible apply Within.step (State.event_within ..)); · rfl)
    | ((with_reducible apply Within.step (State.setPte_within ..)); · rfl)
    | ((with_reducible apply Within.step (State.refusedOp_within ..)); · rfl)
    | ((with_reducible apply Within.step (State.tick_within ..)); · rfl)
    | ((with_reducible apply Within.step (State.wbRefused_within ..)); · rfl)
    | ((with_reducible apply Within.step (State.markReady_within ..)); · rfl)
    | with_reducible refine Within.update ?_ rfl
    | split

theorem State.resendDgram_within (s a1 a2) : Within 0x200000010000 s (State.resendDgram s a1 a2) := by
  unfold State.resendDgram
  try dsimp only
  repeat' first
    | with_reducible apply Within.refl
    | with_reducible apply Within.ite
    | ((with_reducible apply bumpSat_within _ _ (F.KTR_LINK_ERR_RETX_block _)); · rfl)
    | ((with_reducible apply Within.step (State.setFlow_within ..)); · rfl)

theorem execRtoExpiry_within (a0 a1 a2 a3 s) : WithinRes 0x200000810002 s (execRtoExpiry a0 a1 a2 a3 s) := by
  unfold execRtoExpiry
  try dsimp only
  repeat' first
    | with_reducible apply Within.refl
    | with_reducible apply Within.ite
    | with_reducible apply WithinRes.ite
    | with_reducible apply WithinRes.fault
    | with_reducible apply WithinRes.next
    | ((with_reducible apply Within.step (State.tick_within ..)); · rfl)
    | ((with_reducible apply Within.step (State.resendDgram_within ..)); · rfl)
    | with_reducible refine Within.update ?_ rfl
    | split

theorem execUnreachTimeout_within (a0 a1 s) : WithinRes 0x42ee80081c106 s (execUnreachTimeout a0 a1 s) := by
  unfold execUnreachTimeout
  try dsimp only
  repeat' first
    | with_reducible apply Within.refl
    | with_reducible apply Within.ite
    | with_reducible apply WithinRes.ite
    | with_reducible apply WithinRes.fault
    | with_reducible apply WithinRes.next
    | ((with_reducible apply bumpSat_within _ _ rfl); · rfl)
    | ((with_reducible apply put_within _ _ rfl); · rfl)
    | ((with_reducible apply Within.step (State.event_within ..)); · rfl)
    | ((with_reducible apply Within.step (State.tick_within ..)); · rfl)
    | ((with_reducible apply Within.step (State.stopReq_within ..)); · rfl)
    | ((with_reducible apply Within.step (State.markReady_within ..)); · rfl)
    | ((with_reducible apply Within.step (State.dropShipped_within ..)); · rfl)
    | with_reducible refine Within.update ?_ rfl
    | with_reducible apply Within.foldl
    | intro _ _
    | split

theorem State.dropLink_within (s a1 a2) : Within 0x200200050000 s (State.dropLink s a1 a2) := by
  unfold State.dropLink
  try dsimp only
  repeat' first
    | with_reducible apply Within.refl
    | ((with_reducible apply put_within _ _ (F.KTR_PORT_STAT_LINK_block _)); · rfl)
    | ((with_reducible apply put_within _ _ (F.KTR_PORT_STAT_MACSEC_UP_block _)); · rfl)
    | ((with_reducible apply Within.step (State.settleIdle_within ..)); · rfl)
    | ((with_reducible apply Within.step (State.resendDgram_within ..)); · rfl)
    | with_reducible refine Within.update ?_ rfl
    | with_reducible apply Within.foldl
    | intro _ _

theorem State.resendOps_within (s a1) : Within 0x200000000000 s (State.resendOps s a1) := by
  unfold State.resendOps
  try dsimp only
  repeat' first
    | with_reducible apply Within.refl
    | ((with_reducible apply Within.step (State.sendDgram_within ..)); · rfl)
    | with_reducible refine Within.update ?_ rfl
    | with_reducible apply Within.foldl
    | intro _ _

theorem State.clearPort_within (s a1) : Within 0x200000000000 s (State.clearPort s a1) := by
  unfold State.clearPort
  try dsimp only
  repeat' first
    | with_reducible apply Within.refl
    | ((with_reducible apply Within.step (State.setPort_within ..)); · rfl)

theorem State.resetPort_within (s a1 a2) : Within 0x200200050000 s (State.resetPort s a1 a2) := by
  unfold State.resetPort
  try dsimp only
  repeat' first
    | with_reducible apply Within.refl
    | ((with_reducible apply Within.step (State.resendOps_within ..)); · rfl)
    | ((with_reducible apply Within.step (State.clearPort_within ..)); · rfl)
    | ((with_reducible apply Within.step (State.dropLink_within ..)); · rfl)

theorem execLinkDrop_within (a0 a1 a2 s) : WithinRes 0x202200850002 s (execLinkDrop a0 a1 a2 s) := by
  unfold execLinkDrop
  try dsimp only
  repeat' first
    | with_reducible apply Within.refl
    | with_reducible apply Within.ite
    | with_reducible apply WithinRes.ite
    | with_reducible apply WithinRes.fault
    | with_reducible apply WithinRes.next
    | ((with_reducible apply Within.step (State.tick_within ..)); · rfl)
    | ((with_reducible apply Within.step (State.dropLink_within ..)); · rfl)
    | ((with_reducible apply Within.step (State.event_within ..)); · rfl)

theorem State.badWin_within (s a1 a2 a3) : Within 0x2800800000 s (State.badWin s a1 a2 a3) := by
  unfold State.badWin
  try dsimp only
  repeat' first
    | with_reducible apply Within.refl
    | with_reducible apply Within.ite
    | ((with_reducible apply Within.step (State.event_within ..)); · rfl)
    | ((with_reducible apply Within.step (State.store_within ..)); · rfl)

theorem execKtrWinSync_within (a0 s) : WithinRes 0x202800800000 s (execKtrWinSync a0 s) := by
  unfold execKtrWinSync
  try dsimp only
  repeat' first
    | with_reducible apply Within.refl
    | with_reducible apply Within.ite
    | with_reducible apply WithinRes.ite
    | with_reducible apply WithinRes.fault
    | with_reducible apply WithinRes.next
    | ((with_reducible apply Within.step (State.badWin_within ..)); · rfl)
    | with_reducible refine Within.update ?_ rfl
    | split

end Sys2Proof.Machine
end

