-- ==== Sys2Proof/Laws/PowerOps.lean ====
section
/-! SUPPORT. What each operation of Machine/PowerOps.lean can change (`Within`, Laws/Within.lean). -/

namespace Sys2Proof.Machine

set_option Elab.async false

theorem State.measured_within (s a1) : Within 0x1000000080000 s (State.measured s a1) := by
  unfold State.measured
  try dsimp only
  repeat' first
    | with_reducible apply Within.refl
    | ((with_reducible apply put_within _ _ rfl); · rfl)
    | with_reducible refine Within.update ?_ rfl

theorem State.account__within (s a1) : Within 0x1000000880002 s (State.account_ s a1) := by
  unfold State.account_
  try dsimp only
  repeat' first
    | with_reducible apply Within.refl
    | with_reducible apply Within.ite
    | ((with_reducible apply put_within _ _ rfl); · rfl)
    | ((with_reducible apply bump_within _ _ rfl); · rfl)
    | ((with_reducible apply Within.step (State.tick_within ..)); · rfl)
    | with_reducible refine Within.update ?_ rfl

theorem State.power_within (s a1 a2) : Within 0x1000000880002 s (State.power s a1 a2) := by
  unfold State.power
  try dsimp only
  repeat' first
    | with_reducible apply Within.refl
    | ((with_reducible apply Within.step (State.measured_within ..)); · rfl)
    | ((with_reducible apply Within.step (State.account__within ..)); · rfl)

theorem State.ramp_within (s a1) : Within 0x1000000080000 s (State.ramp s a1) := by
  unfold State.ramp
  try dsimp only
  repeat' first
    | with_reducible apply Within.refl
    | ((with_reducible apply put_within _ _ rfl); · rfl)
    | with_reducible refine Within.update ?_ rfl

theorem State.leaveSurge_within (s a1) : Within 0x1002000880000 s (State.leaveSurge s a1) := by
  unfold State.leaveSurge
  try dsimp only
  repeat' first
    | with_reducible apply Within.refl
    | with_reducible apply Within.ite
    | ((with_reducible apply bumpSat_within _ _ rfl); · rfl)
    | ((with_reducible apply put_within _ _ rfl); · rfl)
    | ((with_reducible apply Within.step (State.ramp_within ..)); · rfl)
    | ((with_reducible apply Within.step (State.event_within ..)); · rfl)

theorem State.showDuty_within (s) : Within 0x80000 s (State.showDuty s) := by
  unfold State.showDuty
  try dsimp only
  repeat' first
    | with_reducible apply Within.refl
    | ((with_reducible apply put_within _ _ rfl); · rfl)

theorem State.domains_within (s a1 a2) : Within 0x4000080004 s (State.domains s a1 a2) := by
  unfold State.domains
  try dsimp only
  repeat' first
    | with_reducible apply Within.refl
    | with_reducible apply Within.ite
    | ((with_reducible apply put_within _ _ rfl); · rfl)
    | ((with_reducible apply Within.step (State.settleCore_within ..)); · rfl)
    | with_reducible refine Within.update ?_ rfl
    | with_reducible apply Within.foldl
    | intro _ _

theorem State.killFacets_within (s a1) : Within 0x42edaffffffff s (State.killFacets s a1) := by
  unfold State.killFacets
  try dsimp only
  repeat' first
    | with_reducible apply Within.refl
    | ((with_reducible apply Within.step (State.killCores_within ..)); · rfl)

theorem State.clearFields_within (s a1) : Within 0x10000ffffffff s (State.clearFields s a1) := by
  refine Within.foldl _ (fun s f => ?_) .refl
  dsimp only
  split
  · exact Within.update (put_within f _ rfl (every_block_of (m := 0x10000ffffffff) rfl _) .refl) rfl
  · exact .refl

theorem State.restoreFields_within (s a1) : Within 0x10000ffffffff s (State.restoreFields s a1) := by
  refine Within.foldl _ (fun s f => ?_) .refl
  dsimp only
  split
  · exact Within.update (put_within f _ rfl (every_block_of (m := 0x10000ffffffff) rfl _) .refl) rfl
  · exact .refl

theorem State.flushJournal_within (s) : Within 0x46fea0085d502 s (State.flushJournal s) := by
  unfold State.flushJournal
  try dsimp only
  repeat' first
    | with_reducible apply Within.refl
    | with_reducible apply Within.ite
    | ((with_reducible apply put_within _ _ rfl); · rfl)
    | ((with_reducible apply Within.step (State.settleInbound_within ..)); · rfl)
    | ((with_reducible apply Within.step (State.settleIdx_within ..)); · rfl)
    | ((with_reducible apply Within.step (State.ackWork_within ..)); · rfl)
    | ((with_reducible apply Within.step (State.settlePubs_within ..)); · rfl)
    | ((with_reducible apply Within.step (State.writeGroup_within ..)); · rfl)
    | ((with_reducible apply Within.step (State.sweepTables_within ..)); · rfl)
    | with_reducible apply WithinOpt.mapState
    | intro _
    | with_reducible refine Within.update ?_ rfl
    | with_reducible apply Within.foldl

theorem State.mirrorAll_within (s) : Within 0x2000000000 s (State.mirrorAll s) :=
  Within.recorder (fun i => by rw [List.length_map]; exact i.store) (fun i => i.hold) (fun i => by rw [List.length_map]; exact i.store) rfl .refl

theorem State.loseWork_within (s) : Within 0x6fd200000000 s (State.loseWork s) :=
  Within.update (Within.cores_ (l := []) (t := s) (fun _ _ _ h => nomatch h) rfl .refl) rfl

theorem State.unitsOff_within (s) : Within 0x10200 s (State.unitsOff s) := by
  unfold State.unitsOff
  try dsimp only
  repeat' first
    | with_reducible apply Within.refl
    | with_reducible apply Within.ite
    | ((with_reducible apply put_within _ _ (F.HBM_STAT_STATE_block _)); · rfl)
    | ((with_reducible apply put_within _ _ (F.KTR_PORT_STAT_LINK_block _)); · rfl)
    | with_reducible refine Within.update ?_ rfl
    | with_reducible apply Within.foldl
    | intro _ _

theorem State.stepSeven_within (s) : Within 0x16ff200890204 s (State.stepSeven s) := by
  unfold State.stepSeven
  try dsimp only
  repeat' first
    | with_reducible apply Within.refl
    | ((with_reducible apply bumpSat_within _ _ rfl); · rfl)
    | ((with_reducible apply put_within _ _ rfl); · rfl)
    | ((with_reducible apply Within.step (State.unitsOff_within ..)); · rfl)
    | ((with_reducible apply Within.step (State.event_within ..)); · rfl)
    | ((with_reducible apply Within.step (State.domains_within ..)); · rfl)
    | ((with_reducible apply Within.step (State.loseWork_within ..)); · rfl)
    | with_reducible apply WithinOpt.mapState
    | intro _
    | with_reducible refine Within.update ?_ rfl

theorem State.powerLost_within (s) : Within 0x16ff200090204 s (State.powerLost s) := by
  unfold State.powerLost
  dsimp only
  generalize hd : List.map _ _ = l
  have h := (State.unitsOff_within _).step (m := 0x16ff200090204) rfl
    ((State.domains_within (s.loseWork) l false).step rfl ((State.loseWork_within s).mono rfl))
  generalize (s.loseWork.domains l false).unitsOff = t at h ⊢
  have hr := Within.recorder (r := { t.rec_ with store := t.rec_.mirror, hold := [] }) (fun i => i.mirror) (fun _ => Nat.zero_le _)
    (fun i => i.mirror) rfl h
  exact Within.update hr rfl

theorem State.enterStep_within (s a1) : Within 0x52efaffffffff s (State.enterStep s a1) := by
  unfold State.enterStep
  try dsimp only
  repeat' first
    | with_reducible apply Within.refl
    | ((with_reducible apply put_within _ _ (F.EDG_ISL_STAT_IN_RESET_block _)); · rfl)
    | ((with_reducible apply bumpSat_within _ _ rfl); · rfl)
    | ((with_reducible apply put_within _ _ rfl); · rfl)
    | ((with_reducible apply Within.step (State.clearFields_within ..)); · rfl)
    | ((with_reducible apply Within.step (State.leaveSurge_within ..)); · rfl)
    | ((with_reducible apply Within.step (State.killFacets_within ..)); · rfl)
    | ((with_reducible apply Within.step (State.event_within ..)); · rfl)
    | ((with_reducible apply Within.step (State.domains_within ..)); · rfl)
    | ((with_reducible apply Within.step (State.resetPort_within ..)); · rfl)
    | with_reducible apply WithinOpt.mapState
    | intro _
    | with_reducible refine Within.update ?_ rfl
    | with_reducible apply Within.foldl
    | intro _ _
    | split

theorem State.leaveStep_within (s a1) : Within 0x56feaffffffff s (State.leaveStep s a1) := by
  unfold State.leaveStep
  try dsimp only
  repeat' first
    | with_reducible apply Within.refl
    | with_reducible apply Within.ite
    | ((with_reducible apply put_within _ _ (F.EDG_ISL_STAT_IN_RESET_block _)); · rfl)
    | ((with_reducible apply put_within _ _ (F.KTR_PORT_STAT_LINK_block _)); · rfl)
    | ((with_reducible apply put_within _ _ rfl); · rfl)
    | ((with_reducible apply Within.step (State.event_within ..)); · rfl)
    | ((with_reducible apply Within.step (State.restoreFields_within ..)); · rfl)
    | ((with_reducible apply Within.step (State.flushJournal_within ..)); · rfl)
    | ((with_reducible apply Within.step (State.domains_within ..)); · rfl)
    | with_reducible apply WithinOpt.mapState
    | intro _
    | with_reducible refine Within.update ?_ rfl
    | with_reducible apply Within.foldl
    | intro _ _
    | split

end Sys2Proof.Machine
end

