-- ==== Sys2Proof/Laws/RasOps.lean ====
section
/-! SUPPORT. What each operation of Machine/RasOps.lean can change (`Within`, Laws/Within.lean). -/

namespace Sys2Proof.Machine

set_option Elab.async false

theorem facetUnits_block (f : Nat) : blockOf (facetUnits f).id = 20 := by
  have h : f % 8 < 8 := Nat.mod_lt _ (by decide)
  unfold blockOf facetUnits
  interval_cases f % 8 <;> rfl

theorem State.retireUnit_within (s a1 a2) : Within 0x102000900000 s (State.retireUnit s a1 a2) := by
  unfold State.retireUnit
  dsimp only
  split
  · exact .refl
  · exact (State.event_within ..).step rfl (bumpSat_within _ _ (facetUnits_block _) rfl (Within.update .refl rfl))

theorem State.facetUe_within (s a1 a2) : Within 0x43efaffffffff s (State.facetUe s a1 a2) := by
  unfold State.facetUe
  try dsimp only
  repeat' first
    | with_reducible apply Within.refl
    | ((with_reducible apply Within.step (State.errors_within ..)); · rfl)
    | ((with_reducible apply Within.step (State.retireUnit_within ..)); · rfl)
    | ((with_reducible apply Within.step (State.killCores_within ..)); · rfl)

theorem State.failLink_within (s a1) : Within 0x42efaffffffff s (State.failLink s a1) := by
  unfold State.failLink
  try dsimp only
  repeat' first
    | with_reducible apply Within.refl
    | with_reducible apply Within.ite
    | ((with_reducible apply put_within _ _ (F.RAS_D2D_STATE_block _)); · rfl)
    | ((with_reducible apply Within.step (State.failStack_within ..)); · rfl)
    | ((with_reducible apply Within.step (State.killFacets_within ..)); · rfl)
    | ((with_reducible apply Within.step (State.event_within ..)); · rfl)
    | ((with_reducible apply Within.step (State.domains_within ..)); · rfl)
    | with_reducible apply WithinOpt.mapState
    | intro _
    | with_reducible refine Within.update ?_ rfl
    | with_reducible apply Within.foldl

theorem State.nextLine_within (s) : Within 0x100000100000 s (State.nextLine s) := by
  unfold State.nextLine
  try dsimp only
  repeat' first
    | with_reducible apply Within.refl
    | with_reducible apply Within.ite
    | ((with_reducible apply bump_within _ _ rfl); · rfl)
    | ((with_reducible apply put_within _ _ rfl); · rfl)
    | with_reducible refine Within.update ?_ rfl

theorem State.nextWord_within (s) : Within 0x100000100000 s (State.nextWord s) := by
  unfold State.nextWord
  try dsimp only
  repeat' first
    | with_reducible apply Within.refl
    | with_reducible apply Within.ite
    | ((with_reducible apply bump_within _ _ rfl); · rfl)
    | with_reducible refine Within.update ?_ rfl

theorem State.corrected_within (s a1 a2) : Within 0x102000900200 s (State.corrected s a1 a2) := by
  unfold State.corrected
  try dsimp only
  repeat' first
    | with_reducible apply Within.refl
    | with_reducible apply Within.ite
    | ((with_reducible apply bumpSat_within _ _ (F.HBM_CE_COUNT_block _)); · rfl)
    | ((with_reducible apply Within.step (State.errors_within ..)); · rfl)

end Sys2Proof.Machine
end

