-- ==== Sys2Proof/Laws/Edges.lean ====
section
/-! SUPPORT. What each operation of Machine/Edges.lean can change (`Within`, Laws/Within.lean). -/

namespace Sys2Proof.Machine

set_option Elab.async false

theorem execRefOscFault_within (a0 s) : WithinRes 0x2000840002 s (execRefOscFault a0 s) := by
  unfold execRefOscFault
  try dsimp only
  repeat' first
    | with_reducible apply Within.refl
    | with_reducible apply Within.ite
    | with_reducible apply WithinRes.ite
    | with_reducible apply WithinRes.fault
    | with_reducible apply WithinRes.next
    | ((with_reducible apply bumpSat_within _ _ rfl); · rfl)
    | ((with_reducible apply put_within _ _ rfl); · rfl)
    | ((with_reducible apply Within.step (State.tick_within ..)); · rfl)
    | ((with_reducible apply Within.step (State.event_within ..)); · rfl)

theorem execRefOscReturn_within (a0 s) : WithinRes 0x840002 s (execRefOscReturn a0 s) := by
  unfold execRefOscReturn
  try dsimp only
  repeat' first
    | with_reducible apply Within.refl
    | with_reducible apply Within.ite
    | with_reducible apply WithinRes.ite
    | with_reducible apply WithinRes.fault
    | with_reducible apply WithinRes.next
    | ((with_reducible apply put_within _ _ rfl); · rfl)
    | ((with_reducible apply Within.step (State.tick_within ..)); · rfl)

theorem execIslandClockStop_within (a0 a1 a2 s) : WithinRes 0x200850202 s (execIslandClockStop a0 a1 a2 s) := by
  unfold execIslandClockStop
  try dsimp only
  repeat' first
    | with_reducible apply Within.refl
    | with_reducible apply Within.ite
    | with_reducible apply WithinRes.ite
    | with_reducible apply WithinRes.fault
    | with_reducible apply WithinRes.next
    | ((with_reducible apply put_within _ _ (F.EDG_ISL_STAT_CLK_RUN_block _)); · rfl)
    | ((with_reducible apply put_within _ _ (F.EDG_ISL_STAT_STATE_block _)); · rfl)
    | ((with_reducible apply Within.step (State.tick_within ..)); · rfl)
    | ((with_reducible apply Within.step (State.settleIdle_within ..)); · rfl)
    | ((with_reducible apply Within.step (State.refreshStack_within ..)); · rfl)

theorem execIslandWake_within (a0 a1 a2 s) : WithinRes 0x840202 s (execIslandWake a0 a1 a2 s) := by
  unfold execIslandWake
  try dsimp only
  repeat' first
    | with_reducible apply Within.refl
    | with_reducible apply Within.ite
    | with_reducible apply WithinRes.ite
    | with_reducible apply WithinRes.fault
    | with_reducible apply WithinRes.next
    | ((with_reducible apply Within.step (State.tick_within ..)); · rfl)
    | ((with_reducible apply Within.step (State.wakeAfter_within ..)); · rfl)

theorem State.resetChan_within (s a1) : Within 0x400200050400 s (State.resetChan s a1) := by
  unfold State.resetChan
  try dsimp only
  repeat' first
    | with_reducible apply Within.refl
    | ((with_reducible apply put_within _ _ (F.GEO_CH_STAT_STATE_block _)); · rfl)
    | ((with_reducible apply Within.step (State.reissue_within ..)); · rfl)
    | ((with_reducible apply Within.step (State.setChan_within ..)); · rfl)

theorem State.chanBack_within (s a1) : Within 0x400200050400 s (State.chanBack s a1) := by
  unfold State.chanBack
  try dsimp only
  repeat' first
    | with_reducible apply Within.refl
    | with_reducible apply Within.ite
    | ((with_reducible apply Within.step (State.setChan_within ..)); · rfl)

theorem execIslandReset_within (a0 a1 a2 a3 s) : WithinRes 0x46efaffffffff s (execIslandReset a0 a1 a2 a3 s) := by
  unfold execIslandReset
  try dsimp only
  repeat' first
    | with_reducible apply Within.refl
    | with_reducible apply Within.ite
    | with_reducible apply WithinRes.ite
    | with_reducible apply WithinRes.fault
    | with_reducible apply WithinRes.next
    | ((with_reducible apply put_within _ _ (F.EDG_ISL_STAT_IN_RESET_block _)); · rfl)
    | ((with_reducible apply put_within _ _ rfl); · rfl)
    | ((with_reducible apply Within.step (State.tick_within ..)); · rfl)
    | ((with_reducible apply Within.step (State.killCores_within ..)); · rfl)
    | ((with_reducible apply Within.step (State.cfgDropped_within ..)); · rfl)
    | ((with_reducible apply Within.step (State.markReady_within ..)); · rfl)
    | ((with_reducible apply Within.step (State.event_within ..)); · rfl)
    | ((with_reducible apply Within.step (State.resetChan_within ..)); · rfl)
    | ((with_reducible apply Within.step (State.resetPort_within ..)); · rfl)

theorem execIslandResetExit_within (a0 a1 s) : WithinRes 0x400200850602 s (execIslandResetExit a0 a1 s) := by
  unfold execIslandResetExit
  try dsimp only
  repeat' first
    | with_reducible apply Within.refl
    | with_reducible apply Within.ite
    | with_reducible apply WithinRes.ite
    | with_reducible apply WithinRes.fault
    | with_reducible apply WithinRes.next
    | ((with_reducible apply put_within _ _ (F.EDG_ISL_STAT_CLK_RUN_block _)); · rfl)
    | ((with_reducible apply put_within _ _ (F.EDG_ISL_STAT_IN_RESET_block _)); · rfl)
    | ((with_reducible apply put_within _ _ (F.EDG_ISL_STAT_STATE_block _)); · rfl)
    | ((with_reducible apply put_within _ _ (F.KTR_PORT_STAT_LINK_block _)); · rfl)
    | ((with_reducible apply Within.step (State.tick_within ..)); · rfl)
    | ((with_reducible apply Within.step (State.chanBack_within ..)); · rfl)
    | ((with_reducible apply Within.step (State.refreshStack_within ..)); · rfl)

theorem execLinkUp_within (a0 a1 s) : WithinRes 0x810002 s (execLinkUp a0 a1 s) := by
  unfold execLinkUp
  try dsimp only
  repeat' first
    | with_reducible apply Within.refl
    | with_reducible apply Within.ite
    | with_reducible apply WithinRes.ite
    | with_reducible apply WithinRes.fault
    | with_reducible apply WithinRes.next
    | ((with_reducible apply put_within _ _ (F.KTR_PORT_STAT_LINK_block _)); · rfl)
    | ((with_reducible apply Within.step (State.tick_within ..)); · rfl)

end Sys2Proof.Machine
end

