-- ==== Sys2Proof/Laws/External.lean ====
section
/-! SUPPORT. What each operation of Machine/External.lean can change (`Within`, Laws/Within.lean). -/

namespace Sys2Proof.Machine

set_option Elab.async false

theorem State.kernelPut_within (s a1 a2 a3 a4) (hk : s.Inv → a2.Canonical) : Within 0x4201000000078 s (State.kernelPut s a1 a2 a3 a4) := by
  unfold State.kernelPut
  split
  · exact stopCore_within _ _ _ hk rfl .refl
  · split
    · exact stopCore_within _ _ _ hk rfl .refl
    · split
      · exact stopCore_within _ _ _ hk rfl .refl
      · exact State.land_within _ _ _ (KRes.Counts.ok UpdsIn.nil (fun h => ⟨h.sregs, h.vregs, h.masks, h.acc, h.store⟩)) hk rfl
          ((State.putHall_within ..).mono rfl)

theorem State.kernelProgram_within (s a1 a2 a3 a4) (hk : s.Inv → a2.Canonical) : Within 0x603200850478 s (State.kernelProgram s a1 a2 a3 a4) := by
  unfold State.kernelProgram
  split
  · exact stopCore_within _ _ _ hk rfl .refl
  · split
    · exact stopCore_within _ _ _ hk rfl .refl
    · split
      · exact stopCore_within _ _ _ hk rfl .refl
      · exact State.land_within _ _ _ (KRes.Counts.ok UpdsIn.nil (fun h => ⟨h.sregs, h.vregs, h.masks, h.acc, h.store⟩)) hk rfl
          ((State.geoPlace_within ..).step rfl (Within.update .refl rfl))

theorem State.doPut_within (s a1 a2 a3) (hk : s.Inv → a2.Canonical) : Within 0x4201000000078 s (State.doPut s a1 a2 a3) := by
  unfold State.doPut
  split
  · exact stopCore_within _ _ _ hk rfl .refl
  · exact (State.kernelPut_within _ _ _ _ _ hk).mono rfl

theorem State.doProgram_within (s a1 a2 a3) (hk : s.Inv → a2.Canonical) : Within 0x603200850478 s (State.doProgram s a1 a2 a3) := by
  unfold State.doProgram
  split
  · exact stopCore_within _ _ _ hk rfl .refl
  · exact .ite ((State.kernelProgram_within _ _ _ _ _ hk).mono rfl) (stopCore_within _ _ _ hk rfl .refl)

theorem State.external_within (s a1 a2 a3) : WithinRes 0x4603200850478 s (State.external s a1 a2 a3) := by
  unfold State.external
  split
  · exact .fault
  · rename_i k hc
    have hk : s.Inv → k.Canonical := fun i => i.cores _ _ hc
    split
    · split
      · exact .next (stopCore_within _ _ _ hk rfl .refl)
      · exact .next (.ite ((State.doPut_within _ _ _ _ hk).mono rfl) (.ite ((State.doProgram_within _ _ _ _ hk).mono rfl) (stopCore_within _ _ _ hk rfl .refl)))
    · exact .fault

theorem execKput_within (a0 a1 a2 s) : WithinRes 0x4603200850478 s (execKput a0 a1 a2 s) := by
  unfold execKput
  try dsimp only
  repeat' first
    | with_reducible apply Within.refl
    | with_reducible apply WithinRes.fault
    | with_reducible apply WithinRes.next
    | ((with_reducible apply WithinRes.step (State.external_within ..)); · rfl)

theorem execGeoProgram_within (a0 a1 a2 s) : WithinRes 0x4603200850478 s (execGeoProgram a0 a1 a2 s) := by
  unfold execGeoProgram
  try dsimp only
  repeat' first
    | with_reducible apply Within.refl
    | with_reducible apply WithinRes.fault
    | with_reducible apply WithinRes.next
    | ((with_reducible apply WithinRes.step (State.external_within ..)); · rfl)

end Sys2Proof.Machine
end

