-- ==== Sys2Proof/Laws/Feature.lean ====
section
/-! SUPPORT. What each operation of Machine/Feature.lean can change (`Within`, Laws/Within.lean). -/

namespace Sys2Proof.Machine

set_option Elab.async false

theorem State.ftbEnd_within (s a1 a2 a3) : WithinRes 0x400c800000002 s (State.ftbEnd s a1 a2 a3) := by
  unfold State.ftbEnd
  try dsimp only
  repeat' first
    | with_reducible apply Within.refl
    | with_reducible apply WithinRes.fault
    | with_reducible apply WithinRes.next
    | ((with_reducible apply Within.step (State.opEnd_within ..)); · rfl)

theorem execFtbCreate_within (a0 s) : WithinRes 0x401c80020f102 s (execFtbCreate a0 s) := by
  unfold execFtbCreate
  try dsimp only
  repeat' first
    | with_reducible apply Within.refl
    | with_reducible apply Within.ite
    | with_reducible apply WithinRes.ite
    | with_reducible apply WithinRes.fault
    | with_reducible apply WithinRes.next
    | ((with_reducible apply Within.step (State.setTable_within ..)); · rfl)
    | ((with_reducible apply Within.step (State.setPte_within ..)); · rfl)
    | ((with_reducible apply Within.step (WithinOpt.of_eq (State.bringAll_within ..) (by assumption))); · rfl)
    | ((with_reducible apply WithinRes.step (State.ftbEnd_within ..)); · rfl)
    | ((with_reducible apply State.ringStep_within); swap; · rfl)
    | intro _
    | dsimp only
    | with_reducible apply WithinOpt.mapState
    | with_reducible refine Within.update ?_ rfl
    | with_reducible apply Within.foldl
    | intro _ _
    | split

theorem execFtbDrop_within (a0 s) : WithinRes 0x401c80020f102 s (execFtbDrop a0 s) := by
  unfold execFtbDrop
  try dsimp only
  repeat' first
    | with_reducible apply Within.refl
    | with_reducible apply Within.ite
    | with_reducible apply WithinRes.ite
    | with_reducible apply WithinRes.fault
    | with_reducible apply WithinRes.next
    | ((with_reducible apply Within.step (State.setTable_within ..)); · rfl)
    | ((with_reducible apply Within.step (State.sweepTables_within ..)); · rfl)
    | ((with_reducible apply WithinRes.step (State.ftbEnd_within ..)); · rfl)
    | ((with_reducible apply State.ringStep_within); swap; · rfl)
    | intro _
    | dsimp only
    | with_reducible refine Within.update ?_ rfl
    | split

theorem execFtbMigrate_within (a0 s) : WithinRes 0x401c80020f102 s (execFtbMigrate a0 s) := by
  unfold execFtbMigrate
  try dsimp only
  repeat' first
    | with_reducible apply Within.refl
    | with_reducible apply Within.ite
    | with_reducible apply WithinRes.ite
    | with_reducible apply WithinRes.fault
    | with_reducible apply WithinRes.next
    | ((with_reducible apply Within.step (State.setTable_within ..)); · rfl)
    | ((with_reducible apply WithinRes.step (State.ftbEnd_within ..)); · rfl)
    | ((with_reducible apply Within.step (State.opFor_within ..)); · rfl)
    | ((with_reducible apply State.ringStep_within); swap; · rfl)
    | intro _
    | dsimp only
    | with_reducible refine Within.update ?_ rfl
    | split

theorem execGather_within (a0 a1 s) : WithinRes 0x42fc80080e106 s (execGather a0 a1 s) := by
  unfold execGather
  try dsimp only
  repeat' first
    | with_reducible apply Within.refl
    | with_reducible apply Within.ite
    | with_reducible apply WithinRes.ite
    | with_reducible apply WithinRes.fault
    | with_reducible apply WithinRes.next
    | ((with_reducible apply bumpSat_within _ _ (F.FTB_DROPPED_GATHERS_block _)); · rfl)
    | ((with_reducible apply bump_within _ _ (F.FTB_GATHER_GATHERS_block _)); · rfl)
    | ((with_reducible apply bump_within _ _ (F.FTB_GATHER_UNIQUE_block _)); · rfl)
    | ((with_reducible apply bumpSat_within _ _ (F.FTB_SAT_COUNT_block _)); · rfl)
    | ((with_reducible apply Within.step (State.failItem_within ..)); · rfl)
    | ((with_reducible apply Within.step (State.setTable_within ..)); · rfl)
    | ((with_reducible apply Within.step (State.takeItem_within ..)); · rfl)
    | ((with_reducible apply Within.step (State.tick_within ..)); · rfl)
    | ((with_reducible apply Within.step (State.publishJob_within ..)); · rfl)
    | ((with_reducible apply Within.step (State.markReady_within ..)); · rfl)
    | with_reducible refine Within.update ?_ rfl
    | with_reducible apply Within.foldl
    | intro _ _
    | split

theorem execScatterAddApply_within (a0 a1 s) : WithinRes 0x401c800802102 s (execScatterAddApply a0 a1 s) := by
  unfold execScatterAddApply
  try dsimp only
  repeat' first
    | with_reducible apply Within.refl
    | with_reducible apply Within.ite
    | with_reducible apply WithinRes.ite
    | with_reducible apply WithinRes.fault
    | with_reducible apply WithinRes.next
    | ((with_reducible apply bumpSat_within _ _ (F.FTB_DROPPED_UPDATES_block _)); · rfl)
    | ((with_reducible apply bumpSat_within _ _ (F.FTB_SAT_COUNT_block _)); · rfl)
    | ((with_reducible apply Within.step (State.setTable_within ..)); · rfl)
    | ((with_reducible apply Within.step (WithinOpt.of_eq (State.tableAway_within ..) (by assumption))); · rfl)
    | ((with_reducible apply Within.step (State.tick_within ..)); · rfl)
    | ((with_reducible apply Within.step (State.settlePubs_within ..)); · rfl)
    | ((with_reducible apply Within.step (State.journal_within ..)); · rfl)
    | ((with_reducible apply Within.step (State.markReady_within ..)); · rfl)
    | ((with_reducible apply Within.step (State.abandonMigs_within ..)); · rfl)
    | with_reducible apply WithinOpt.mapState
    | intro _
    | with_reducible refine Within.update ?_ rfl
    | with_reducible apply Within.foldl
    | intro _ _
    | split

theorem execDecayTick_within (a0 a1 s) : WithinRes 0x10000800002 s (execDecayTick a0 a1 s) := by
  unfold execDecayTick
  try dsimp only
  repeat' first
    | with_reducible apply Within.refl
    | with_reducible apply Within.ite
    | with_reducible apply WithinRes.ite
    | with_reducible apply WithinRes.fault
    | with_reducible apply WithinRes.next
    | ((with_reducible apply Within.step (State.tick_within ..)); · rfl)
    | ((with_reducible apply Within.step (State.setTable_within ..)); · rfl)
    | with_reducible apply WithinOpt.mapState
    | intro _
    | with_reducible refine Within.update ?_ rfl
    | with_reducible apply Within.foldl
    | intro _ _
    | split

theorem execMigrationStart_within (a0 a1 s) : WithinRes 0x401c800000102 s (execMigrationStart a0 a1 s) := by
  unfold execMigrationStart
  try dsimp only
  repeat' first
    | with_reducible apply Within.refl
    | with_reducible apply Within.ite
    | with_reducible apply WithinRes.ite
    | with_reducible apply WithinRes.fault
    | with_reducible apply WithinRes.next
    | ((with_reducible apply Within.step (State.setTable_within ..)); · rfl)
    | ((with_reducible apply WithinOpt.step (State.tableAway_within ..)); · rfl)
    | ((with_reducible apply Within.step (State.opEnd_within ..)); · rfl)
    | with_reducible apply WithinOpt.getD
    | with_reducible refine Within.update ?_ rfl
    | split

theorem execMigrationSwitch_within (a0 a1 s) : WithinRes 0x401c800002102 s (execMigrationSwitch a0 a1 s) := by
  unfold execMigrationSwitch
  try dsimp only
  repeat' first
    | with_reducible apply Within.refl
    | with_reducible apply Within.ite
    | with_reducible apply WithinRes.ite
    | with_reducible apply WithinRes.fault
    | with_reducible apply WithinRes.next
    | ((with_reducible apply bump_within _ _ (F.FTB_MIG_DEMOTED_block _)); · rfl)
    | ((with_reducible apply bump_within _ _ (F.FTB_MIG_PROMOTED_block _)); · rfl)
    | ((with_reducible apply Within.step (State.setTable_within ..)); · rfl)
    | ((with_reducible apply Within.step (WithinOpt.of_eq (State.tableAway_within ..) (by assumption))); · rfl)
    | ((with_reducible apply Within.step (State.publish_within ..)); · rfl)
    | ((with_reducible apply Within.step (State.opEnd_within ..)); · rfl)
    | with_reducible apply WithinOpt.mapState
    | intro _
    | with_reducible refine Within.update ?_ rfl
    | split

theorem execMigrationFree_within (a0 a1 s) : WithinRes 0x18000000000 s (execMigrationFree a0 a1 s) := by
  unfold execMigrationFree
  try dsimp only
  repeat' first
    | with_reducible apply Within.refl
    | with_reducible apply Within.ite
    | with_reducible apply WithinRes.ite
    | with_reducible apply WithinRes.fault
    | with_reducible apply WithinRes.next
    | ((with_reducible apply Within.step (State.sweepTables_within ..)); · rfl)
    | ((with_reducible apply Within.step (State.dropMig_within ..)); · rfl)
    | with_reducible apply WithinOpt.mapState
    | intro _
    | with_reducible refine Within.update ?_ rfl
    | split

end Sys2Proof.Machine
end

