-- ==== Sys2Proof/Laws/Index.lean ====
section
/-! SUPPORT. What each operation of Machine/Index.lean can change (`Within`, Laws/Within.lean). -/

namespace Sys2Proof.Machine

set_option Elab.async false

theorem State.writeIndex_within (s a1) : WithinOptFst 0x40aa00850500 s (State.writeIndex s a1) := by
  unfold State.writeIndex
  try dsimp only
  repeat' first
    | with_reducible apply Within.refl
    | with_reducible apply Within.ite
    | with_reducible apply WithinOptFst.none
    | with_reducible apply WithinOptFst.some
    | ((with_reducible apply Within.step (State.flashWrites_within ..)); · rfl)
    | ((with_reducible apply WithinOpt.step (State.pagesReady_within ..)); · rfl)
    | with_reducible apply WithinOpt.mapState
    | with_reducible apply WithinOpt.map
    | with_reducible apply WithinOpt.some
    | with_reducible apply WithinOpt.none
    | intro _
    | with_reducible refine Within.update ?_ rfl
    | split

theorem State.idxEnd_within (s a1 a2 a3) : WithinRes 0x400c800000002 s (State.idxEnd s a1 a2 a3) := by
  unfold State.idxEnd
  try dsimp only
  repeat' first
    | with_reducible apply Within.refl
    | with_reducible apply WithinRes.fault
    | with_reducible apply WithinRes.next
    | ((with_reducible apply Within.step (State.opEnd_within ..)); · rfl)

theorem execIdxCreate_within (a0 s) : WithinRes 0x444ea00a5f502 s (execIdxCreate a0 s) := by
  unfold execIdxCreate
  try dsimp only
  repeat' first
    | with_reducible apply Within.refl
    | with_reducible apply Within.ite
    | with_reducible apply WithinRes.ite
    | with_reducible apply WithinRes.fault
    | with_reducible apply WithinRes.next
    | ((with_reducible apply put_within _ _ (F.IDX_TUNE_AUTO_FOLD_PCT_block _)); · rfl)
    | ((with_reducible apply Within.step (State.setIndex_within ..)); · rfl)
    | ((with_reducible apply Within.step (WithinOptFst.of_eq (State.writeIndex_within ..) (by assumption))); · rfl)
    | ((with_reducible apply Within.step (State.idxPublish_within ..)); · rfl)
    | ((with_reducible apply WithinRes.step (State.idxEnd_within ..)); · rfl)
    | ((with_reducible apply State.ringStep_within); swap; · rfl)
    | intro _
    | dsimp only
    | with_reducible refine Within.update ?_ rfl
    | split

theorem State.failUpdates_within (s a1) : Within 0x42e480000c002 s (State.failUpdates s a1) := by
  unfold State.failUpdates
  try dsimp only
  repeat' first
    | with_reducible apply Within.refl
    | ((with_reducible apply Within.step (State.endReq_within ..)); · rfl)
    | with_reducible refine Within.update ?_ rfl
    | with_reducible apply Within.foldl
    | intro _ _

theorem State.cancelFold_within (s a1) : Within 0x444c800000102 s (State.cancelFold s a1) := by
  unfold State.cancelFold
  try dsimp only
  repeat' first
    | with_reducible apply Within.refl
    | with_reducible apply Within.ite
    | ((with_reducible apply Within.step (State.setIndex_within ..)); · rfl)
    | ((with_reducible apply Within.step (State.idxNote_within ..)); · rfl)
    | ((with_reducible apply Within.step (State.opEnd_within ..)); · rfl)
    | ((with_reducible apply Within.step (State.dropWork_within ..)); · rfl)
    | ((with_reducible apply Within.step (State.freeUnits_within ..)); · rfl)
    | with_reducible refine Within.update ?_ rfl
    | split

theorem execIdxDrop_within (a0 s) : WithinRes 0x46ec80020f102 s (execIdxDrop a0 s) := by
  unfold execIdxDrop
  try dsimp only
  repeat' first
    | with_reducible apply Within.refl
    | with_reducible apply Within.ite
    | with_reducible apply WithinRes.ite
    | with_reducible apply WithinRes.fault
    | with_reducible apply WithinRes.next
    | ((with_reducible apply Within.step (State.setIndex_within ..)); · rfl)
    | ((with_reducible apply Within.step (State.sweep_within ..)); · rfl)
    | ((with_reducible apply Within.step (State.failUpdates_within ..)); · rfl)
    | ((with_reducible apply Within.step (State.cancelFold_within ..)); · rfl)
    | ((with_reducible apply WithinRes.step (State.idxEnd_within ..)); · rfl)
    | ((with_reducible apply State.ringStep_within); swap; · rfl)
    | intro _
    | dsimp only
    | with_reducible refine Within.update ?_ rfl
    | split

theorem State.startFold_within (s a1 a2) : WithinRes 0x404c80020f102 s (State.startFold s a1 a2) := by
  unfold State.startFold
  try dsimp only
  repeat' first
    | with_reducible apply Within.refl
    | with_reducible apply Within.ite
    | with_reducible apply WithinRes.ite
    | with_reducible apply WithinRes.fault
    | with_reducible apply WithinRes.next
    | ((with_reducible apply Within.step (State.setIndex_within ..)); · rfl)
    | ((with_reducible apply Within.step (State.opFor_within ..)); · rfl)
    | ((with_reducible apply WithinRes.step (State.idxEnd_within ..)); · rfl)
    | ((with_reducible apply State.ringStep_within); swap; · rfl)
    | intro _
    | dsimp only
    | with_reducible refine Within.update ?_ rfl
    | split

theorem execIdxFold_within (a0 s) : WithinRes 0x404c80020f102 s (execIdxFold a0 s) := by
  unfold execIdxFold
  try dsimp only
  repeat' first
    | with_reducible apply Within.refl
    | with_reducible apply WithinRes.fault
    | with_reducible apply WithinRes.next
    | ((with_reducible apply WithinRes.step (State.startFold_within ..)); · rfl)

theorem execIdxRepair_within (a0 s) : WithinRes 0x404c80020f102 s (execIdxRepair a0 s) := by
  unfold execIdxRepair
  try dsimp only
  repeat' first
    | with_reducible apply Within.refl
    | with_reducible apply WithinRes.fault
    | with_reducible apply WithinRes.next
    | ((with_reducible apply WithinRes.step (State.startFold_within ..)); · rfl)

theorem execItemCopyWrite_within (a0 a1 a2 s) : WithinRes 0x46eea0085d502 s (execItemCopyWrite a0 a1 a2 s) := by
  unfold execItemCopyWrite
  try dsimp only
  repeat' first
    | with_reducible apply Within.refl
    | with_reducible apply Within.ite
    | with_reducible apply WithinRes.ite
    | with_reducible apply WithinRes.fault
    | with_reducible apply WithinRes.next
    | ((with_reducible apply Within.step (State.setIndex_within ..)); · rfl)
    | ((with_reducible apply Within.step (State.stirIndex_within ..)); · rfl)
    | with_reducible apply WithinOpt.mapState
    | intro _
    | with_reducible refine Within.update ?_ rfl
    | split

theorem execFoldPublish_within (a0 a1 s) : WithinRes 0x44ea00850500 s (execFoldPublish a0 a1 s) := by
  unfold execFoldPublish
  try dsimp only
  repeat' first
    | with_reducible apply Within.refl
    | with_reducible apply Within.ite
    | with_reducible apply WithinRes.ite
    | with_reducible apply WithinRes.fault
    | with_reducible apply WithinRes.next
    | ((with_reducible apply Within.step (State.setIndex_within ..)); · rfl)
    | ((with_reducible apply Within.step (State.idxPublish_within ..)); · rfl)
    | ((with_reducible apply Within.step (State.foldParts_within ..)); · rfl)
    | ((with_reducible apply Within.step (State.ackWork_within ..)); · rfl)
    | with_reducible refine Within.update ?_ rfl
    | split

theorem execFoldReclaim_within (a0 s) : WithinRes 0x46eea0085d502 s (execFoldReclaim a0 s) := by
  unfold execFoldReclaim
  try dsimp only
  repeat' first
    | with_reducible apply Within.refl
    | with_reducible apply Within.ite
    | with_reducible apply WithinRes.ite
    | with_reducible apply WithinRes.fault
    | with_reducible apply WithinRes.next
    | ((with_reducible apply Within.step (State.setIndex_within ..)); · rfl)
    | ((with_reducible apply Within.step (State.sweep_within ..)); · rfl)
    | ((with_reducible apply Within.step (State.autoFold_within ..)); · rfl)
    | ((with_reducible apply Within.step (State.stirIndex_within ..)); · rfl)
    | ((with_reducible apply Within.step (State.freeUnits_within ..)); · rfl)
    | ((with_reducible apply Within.step (State.idxNote_within ..)); · rfl)
    | ((with_reducible apply Within.step (State.opEnd_within ..)); · rfl)
    | with_reducible refine Within.update ?_ rfl
    | split

theorem execIdxCtlWrite_within (a0 s) : WithinRes 0x1000 s (execIdxCtlWrite a0 s) := by
  unfold execIdxCtlWrite
  try dsimp only
  repeat' first
    | with_reducible apply Within.refl
    | with_reducible apply WithinRes.fault
    | with_reducible apply WithinRes.next
    | ((with_reducible apply put_within _ _ rfl); · rfl)

end Sys2Proof.Machine
end

