-- ==== Sys2Proof/Laws/Recorder.lean ====
section
/-! SUPPORT. What each operation of Machine/Recorder.lean can change (`Within`, Laws/Within.lean). -/

namespace Sys2Proof.Machine

set_option Elab.async false

theorem State.latch_within (s a1) : Within 0x2000800000 s (State.latch s a1) := by
  unfold State.latch
  try dsimp only
  repeat' first
    | with_reducible apply Within.refl
    | with_reducible apply Within.ite
    | ((with_reducible apply put_within _ _ (F.EVR_REC_WORD_block _ _)); · rfl)
    | with_reducible refine Within.update ?_ rfl
    | with_reducible apply Within.foldl
    | intro _ _
    | split

theorem State.advance_within (s a1) : Within 0x800000 s (State.advance s a1) := by
  unfold State.advance
  try dsimp only
  repeat' first
    | with_reducible apply Within.refl
    | ((with_reducible apply put_within _ _ (F.EVR_CURSOR_SEQ_block _)); · rfl)
    | with_reducible refine Within.update ?_ rfl
    | split

theorem State.thaw_within (s) : Within 0x2000800000 s (State.thaw s) :=
  Within.foldl _ (fun _ _ => State.enter_within _ _) (Within.recorder (fun i => i.store) (fun _ => Nat.zero_le _) (fun i => i.mirror) rfl .refl)

theorem execEvrRelease_within (a0 s) : WithinRes 0x2000000000 s (execEvrRelease a0 s) :=
  WithinRes.next (Within.recorder (fun i => by rw [List.length_map]; exact i.store) (fun i => i.hold) (fun i => i.mirror) rfl .refl)

theorem execEvrRecRead_within (a0 a1 s) : WithinRes 0x2000800000 s (execEvrRecRead a0 a1 s) := by
  unfold execEvrRecRead
  try dsimp only
  repeat' first
    | with_reducible apply Within.refl
    | with_reducible apply Within.ite
    | with_reducible apply WithinRes.ite
    | with_reducible apply WithinRes.fault
    | with_reducible apply WithinRes.next
    | ((with_reducible apply Within.step (State.latch_within ..)); · rfl)
    | ((with_reducible apply Within.step (State.advance_within ..)); · rfl)

theorem execEvrFreezeWrite_within (a0 a1 s) : WithinRes 0x2000800002 s (execEvrFreezeWrite a0 a1 s) := by
  unfold execEvrFreezeWrite
  try dsimp only
  repeat' first
    | with_reducible apply Within.refl
    | with_reducible apply Within.ite
    | with_reducible apply WithinRes.ite
    | with_reducible apply WithinRes.fault
    | with_reducible apply WithinRes.next
    | ((with_reducible apply put_within _ _ rfl); · rfl)
    | ((with_reducible apply Within.step (State.tick_within ..)); · rfl)
    | ((with_reducible apply Within.step (State.thaw_within ..)); · rfl)
    | with_reducible refine Within.update ?_ rfl

theorem execFreezeTimeout_within (a0 s) : WithinRes 0x2000800002 s (execFreezeTimeout a0 s) := by
  unfold execFreezeTimeout
  try dsimp only
  repeat' first
    | with_reducible apply Within.refl
    | with_reducible apply Within.ite
    | with_reducible apply WithinRes.ite
    | with_reducible apply WithinRes.fault
    | with_reducible apply WithinRes.next
    | ((with_reducible apply put_within _ _ rfl); · rfl)
    | ((with_reducible apply Within.step (State.tick_within ..)); · rfl)
    | ((with_reducible apply Within.step (State.thaw_within ..)); · rfl)
    | ((with_reducible apply Within.step (State.event_within ..)); · rfl)

theorem length_mirrorBatch_le (a b c : List EvRec) : (mirrorBatch a b c).length ≤ storeSlots := by
  unfold mirrorBatch
  dsimp only
  generalize List.filter _ _ = l
  rw [List.length_drop]
  omega

theorem execEvrMirror_within (a0 s) : WithinRes 0x2000800002 s (execEvrMirror a0 s) := by
  unfold execEvrMirror
  dsimp only
  split
  · refine WithinRes.next (Within.recorder (t := s.tick a0) (fun i => ?_) (fun i => i.hold) (fun _ => ?_) rfl ((State.tick_within ..).mono rfl))
    · rw [List.length_map]
      with_reducible exact i.store
    · dsimp only
      with_reducible exact length_mirrorBatch_le _ _ _
  · exact WithinRes.next .refl

theorem execOpSecondsSave_within (a0 s) : WithinRes 0x2000800002 s (execOpSecondsSave a0 s) := by
  unfold execOpSecondsSave
  try dsimp only
  repeat' first
    | with_reducible apply Within.refl
    | with_reducible apply Within.ite
    | with_reducible apply WithinRes.ite
    | with_reducible apply WithinRes.fault
    | with_reducible apply WithinRes.next
    | ((with_reducible apply Within.step (State.tick_within ..)); · rfl)
    | with_reducible refine Within.update ?_ rfl

end Sys2Proof.Machine
end

