-- ==== Sys2Proof/Laws/Search.lean ====
section
/-! SUPPORT. What each operation of Machine/Search.lean can change (`Within`, Laws/Within.lean). -/

namespace Sys2Proof.Machine

set_option Elab.async false

theorem State.queueSeq_within (s a1 a2 a3) : Within 0x42ec80000c106 s (State.queueSeq s a1 a2 a3) := by
  unfold State.queueSeq
  try dsimp only
  repeat' first
    | with_reducible apply Within.refl
    | ((with_reducible apply Within.step (State.setQuery_within ..)); · rfl)
    | ((with_reducible apply Within.step (State.enqueueAll_within ..)); · rfl)
    | ((with_reducible apply Within.step (State.markReady_within ..)); · rfl)

theorem State.seqStep_within {m : Nat} (s : State) (q : Query) (tid : Nat) (w : SeqWork) (items : List QEntry) (result : State)
    (hm : 0x42ec80000c106 &&& m = 0x42ec80000c106) (h : Within m s result) : WithinRes m s (State.seqStep s q tid w items result) :=
  .ite (.ite (.next ((State.queueSeq_within ..).mono hm)) (.next .refl)) (.ite (.next h) (.next .refl))

theorem execProbeOrder_within (a0 a1 s) : WithinRes 0x42ec80000c106 s (execProbeOrder a0 a1 s) := by
  unfold execProbeOrder
  try dsimp only
  repeat' first
    | with_reducible apply Within.refl
    | with_reducible apply Within.ite
    | with_reducible apply WithinRes.ite
    | with_reducible apply WithinRes.fault
    | with_reducible apply WithinRes.next
    | ((with_reducible apply Within.step (State.pastStage_within ..)); · rfl)
    | ((with_reducible apply Within.step (State.inStage_within ..)); · rfl)
    | ((with_reducible apply Within.step (State.setQuery_within ..)); · rfl)
    | ((with_reducible apply Within.step (State.stopReq_within ..)); · rfl)
    | ((with_reducible apply State.seqStep_within); · rfl)
    | with_reducible refine Within.update ?_ rfl
    | split

theorem State.arriveAtMerge_within (s a1) : Within 0x40000000000 s (State.arriveAtMerge s a1) := by
  unfold State.arriveAtMerge
  try dsimp only
  repeat' first
    | with_reducible apply Within.refl
    | with_reducible apply Within.ite
    | ((with_reducible apply Within.step (State.setQuery_within ..)); · rfl)
    | with_reducible refine Within.update ?_ rfl
    | split

theorem execProbeDispatch_within (a0 s) : WithinRes 0x42ec80000c906 s (execProbeDispatch a0 s) := by
  unfold execProbeDispatch
  try dsimp only
  repeat' first
    | with_reducible apply Within.refl
    | with_reducible apply Within.ite
    | with_reducible apply WithinRes.ite
    | with_reducible apply WithinRes.fault
    | with_reducible apply WithinRes.next
    | ((with_reducible apply put_within _ _ (F.CSU_STAT_CTX_USED_block _)); · rfl)
    | ((with_reducible apply Within.step (State.queueSeq_within ..)); · rfl)
    | ((with_reducible apply Within.step (State.inStage_within ..)); · rfl)
    | ((with_reducible apply Within.step (State.setQuery_within ..)); · rfl)
    | with_reducible refine Within.update ?_ rfl
    | with_reducible apply Within.foldl
    | intro _ _
    | split

theorem State.holdBytes_within (s a1 a2) : Within 0x100000800 s (State.holdBytes s a1 a2) := by
  unfold State.holdBytes
  try dsimp only
  repeat' first
    | with_reducible apply Within.refl
    | ((with_reducible apply bump_within _ _ (F.CSU_SLOW_BYTES_block _)); · rfl)
    | ((with_reducible apply Within.step (State.draw_within ..)); · rfl)

theorem State.scoreFor_within (s a1 a2 a3 a4 a5) : Within 0x40100000800 s (State.scoreFor s a1 a2 a3 a4 a5) := by
  unfold State.scoreFor
  try dsimp only
  repeat' first
    | with_reducible apply Within.refl
    | with_reducible apply Within.ite
    | ((with_reducible apply bump_within _ _ (F.CSU_HIDDEN_RECORDS_block _)); · rfl)
    | ((with_reducible apply bumpSat_within _ _ (F.CSU_NAN_COUNT_block _)); · rfl)
    | ((with_reducible apply bump_within _ _ (F.CSU_PASSED_RECORDS_block _)); · rfl)
    | ((with_reducible apply bump_within _ _ (F.CSU_RECORDS_RECORDS_block _)); · rfl)
    | ((with_reducible apply Within.step (State.arriveAtMerge_within ..)); · rfl)
    | ((with_reducible apply Within.step (State.holdBytes_within ..)); · rfl)

theorem execScanUnitScore_within (a0 a1 a2 a3 s) : WithinRes 0x40100000800 s (execScanUnitScore a0 a1 a2 a3 s) := by
  unfold execScanUnitScore
  try dsimp only
  repeat' first
    | with_reducible apply Within.refl
    | with_reducible apply Within.ite
    | with_reducible apply WithinRes.ite
    | with_reducible apply WithinRes.fault
    | with_reducible apply WithinRes.next
    | ((with_reducible apply Within.step (State.scoreFor_within ..)); · rfl)
    | with_reducible refine Within.update ?_ rfl
    | with_reducible apply Within.foldl
    | intro _ _
    | split

theorem execSideListSearch_within (a0 s) : WithinRes 0x42ec80000c106 s (execSideListSearch a0 s) := by
  unfold execSideListSearch
  try dsimp only
  repeat' first
    | with_reducible apply Within.refl
    | with_reducible apply Within.ite
    | with_reducible apply WithinRes.ite
    | with_reducible apply WithinRes.fault
    | with_reducible apply WithinRes.next
    | ((with_reducible apply Within.step (State.arriveAtMerge_within ..)); · rfl)
    | ((with_reducible apply State.seqStep_within); · rfl)
    | with_reducible refine Within.update ?_ rfl
    | split

theorem execMergeStart_within (a0 s) : WithinRes 0x42e680080c882 s (execMergeStart a0 s) := by
  unfold execMergeStart
  try dsimp only
  repeat' first
    | with_reducible apply Within.refl
    | with_reducible apply Within.ite
    | with_reducible apply WithinRes.ite
    | with_reducible apply WithinRes.fault
    | with_reducible apply WithinRes.next
    | ((with_reducible apply put_within _ _ (F.CSU_STAT_CTX_USED_block _)); · rfl)
    | ((with_reducible apply bump_within _ _ rfl); · rfl)
    | ((with_reducible apply Within.step (State.finishSearch_within ..)); · rfl)
    | ((with_reducible apply Within.step (State.arriveAtMerge_within ..)); · rfl)
    | ((with_reducible apply Within.step (State.pastStage_within ..)); · rfl)
    | ((with_reducible apply Within.step (State.inStage_within ..)); · rfl)
    | ((with_reducible apply Within.step (State.setQuery_within ..)); · rfl)
    | with_reducible refine Within.update ?_ rfl
    | with_reducible apply Within.foldl
    | intro _ _
    | split

theorem execCandidateFetch_within (a0 s) : WithinRes 0x44000000000 s (execCandidateFetch a0 s) := by
  unfold execCandidateFetch
  try dsimp only
  repeat' first
    | with_reducible apply Within.refl
    | with_reducible apply Within.ite
    | with_reducible apply WithinRes.ite
    | with_reducible apply WithinRes.fault
    | with_reducible apply WithinRes.next
    | ((with_reducible apply Within.step (State.setQuery_within ..)); · rfl)
    | ((with_reducible apply Within.step (State.inStage_within ..)); · rfl)
    | with_reducible refine Within.update ?_ rfl
    | split

theorem execRescore_within (a0 s) : WithinRes 0x42ee80080c186 s (execRescore a0 s) := by
  unfold execRescore
  try dsimp only
  repeat' first
    | with_reducible apply Within.refl
    | with_reducible apply Within.ite
    | with_reducible apply WithinRes.ite
    | with_reducible apply WithinRes.fault
    | with_reducible apply WithinRes.next
    | ((with_reducible apply Within.step (State.finishSearch_within ..)); · rfl)
    | ((with_reducible apply Within.step (State.pastStage_within ..)); · rfl)
    | ((with_reducible apply Within.step (State.setQuery_within ..)); · rfl)
    | ((with_reducible apply State.seqStep_within); · rfl)
    | with_reducible refine Within.update ?_ rfl
    | split

theorem execPassageFetch_within (a0 s) : WithinRes 0xe6000800080 s (execPassageFetch a0 s) := by
  unfold execPassageFetch
  try dsimp only
  repeat' first
    | with_reducible apply Within.refl
    | with_reducible apply Within.ite
    | with_reducible apply WithinRes.ite
    | with_reducible apply WithinRes.fault
    | with_reducible apply WithinRes.next
    | ((with_reducible apply Within.step (State.pastStage_within ..)); · rfl)
    | ((with_reducible apply Within.step (State.inStage_within ..)); · rfl)
    | ((with_reducible apply Within.step (State.queryDone_within ..)); · rfl)
    | ((with_reducible apply Within.step (State.modReq_within ..)); · rfl)
    | with_reducible refine Within.update ?_ rfl
    | split

theorem execCsuProgLoad_within (a0 a1 s) : WithinRes 0x42000800800 s (execCsuProgLoad a0 a1 s) := by
  unfold execCsuProgLoad
  try dsimp only
  repeat' first
    | with_reducible apply Within.refl
    | with_reducible apply Within.ite
    | with_reducible apply WithinRes.ite
    | with_reducible apply WithinRes.fault
    | with_reducible apply WithinRes.next
    | ((with_reducible apply put_within _ _ (F.CSU_PROG_COST_COST_block _)); · rfl)
    | ((with_reducible apply put_within _ _ (F.CSU_PROG_COST_USES_A_block _)); · rfl)
    | ((with_reducible apply put_within _ _ (F.CSU_PROG_COST_USES_B_block _)); · rfl)
    | ((with_reducible apply put_within _ _ (F.CSU_PROG_COST_USES_BITMAP_block _)); · rfl)
    | ((with_reducible apply put_within _ _ (F.CSU_PROG_COST_USES_NUM_block _)); · rfl)
    | ((with_reducible apply put_within _ _ (F.CSU_PROG_COST_USES_QCODE_block _)); · rfl)
    | ((with_reducible apply put_within _ _ rfl); · rfl)
    | ((with_reducible apply Within.step (State.cfgDropped_within ..)); · rfl)
    | with_reducible apply WithinOpt.mapState
    | intro _
    | with_reducible refine Within.update ?_ rfl
    | with_reducible apply Within.foldl
    | intro _ _
    | split

end Sys2Proof.Machine
end

