-- ==== Sys2Proof/Laws/Requests.lean ====
section
/-! SUPPORT. What each operation of Machine/Requests.lean can change (`Within`, Laws/Within.lean). -/

namespace Sys2Proof.Machine

set_option Elab.async false

theorem State.showHead_within (s a1 a2 a3) : Within 0x800000000 s (State.showHead s a1 a2 a3) := by
  unfold State.showHead
  try dsimp only
  repeat' first
    | with_reducible apply Within.refl
    | ((with_reducible apply Within.step (State.store_within ..)); · rfl)
    | with_reducible refine Within.update ?_ rfl
    | split

theorem State.readDesc_within (s a1) : Within 0x4800800002 s (State.readDesc s a1).2 := by
  unfold State.readDesc
  try dsimp only
  repeat' first
    | with_reducible apply Within.refl
    | ((with_reducible apply put_within _ _ (F.DSP_RING_PTR_HEAD_block _)); · rfl)
    | ((with_reducible apply Within.step (State.tick_within ..)); · rfl)
    | ((with_reducible apply Within.step (State.showHead_within ..)); · rfl)
    | with_reducible refine Within.update ?_ rfl

theorem State.endAtOnce_within (s a1 a2 a3) : Within 0x42e480000c002 s (State.endAtOnce s a1 a2 a3) := by
  unfold State.endAtOnce
  try dsimp only
  repeat' first
    | with_reducible apply Within.refl
    | ((with_reducible apply Within.step (State.endReq_within ..)); · rfl)
    | ((with_reducible apply Within.step (State.setReq_within ..)); · rfl)

theorem State.admitReq_within (s a1) : Within 0x42e480000c002 s (State.admitReq s a1) := by
  unfold State.admitReq
  try dsimp only
  repeat' first
    | with_reducible apply Within.refl
    | with_reducible apply Within.ite
    | ((with_reducible apply Within.step (State.setReq_within ..)); · rfl)
    | ((with_reducible apply Within.step (State.endAtOnce_within ..)); · rfl)
    | ((with_reducible apply Within.step (State.admitQuery_within ..)); · rfl)
    | with_reducible refine Within.update ?_ rfl
    | split

theorem State.admitUpdate_within (s a1 a2) : WithinOpt 0x46eea0085d506 s (State.admitUpdate s a1 a2) := by
  unfold State.admitUpdate
  try dsimp only
  repeat' first
    | with_reducible apply Within.refl
    | with_reducible apply Within.ite
    | with_reducible apply WithinOpt.none
    | with_reducible apply WithinOpt.some
    | ((with_reducible apply Within.step (State.setIndex_within ..)); · rfl)
    | ((with_reducible apply Within.step (State.stirIndex_within ..)); · rfl)
    | ((with_reducible apply Within.step (State.enqueueAll_within ..)); · rfl)
    | ((with_reducible apply Within.step (State.setReq_within ..)); · rfl)
    | ((with_reducible apply Within.step (State.endAtOnce_within ..)); · rfl)
    | with_reducible apply WithinOpt.mapState
    | intro _
    | with_reducible refine Within.update ?_ rfl
    | split

theorem State.takeIn_within (s a1 a2) : WithinOpt 0x46eea0085d506 s (State.takeIn s a1 a2) := by
  unfold State.takeIn
  try dsimp only
  repeat' first
    | with_reducible apply Within.refl
    | with_reducible apply Within.ite
    | with_reducible apply WithinOpt.none
    | with_reducible apply WithinOpt.some
    | ((with_reducible apply Within.step (State.admitReq_within ..)); · rfl)
    | ((with_reducible apply WithinOpt.step (State.admitUpdate_within ..)); · rfl)
    | with_reducible refine Within.update ?_ rfl
    | split

theorem State.takeReq_within (s a1 a2) : WithinOpt 0x46eea0085d506 s (State.takeReq s a1 a2) := by
  unfold State.takeReq
  try dsimp only
  repeat' first
    | with_reducible apply Within.refl
    | with_reducible apply Within.ite
    | with_reducible apply WithinOpt.none
    | with_reducible apply WithinOpt.some
    | ((with_reducible apply Within.step (State.setReq_within ..)); · rfl)
    | ((with_reducible apply WithinOpt.step (State.takeIn_within ..)); · rfl)
    | ((with_reducible apply Within.step (State.endAtOnce_within ..)); · rfl)
    | with_reducible refine Within.update ?_ rfl
    | split

theorem execRequest_within (a0 s) : WithinRes 0x46eea0085d506 s (execRequest a0 s) := by
  unfold execRequest
  try dsimp only
  repeat' first
    | with_reducible apply Within.refl
    | with_reducible apply Within.ite
    | with_reducible apply WithinRes.ite
    | with_reducible apply WithinRes.fault
    | with_reducible apply WithinRes.next
    | ((with_reducible apply WithinOpt.step (State.takeReq_within ..)); · rfl)
    | ((with_reducible apply Within.step (State.readDesc_within ..)); · rfl)
    | ((with_reducible apply Within.step (State.endAtOnce_within ..)); · rfl)
    | with_reducible apply WithinOpt.getD
    | with_reducible refine Within.update ?_ rfl
    | split

theorem execIndexUpdate_within (a0 s) : WithinRes 0x46eea0085d506 s (execIndexUpdate a0 s) := by
  unfold execIndexUpdate
  try dsimp only
  repeat' first
    | with_reducible apply Within.refl
    | with_reducible apply Within.ite
    | with_reducible apply WithinRes.ite
    | with_reducible apply WithinRes.fault
    | with_reducible apply WithinRes.next
    | ((with_reducible apply WithinOpt.step (State.takeReq_within ..)); · rfl)
    | ((with_reducible apply Within.step (State.readDesc_within ..)); · rfl)
    | ((with_reducible apply Within.step (State.markReady_within ..)); · rfl)
    | ((with_reducible apply Within.step (State.endAtOnce_within ..)); · rfl)
    | with_reducible apply WithinOpt.getD
    | with_reducible apply WithinOpt.mapState
    | intro _
    | with_reducible refine Within.update ?_ rfl
    | split

theorem State.drainInbox_within (n : Nat) (s : State) : Within 0x4800000001 s (State.drainInbox n s) := by
  induction n generalizing s with
  | zero => exact .refl
  | succ n ih =>
    unfold State.drainInbox
    split
    · exact .refl
    · dsimp only
      split
      · exact .refl
      · exact (ih _).step rfl (put_within _ _ rfl rfl ((State.store_within ..).step rfl (Within.update .refl rfl)))

theorem State.inbox_within (s a1 a2 a3 a4 a5) : Within 0x4800000001 s (State.inbox s a1 a2 a3 a4 a5) := by
  unfold State.inbox
  try dsimp only
  repeat' first
    | with_reducible apply Within.refl
    | ((with_reducible apply Within.step (State.drainInbox_within ..)); · rfl)
    | with_reducible refine Within.update ?_ rfl

theorem State.cancelReq_within (s a1 a2) : Within 0x46eea0085d507 s (State.cancelReq s a1 a2).1 := by
  unfold State.cancelReq
  try dsimp only
  repeat' first
    | with_reducible apply Within.refl
    | with_reducible apply Within.ite
    | ((with_reducible apply bumpSat_within _ _ rfl); · rfl)
    | ((with_reducible apply Within.step (State.stirIndex_within ..)); · rfl)
    | ((with_reducible apply Within.step (State.stopReq_within ..)); · rfl)
    | ((with_reducible apply Within.step (State.inbox_within ..)); · rfl)
    | with_reducible refine Within.update ?_ rfl
    | split

theorem State.control_within {m : Nat} (s : State) (x : RingRead) (kind : Nat) (f : State → Req → Req → State) (hf : ∀ s r t, Within m s (f s r t))
    (hm : 0x4800800002 &&& m = 0x4800800002) : WithinRes m s (State.control s x kind f) := by
  unfold State.control
  split
  · have h := (State.readDesc_within s x).mono (m := 0x4800800002) rfl
    dsimp only
    split
    · exact WithinRes.next (((State.complete_within ..).step rfl h).mono hm)
    · split
      · split
        · exact WithinRes.next (((State.complete_within ..).step rfl h).mono hm)
        · exact WithinRes.next (((State.complete_within ..).step rfl h).mono hm)
      · exact WithinRes.next ((hf _ _ _).step (Nat.and_self m) (h.mono hm))
  · exact WithinRes.next .refl

theorem execCancel_within (a0 s) : WithinRes 0x46eea0085d507 s (execCancel a0 s) := by
  unfold execCancel
  try dsimp only
  repeat' first
    | with_reducible apply Within.refl
    | with_reducible apply WithinRes.fault
    | with_reducible apply WithinRes.next
    | ((with_reducible apply Within.step (State.cancelReq_within ..)); · rfl)
    | ((with_reducible apply Within.step (State.complete_within ..)); · rfl)
    | ((with_reducible apply Within.step (State.markReady_within ..)); · rfl)
    | ((with_reducible apply State.control_within); swap; · rfl)
    | intro _

theorem execSuspend_within (a0 s) : WithinRes 0x4800800002 s (execSuspend a0 s) := by
  unfold execSuspend
  try dsimp only
  repeat' first
    | with_reducible apply Within.refl
    | with_reducible apply Within.ite
    | with_reducible apply WithinRes.ite
    | with_reducible apply WithinRes.fault
    | with_reducible apply WithinRes.next
    | ((with_reducible apply Within.step (State.complete_within ..)); · rfl)
    | ((with_reducible apply Within.step (State.setReq_within ..)); · rfl)
    | ((with_reducible apply Within.step (State.settleSuspends_within ..)); · rfl)
    | ((with_reducible apply State.control_within); swap; · rfl)
    | intro _
    | dsimp only
    | with_reducible refine Within.update ?_ rfl

theorem execResume_within (a0 s) : WithinRes 0x4800800002 s (execResume a0 s) := by
  unfold execResume
  try dsimp only
  repeat' first
    | with_reducible apply Within.refl
    | with_reducible apply Within.ite
    | with_reducible apply WithinRes.ite
    | with_reducible apply WithinRes.fault
    | with_reducible apply WithinRes.next
    | ((with_reducible apply Within.step (State.complete_within ..)); · rfl)
    | ((with_reducible apply Within.step (State.setReq_within ..)); · rfl)
    | ((with_reducible apply State.control_within); swap; · rfl)
    | intro _
    | dsimp only
    | with_reducible refine Within.update ?_ rfl
    | with_reducible apply Within.foldl

theorem execService_within (a0 s) : WithinRes 0x4800800003 s (execService a0 s) := by
  unfold execService
  try dsimp only
  repeat' first
    | with_reducible apply Within.refl
    | with_reducible apply Within.ite
    | with_reducible apply WithinRes.ite
    | with_reducible apply WithinRes.fault
    | with_reducible apply WithinRes.next
    | ((with_reducible apply Within.step (State.inbox_within ..)); · rfl)
    | ((with_reducible apply Within.step (State.complete_within ..)); · rfl)
    | ((with_reducible apply Within.step (State.readDesc_within ..)); · rfl)
    | ((with_reducible apply Within.step (State.setReq_within ..)); · rfl)
    | with_reducible refine Within.update ?_ rfl
    | split

theorem execHeldRequestAdmit_within (a0 a1 s) : WithinRes 0x46eea0085d506 s (execHeldRequestAdmit a0 a1 s) := by
  unfold execHeldRequestAdmit
  try dsimp only
  repeat' first
    | with_reducible apply Within.refl
    | with_reducible apply Within.ite
    | with_reducible apply WithinRes.ite
    | with_reducible apply WithinRes.fault
    | with_reducible apply WithinRes.next
    | ((with_reducible apply Within.step (State.tick_within ..)); · rfl)
    | ((with_reducible apply WithinOpt.step (State.takeIn_within ..)); · rfl)
    | ((with_reducible apply Within.step (State.markReady_within ..)); · rfl)
    | with_reducible apply WithinOpt.getD
    | with_reducible apply WithinOpt.mapState
    | intro _
    | with_reducible refine Within.update ?_ rfl
    | with_reducible apply Within.foldl
    | intro _ _
    | split

end Sys2Proof.Machine
end

