-- ==== Sys2Proof/Laws/Manage.lean ====
section
/-! SUPPORT. What each operation of Machine/Manage.lean can change (`Within`, Laws/Within.lean). -/

namespace Sys2Proof.Machine

set_option Elab.async false

theorem execPartSvcDone_within (a0 s) : WithinRes 0x42e480000c002 s (execPartSvcDone a0 s) := by
  unfold execPartSvcDone
  try dsimp only
  repeat' first
    | with_reducible apply Within.refl
    | with_reducible apply Within.ite
    | with_reducible apply WithinRes.ite
    | with_reducible apply WithinRes.fault
    | with_reducible apply WithinRes.next
    | ((with_reducible apply Within.step (State.endReq_within ..)); · rfl)
    | ((with_reducible apply Within.step (State.markReady_within ..)); · rfl)
    | with_reducible refine Within.update ?_ rfl

theorem State.norEnds_within (s a1) : Within 0x1000000 s (State.norEnds s a1) := by
  unfold State.norEnds
  try dsimp only
  repeat' first
    | with_reducible apply Within.refl
    | ((with_reducible apply put_within _ _ rfl); · rfl)

theorem State.norWrite_within (s a1 a2) (hf : Sparse.wf 0xFF s.mgt.nor = true → Sparse.wf 0xFF (a2 s.mgt.nor) = true) :
    Within 0x800001000000 s (State.norWrite s a1 a2) := by
  unfold State.norWrite
  split
  · exact (State.norEnds_within ..).mono rfl
  · split
    · exact (State.norEnds_within ..).mono rfl
    · exact (State.norEnds_within ..).step rfl (Within.management hf (fun i => i) rfl .refl)

theorem execNorErase_within (a0 s) : WithinRes 0x800001000000 s (execNorErase a0 s) := by
  unfold execNorErase
  dsimp only
  split
  · exact WithinRes.next (Within.mono (State.norEnds_within s 2) rfl)
  · exact WithinRes.next (State.norWrite_within _ _ _ (fun h => Sparse.wf_splice h rfl (by simp)))

theorem execNorProgram_within (a0 a1 s) : WithinRes 0x800001000000 s (execNorProgram a0 a1 s) := by
  unfold execNorProgram
  split
  · exact WithinRes.next .refl
  · exact WithinRes.next (State.norWrite_within _ _ _ (fun h => Sparse.wf_write h))

theorem execNorRead_within (a0 s) : WithinRes 0x800101000000 s (execNorRead a0 s) := by
  unfold execNorRead
  split
  · exact WithinRes.next (Within.mono (State.norEnds_within s _) rfl)
  · exact WithinRes.next ((State.norEnds_within ..).step rfl (Within.management (t := { s with free := s.free + NorOp.bytes a0 })
      (fun h => h) (fun h => Sparse.wf_write h) rfl (Within.update .refl rfl)))

theorem execPldmSensorUpdate_within (a0 s) : WithinRes 0x800000800002 s (execPldmSensorUpdate a0 s) := by
  unfold execPldmSensorUpdate
  try dsimp only
  repeat' first
    | with_reducible apply Within.refl
    | with_reducible apply Within.ite
    | with_reducible apply WithinRes.ite
    | with_reducible apply WithinRes.fault
    | with_reducible apply WithinRes.next
    | ((with_reducible apply Within.step (State.tick_within ..)); · rfl)
    | with_reducible refine Within.update ?_ rfl

theorem execPldmReadEventLog_within (s) : WithinRes 0x4002000800000 s (execPldmReadEventLog s) := by
  unfold execPldmReadEventLog
  try dsimp only
  repeat' first
    | with_reducible apply Within.refl
    | with_reducible apply Within.ite
    | with_reducible apply WithinRes.ite
    | with_reducible apply WithinRes.fault
    | with_reducible apply WithinRes.next
    | ((with_reducible apply Within.step (State.advance_within ..)); · rfl)
    | ((with_reducible apply Within.step (State.latch_within ..)); · rfl)
    | ((with_reducible apply Within.step (State.emit_within ..)); · rfl)

end Sys2Proof.Machine
end

