-- ==== Sys2Proof/Laws/Matrix.lean ====
section
/-! SUPPORT. What each operation of Machine/Matrix.lean can change (`Within`, Laws/Within.lean). -/

namespace Sys2Proof.Machine

set_option Elab.async false

theorem execMloadW_within (a0 a1 a2 a3 a4 a5 s) : WithinRes 0x1000000078 s (execMloadW a0 a1 a2 a3 a4 a5 s) :=
  onCore_within _ _ _ (fun _ _ => KRes.Counts.showTiles (mloadOp_counts ..)) rfl

theorem execMrun_within (a0 a1 a2 a3 a4 a5 a6 a7 a8 a9 a10 s) : WithinRes 0x1000000078 s (execMrun a0 a1 a2 a3 a4 a5 a6 a7 a8 a9 a10 s) :=
  onCore_within _ _ _ (fun _ _ => KRes.Counts.showTiles (mrunOp_counts ..)) rfl

theorem execMdrain_within (a0 a1 a2 a3 a4 a5 s) : WithinRes 0x1000000078 s (execMdrain a0 a1 a2 a3 a4 a5 s) :=
  onCore_within _ _ _ (fun _ _ => mdrainOp_counts ..) rfl

theorem execMtov_within (a0 a1 a2 a3 a4 s) : WithinRes 0x1000000078 s (execMtov a0 a1 a2 a3 a4 s) :=
  onCore_within _ _ _ (fun _ _ => mtovOp_counts ..) rfl

end Sys2Proof.Machine
end

