-- ==== Sys2Proof/Laws/StartOps.lean ====
section
/-! SUPPORT. What each operation of Machine/StartOps.lean can change (`Within`, Laws/Within.lean). -/

namespace Sys2Proof.Machine

set_option Elab.async false

theorem State.extend_within (s a1 a2) : Within 0x200000 s (State.extend s a1 a2) := by
  unfold State.extend
  try dsimp only
  repeat' first
    | with_reducible apply Within.refl
    | ((with_reducible apply put_within _ _ (F.ONX_MEAS_VALUE_block _ _)); · rfl)
    | with_reducible refine Within.update ?_ rfl
    | with_reducible apply Within.foldl
    | intro _ _

theorem State.resetRegs_within (s a1) : Within 0x6ffffffff s (State.resetRegs s a1) :=
  Within.update (Within.registers a1 (fun k h => by rw [every_block_of (m := 0x6ffffffff) rfl k] at h; cases h) .refl) rfl

theorem State.stepOne_within (s) : Within 0x3d0e6ffffffff s (State.stepOne s) := by
  unfold State.stepOne
  dsimp only
  have h : Within 0x3d0e6ffffffff s (((s.resetRegs keepCold).put F.EVR_SEQ_NEXT (resumeSeq ((s.resetRegs keepCold).get F.EVR_SEQ_NEXT)
      (s.resetRegs keepCold).rec_.mirror)).bump F.EVR_CYCLES_POWER_CYCLES 1) :=
    bump_within _ _ rfl rfl (put_within _ _ rfl rfl ((State.resetRegs_within ..).mono rfl))
  generalize ((s.resetRegs keepCold).put F.EVR_SEQ_NEXT (resumeSeq ((s.resetRegs keepCold).get F.EVR_SEQ_NEXT)
      (s.resetRegs keepCold).rec_.mirror)).bump F.EVR_CYCLES_POWER_CYCLES 1 = t at h ⊢
  generalize hu : t.put F.EVR_TIME_OP_SECONDS _ = u
  replace h : Within 0x3d0e6ffffffff s u := hu ▸ put_within _ _ rfl rfl h
  have hb : u.RecorderBounded → (u.rec_.mirror.map (fun (r : EvRec) => { r with released := false, mirrored := true })).length ≤ storeSlots :=
    fun i => by rw [List.length_map]; with_reducible exact i.mirror
  generalize List.map _ _ = back at hb ⊢
  have hr := Within.recorder (r := ⟨back, [], none, none, back, 0, none, u.rec_.savedSeconds⟩) hb (fun _ => Nat.zero_le _) hb rfl h
  have hm := Within.management (t := { u with rec_ := ⟨back, [], none, none, back, 0, none, u.rec_.savedSeconds⟩ }) (g := { u.mgt with bezel := [], sensors := [], sensedAt := 0 }) (fun h => h) (fun _ => rfl) rfl hr
  exact Within.update hm rfl

theorem slotReg_block {k : Nat} (h : slotReg k = true) : blockOf k = 21 := by
  unfold slotReg at h
  simp only [Bool.or_eq_true, beq_iff_eq] at h
  unfold blockOf
  omega

theorem State.emptySlots_within (s) : Within 0x200000 s (State.emptySlots s) := by
  refine Within.registers (fun k => !slotReg k) (fun k h => ?_) .refl
  cases hs : slotReg k with
  | false => rfl
  | true => rw [slotReg_block hs] at h; exact absurd h (by decide)

theorem State.readStore_within (s a1) : Within 0x2002000a00000 s (State.readStore s a1) := by
  unfold State.readStore
  try dsimp only
  repeat' first
    | with_reducible apply Within.refl
    | with_reducible apply Within.ite
    | ((with_reducible apply put_within _ _ rfl); · rfl)
    | ((with_reducible apply Within.step (State.emptySlots_within ..)); · rfl)
    | ((with_reducible apply Within.step (State.event_within ..)); · rfl)
    | with_reducible refine Within.update ?_ rfl

theorem State.runImage_within (s a1 a2) : Within 0x2002000a00001 s (State.runImage s a1 a2) := by
  unfold State.runImage
  try dsimp only
  repeat' first
    | with_reducible apply Within.refl
    | with_reducible apply Within.ite
    | ((with_reducible apply put_within _ _ rfl); · rfl)
    | ((with_reducible apply Within.step (State.extend_within ..)); · rfl)
    | ((with_reducible apply Within.step (State.event_within ..)); · rfl)
    | with_reducible refine Within.update ?_ rfl

theorem State.trainStacks_within (s a1) : Within 0x42efaffffffff s (State.trainStacks s a1) := by
  unfold State.trainStacks
  try dsimp only
  repeat' first
    | with_reducible apply Within.refl
    | with_reducible apply Within.ite
    | ((with_reducible apply put_within _ _ (F.HBM_STAT_STATE_block _)); · rfl)
    | ((with_reducible apply Within.step (State.failStack_within ..)); · rfl)
    | ((with_reducible apply Within.step (State.placeTables_within ..)); · rfl)
    | with_reducible refine Within.update ?_ rfl
    | with_reducible apply Within.foldl
    | intro _ _

theorem State.checkerFailed_within (s a1 a2) : Within 0x43efaffffffff s (State.checkerFailed s a1 a2) := by
  unfold State.checkerFailed
  dsimp only
  generalize hf : (if a1 = 0 then F.RAS_SELFTEST_CORES else if a1 = 1 then F.RAS_SELFTEST_STACKS else F.RAS_SELFTEST_BAYS) = f
  have hb : blockOf f.id = 20 := by
    subst hf
    split
    · rfl
    · split <;> rfl
  have h : Within 0x43efaffffffff s ((if (s.get f).testBit a2 then s else s.put f (s.get f + 2 ^ a2)).event evSelftestFail .error none a2 a1) :=
    (State.event_within ..).step rfl (.ite .refl (put_within _ _ hb rfl .refl))
  split
  · exact (State.settleCore_within ..).step rfl ((State.retireCore_within ..).step rfl h)
  · exact (State.failStack_within ..).step rfl h
  · exact h

theorem State.selfTest_within (s a1) : Within 0x43efaffffffff s (State.selfTest s a1) := by
  unfold State.selfTest
  try dsimp only
  repeat' first
    | with_reducible apply Within.refl
    | ((with_reducible apply put_within _ _ rfl); · rfl)
    | ((with_reducible apply Within.step (State.checkerFailed_within ..)); · rfl)
    | with_reducible refine Within.update ?_ rfl
    | with_reducible apply Within.foldl
    | intro _ _

theorem State.startBays_within (s a1) : Within 0x47efaffffffff s (State.startBays s a1) := by
  unfold State.startBays
  try dsimp only
  repeat' first
    | with_reducible apply Within.refl
    | ((with_reducible apply Within.step (State.startTier_within ..)); · rfl)
    | ((with_reducible apply Within.step (State.bayGone_within ..)); · rfl)
    | ((with_reducible apply Within.step (State.checkerFailed_within ..)); · rfl)
    | with_reducible refine Within.update ?_ rfl
    | with_reducible apply Within.foldl
    | intro _ _

theorem State.clearRetired_within (s) : Within 0x104000100004 s (State.clearRetired s) := by
  unfold State.clearRetired
  dsimp only
  refine Within.foldl _ (fun t c => (State.settleCore_within ..).step rfl (put_within _ _ (F.CORE_CTL_RETIRE_block _) rfl .refl)) ?_
  refine put_within _ _ rfl rfl (Within.foldl _ (fun t f => put_within _ _ (facetUnits_block _) rfl .refl) ?_)
  exact Within.update .refl rfl

theorem State.applyRec_within (s a1) : Within 0x8800000000 s (State.applyRec s a1) := by
  unfold State.applyRec
  dsimp only
  split
  · exact (State.setPte_within ..).step rfl
      (Within.memory (fun h => wf_foldl_splices _ (fun _ _ h => Sparse.wf_write h) _ h) rfl .refl)
  · exact .refl

theorem State.replay_within (s a1) : Within 0x408800000100 s (State.replay s a1) := by
  unfold State.replay
  try dsimp only
  repeat' first
    | with_reducible apply Within.refl
    | ((with_reducible apply put_within _ _ rfl); · rfl)
    | ((with_reducible apply Within.step (State.freeJournal_within ..)); · rfl)
    | ((with_reducible apply Within.step (State.applyRec_within ..)); · rfl)
    | ((with_reducible apply Within.step (State.ackWork_within ..)); · rfl)
    | with_reducible apply WithinOpt.mapState
    | intro _
    | with_reducible refine Within.update ?_ rfl
    | with_reducible apply Within.foldl

theorem State.trainPorts_within (s a1) : Within 0x10000 s (State.trainPorts s a1) := by
  unfold State.trainPorts
  try dsimp only
  repeat' first
    | with_reducible apply Within.refl
    | with_reducible apply Within.ite
    | ((with_reducible apply put_within _ _ (F.KTR_PORT_STAT_LINK_block _)); · rfl)
    | with_reducible refine Within.update ?_ rfl
    | with_reducible apply Within.foldl
    | intro _ _

theorem State.reshed_within (s) : Within 0x10040ffffffff s (State.reshed s) := by
  unfold State.reshed
  try dsimp only
  repeat' first
    | with_reducible apply Within.refl
    | with_reducible apply Within.ite
    | ((with_reducible apply put_within _ _ (F.KTR_PORT_STAT_LINK_block _)); · rfl)
    | ((with_reducible apply put_within _ _ rfl); · rfl)
    | ((with_reducible apply Within.step (State.clearFields_within ..)); · rfl)
    | ((with_reducible apply Within.step (State.domains_within ..)); · rfl)
    | with_reducible apply WithinOpt.mapState
    | intro _
    | with_reducible refine Within.update ?_ rfl
    | with_reducible apply Within.foldl

theorem State.bootFrom_within (s a1) : Within 0x77efaffffffff s (State.bootFrom s a1) := by
  unfold State.bootFrom
  try dsimp only
  repeat' first
    | with_reducible apply Within.refl
    | ((with_reducible apply put_within _ _ rfl); · rfl)
    | ((with_reducible apply Within.step (State.runImage_within ..)); · rfl)
    | ((with_reducible apply Within.step (State.clearRetired_within ..)); · rfl)
    | ((with_reducible apply Within.step (State.trainStacks_within ..)); · rfl)
    | ((with_reducible apply Within.step (State.failLink_within ..)); · rfl)
    | ((with_reducible apply Within.step (State.selfTest_within ..)); · rfl)
    | ((with_reducible apply Within.step (State.startBays_within ..)); · rfl)
    | ((with_reducible apply Within.step (State.trainPorts_within ..)); · rfl)
    | ((with_reducible apply Within.step (State.event_within ..)); · rfl)
    | ((with_reducible apply Within.step (State.reshed_within ..)); · rfl)
    | ((with_reducible apply Within.step (State.domains_within ..)); · rfl)
    | ((with_reducible apply Within.step (State.replay_within ..)); · rfl)
    | with_reducible refine Within.update ?_ rfl
    | with_reducible apply Within.foldl
    | intro _ _
    | split

theorem State.coldStart_within (s a1) : Within 0x7fffeffffffff s (State.coldStart s a1) := by
  unfold State.coldStart
  try dsimp only
  repeat' first
    | with_reducible apply Within.refl
    | with_reducible apply Within.ite
    | ((with_reducible apply put_within _ _ rfl); · rfl)
    | ((with_reducible apply Within.step (State.stepOne_within ..)); · rfl)
    | ((with_reducible apply Within.step (State.bootFrom_within ..)); · rfl)
    | ((with_reducible apply Within.step (State.extend_within ..)); · rfl)
    | ((with_reducible apply Within.step (State.readStore_within ..)); · rfl)
    | ((with_reducible apply Within.step (State.event_within ..)); · rfl)
    | ((with_reducible apply Within.step (State.loseWork_within ..)); · rfl)
    | with_reducible refine Within.update ?_ rfl

theorem State.warmStart_within (s a1) : Within 0x77ffeffffffff s (State.warmStart s a1) := by
  unfold State.warmStart
  try dsimp only
  repeat' first
    | with_reducible apply Within.refl
    | ((with_reducible apply Within.step (State.bootFrom_within ..)); · rfl)
    | ((with_reducible apply Within.step (State.resetRegs_within ..)); · rfl)
    | ((with_reducible apply Within.step (State.loseWork_within ..)); · rfl)
    | with_reducible refine Within.update ?_ rfl

theorem State.restart_within (s a1 a2) : Within 0x77ffeffffffff s (State.restart s a1 a2) := by
  unfold State.restart
  try dsimp only
  repeat' first
    | with_reducible apply Within.refl
    | with_reducible apply Within.ite
    | ((with_reducible apply Within.step (State.warmStart_within ..)); · rfl)
    | ((with_reducible apply Within.step (State.event_within ..)); · rfl)

end Sys2Proof.Machine
end

