-- ==== Sys2Proof/Laws/Starting.lean ====
section
/-! SUPPORT. What each operation of Machine/Starting.lean can change (`Within`, Laws/Within.lean). -/

namespace Sys2Proof.Machine

set_option Elab.async false

theorem execPowerOnReset_within (a0 s) : WithinRes 0x7fffeffffffff s (execPowerOnReset a0 s) := by
  unfold execPowerOnReset
  try dsimp only
  repeat' first
    | with_reducible apply Within.refl
    | with_reducible apply Within.ite
    | with_reducible apply WithinRes.ite
    | with_reducible apply WithinRes.fault
    | with_reducible apply WithinRes.next
    | ((with_reducible apply Within.step (State.coldStart_within ..)); · rfl)

theorem execWarmRestart_within (a0 a1 a2 a3 s) : WithinRes 0x77ffeffffffff s (execWarmRestart a0 a1 a2 a3 s) := by
  unfold execWarmRestart
  try dsimp only
  repeat' first
    | with_reducible apply Within.refl
    | with_reducible apply Within.ite
    | with_reducible apply WithinRes.ite
    | with_reducible apply WithinRes.fault
    | with_reducible apply WithinRes.next
    | ((with_reducible apply Within.step (State.account__within ..)); · rfl)
    | ((with_reducible apply Within.step (State.restart_within ..)); · rfl)

theorem execPldmColdRestart_within (a0 s) : WithinRes 0x7fffeffffffff s (execPldmColdRestart a0 s) := by
  unfold execPldmColdRestart
  try dsimp only
  repeat' first
    | with_reducible apply Within.refl
    | with_reducible apply WithinRes.fault
    | with_reducible apply WithinRes.next
    | ((with_reducible apply Within.step (State.coldStart_within ..)); · rfl)
    | ((with_reducible apply Within.step (State.powerLost_within ..)); · rfl)

theorem execReadyWrite_within (a0 s) : WithinRes 0x2400800001 s (execReadyWrite a0 s) := by
  unfold execReadyWrite
  try dsimp only
  repeat' first
    | with_reducible apply Within.refl
    | with_reducible apply Within.ite
    | with_reducible apply WithinRes.ite
    | with_reducible apply WithinRes.fault
    | with_reducible apply WithinRes.next
    | ((with_reducible apply put_within _ _ rfl); · rfl)
    | ((with_reducible apply Within.step (State.event_within ..)); · rfl)
    | ((with_reducible apply Within.step (State.cfgDropped_within ..)); · rfl)
    | with_reducible refine Within.update ?_ rfl

end Sys2Proof.Machine
end

