-- ==== Sys2Proof/Laws/OnyxOps.lean ====
section
/-! SUPPORT. What each operation of Machine/OnyxOps.lean can change (`Within`, Laws/Within.lean). -/

namespace Sys2Proof.Machine

set_option Elab.async false

theorem State.onyx_within {m : Nat} (s : State) (o : OnxOp) (f : State → State × OnxEnd) (hf : ∀ s, Within m s (f s).1)
    (hm : 0x400c80020f102 &&& m = 0x400c80020f102) : WithinRes m s (State.onyx s o f) := by
  unfold State.onyx
  split
  · exact WithinRes.next .refl
  · have h := (State.opStart_within s 21 o.opId false o.completion 0).mono (m := 0x400c80020f102) rfl
    dsimp only
    split
    · exact WithinRes.next (((State.opEnd_within ..).step rfl h).mono hm)
    · refine WithinRes.next ?_
      exact (((State.markReady_within ..).step (m := 0x400c80020f102) rfl ((State.opEnd_within ..).mono rfl)).step hm
        ((hf _).step (Nat.and_self m) (h.mono hm)))

theorem State.officer_within (s a1) : WithinOpt 0x2000000000000 s (State.officer s a1) := by
  unfold State.officer
  try dsimp only
  repeat' first
    | with_reducible apply Within.refl
    | with_reducible apply Within.ite
    | with_reducible apply WithinOpt.none
    | with_reducible apply WithinOpt.some
    | with_reducible refine Within.update ?_ rfl
    | split

theorem State.asOfficer_within {m : Nat} (s : State) (env : Option Envelope) (f : State → State × OnxEnd) (hf : ∀ s, Within m s (f s).1)
    (hm : 0x2000000200000 &&& m = 0x2000000200000) : Within m s (State.asOfficer s env f).1 := by
  unfold State.asOfficer
  split
  · exact bumpSat_within _ _ rfl (testBit_of_sub hm (i := 21) rfl) .refl
  · exact (hf _).step (Nat.and_self m) (((State.officer_within ..).of_eq ‹_›).mono (sub_trans rfl hm))

theorem State.fillSlot_within (s a1 a2 a3) : Within 0x200000 s (State.fillSlot s a1 a2 a3) := by
  unfold State.fillSlot
  try dsimp only
  repeat' first
    | with_reducible apply Within.refl
    | ((with_reducible apply put_within _ _ (F.ONX_SLOT_KCV_KCV_block _)); · rfl)
    | ((with_reducible apply put_within _ _ (F.ONX_SLOT_STAT_GENERATED_block _)); · rfl)
    | ((with_reducible apply put_within _ _ (F.ONX_SLOT_STAT_STATE_block _)); · rfl)

theorem State.clearSlot_within (s a1) : Within 0x200000 s (State.clearSlot s a1) := by
  unfold State.clearSlot
  try dsimp only
  repeat' first
    | with_reducible apply Within.refl
    | ((with_reducible apply put_within _ _ (F.ONX_SLOT_KCV_KCV_block _)); · rfl)
    | ((with_reducible apply put_within _ _ (F.ONX_SLOT_STAT_GENERATED_block _)); · rfl)
    | ((with_reducible apply put_within _ _ (F.ONX_SLOT_STAT_STATE_block _)); · rfl)

theorem State.dropTenant_within (s a1) : Within 0x408800000100 s (State.dropTenant s a1) := by
  unfold State.dropTenant
  try dsimp only
  repeat' first
    | with_reducible apply Within.refl
    | with_reducible apply Within.ite
    | ((with_reducible apply Within.step (State.store_within ..)); · rfl)
    | ((with_reducible apply Within.step (State.unmapPage_within ..)); · rfl)
    | with_reducible refine Within.update ?_ rfl
    | with_reducible apply Within.foldl
    | intro _ _

theorem State.eraseKeys_within (s) : Within 0x2608000210000 s (State.eraseKeys s) := by
  unfold State.eraseKeys
  try dsimp only
  repeat' first
    | with_reducible apply Within.refl
    | ((with_reducible apply put_within _ _ (F.KTR_PORT_STAT_MACSEC_UP_block _)); · rfl)
    | ((with_reducible apply put_within _ _ rfl); · rfl)
    | ((with_reducible apply Within.step (State.emptySlots_within ..)); · rfl)
    | ((with_reducible apply Within.step (State.setPort_within ..)); · rfl)
    | with_reducible apply WithinOpt.mapState
    | intro _
    | with_reducible refine Within.update ?_ rfl
    | with_reducible apply Within.foldl

theorem State.zeroised_within (s a1 a2) : Within 0x77ffeffffffff s (State.zeroised s a1 a2) := by
  unfold State.zeroised
  try dsimp only
  repeat' first
    | with_reducible apply Within.refl
    | with_reducible apply Within.ite
    | ((with_reducible apply put_within _ _ rfl); · rfl)
    | ((with_reducible apply Within.step (State.eraseKeys_within ..)); · rfl)
    | ((with_reducible apply Within.step (State.stepSeven_within ..)); · rfl)
    | ((with_reducible apply Within.step (State.event_within ..)); · rfl)
    | ((with_reducible apply Within.step (State.restart_within ..)); · rfl)

end Sys2Proof.Machine
end

