-- ==== Sys2Proof/Laws/Onyx.lean ====
section
/-! SUPPORT. What each operation of Machine/Onyx.lean can change (`Within`, Laws/Within.lean). -/

namespace Sys2Proof.Machine

set_option Elab.async false

theorem execReport_within (a0 s) : WithinRes 0x400c80020f102 s (execReport a0 s) := by
  unfold execReport
  try dsimp only
  repeat' first
    | with_reducible apply Within.refl
    | with_reducible apply Within.ite
    | with_reducible apply WithinRes.ite
    | with_reducible apply WithinRes.fault
    | with_reducible apply WithinRes.next
    | ((with_reducible apply Within.step (State.store_within ..)); · rfl)
    | ((with_reducible apply State.onyx_within); swap; · rfl)
    | intro _
    | dsimp only
    | with_reducible refine Within.update ?_ rfl
    | split

theorem execKeyImport_within (a0 a1 a2 s) : WithinRes 0x600c80020f102 s (execKeyImport a0 a1 a2 s) := by
  unfold execKeyImport
  try dsimp only
  repeat' first
    | with_reducible apply Within.refl
    | with_reducible apply Within.ite
    | with_reducible apply WithinRes.ite
    | with_reducible apply WithinRes.fault
    | with_reducible apply WithinRes.next
    | ((with_reducible apply bumpSat_within _ _ rfl); · rfl)
    | ((with_reducible apply Within.step (State.fillSlot_within ..)); · rfl)
    | ((with_reducible apply State.onyx_within); swap; · rfl)
    | intro _
    | dsimp only
    | ((with_reducible apply State.asOfficer_within); swap; · rfl)
    | with_reducible refine Within.update ?_ rfl
    | split

theorem execKeyGenerate_within (a0 a1 s) : WithinRes 0x600c90020f102 s (execKeyGenerate a0 a1 s) := by
  unfold execKeyGenerate
  try dsimp only
  repeat' first
    | with_reducible apply Within.refl
    | with_reducible apply Within.ite
    | with_reducible apply WithinRes.ite
    | with_reducible apply WithinRes.fault
    | with_reducible apply WithinRes.next
    | ((with_reducible apply Within.step (State.fillSlot_within ..)); · rfl)
    | ((with_reducible apply State.onyx_within); swap; · rfl)
    | intro _
    | dsimp only
    | ((with_reducible apply State.asOfficer_within); swap; · rfl)
    | with_reducible refine Within.update ?_ rfl
    | split

theorem execKeyDestroy_within (a0 a1 s) : WithinRes 0x640c80020f102 s (execKeyDestroy a0 a1 s) := by
  unfold execKeyDestroy
  try dsimp only
  repeat' first
    | with_reducible apply Within.refl
    | with_reducible apply Within.ite
    | with_reducible apply WithinRes.ite
    | with_reducible apply WithinRes.fault
    | with_reducible apply WithinRes.next
    | ((with_reducible apply Within.step (State.clearSlot_within ..)); · rfl)
    | ((with_reducible apply Within.step (State.dropTenant_within ..)); · rfl)
    | ((with_reducible apply Within.step (State.finishRetire_within ..)); · rfl)
    | ((with_reducible apply State.onyx_within); swap; · rfl)
    | intro _
    | dsimp only
    | ((with_reducible apply State.asOfficer_within); swap; · rfl)
    | with_reducible refine Within.update ?_ rfl
    | split

theorem execExtend_within (a0 s) : WithinRes 0x400c80020f102 s (execExtend a0 s) := by
  unfold execExtend
  try dsimp only
  repeat' first
    | with_reducible apply Within.refl
    | with_reducible apply Within.ite
    | with_reducible apply WithinRes.ite
    | with_reducible apply WithinRes.fault
    | with_reducible apply WithinRes.next
    | ((with_reducible apply Within.step (State.extend_within ..)); · rfl)
    | ((with_reducible apply State.onyx_within); swap; · rfl)
    | intro _
    | dsimp only
    | with_reducible refine Within.update ?_ rfl
    | split

theorem execKemRotate_within (a0 s) : WithinRes 0x600c80020f102 s (execKemRotate a0 s) := by
  unfold execKemRotate
  try dsimp only
  repeat' first
    | with_reducible apply Within.refl
    | with_reducible apply WithinRes.fault
    | with_reducible apply WithinRes.next
    | ((with_reducible apply State.onyx_within); swap; · rfl)
    | intro _
    | dsimp only
    | with_reducible refine Within.update ?_ rfl

theorem execRollbackCommit_within (a0 a1 s) : WithinRes 0x600c80020f102 s (execRollbackCommit a0 a1 s) := by
  unfold execRollbackCommit
  try dsimp only
  repeat' first
    | with_reducible apply Within.refl
    | with_reducible apply Within.ite
    | with_reducible apply WithinRes.ite
    | with_reducible apply WithinRes.fault
    | with_reducible apply WithinRes.next
    | ((with_reducible apply put_within _ _ rfl); · rfl)
    | ((with_reducible apply State.onyx_within); swap; · rfl)
    | intro _
    | dsimp only
    | ((with_reducible apply State.asOfficer_within); swap; · rfl)
    | with_reducible refine Within.update ?_ rfl
    | split

theorem execOfficerEnroll_within (a0 a1 a2 a3 s) : WithinRes 0x600c80020f102 s (execOfficerEnroll a0 a1 a2 a3 s) := by
  unfold execOfficerEnroll
  try dsimp only
  repeat' first
    | with_reducible apply Within.refl
    | with_reducible apply Within.ite
    | with_reducible apply WithinRes.ite
    | with_reducible apply WithinRes.fault
    | with_reducible apply WithinRes.next
    | ((with_reducible apply put_within _ _ rfl); · rfl)
    | ((with_reducible apply State.onyx_within); swap; · rfl)
    | intro _
    | dsimp only
    | ((with_reducible apply State.asOfficer_within); swap; · rfl)
    | with_reducible refine Within.update ?_ rfl
    | split

theorem execRootRevoke_within (a0 a1 a2 s) : WithinRes 0x600c80020f102 s (execRootRevoke a0 a1 a2 s) := by
  unfold execRootRevoke
  try dsimp only
  repeat' first
    | with_reducible apply Within.refl
    | with_reducible apply Within.ite
    | with_reducible apply WithinRes.ite
    | with_reducible apply WithinRes.fault
    | with_reducible apply WithinRes.next
    | ((with_reducible apply put_within _ _ rfl); · rfl)
    | ((with_reducible apply State.onyx_within); swap; · rfl)
    | intro _
    | dsimp only
    | ((with_reducible apply State.asOfficer_within); swap; · rfl)
    | with_reducible refine Within.update ?_ rfl
    | split

theorem State.zeroiseOp_within {m : Nat} (s : State) (o : OnxOp) (env : Option Envelope) (cause : Nat) (boot : Boot) (after : State → State)
    (ha : ∀ s, Within m s (after s)) (hm : 0x77ffeffffffff &&& m = 0x77ffeffffffff) : WithinRes m s (State.zeroiseOp s o env cause boot after) := by
  unfold State.zeroiseOp
  split
  · exact WithinRes.next .refl
  · have h := (State.opStart_within s 21 o.opId false o.completion 0).mono (m := 0x77ffeffffffff) rfl
    dsimp only
    split
    · exact WithinRes.next (((State.opEnd_within ..).step rfl h).mono hm)
    · split
      · exact WithinRes.next (((State.opEnd_within ..).step rfl (bumpSat_within _ _ rfl rfl h)).mono hm)
      · have ho := ((State.officer_within ..).of_eq ‹_›).step (m := 0x77ffeffffffff) rfl h
        exact WithinRes.next ((ha _).step (Nat.and_self m) (((State.zeroised_within ..).step rfl ho).mono hm))

theorem execZeroise_within (a0 a1 a2 s) : WithinRes 0x77ffeffffffff s (execZeroise a0 a1 a2 s) := by
  unfold execZeroise
  try dsimp only
  repeat' first
    | with_reducible apply Within.refl
    | with_reducible apply WithinRes.fault
    | with_reducible apply WithinRes.next
    | ((with_reducible apply State.zeroiseOp_within); swap; · rfl)

theorem execDebugUnlock_within (a0 a1 a2 s) : WithinRes 0x77ffeffffffff s (execDebugUnlock a0 a1 a2 s) := by
  unfold execDebugUnlock
  try dsimp only
  repeat' first
    | with_reducible apply Within.refl
    | with_reducible apply WithinRes.fault
    | with_reducible apply WithinRes.next
    | ((with_reducible apply put_within _ _ rfl); · rfl)
    | ((with_reducible apply State.zeroiseOp_within); swap; · rfl)
    | intro _

theorem execTamperTrigger_within (a0 a1 a2 s) : WithinRes 0x77ffeffffffff s (execTamperTrigger a0 a1 a2 s) := by
  unfold execTamperTrigger
  try dsimp only
  repeat' first
    | with_reducible apply Within.refl
    | with_reducible apply Within.ite
    | with_reducible apply WithinRes.ite
    | with_reducible apply WithinRes.fault
    | with_reducible apply WithinRes.next
    | ((with_reducible apply Within.step (State.zeroised_within ..)); · rfl)
    | ((with_reducible apply Within.step (State.account__within ..)); · rfl)

theorem execSakRotate_within (a0 s) : WithinRes 0x2200000010000 s (execSakRotate a0 s) := by
  unfold execSakRotate
  try dsimp only
  repeat' first
    | with_reducible apply Within.refl
    | with_reducible apply Within.ite
    | with_reducible apply WithinRes.ite
    | with_reducible apply WithinRes.fault
    | with_reducible apply WithinRes.next
    | ((with_reducible apply put_within _ _ (F.KTR_PORT_STAT_MACSEC_UP_block _)); · rfl)
    | ((with_reducible apply Within.step (State.setPort_within ..)); · rfl)
    | with_reducible refine Within.update ?_ rfl

end Sys2Proof.Machine
end

