-- ==== Sys2Proof/Laws/Token.lean ====
section
/-! SUPPORT. What each operation of Machine/Token.lean can change (`Within`, Laws/Within.lean). -/

namespace Sys2Proof.Machine

set_option Elab.async false

theorem execOpen_within (a0 a1 s) : WithinRes 0x46eea0085d506 s (execOpen a0 a1 s) := by
  unfold execOpen
  try dsimp only
  repeat' first
    | with_reducible apply Within.refl
    | with_reducible apply Within.ite
    | with_reducible apply WithinRes.ite
    | with_reducible apply WithinRes.fault
    | with_reducible apply WithinRes.next
    | ((with_reducible apply bump_within _ _ rfl); · rfl)
    | ((with_reducible apply Within.step (State.failItem_within ..)); · rfl)
    | ((with_reducible apply Within.step (State.stirAll_within ..)); · rfl)
    | ((with_reducible apply Within.step (State.takeItem_within ..)); · rfl)
    | ((with_reducible apply Within.step (State.tick_within ..)); · rfl)
    | ((with_reducible apply Within.step (State.publishJob_within ..)); · rfl)
    | ((with_reducible apply Within.step (State.markReady_within ..)); · rfl)
    | with_reducible apply WithinOpt.mapState
    | intro _
    | with_reducible refine Within.update ?_ rfl
    | split

theorem State.noteTokens_within (s a1 a2 a3) : Within 0x4000000000 s (State.noteTokens s a1 a2 a3) := by
  unfold State.noteTokens
  try dsimp only
  repeat' first
    | with_reducible apply Within.refl
    | with_reducible apply Within.ite
    | ((with_reducible apply Within.step (State.modReq_within ..)); · rfl)

theorem execFeed_within (a0 a1 s) : WithinRes 0x46eea0085d506 s (execFeed a0 a1 s) := by
  unfold execFeed
  try dsimp only
  repeat' first
    | with_reducible apply Within.refl
    | with_reducible apply Within.ite
    | with_reducible apply WithinRes.ite
    | with_reducible apply WithinRes.fault
    | with_reducible apply WithinRes.next
    | ((with_reducible apply bumpSat_within _ _ rfl); · rfl)
    | ((with_reducible apply bump_within _ _ rfl); · rfl)
    | ((with_reducible apply Within.step (State.failItem_within ..)); · rfl)
    | ((with_reducible apply Within.step (State.noteTokens_within ..)); · rfl)
    | ((with_reducible apply Within.step (State.event_within ..)); · rfl)
    | ((with_reducible apply Within.step (State.stirAll_within ..)); · rfl)
    | ((with_reducible apply Within.step (State.takeItem_within ..)); · rfl)
    | ((with_reducible apply Within.step (State.tick_within ..)); · rfl)
    | ((with_reducible apply Within.step (State.publishJob_within ..)); · rfl)
    | ((with_reducible apply Within.step (State.sweep_within ..)); · rfl)
    | ((with_reducible apply Within.step (State.markReady_within ..)); · rfl)
    | with_reducible refine Within.update ?_ rfl
    | split

theorem execPack_within (a0 a1 s) : WithinRes 0x42ec80080c106 s (execPack a0 a1 s) := by
  unfold execPack
  try dsimp only
  repeat' first
    | with_reducible apply Within.refl
    | with_reducible apply Within.ite
    | with_reducible apply WithinRes.ite
    | with_reducible apply WithinRes.fault
    | with_reducible apply WithinRes.next
    | ((with_reducible apply bump_within _ _ rfl); · rfl)
    | ((with_reducible apply Within.step (State.failItem_within ..)); · rfl)
    | ((with_reducible apply Within.step (State.takeItem_within ..)); · rfl)
    | ((with_reducible apply Within.step (State.tick_within ..)); · rfl)
    | ((with_reducible apply Within.step (State.publishJob_within ..)); · rfl)
    | ((with_reducible apply Within.step (State.modReq_within ..)); · rfl)
    | ((with_reducible apply Within.step (State.markReady_within ..)); · rfl)
    | with_reducible apply WithinOpt.mapState
    | intro _
    | with_reducible refine Within.update ?_ rfl
    | split

theorem execContextEvict_within (a0 a1 a2 s) : WithinRes 0x20000800002 s (execContextEvict a0 a1 a2 s) := by
  unfold execContextEvict
  try dsimp only
  repeat' first
    | with_reducible apply Within.refl
    | with_reducible apply Within.ite
    | with_reducible apply WithinRes.ite
    | with_reducible apply WithinRes.fault
    | with_reducible apply WithinRes.next
    | ((with_reducible apply Within.step (State.tick_within ..)); · rfl)
    | with_reducible apply WithinOpt.mapState
    | intro _
    | with_reducible refine Within.update ?_ rfl
    | split

theorem State.txuEnd_within (s a1 a2 a3) : WithinRes 0x400c800000002 s (State.txuEnd s a1 a2 a3) := by
  unfold State.txuEnd
  try dsimp only
  repeat' first
    | with_reducible apply Within.refl
    | with_reducible apply WithinRes.fault
    | with_reducible apply WithinRes.next
    | ((with_reducible apply Within.step (State.opEnd_within ..)); · rfl)

theorem State.pinKeys_within (s a1 a2) : Within 0x8000000000 s (State.pinKeys s a1 a2) := by
  unfold State.pinKeys
  try dsimp only
  repeat' first
    | with_reducible apply Within.refl
    | with_reducible apply Within.ite
    | ((with_reducible apply Within.step (State.setPte_within ..)); · rfl)
    | with_reducible refine Within.update ?_ rfl
    | with_reducible apply Within.foldl
    | intro _ _

theorem State.setDict_within (s a1 a2) : Within 0x20000000000 s (State.setDict s a1 a2) := by
  unfold State.setDict
  try dsimp only
  repeat' first
    | with_reducible apply Within.refl
    | with_reducible refine Within.update ?_ rfl

theorem State.setGram_within (s a1 a2) : Within 0x20000000000 s (State.setGram s a1 a2) := by
  unfold State.setGram
  try dsimp only
  repeat' first
    | with_reducible apply Within.refl
    | with_reducible refine Within.update ?_ rfl

theorem execDictLoad_within (a0 s) : WithinRes 0x402c80020f102 s (execDictLoad a0 s) := by
  unfold execDictLoad
  try dsimp only
  repeat' first
    | with_reducible apply Within.refl
    | with_reducible apply Within.ite
    | with_reducible apply WithinRes.ite
    | with_reducible apply WithinRes.fault
    | with_reducible apply WithinRes.next
    | ((with_reducible apply Within.step (WithinOpt.of_eq (State.bringAll_within ..) (by assumption))); · rfl)
    | ((with_reducible apply WithinRes.step (State.txuEnd_within ..)); · rfl)
    | ((with_reducible apply Within.step (State.pinKeys_within ..)); · rfl)
    | ((with_reducible apply Within.step (State.setDict_within ..)); · rfl)
    | ((with_reducible apply State.ringStep_within); swap; · rfl)
    | intro _
    | dsimp only
    | with_reducible apply WithinOpt.mapState
    | with_reducible refine Within.update ?_ rfl
    | split

theorem execDictUnload_within (a0 s) : WithinRes 0x40ec80020f102 s (execDictUnload a0 s) := by
  unfold execDictUnload
  try dsimp only
  repeat' first
    | with_reducible apply Within.refl
    | with_reducible apply Within.ite
    | with_reducible apply WithinRes.ite
    | with_reducible apply WithinRes.fault
    | with_reducible apply WithinRes.next
    | ((with_reducible apply Within.step (State.sweep_within ..)); · rfl)
    | ((with_reducible apply WithinRes.step (State.txuEnd_within ..)); · rfl)
    | ((with_reducible apply Within.step (State.pinKeys_within ..)); · rfl)
    | ((with_reducible apply Within.step (State.setDict_within ..)); · rfl)
    | ((with_reducible apply State.ringStep_within); swap; · rfl)
    | intro _
    | dsimp only
    | with_reducible refine Within.update ?_ rfl
    | split

theorem State.dropGram_within (s a1) : Within 0x42ec80000c106 s (State.dropGram s a1) := by
  unfold State.dropGram
  try dsimp only
  repeat' first
    | with_reducible apply Within.refl
    | ((with_reducible apply Within.step (State.stopReq_within ..)); · rfl)
    | with_reducible refine Within.update ?_ rfl
    | with_reducible apply Within.foldl
    | intro _ _

theorem execGramLoad_within (a0 a1 s) : WithinRes 0x42ec80020f106 s (execGramLoad a0 a1 s) := by
  unfold execGramLoad
  try dsimp only
  repeat' first
    | with_reducible apply Within.refl
    | with_reducible apply Within.ite
    | with_reducible apply WithinRes.ite
    | with_reducible apply WithinRes.fault
    | with_reducible apply WithinRes.next
    | ((with_reducible apply Within.step (State.setOp_within ..)); · rfl)
    | ((with_reducible apply Within.step (State.pinKeys_within ..)); · rfl)
    | ((with_reducible apply Within.step (State.dropGram_within ..)); · rfl)
    | ((with_reducible apply Within.step (WithinOpt.of_eq (State.bringAll_within ..) (by assumption))); · rfl)
    | ((with_reducible apply WithinRes.step (State.txuEnd_within ..)); · rfl)
    | ((with_reducible apply Within.step (State.setGram_within ..)); · rfl)
    | ((with_reducible apply Within.step (State.opFor_within ..)); · rfl)
    | ((with_reducible apply State.ringStep_within); swap; · rfl)
    | intro _
    | dsimp only
    | with_reducible refine Within.update ?_ rfl
    | split

theorem execGramUnload_within (a0 s) : WithinRes 0x40ec80020f102 s (execGramUnload a0 s) := by
  unfold execGramUnload
  try dsimp only
  repeat' first
    | with_reducible apply Within.refl
    | with_reducible apply Within.ite
    | with_reducible apply WithinRes.ite
    | with_reducible apply WithinRes.fault
    | with_reducible apply WithinRes.next
    | ((with_reducible apply Within.step (State.sweep_within ..)); · rfl)
    | ((with_reducible apply WithinRes.step (State.txuEnd_within ..)); · rfl)
    | ((with_reducible apply Within.step (State.pinKeys_within ..)); · rfl)
    | ((with_reducible apply Within.step (State.setGram_within ..)); · rfl)
    | ((with_reducible apply State.ringStep_within); swap; · rfl)
    | intro _
    | dsimp only
    | with_reducible refine Within.update ?_ rfl
    | split

end Sys2Proof.Machine
end

