-- ==== Sys2Proof/Laws/OpControl.lean ====
section
/-! SUPPORT. What each operation of Machine/OpControl.lean can change (`Within`, Laws/Within.lean). -/

namespace Sys2Proof.Machine

set_option Elab.async false

theorem State.controlOp_within {m : Nat} (s : State) (e : OpControl) (f : State → State × Option (Nat × Nat)) (hf : ∀ s, Within m s (f s).1)
    (hm : 0x400c80020f102 &&& m = 0x400c80020f102) : WithinRes m s (State.controlOp s e f) := by
  unfold State.controlOp
  split
  · exact WithinRes.next .refl
  · have h := (State.opStart_within s e.block e.opId false e.completion 0).mono (m := 0x400c80020f102) rfl
    dsimp only
    split
    · exact WithinRes.next (((State.opEnd_within ..).step rfl h).mono hm)
    · split
      · have h1 := fun (t : State) a b => (State.markReady_within ..).step (m := 0x400c80020f102) rfl ((State.opEnd_within t e.block e.opId e.completion a b 0 0).mono rfl)
        exact WithinRes.next ((h1 _ _ _).step hm (((hf _).of_fst ‹_›).step (Nat.and_self m) (h.mono hm)))
      · exact WithinRes.next (((State.markReady_within ..).mono (m := 0x400c80020f102) rfl).step hm (((hf _).of_fst ‹_›).step (Nat.and_self m) (h.mono hm)))

theorem State.opBefore_within (s a1 a2) : Within 0x8000000000 s (State.opBefore s a1 a2) := by
  unfold State.opBefore
  try dsimp only
  repeat' first
    | with_reducible apply Within.refl
    | ((with_reducible apply Within.step (State.setOp_within ..)); · rfl)

theorem execOpSuspend_within (a0 s) : WithinRes 0x400c80020f102 s (execOpSuspend a0 s) := by
  unfold execOpSuspend
  try dsimp only
  repeat' first
    | with_reducible apply Within.refl
    | with_reducible apply Within.ite
    | with_reducible apply WithinRes.ite
    | with_reducible apply WithinRes.fault
    | with_reducible apply WithinRes.next
    | ((with_reducible apply Within.step (State.setOp_within ..)); · rfl)
    | ((with_reducible apply Within.step (State.opBefore_within ..)); · rfl)
    | ((with_reducible apply State.controlOp_within); swap; · rfl)
    | intro _
    | dsimp only
    | with_reducible refine Within.update ?_ rfl
    | split

theorem execOpResume_within (a0 s) : WithinRes 0x400c80020f102 s (execOpResume a0 s) := by
  unfold execOpResume
  try dsimp only
  repeat' first
    | with_reducible apply Within.refl
    | with_reducible apply Within.ite
    | with_reducible apply WithinRes.ite
    | with_reducible apply WithinRes.fault
    | with_reducible apply WithinRes.next
    | ((with_reducible apply Within.step (State.setOp_within ..)); · rfl)
    | ((with_reducible apply State.controlOp_within); swap; · rfl)
    | intro _
    | dsimp only
    | with_reducible refine Within.update ?_ rfl
    | split

theorem State.cancelMigrate_within (s a1) : Within 0x10000002000 s (State.cancelMigrate s a1) := by
  unfold State.cancelMigrate
  try dsimp only
  repeat' first
    | with_reducible apply Within.refl
    | ((with_reducible apply bumpSat_within _ _ (F.FTB_MIG_ABORTS_block _)); · rfl)
    | ((with_reducible apply Within.step (State.setTable_within ..)); · rfl)
    | with_reducible refine Within.update ?_ rfl
    | with_reducible apply Within.foldl
    | intro _ _

theorem State.cancelIdxOp_within (s a1 a2) : Within 0x444c800000102 s (State.cancelIdxOp s a1 a2).1 := by
  unfold State.cancelIdxOp
  try dsimp only
  repeat' first
    | with_reducible apply Within.refl
    | with_reducible apply Within.ite
    | ((with_reducible apply Within.step (State.setOp_within ..)); · rfl)
    | ((with_reducible apply Within.step (State.setIndex_within ..)); · rfl)
    | ((with_reducible apply Within.step (State.cancelFold_within ..)); · rfl)
    | ((with_reducible apply Within.step (State.opEnd_within ..)); · rfl)
    | with_reducible apply WithinOpt.mapState
    | intro _
    | with_reducible refine Within.update ?_ rfl
    | split

theorem State.cancelGram_within (s a1) : Within 0x42ec80000c106 s (State.cancelGram s a1) := by
  unfold State.cancelGram
  try dsimp only
  repeat' first
    | with_reducible apply Within.refl
    | with_reducible apply Within.ite
    | ((with_reducible apply Within.step (State.dropGram_within ..)); · rfl)
    | ((with_reducible apply Within.step (State.pinKeys_within ..)); · rfl)
    | with_reducible refine Within.update ?_ rfl
    | split

theorem execOpCancel_within (a0 s) : WithinRes 0x46fc80020f106 s (execOpCancel a0 s) := by
  unfold execOpCancel
  try dsimp only
  repeat' first
    | with_reducible apply Within.refl
    | with_reducible apply Within.ite
    | with_reducible apply WithinRes.ite
    | with_reducible apply WithinRes.fault
    | with_reducible apply WithinRes.next
    | ((with_reducible apply Within.step (State.setOp_within ..)); · rfl)
    | ((with_reducible apply Within.step (State.cancelGram_within ..)); · rfl)
    | ((with_reducible apply Within.step (State.cancelMigrate_within ..)); · rfl)
    | ((with_reducible apply Within.step (State.opBefore_within ..)); · rfl)
    | ((with_reducible apply Within.step (State.opEnd_within ..)); · rfl)
    | ((with_reducible apply Within.step (State.cancelIdxOp_within ..)); · rfl)
    | ((with_reducible apply State.controlOp_within); swap; · rfl)
    | intro _
    | dsimp only
    | with_reducible refine Within.update ?_ rfl
    | split

end Sys2Proof.Machine
end

