-- ==== Sys2Proof/Laws/Power.lean ====
section
/-! SUPPORT. What each operation of Machine/Power.lean can change (`Within`, Laws/Within.lean). -/

namespace Sys2Proof.Machine

set_option Elab.async false

theorem execTargetWrite_within (a0 a1 s) : WithinRes 0x1002000880002 s (execTargetWrite a0 a1 s) := by
  unfold execTargetWrite
  try dsimp only
  repeat' first
    | with_reducible apply Within.refl
    | with_reducible apply Within.ite
    | with_reducible apply WithinRes.ite
    | with_reducible apply WithinRes.fault
    | with_reducible apply WithinRes.next
    | ((with_reducible apply put_within _ _ rfl); · rfl)
    | ((with_reducible apply Within.step (State.leaveSurge_within ..)); · rfl)
    | ((with_reducible apply Within.step (State.ramp_within ..)); · rfl)
    | ((with_reducible apply Within.step (State.account__within ..)); · rfl)
    | ((with_reducible apply Within.step (State.cfgDropped_within ..)); · rfl)

theorem execRampDone_within (a0 s) : WithinRes 0x1000000880002 s (execRampDone a0 s) := by
  unfold execRampDone
  try dsimp only
  repeat' first
    | with_reducible apply Within.refl
    | with_reducible apply Within.ite
    | with_reducible apply WithinRes.ite
    | with_reducible apply WithinRes.fault
    | with_reducible apply WithinRes.next
    | ((with_reducible apply put_within _ _ rfl); · rfl)
    | ((with_reducible apply Within.step (State.account__within ..)); · rfl)

theorem execSurgeEnter_within (a0 a1 s) : WithinRes 0x1000000880002 s (execSurgeEnter a0 a1 s) := by
  unfold execSurgeEnter
  try dsimp only
  repeat' first
    | with_reducible apply Within.refl
    | with_reducible apply Within.ite
    | with_reducible apply WithinRes.ite
    | with_reducible apply WithinRes.fault
    | with_reducible apply WithinRes.next
    | ((with_reducible apply Within.step (State.power_within ..)); · rfl)
    | ((with_reducible apply Within.step (State.ramp_within ..)); · rfl)

theorem execSurgeLeave_within (a0 a1 a2 s) : WithinRes 0x1002000880002 s (execSurgeLeave a0 a1 a2 s) := by
  unfold execSurgeLeave
  try dsimp only
  repeat' first
    | with_reducible apply Within.refl
    | with_reducible apply Within.ite
    | with_reducible apply WithinRes.ite
    | with_reducible apply WithinRes.fault
    | with_reducible apply WithinRes.next
    | ((with_reducible apply Within.step (State.power_within ..)); · rfl)
    | ((with_reducible apply Within.step (State.leaveSurge_within ..)); · rfl)

theorem execInputOver44V_within (a0 a1 s) : WithinRes 0x1002000880002 s (execInputOver44V a0 a1 s) := by
  unfold execInputOver44V
  try dsimp only
  repeat' first
    | with_reducible apply Within.refl
    | with_reducible apply Within.ite
    | with_reducible apply WithinRes.ite
    | with_reducible apply WithinRes.fault
    | with_reducible apply WithinRes.next
    | ((with_reducible apply Within.step (State.power_within ..)); · rfl)
    | ((with_reducible apply Within.step (State.event_within ..)); · rfl)
    | with_reducible refine Within.update ?_ rfl

theorem execInputOver48V_within (a0 a1 s) : WithinRes 0x16ff200890206 s (execInputOver48V a0 a1 s) := by
  unfold execInputOver48V
  try dsimp only
  repeat' first
    | with_reducible apply Within.refl
    | with_reducible apply Within.ite
    | with_reducible apply WithinRes.ite
    | with_reducible apply WithinRes.fault
    | with_reducible apply WithinRes.next
    | ((with_reducible apply Within.step (State.power_within ..)); · rfl)
    | ((with_reducible apply Within.step (State.powerLost_within ..)); · rfl)
    | ((with_reducible apply Within.step (State.event_within ..)); · rfl)
    | with_reducible refine Within.update ?_ rfl

theorem execPsmFault_within (a0 a1 a2 s) : WithinRes 0x1002000880002 s (execPsmFault a0 a1 a2 s) := by
  unfold execPsmFault
  try dsimp only
  repeat' first
    | with_reducible apply Within.refl
    | with_reducible apply Within.ite
    | with_reducible apply WithinRes.ite
    | with_reducible apply WithinRes.fault
    | with_reducible apply WithinRes.next
    | ((with_reducible apply put_within _ _ rfl); · rfl)
    | ((with_reducible apply Within.step (State.power_within ..)); · rfl)
    | ((with_reducible apply Within.step (State.leaveSurge_within ..)); · rfl)
    | ((with_reducible apply Within.step (State.event_within ..)); · rfl)

theorem execInputCurrentHigh_within (a0 a1 s) : WithinRes 0x1002000880002 s (execInputCurrentHigh a0 a1 s) := by
  unfold execInputCurrentHigh
  try dsimp only
  repeat' first
    | with_reducible apply Within.refl
    | with_reducible apply Within.ite
    | with_reducible apply WithinRes.ite
    | with_reducible apply WithinRes.fault
    | with_reducible apply WithinRes.next
    | ((with_reducible apply bumpSat_within _ _ rfl); · rfl)
    | ((with_reducible apply Within.step (State.power_within ..)); · rfl)
    | ((with_reducible apply Within.step (State.showDuty_within ..)); · rfl)
    | ((with_reducible apply Within.step (State.event_within ..)); · rfl)
    | with_reducible refine Within.update ?_ rfl

theorem execDutyStep_within (a0 a1 s) : WithinRes 0x1000000880002 s (execDutyStep a0 a1 s) := by
  unfold execDutyStep
  try dsimp only
  repeat' first
    | with_reducible apply Within.refl
    | with_reducible apply Within.ite
    | with_reducible apply WithinRes.ite
    | with_reducible apply WithinRes.fault
    | with_reducible apply WithinRes.next
    | ((with_reducible apply Within.step (State.showDuty_within ..)); · rfl)
    | ((with_reducible apply Within.step (State.power_within ..)); · rfl)
    | with_reducible refine Within.update ?_ rfl

theorem execTjHot_within (a0 a1 s) : WithinRes 0x1002000880002 s (execTjHot a0 a1 s) := by
  unfold execTjHot
  try dsimp only
  repeat' first
    | with_reducible apply Within.refl
    | with_reducible apply Within.ite
    | with_reducible apply WithinRes.ite
    | with_reducible apply WithinRes.fault
    | with_reducible apply WithinRes.next
    | ((with_reducible apply bumpSat_within _ _ rfl); · rfl)
    | ((with_reducible apply Within.step (State.power_within ..)); · rfl)
    | ((with_reducible apply Within.step (State.leaveSurge_within ..)); · rfl)
    | ((with_reducible apply Within.step (State.event_within ..)); · rfl)
    | with_reducible refine Within.update ?_ rfl

theorem State.heatUp_within (s) : Within 0x1000000080000 s (State.heatUp s) := by
  unfold State.heatUp
  try dsimp only
  repeat' first
    | with_reducible apply Within.refl
    | with_reducible apply Within.ite
    | ((with_reducible apply Within.step (State.ramp_within ..)); · rfl)
    | ((with_reducible apply Within.step (State.showDuty_within ..)); · rfl)
    | with_reducible refine Within.update ?_ rfl

theorem State.coolDown_within (s) : Within 0x1000000080000 s (State.coolDown s) := by
  unfold State.coolDown
  try dsimp only
  repeat' first
    | with_reducible apply Within.refl
    | with_reducible apply Within.ite
    | ((with_reducible apply Within.step (State.ramp_within ..)); · rfl)
    | ((with_reducible apply Within.step (State.showDuty_within ..)); · rfl)
    | with_reducible refine Within.update ?_ rfl

theorem execThermalStep_within (a0 a1 s) : WithinRes 0x1000000880002 s (execThermalStep a0 a1 s) := by
  unfold execThermalStep
  try dsimp only
  repeat' first
    | with_reducible apply Within.refl
    | with_reducible apply Within.ite
    | with_reducible apply WithinRes.ite
    | with_reducible apply WithinRes.fault
    | with_reducible apply WithinRes.next
    | ((with_reducible apply Within.step (State.power_within ..)); · rfl)
    | ((with_reducible apply Within.step (State.heatUp_within ..)); · rfl)
    | ((with_reducible apply Within.step (State.coolDown_within ..)); · rfl)

theorem execTjTrip_within (a0 a1 s) : WithinRes 0x52efaffffffff s (execTjTrip a0 a1 s) := by
  unfold execTjTrip
  try dsimp only
  repeat' first
    | with_reducible apply Within.refl
    | with_reducible apply Within.ite
    | with_reducible apply WithinRes.ite
    | with_reducible apply WithinRes.fault
    | with_reducible apply WithinRes.next
    | ((with_reducible apply Within.step (State.power_within ..)); · rfl)
    | ((with_reducible apply Within.step (State.enterStep_within ..)); · rfl)
    | ((with_reducible apply Within.step (State.event_within ..)); · rfl)
    | with_reducible refine Within.update ?_ rfl

theorem execShedStepEnter_within (a0 a1 a2 s) : WithinRes 0x56ffaffffffff s (execShedStepEnter a0 a1 a2 s) := by
  unfold execShedStepEnter
  try dsimp only
  repeat' first
    | with_reducible apply Within.refl
    | with_reducible apply Within.ite
    | with_reducible apply WithinRes.ite
    | with_reducible apply WithinRes.fault
    | with_reducible apply WithinRes.next
    | ((with_reducible apply Within.step (State.power_within ..)); · rfl)
    | ((with_reducible apply Within.step (State.enterStep_within ..)); · rfl)
    | ((with_reducible apply Within.step (State.stepSeven_within ..)); · rfl)

theorem execShedStepLeave_within (a0 a1 a2 a3 s) : WithinRes 0x77ffeffffffff s (execShedStepLeave a0 a1 a2 a3 s) := by
  unfold execShedStepLeave
  try dsimp only
  repeat' first
    | with_reducible apply Within.refl
    | with_reducible apply Within.ite
    | with_reducible apply WithinRes.ite
    | with_reducible apply WithinRes.fault
    | with_reducible apply WithinRes.next
    | ((with_reducible apply put_within _ _ rfl); · rfl)
    | ((with_reducible apply Within.step (State.power_within ..)); · rfl)
    | ((with_reducible apply Within.step (State.leaveStep_within ..)); · rfl)
    | ((with_reducible apply Within.step (State.markReady_within ..)); · rfl)
    | ((with_reducible apply Within.step (State.event_within ..)); · rfl)
    | ((with_reducible apply Within.step (State.restart_within ..)); · rfl)

theorem execFlushComplete_within (a0 s) : WithinRes 0x56ffa008dd706 s (execFlushComplete a0 s) := by
  unfold execFlushComplete
  try dsimp only
  repeat' first
    | with_reducible apply Within.refl
    | with_reducible apply Within.ite
    | with_reducible apply WithinRes.ite
    | with_reducible apply WithinRes.fault
    | with_reducible apply WithinRes.next
    | ((with_reducible apply Within.step (State.mirrorAll_within ..)); · rfl)
    | ((with_reducible apply Within.step (State.stepSeven_within ..)); · rfl)
    | ((with_reducible apply Within.step (State.account__within ..)); · rfl)
    | ((with_reducible apply Within.step (State.flushJournal_within ..)); · rfl)
    | with_reducible refine Within.update ?_ rfl

theorem execInputBelow18V_within (a0 a1 s) : WithinRes 0x16ff200890206 s (execInputBelow18V a0 a1 s) := by
  unfold execInputBelow18V
  try dsimp only
  repeat' first
    | with_reducible apply Within.refl
    | with_reducible apply Within.ite
    | with_reducible apply WithinRes.ite
    | with_reducible apply WithinRes.fault
    | with_reducible apply WithinRes.next
    | ((with_reducible apply Within.step (State.power_within ..)); · rfl)
    | ((with_reducible apply Within.step (State.powerLost_within ..)); · rfl)

end Sys2Proof.Machine
end

