-- ==== Sys2Proof/Laws/Ras.lean ====
section
/-! SUPPORT. What each operation of Machine/Ras.lean can change (`Within`, Laws/Within.lean). -/

namespace Sys2Proof.Machine

set_option Elab.async false

theorem execFacetStoreUe_within (a0 a1 a2 s) : WithinRes 0x43efaffffffff s (execFacetStoreUe a0 a1 a2 s) := by
  unfold execFacetStoreUe
  try dsimp only
  repeat' first
    | with_reducible apply Within.refl
    | with_reducible apply Within.ite
    | with_reducible apply WithinRes.ite
    | with_reducible apply WithinRes.fault
    | with_reducible apply WithinRes.next
    | ((with_reducible apply Within.step (State.tick_within ..)); · rfl)
    | ((with_reducible apply Within.step (State.facetUe_within ..)); · rfl)
    | ((with_reducible apply Within.step (State.markReady_within ..)); · rfl)

theorem execD2dRetrain_within (a0 a1 a2 a3 a4 s) : WithinRes 0x102000900002 s (execD2dRetrain a0 a1 a2 a3 a4 s) := by
  unfold execD2dRetrain
  try dsimp only
  repeat' first
    | with_reducible apply Within.refl
    | with_reducible apply Within.ite
    | with_reducible apply WithinRes.ite
    | with_reducible apply WithinRes.fault
    | with_reducible apply WithinRes.next
    | ((with_reducible apply bumpSat_within _ _ (F.RAS_D2D_RETRAINS_block _)); · rfl)
    | ((with_reducible apply bumpSat_within _ _ (F.RAS_D2D_RETRIES_block _)); · rfl)
    | ((with_reducible apply Within.step (State.tick_within ..)); · rfl)
    | ((with_reducible apply Within.step (State.errors_within ..)); · rfl)
    | with_reducible refine Within.update ?_ rfl

theorem execD2dLinkFail_within (a0 a1 s) : WithinRes 0x42efaffffffff s (execD2dLinkFail a0 a1 s) := by
  unfold execD2dLinkFail
  try dsimp only
  repeat' first
    | with_reducible apply Within.refl
    | with_reducible apply Within.ite
    | with_reducible apply WithinRes.ite
    | with_reducible apply WithinRes.fault
    | with_reducible apply WithinRes.next
    | ((with_reducible apply Within.step (State.tick_within ..)); · rfl)
    | ((with_reducible apply Within.step (State.failLink_within ..)); · rfl)
    | ((with_reducible apply Within.step (State.markReady_within ..)); · rfl)

theorem execScrubRead_within (a0 a1 s) : WithinRes 0x43ffaffffffff s (execScrubRead a0 a1 s) := by
  unfold execScrubRead
  try dsimp only
  repeat' first
    | with_reducible apply Within.refl
    | with_reducible apply Within.ite
    | with_reducible apply WithinRes.ite
    | with_reducible apply WithinRes.fault
    | with_reducible apply WithinRes.next
    | ((with_reducible apply Within.step (State.ueLine_within ..)); · rfl)
    | ((with_reducible apply Within.step (State.tick_within ..)); · rfl)
    | ((with_reducible apply Within.step (State.nextWord_within ..)); · rfl)
    | ((with_reducible apply Within.step (State.facetUe_within ..)); · rfl)
    | ((with_reducible apply Within.step (State.nextLine_within ..)); · rfl)
    | ((with_reducible apply Within.step (State.corrected_within ..)); · rfl)
    | ((with_reducible apply Within.step (State.markReady_within ..)); · rfl)
    | ((with_reducible apply WithinRes.step (execCoreFault_within ..)); · rfl)
    | with_reducible refine Within.update ?_ rfl
    | split

theorem execScrubPeriodEnd_within (a0 a1 s) : WithinRes 0x102000800002 s (execScrubPeriodEnd a0 a1 s) := by
  unfold execScrubPeriodEnd
  try dsimp only
  repeat' first
    | with_reducible apply Within.refl
    | with_reducible apply Within.ite
    | with_reducible apply WithinRes.ite
    | with_reducible apply WithinRes.fault
    | with_reducible apply WithinRes.next
    | ((with_reducible apply Within.step (State.event_within ..)); · rfl)
    | ((with_reducible apply Within.step (State.tick_within ..)); · rfl)
    | with_reducible refine Within.update ?_ rfl

theorem execRasInjectWrite_within (a0 a1 a2 s) : WithinRes 0x43ffaffffffff s (execRasInjectWrite a0 a1 a2 s) := by
  unfold execRasInjectWrite
  try dsimp only
  repeat' first
    | with_reducible apply Within.refl
    | with_reducible apply Within.ite
    | with_reducible apply WithinRes.ite
    | with_reducible apply WithinRes.fault
    | with_reducible apply WithinRes.next
    | ((with_reducible apply put_within _ _ rfl); · rfl)
    | ((with_reducible apply bumpSat_within _ _ rfl); · rfl)
    | ((with_reducible apply Within.step (State.tick_within ..)); · rfl)
    | ((with_reducible apply Within.step (State.facetUe_within ..)); · rfl)
    | ((with_reducible apply Within.step (State.corrected_within ..)); · rfl)
    | ((with_reducible apply Within.step (State.markReady_within ..)); · rfl)
    | ((with_reducible apply Within.step (State.ueLine_within ..)); · rfl)
    | ((with_reducible apply WithinRes.step (execCoreFault_within ..)); · rfl)
    | with_reducible apply WithinOpt.mapState
    | intro _
    | with_reducible refine Within.update ?_ rfl
    | split

theorem execRasRetireClr_within (a0 s) : WithinRes 0x100000000000 s (execRasRetireClr a0 s) := by
  unfold execRasRetireClr
  try dsimp only
  repeat' first
    | with_reducible apply Within.refl
    | with_reducible apply Within.ite
    | with_reducible apply WithinRes.ite
    | with_reducible apply WithinRes.fault
    | with_reducible apply WithinRes.next
    | with_reducible refine Within.update ?_ rfl

end Sys2Proof.Machine
end

