-- ==== Sys2Proof/Laws/Registers.lean ====
section
/-! SUPPORT. What each operation of Machine/Registers.lean can change (`Within`, Laws/Within.lean). -/

namespace Sys2Proof.Machine

set_option Elab.async false

theorem State.afterWrite_within (s a1 a2 a3 a4 a5) : Within 0x1206a01850003 s (State.afterWrite s a1 a2 a3 a4 a5) := by
  unfold State.afterWrite
  try dsimp only
  repeat' first
    | with_reducible apply Within.refl
    | with_reducible apply Within.ite
    | ((with_reducible apply put_within _ _ (F.KTR_PORT_STAT_LINK_block _)); · rfl)
    | ((with_reducible apply put_within _ _ rfl); · rfl)
    | ((with_reducible apply Within.step (State.acctDrain_within ..)); · rfl)
    | ((with_reducible apply Within.step (State.event_within ..)); · rfl)
    | ((with_reducible apply Within.step (State.dropLink_within ..)); · rfl)
    | ((with_reducible apply Within.step (State.drainInbox_within ..)); · rfl)
    | ((with_reducible apply Within.step (State.enterWindows_within ..)); · rfl)
    | with_reducible refine Within.update ?_ rfl
    | split

theorem State.stage_within (s a1 a2 a3 a4 a5) : Within 0x2ffffffff s (State.stage s a1 a2 a3 a4 a5) := by
  have h : Within 0x2ffffffff s (s.put a4 a5) := put_within _ _ rfl (every_block_of (m := 0x2ffffffff) rfl _) .refl
  unfold State.stage
  split
  · split
    · exact Within.update .refl rfl
    · exact h
  · exact Within.update .refl rfl
  · exact Within.update .refl rfl
  · exact (State.settleIdle_within ..).step rfl (Within.update .refl rfl)
  · exact h

theorem State.clearBy_within (s a1 a2 a3 a4) : Within 0xffffffff s (State.clearBy s a1 a2 a3 a4) := by
  have h : Within 0xffffffff s (s.put a4 0) := put_within _ _ rfl (every_block_of (m := 0xffffffff) rfl _) .refl
  unfold State.clearBy
  split
  · exact put_within _ _ rfl (every_block_of (m := 0xffffffff) rfl _) (put_within _ _ rfl (every_block_of (m := 0xffffffff) rfl _) h)
  · exact put_within _ _ rfl (every_block_of (m := 0xffffffff) rfl _) h
  · exact h

theorem State.writeField_within (s a1 a2 a3 a4) : Within 0x1206effffffff s (State.writeField s a1 a2 a3 a4) := by
  have hp := fun v => put_within (t := s) (a1.field a4) v rfl (every_block_of (m := 0x1206effffffff) rfl _) .refl
  have hw := fun v w => (State.afterWrite_within (s.put (a1.field a4) v) a2 a1.desc.off a1.i (a1.field a4) w).step
    (m := 0x1206effffffff) rfl (hp v)
  have hd := (State.cfgDropped_within s (a1.field a4)).mono (m := 0x1206effffffff) rfl
  unfold State.writeField
  dsimp only
  split
  · exact .refl
  · split
    · exact .refl
    · exact .refl
    · exact .ite ((State.clearBy_within ..).mono rfl) .refl
    · exact .ite hd (put_within _ _ rfl (every_block_of (m := 0x1206effffffff) rfl _) (Within.update .refl rfl))
    · refine .ite hd (.ite hd ?_)
      split
      · exact hw ..
      · exact hw ..
      · exact .ite hd (hw ..)
      · exact (State.stage_within ..).mono rfl

theorem execRegWrite_within (a0 s) : WithinRes 0x1206effffffff s (execRegWrite a0 s) := by
  unfold execRegWrite
  try dsimp only
  repeat' first
    | with_reducible apply Within.refl
    | with_reducible apply Within.ite
    | with_reducible apply WithinRes.ite
    | with_reducible apply WithinRes.fault
    | with_reducible apply WithinRes.next
    | ((with_reducible apply Within.step (State.writeField_within ..)); · rfl)
    | ((with_reducible apply Within.step (State.badAccess_within ..)); · rfl)
    | ((with_reducible apply Within.step (State.markReady_within ..)); · rfl)
    | ((with_reducible apply Within.step (State.event_within ..)); · rfl)
    | with_reducible refine Within.update ?_ rfl
    | with_reducible apply Within.foldl
    | intro _ _
    | split

end Sys2Proof.Machine
end

