-- ==== Sys2Proof/Laws/Scalar.lean ====
section
/-! SUPPORT. What each operation of Machine/Scalar.lean can change (`Within`, Laws/Within.lean). -/

namespace Sys2Proof.Machine

set_option Elab.async false

theorem execAdd_within (a0 a1 a2 a3 s) : WithinRes 0x1000000000 s (execAdd a0 a1 a2 a3 s) :=
  onCore_within _ _ _ (fun _ _ => scalarOp_counts ..) rfl

theorem execSub_within (a0 a1 a2 a3 s) : WithinRes 0x1000000000 s (execSub a0 a1 a2 a3 s) :=
  onCore_within _ _ _ (fun _ _ => scalarOp_counts ..) rfl

theorem execMul_within (a0 a1 a2 a3 s) : WithinRes 0x1000000000 s (execMul a0 a1 a2 a3 s) :=
  onCore_within _ _ _ (fun _ _ => scalarOp_counts ..) rfl

theorem execMulhu_within (a0 a1 a2 a3 s) : WithinRes 0x1000000000 s (execMulhu a0 a1 a2 a3 s) :=
  onCore_within _ _ _ (fun _ _ => scalarOp_counts ..) rfl

theorem execAnd_within (a0 a1 a2 a3 s) : WithinRes 0x1000000000 s (execAnd a0 a1 a2 a3 s) :=
  onCore_within _ _ _ (fun _ _ => scalarOp_counts ..) rfl

theorem execOr_within (a0 a1 a2 a3 s) : WithinRes 0x1000000000 s (execOr a0 a1 a2 a3 s) :=
  onCore_within _ _ _ (fun _ _ => scalarOp_counts ..) rfl

theorem execXor_within (a0 a1 a2 a3 s) : WithinRes 0x1000000000 s (execXor a0 a1 a2 a3 s) :=
  onCore_within _ _ _ (fun _ _ => scalarOp_counts ..) rfl

theorem execSll_within (a0 a1 a2 a3 s) : WithinRes 0x1000000000 s (execSll a0 a1 a2 a3 s) :=
  onCore_within _ _ _ (fun _ _ => scalarOp_counts ..) rfl

theorem execSrl_within (a0 a1 a2 a3 s) : WithinRes 0x1000000000 s (execSrl a0 a1 a2 a3 s) :=
  onCore_within _ _ _ (fun _ _ => scalarOp_counts ..) rfl

theorem execSra_within (a0 a1 a2 a3 s) : WithinRes 0x1000000000 s (execSra a0 a1 a2 a3 s) :=
  onCore_within _ _ _ (fun _ _ => scalarOp_counts ..) rfl

theorem execSlt_within (a0 a1 a2 a3 s) : WithinRes 0x1000000000 s (execSlt a0 a1 a2 a3 s) :=
  onCore_within _ _ _ (fun _ _ => scalarOp_counts ..) rfl

theorem execSltu_within (a0 a1 a2 a3 s) : WithinRes 0x1000000000 s (execSltu a0 a1 a2 a3 s) :=
  onCore_within _ _ _ (fun _ _ => scalarOp_counts ..) rfl

theorem execMin_within (a0 a1 a2 a3 s) : WithinRes 0x1000000000 s (execMin a0 a1 a2 a3 s) :=
  onCore_within _ _ _ (fun _ _ => scalarOp_counts ..) rfl

theorem execMax_within (a0 a1 a2 a3 s) : WithinRes 0x1000000000 s (execMax a0 a1 a2 a3 s) :=
  onCore_within _ _ _ (fun _ _ => scalarOp_counts ..) rfl

theorem execFadd_within (a0 a1 a2 a3 s) : WithinRes 0x1000000000 s (execFadd a0 a1 a2 a3 s) :=
  onCore_within _ _ _ (fun _ _ => scalarOp_counts ..) rfl

theorem execFsub_within (a0 a1 a2 a3 s) : WithinRes 0x1000000000 s (execFsub a0 a1 a2 a3 s) :=
  onCore_within _ _ _ (fun _ _ => scalarOp_counts ..) rfl

theorem execFmul_within (a0 a1 a2 a3 s) : WithinRes 0x1000000000 s (execFmul a0 a1 a2 a3 s) :=
  onCore_within _ _ _ (fun _ _ => scalarOp_counts ..) rfl

theorem execFmin_within (a0 a1 a2 a3 s) : WithinRes 0x1000000000 s (execFmin a0 a1 a2 a3 s) :=
  onCore_within _ _ _ (fun _ _ => scalarOp_counts ..) rfl

theorem execFmax_within (a0 a1 a2 a3 s) : WithinRes 0x1000000000 s (execFmax a0 a1 a2 a3 s) :=
  onCore_within _ _ _ (fun _ _ => scalarOp_counts ..) rfl

theorem execFcvtF32I64_within (a0 a1 a2 a3 s) : WithinRes 0x1000000000 s (execFcvtF32I64 a0 a1 a2 a3 s) :=
  onCore_within _ _ _ (fun _ _ => scalarOp_counts ..) rfl

theorem execFcvtI64F32_within (a0 a1 a2 a3 s) : WithinRes 0x1000000000 s (execFcvtI64F32 a0 a1 a2 a3 s) :=
  onCore_within _ _ _ (fun _ _ => scalarOp_counts ..) rfl

theorem execLi_within (a0 a1 a2 a3 s) : WithinRes 0x1000000000 s (execLi a0 a1 a2 a3 s) :=
  onCore_within _ _ _ (fun _ _ => scalarOp_counts ..) rfl

theorem execLih_within (a0 a1 a2 a3 s) : WithinRes 0x1000000000 s (execLih a0 a1 a2 a3 s) :=
  onCore_within _ _ _ (fun _ _ => scalarOp_counts ..) rfl

theorem execBr_within (a0 a1 a2 a3 a4 a5 s) : WithinRes 0x1000000000 s (execBr a0 a1 a2 a3 a4 a5 s) :=
  onCore_within _ _ _ (fun _ _ => branch_counts ..) rfl

theorem execJl_within (a0 a1 a2 a3 a4 a5 s) : WithinRes 0x1000000000 s (execJl a0 a1 a2 a3 a4 a5 s) :=
  onCore_within _ _ _ (fun _ _ => jumpLink_counts ..) rfl

theorem execJr_within (a0 a1 a2 a3 a4 a5 s) : WithinRes 0x1000000000 s (execJr a0 a1 a2 a3 a4 a5 s) :=
  onCore_within _ _ _ (fun _ _ => jumpReg_counts ..) rfl

theorem execLd8_within (a0 a1 a2 a3 a4 s) : WithinRes 0x1000000000 s (execLd8 a0 a1 a2 a3 a4 s) :=
  onCore_within _ _ _ (fun _ _ => scalarLoad_counts ..) rfl

theorem execLd16_within (a0 a1 a2 a3 a4 s) : WithinRes 0x1000000000 s (execLd16 a0 a1 a2 a3 a4 s) :=
  onCore_within _ _ _ (fun _ _ => scalarLoad_counts ..) rfl

theorem execLd32_within (a0 a1 a2 a3 a4 s) : WithinRes 0x1000000000 s (execLd32 a0 a1 a2 a3 a4 s) :=
  onCore_within _ _ _ (fun _ _ => scalarLoad_counts ..) rfl

theorem execLd64_within (a0 a1 a2 a3 a4 s) : WithinRes 0x1000000000 s (execLd64 a0 a1 a2 a3 a4 s) :=
  onCore_within _ _ _ (fun _ _ => scalarLoad_counts ..) rfl

theorem execSt8_within (a0 a1 a2 a3 a4 s) : WithinRes 0x1000000000 s (execSt8 a0 a1 a2 a3 a4 s) :=
  onCore_within _ _ _ (fun _ _ => scalarStore_counts ..) rfl

theorem execSt16_within (a0 a1 a2 a3 a4 s) : WithinRes 0x1000000000 s (execSt16 a0 a1 a2 a3 a4 s) :=
  onCore_within _ _ _ (fun _ _ => scalarStore_counts ..) rfl

theorem execSt32_within (a0 a1 a2 a3 a4 s) : WithinRes 0x1000000000 s (execSt32 a0 a1 a2 a3 a4 s) :=
  onCore_within _ _ _ (fun _ _ => scalarStore_counts ..) rfl

theorem execSt64_within (a0 a1 a2 a3 a4 s) : WithinRes 0x1000000000 s (execSt64 a0 a1 a2 a3 a4 s) :=
  onCore_within _ _ _ (fun _ _ => scalarStore_counts ..) rfl

end Sys2Proof.Machine
end

