-- ==== Sys2Proof/Laws/Vector.lean ====
section
/-! SUPPORT. What each operation of Machine/Vector.lean can change (`Within`, Laws/Within.lean). -/

namespace Sys2Proof.Machine

set_option Elab.async false

theorem execVld_within (a0 a1 a2 a3 a4 a5 s) : WithinRes 0x1000000078 s (execVld a0 a1 a2 a3 a4 a5 s) :=
  onCore_within _ _ _ (fun _ _ => vldOp_counts ..) rfl

theorem execVst_within (a0 a1 a2 a3 a4 a5 s) : WithinRes 0x1000000078 s (execVst a0 a1 a2 a3 a4 a5 s) :=
  onCore_within _ _ _ (fun _ _ => vstOp_counts ..) rfl

theorem execVbcast_within (a0 a1 a2 a3 s) : WithinRes 0x1000000078 s (execVbcast a0 a1 a2 a3 s) :=
  onCore_within _ _ _ (fun _ _ => vbcastOp_counts ..) rfl

theorem execVchain_within (a0 a1 a2 s) : WithinRes 0x1000000078 s (execVchain a0 a1 a2 s) :=
  onCore_within _ _ _ (fun _ _ => vchainOp_counts ..) rfl

theorem execVred_within (a0 a1 a2 a3 a4 a5 s) : WithinRes 0x1000000078 s (execVred a0 a1 a2 a3 a4 a5 s) :=
  onCore_within _ _ _ (fun _ _ => vredOp_counts ..) rfl

theorem execVderiv_within (a0 a1 a2 a3 a4 a5 s) : WithinRes 0x1000000078 s (execVderiv a0 a1 a2 a3 a4 a5 s) :=
  onCore_within _ _ _ (fun _ _ => vderivOp_counts ..) rfl

theorem execVmset_within (a0 a1 a2 a3 s) : WithinRes 0x1000000078 s (execVmset a0 a1 a2 a3 s) :=
  onCore_within _ _ _ (fun _ _ => vmsetOp_counts ..) rfl

theorem execVmld_within (a0 a1 a2 a3 s) : WithinRes 0x1000000078 s (execVmld a0 a1 a2 a3 s) :=
  onCore_within _ _ _ (fun _ _ => vmldOp_counts ..) rfl

theorem execVmst_within (a0 a1 a2 a3 s) : WithinRes 0x1000000078 s (execVmst a0 a1 a2 a3 s) :=
  onCore_within _ _ _ (fun _ _ => vmstOp_counts ..) rfl

theorem execSelk_within (a0 a1 a2 s) : WithinRes 0x1000000078 s (execSelk a0 a1 a2 s) :=
  onCore_within _ _ _ (fun _ _ => selectOp_counts ..) rfl

theorem execSelt_within (a0 a1 a2 s) : WithinRes 0x1000000078 s (execSelt a0 a1 a2 s) :=
  onCore_within _ _ _ (fun _ _ => selectOp_counts ..) rfl

end Sys2Proof.Machine
end

