-- ==== Sys2Proof/Laws/Exec.lean ====
section
/-! SUPPORT. What each command can change, by constructor. -/

namespace Sys2Proof.Machine

set_option Elab.async false

/-- The mask of what a command can change. -/
def execMask : Instr → Nat
  | .regWrite _ => 0x1206effffffff
  | .add _ _ _ _ => 0x1000000000
  | .sub _ _ _ _ => 0x1000000000
  | .mul _ _ _ _ => 0x1000000000
  | .mulhu _ _ _ _ => 0x1000000000
  | .and _ _ _ _ => 0x1000000000
  | .or _ _ _ _ => 0x1000000000
  | .xor _ _ _ _ => 0x1000000000
  | .sll _ _ _ _ => 0x1000000000
  | .srl _ _ _ _ => 0x1000000000
  | .sra _ _ _ _ => 0x1000000000
  | .slt _ _ _ _ => 0x1000000000
  | .sltu _ _ _ _ => 0x1000000000
  | .min _ _ _ _ => 0x1000000000
  | .max _ _ _ _ => 0x1000000000
  | .fadd _ _ _ _ => 0x1000000000
  | .fsub _ _ _ _ => 0x1000000000
  | .fmul _ _ _ _ => 0x1000000000
  | .fmin _ _ _ _ => 0x1000000000
  | .fmax _ _ _ _ => 0x1000000000
  | .fcvtF32I64 _ _ _ _ => 0x1000000000
  | .fcvtI64F32 _ _ _ _ => 0x1000000000
  | .li _ _ _ _ => 0x1000000000
  | .lih _ _ _ _ => 0x1000000000
  | .br _ _ _ _ _ _ => 0x1000000000
  | .jl _ _ _ _ _ _ => 0x1000000000
  | .jr _ _ _ _ _ _ => 0x1000000000
  | .ld8 _ _ _ _ _ => 0x1000000000
  | .ld16 _ _ _ _ _ => 0x1000000000
  | .ld32 _ _ _ _ _ => 0x1000000000
  | .ld64 _ _ _ _ _ => 0x1000000000
  | .st8 _ _ _ _ _ => 0x1000000000
  | .st16 _ _ _ _ _ => 0x1000000000
  | .st32 _ _ _ _ _ => 0x1000000000
  | .st64 _ _ _ _ _ => 0x1000000000
  | .stage _ _ _ => 0x1100040278
  | .nop _ _ => 0x1000000000
  | .fence _ _ _ => 0x1000000000
  | .commit _ _ => 0x1faffffffff
  | .abort _ _ _ => 0x1000000000
  | .mloadW _ _ _ _ _ _ => 0x1000000078
  | .mrun _ _ _ _ _ _ _ _ _ _ _ => 0x1000000078
  | .mdrain _ _ _ _ _ _ => 0x1000000078
  | .mtov _ _ _ _ _ => 0x1000000078
  | .vld _ _ _ _ _ _ => 0x1000000078
  | .vst _ _ _ _ _ _ => 0x1000000078
  | .vbcast _ _ _ _ => 0x1000000078
  | .vchain _ _ _ => 0x1000000078
  | .vred _ _ _ _ _ _ => 0x1000000078
  | .vderiv _ _ _ _ _ _ => 0x1000000078
  | .vmset _ _ _ _ => 0x1000000078
  | .vmld _ _ _ _ => 0x1000000078
  | .vmst _ _ _ _ => 0x1000000078
  | .selk _ _ _ => 0x1000000078
  | .selt _ _ _ => 0x1000000078
  | .kput _ _ _ => 0x4603200850478
  | .geoProgram _ _ _ => 0x4603200850478
  | .commandDispatch _ _ _ => 0x42edaffffffff
  | .commandEnd _ _ => 0x46efaffffffff
  | .coreFault _ _ _ _ _ => 0x43ffaffffffff
  | .externalOverrunTimeout _ _ _ => 0x42edaffffffff
  | .coreRetire _ _ => 0x66ffffffff
  | .coreOffline _ _ => 0x42ffffffff
  | .facetDrain _ _ => 0x8
  | .placement _ => 0x42efaffffffff
  | .sliceEnd _ _ => 0x42ffffffff
  | .graceWindowEnd _ _ _ => 0x42edaffffffff
  | .periodBoundary _ => 0x4affffffff
  | .loupeWindowEnd _ => 0x6900c00002
  | .brxDoorbell _ _ _ _ => 0x6000800002
  | .hostRecordWrite _ => 0x4204000000000
  | .hostHeadPoll _ _ _ => 0x4000800002
  | .tenantEnable _ _ => 0x42e680080c002
  | .dspPostTail _ _ => 0x42ec80000c106
  | .opSuspend _ => 0x400c80020f102
  | .opResume _ => 0x400c80020f102
  | .opCancel _ => 0x46fc80020f106
  | .reservationGrant _ _ => 0x42ee80080c106
  | .pageBringUpDone _ _ => 0x420e800810102
  | .writeBack _ _ => 0x460a200850402
  | .writeBackDone _ _ _ => 0x40a000800102
  | .pageEvict _ _ => 0xa000800102
  | .hbmUeLine _ _ _ => 0x43efaffffffff
  | .journalGroupFlush _ => 0x460a200850502
  | .journalStripeAck _ _ => 0x46fea0085d502
  | .checkpoint _ => 0x460a200850502
  | .objPageRecovery _ _ _ => 0x42ee80080c106
  | .altFetchTimeout _ _ => 0x42ee80080c106
  | .map _ => 0x400c80020f102
  | .unmap _ => 0x46ec80020f106
  | .setHome _ _ => 0x460ea00a5f502
  | .prefetch _ _ => 0x400c80020f102
  | .evict _ _ => 0x460ea00a5f502
  | .pin _ => 0x400c80020f102
  | .unpin _ => 0x400c80020f102
  | .mapShared _ => 0x400c80020f102
  | .objRegister _ => 0x400c80020f102
  | .objSetAlt _ => 0x400c80020f102
  | .objSeal _ => 0x460ea00a5f502
  | .objRewrite _ => 0x400c80020f102
  | .objRetire _ => 0x440c80020f102
  | .hbmRetire _ _ => 0x42efeffffffff
  | .stackFail _ _ => 0x42efaffffffff
  | .ftbCreate _ => 0x401c80020f102
  | .ftbDrop _ => 0x401c80020f102
  | .ftbMigrate _ => 0x401c80020f102
  | .gather _ _ => 0x42fc80080e106
  | .scatterAddApply _ _ => 0x401c800802102
  | .decayTick _ _ => 0x10000800002
  | .migrationStart _ _ => 0x401c800000102
  | .migrationSwitch _ _ => 0x401c800002102
  | .migrationFree _ _ => 0x18000000000
  | .open_ _ _ => 0x46eea0085d506
  | .feed _ _ => 0x46eea0085d506
  | .pack _ _ => 0x42ec80080c106
  | .contextEvict _ _ _ => 0x20000800002
  | .dictLoad _ => 0x402c80020f102
  | .dictUnload _ => 0x40ec80020f102
  | .gramLoad _ _ => 0x42ec80020f106
  | .gramUnload _ => 0x40ec80020f102
  | .idxCreate _ => 0x444ea00a5f502
  | .idxDrop _ => 0x46ec80020f102
  | .idxFold _ => 0x404c80020f102
  | .idxRepair _ => 0x404c80020f102
  | .itemCopyWrite _ _ _ => 0x46eea0085d502
  | .foldPublish _ _ => 0x44ea00850500
  | .foldReclaim _ => 0x46eea0085d502
  | .idxCtlWrite _ => 0x1000
  | .probeOrder _ _ => 0x42ec80000c106
  | .probeDispatch _ => 0x42ec80000c906
  | .scanUnitScore _ _ _ _ => 0x40100000800
  | .sideListSearch _ => 0x42ec80000c106
  | .mergeStart _ => 0x42e680080c882
  | .candidateFetch _ => 0x44000000000
  | .rescore _ => 0x42ee80080c186
  | .passageFetch _ => 0xe6000800080
  | .csuProgLoad _ _ => 0x42000800800
  | .genModelLoad _ => 0x408c80020f102
  | .genModelUnload _ => 0x40ec80020f102
  | .formPass _ _ _ => 0x42ec80080c106
  | .passCommit _ _ _ _ => 0x42ee80080c106
  | .detokenise _ _ => 0x84000804002
  | .grammarAdvance _ _ _ _ => 0x8e800804102
  | .draftWalk _ _ _ _ _ => 0x8e800804102
  | .stageAdvance _ _ _ => 0x42ec80080c106
  | .shipClaim _ _ => 0x4280000808002
  | .shipGrant _ _ _ => 0x4280000808002
  | .shipChunk _ _ => 0x4280000800002
  | .shipManifest _ _ _ _ => 0x428c80080c002
  | .shipAck _ _ => 0x42e480080c002
  | .shipNack _ _ => 0x42ec80080c106
  | .shipAbort _ _ => 0x4280000808002
  | .orphanMsExpiry _ _ _ => 0x4282000808002
  | .request _ => 0x46eea0085d506
  | .indexUpdate _ => 0x46eea0085d506
  | .cancel _ => 0x46eea0085d507
  | .suspend _ => 0x4800800002
  | .resume _ => 0x4800800002
  | .service _ => 0x4800800003
  | .heldRequestAdmit _ _ => 0x46eea0085d506
  | .flashOpStart _ _ _ _ => 0x46eeb0085d702
  | .flashUnitRead _ _ _ => 0x47eea0095c506
  | .geoProgramAck _ _ _ => 0x401800800002
  | .garbageCollect _ _ _ _ => 0x402200850402
  | .patrolRead _ _ => 0x47eea0095c506
  | .patrolPeriodEnd _ => 0x402000800002
  | .cartridgeInsert _ _ _ => 0x406200850402
  | .cartridgeRemoved _ _ => 0x406200850402
  | .channelUnanswered _ _ => 0x406200850402
  | .bayEject _ _ => 0x402200850400
  | .bayReadyToPull _ _ => 0x4400200850402
  | .bayAdmit _ _ => 0x402200850400
  | .rebuildStripe _ _ => 0x406200850402
  | .load _ _ => 0x42ee80081c106
  | .store _ _ _ => 0x42ee80081c106
  | .put _ _ _ => 0x42ee80081c106
  | .fadd64 _ _ _ => 0x42ee80081c106
  | .swap64 _ _ _ => 0x42ee80081c106
  | .cas64 _ _ _ _ => 0x42ee80081c106
  | .ktrAck _ _ _ _ _ _ _ => 0x42ec80080c106
  | .ktrResp _ _ _ => 0x42ed80080c106
  | .ktrNack _ _ _ => 0x42ef80080c106
  | .rtoExpiry _ _ _ _ => 0x200000810002
  | .unreachTimeout _ _ => 0x42ee80081c106
  | .linkDrop _ _ _ => 0x202200850002
  | .ktrWinSync _ => 0x202800800000
  | .frameSend _ _ _ _ => 0x202000810000
  | .frameReceive _ _ _ => 0x200000030000
  | .gateGo _ _ _ => 0x202000830000
  | .gateSwitch _ _ => 0x200000030000
  | .gateEntryEnd _ _ => 0x200000010000
  | .ptpLock _ _ _ _ => 0x200000010000
  | .ptpMasterLost _ _ => 0x2000810000
  | .queueSample _ _ _ => 0x200800030000
  | .refOscFault _ => 0x2000840002
  | .refOscReturn _ => 0x840002
  | .islandClockStop _ _ _ => 0x200850202
  | .islandWake _ _ _ => 0x840202
  | .islandReset _ _ _ _ => 0x46efaffffffff
  | .islandResetExit _ _ => 0x400200850602
  | .linkUp _ _ => 0x810002
  | .targetWrite _ _ => 0x1002000880002
  | .rampDone _ => 0x1000000880002
  | .surgeEnter _ _ => 0x1000000880002
  | .surgeLeave _ _ _ => 0x1002000880002
  | .inputOver44V _ _ => 0x1002000880002
  | .inputOver48V _ _ => 0x16ff200890206
  | .psmFault _ _ _ => 0x1002000880002
  | .inputCurrentHigh _ _ => 0x1002000880002
  | .dutyStep _ _ => 0x1000000880002
  | .tjHot _ _ => 0x1002000880002
  | .thermalStep _ _ => 0x1000000880002
  | .tjTrip _ _ => 0x52efaffffffff
  | .shedStepEnter _ _ _ => 0x56ffaffffffff
  | .shedStepLeave _ _ _ _ => 0x77ffeffffffff
  | .flushComplete _ => 0x56ffa008dd706
  | .inputBelow18V _ _ => 0x16ff200890206
  | .facetStoreUe _ _ _ => 0x43efaffffffff
  | .d2dLinkFail _ _ => 0x42efaffffffff
  | .d2dRetrain _ _ _ _ _ => 0x102000900002
  | .scrubRead _ _ => 0x43ffaffffffff
  | .scrubPeriodEnd _ _ => 0x102000800002
  | .rasInjectWrite _ _ _ => 0x43ffaffffffff
  | .rasRetireClr _ => 0x100000000000
  | .report _ => 0x400c80020f102
  | .keyImport _ _ _ => 0x600c80020f102
  | .keyGenerate _ _ => 0x600c90020f102
  | .keyDestroy _ _ => 0x640c80020f102
  | .extend _ => 0x400c80020f102
  | .kemRotate _ => 0x600c80020f102
  | .rollbackCommit _ _ => 0x600c80020f102
  | .officerEnroll _ _ _ _ => 0x600c80020f102
  | .rootRevoke _ _ _ => 0x600c80020f102
  | .zeroise _ _ _ => 0x77ffeffffffff
  | .debugUnlock _ _ _ => 0x77ffeffffffff
  | .tamperTrigger _ _ _ => 0x77ffeffffffff
  | .sakRotate _ => 0x2200000010000
  | .powerOnReset _ => 0x7fffeffffffff
  | .warmRestart _ _ _ _ => 0x77ffeffffffff
  | .pldmColdRestart _ => 0x7fffeffffffff
  | .readyWrite _ => 0x2400800001
  | .partSvcDone _ => 0x42e480000c002
  | .norErase _ => 0x800001000000
  | .norProgram _ _ => 0x800001000000
  | .norRead _ => 0x800101000000
  | .pldmSensorUpdate _ => 0x800000800002
  | .pldmReadEventLog => 0x4002000800000
  | .evrRelease _ => 0x2000000000
  | .evrRecRead _ _ => 0x2000800000
  | .evrFreezeWrite _ _ => 0x2000800002
  | .freezeTimeout _ => 0x2000800002
  | .evrMirror _ => 0x2000800002
  | .opSecondsSave _ => 0x2000800002
  | .reservedInstructionWord _ _ => 0x1000000000

theorem exec_within (i : Instr) (s : State) : WithinRes (execMask i) s (exec i s) := by
  cases i with
  | regWrite => exact execRegWrite_within ..
  | add => exact execAdd_within ..
  | sub => exact execSub_within ..
  | mul => exact execMul_within ..
  | mulhu => exact execMulhu_within ..
  | and => exact execAnd_within ..
  | or => exact execOr_within ..
  | xor => exact execXor_within ..
  | sll => exact execSll_within ..
  | srl => exact execSrl_within ..
  | sra => exact execSra_within ..
  | slt => exact execSlt_within ..
  | sltu => exact execSltu_within ..
  | min => exact execMin_within ..
  | max => exact execMax_within ..
  | fadd => exact execFadd_within ..
  | fsub => exact execFsub_within ..
  | fmul => exact execFmul_within ..
  | fmin => exact execFmin_within ..
  | fmax => exact execFmax_within ..
  | fcvtF32I64 => exact execFcvtF32I64_within ..
  | fcvtI64F32 => exact execFcvtI64F32_within ..
  | li => exact execLi_within ..
  | lih => exact execLih_within ..
  | br => exact execBr_within ..
  | jl => exact execJl_within ..
  | jr => exact execJr_within ..
  | ld8 => exact execLd8_within ..
  | ld16 => exact execLd16_within ..
  | ld32 => exact execLd32_within ..
  | ld64 => exact execLd64_within ..
  | st8 => exact execSt8_within ..
  | st16 => exact execSt16_within ..
  | st32 => exact execSt32_within ..
  | st64 => exact execSt64_within ..
  | stage => exact execStage_within ..
  | nop => exact execNop_within ..
  | fence => exact execFence_within ..
  | commit => exact execCommit_within ..
  | abort => exact execAbort_within ..
  | mloadW => exact execMloadW_within ..
  | mrun => exact execMrun_within ..
  | mdrain => exact execMdrain_within ..
  | mtov => exact execMtov_within ..
  | vld => exact execVld_within ..
  | vst => exact execVst_within ..
  | vbcast => exact execVbcast_within ..
  | vchain => exact execVchain_within ..
  | vred => exact execVred_within ..
  | vderiv => exact execVderiv_within ..
  | vmset => exact execVmset_within ..
  | vmld => exact execVmld_within ..
  | vmst => exact execVmst_within ..
  | selk => exact execSelk_within ..
  | selt => exact execSelt_within ..
  | kput => exact execKput_within ..
  | geoProgram => exact execGeoProgram_within ..
  | commandDispatch => exact execCommandDispatch_within ..
  | commandEnd => exact execCommandEnd_within ..
  | coreFault => exact execCoreFault_within ..
  | externalOverrunTimeout => exact execExternalOverrunTimeout_within ..
  | coreRetire => exact execCoreRetire_within ..
  | coreOffline => exact execCoreOffline_within ..
  | facetDrain => exact execFacetDrain_within ..
  | placement => exact execPlacement_within ..
  | sliceEnd => exact execSliceEnd_within ..
  | graceWindowEnd => exact execGraceWindowEnd_within ..
  | periodBoundary => exact execPeriodBoundary_within ..
  | loupeWindowEnd => exact execLoupeWindowEnd_within ..
  | brxDoorbell => exact execBrxDoorbell_within ..
  | hostRecordWrite => exact execHostRecordWrite_within ..
  | hostHeadPoll => exact execHostHeadPoll_within ..
  | tenantEnable => exact execTenantEnable_within ..
  | dspPostTail => exact execDspPostTail_within ..
  | opSuspend => exact execOpSuspend_within ..
  | opResume => exact execOpResume_within ..
  | opCancel => exact execOpCancel_within ..
  | reservationGrant => exact execReservationGrant_within ..
  | pageBringUpDone => exact execPageBringUpDone_within ..
  | writeBack => exact execWriteBack_within ..
  | writeBackDone => exact execWriteBackDone_within ..
  | pageEvict => exact execPageEvict_within ..
  | hbmUeLine => exact execHbmUeLine_within ..
  | journalGroupFlush => exact execJournalGroupFlush_within ..
  | journalStripeAck => exact execJournalStripeAck_within ..
  | checkpoint => exact execCheckpoint_within ..
  | objPageRecovery => exact execObjPageRecovery_within ..
  | altFetchTimeout => exact execAltFetchTimeout_within ..
  | map => exact execMap_within ..
  | unmap => exact execUnmap_within ..
  | setHome => exact execSetHome_within ..
  | prefetch => exact execPrefetch_within ..
  | evict => exact execEvict_within ..
  | pin => exact execPin_within ..
  | unpin => exact execUnpin_within ..
  | mapShared => exact execMapShared_within ..
  | objRegister => exact execObjRegister_within ..
  | objSetAlt => exact execObjSetAlt_within ..
  | objSeal => exact execObjSeal_within ..
  | objRewrite => exact execObjRewrite_within ..
  | objRetire => exact execObjRetire_within ..
  | hbmRetire => exact execHbmRetire_within ..
  | stackFail => exact execStackFail_within ..
  | ftbCreate => exact execFtbCreate_within ..
  | ftbDrop => exact execFtbDrop_within ..
  | ftbMigrate => exact execFtbMigrate_within ..
  | gather => exact execGather_within ..
  | scatterAddApply => exact execScatterAddApply_within ..
  | decayTick => exact execDecayTick_within ..
  | migrationStart => exact execMigrationStart_within ..
  | migrationSwitch => exact execMigrationSwitch_within ..
  | migrationFree => exact execMigrationFree_within ..
  | open_ => exact execOpen_within ..
  | feed => exact execFeed_within ..
  | pack => exact execPack_within ..
  | contextEvict => exact execContextEvict_within ..
  | dictLoad => exact execDictLoad_within ..
  | dictUnload => exact execDictUnload_within ..
  | gramLoad => exact execGramLoad_within ..
  | gramUnload => exact execGramUnload_within ..
  | idxCreate => exact execIdxCreate_within ..
  | idxDrop => exact execIdxDrop_within ..
  | idxFold => exact execIdxFold_within ..
  | idxRepair => exact execIdxRepair_within ..
  | itemCopyWrite => exact execItemCopyWrite_within ..
  | foldPublish => exact execFoldPublish_within ..
  | foldReclaim => exact execFoldReclaim_within ..
  | idxCtlWrite => exact execIdxCtlWrite_within ..
  | probeOrder => exact execProbeOrder_within ..
  | probeDispatch => exact execProbeDispatch_within ..
  | scanUnitScore => exact execScanUnitScore_within ..
  | sideListSearch => exact execSideListSearch_within ..
  | mergeStart => exact execMergeStart_within ..
  | candidateFetch => exact execCandidateFetch_within ..
  | rescore => exact execRescore_within ..
  | passageFetch => exact execPassageFetch_within ..
  | csuProgLoad => exact execCsuProgLoad_within ..
  | genModelLoad => exact execGenModelLoad_within ..
  | genModelUnload => exact execGenModelUnload_within ..
  | formPass => exact execFormPass_within ..
  | passCommit => exact execPassCommit_within ..
  | detokenise => exact execDetokenise_within ..
  | grammarAdvance => exact execGrammarAdvance_within ..
  | draftWalk => exact execDraftWalk_within ..
  | stageAdvance => exact execStageAdvance_within ..
  | shipClaim => exact execShipClaim_within ..
  | shipGrant => exact execShipGrant_within ..
  | shipChunk => exact execShipChunk_within ..
  | shipManifest => exact execShipManifest_within ..
  | shipAck => exact execShipAck_within ..
  | shipNack => exact execShipNack_within ..
  | shipAbort => exact execShipAbort_within ..
  | orphanMsExpiry => exact execOrphanMsExpiry_within ..
  | request => exact execRequest_within ..
  | indexUpdate => exact execIndexUpdate_within ..
  | cancel => exact execCancel_within ..
  | suspend => exact execSuspend_within ..
  | resume => exact execResume_within ..
  | service => exact execService_within ..
  | heldRequestAdmit => exact execHeldRequestAdmit_within ..
  | flashOpStart => exact execFlashOpStart_within ..
  | flashUnitRead => exact execFlashUnitRead_within ..
  | geoProgramAck => exact execGeoProgramAck_within ..
  | garbageCollect => exact execGarbageCollect_within ..
  | patrolRead => exact execPatrolRead_within ..
  | patrolPeriodEnd => exact execPatrolPeriodEnd_within ..
  | cartridgeInsert => exact execCartridgeInsert_within ..
  | cartridgeRemoved => exact execCartridgeRemoved_within ..
  | channelUnanswered => exact execChannelUnanswered_within ..
  | bayEject => exact execBayEject_within ..
  | bayReadyToPull => exact execBayReadyToPull_within ..
  | bayAdmit => exact execBayAdmit_within ..
  | rebuildStripe => exact execRebuildStripe_within ..
  | load => exact execLoad_within ..
  | store => exact execStore_within ..
  | put => exact execPut_within ..
  | fadd64 => exact execFadd64_within ..
  | swap64 => exact execSwap64_within ..
  | cas64 => exact execCas64_within ..
  | ktrAck => exact execKtrAck_within ..
  | ktrResp => exact execKtrResp_within ..
  | ktrNack => exact execKtrNack_within ..
  | rtoExpiry => exact execRtoExpiry_within ..
  | unreachTimeout => exact execUnreachTimeout_within ..
  | linkDrop => exact execLinkDrop_within ..
  | ktrWinSync => exact execKtrWinSync_within ..
  | frameSend => exact execFrameSend_within ..
  | frameReceive => exact execFrameReceive_within ..
  | gateGo => exact execGateGo_within ..
  | gateSwitch => exact execGateSwitch_within ..
  | gateEntryEnd => exact execGateEntryEnd_within ..
  | ptpLock => exact execPtpLock_within ..
  | ptpMasterLost => exact execPtpMasterLost_within ..
  | queueSample => exact execQueueSample_within ..
  | refOscFault => exact execRefOscFault_within ..
  | refOscReturn => exact execRefOscReturn_within ..
  | islandClockStop => exact execIslandClockStop_within ..
  | islandWake => exact execIslandWake_within ..
  | islandReset => exact execIslandReset_within ..
  | islandResetExit => exact execIslandResetExit_within ..
  | linkUp => exact execLinkUp_within ..
  | targetWrite => exact execTargetWrite_within ..
  | rampDone => exact execRampDone_within ..
  | surgeEnter => exact execSurgeEnter_within ..
  | surgeLeave => exact execSurgeLeave_within ..
  | inputOver44V => exact execInputOver44V_within ..
  | inputOver48V => exact execInputOver48V_within ..
  | psmFault => exact execPsmFault_within ..
  | inputCurrentHigh => exact execInputCurrentHigh_within ..
  | dutyStep => exact execDutyStep_within ..
  | tjHot => exact execTjHot_within ..
  | thermalStep => exact execThermalStep_within ..
  | tjTrip => exact execTjTrip_within ..
  | shedStepEnter => exact execShedStepEnter_within ..
  | shedStepLeave => exact execShedStepLeave_within ..
  | flushComplete => exact execFlushComplete_within ..
  | inputBelow18V => exact execInputBelow18V_within ..
  | facetStoreUe => exact execFacetStoreUe_within ..
  | d2dLinkFail => exact execD2dLinkFail_within ..
  | d2dRetrain => exact execD2dRetrain_within ..
  | scrubRead => exact execScrubRead_within ..
  | scrubPeriodEnd => exact execScrubPeriodEnd_within ..
  | rasInjectWrite => exact execRasInjectWrite_within ..
  | rasRetireClr => exact execRasRetireClr_within ..
  | report => exact execReport_within ..
  | keyImport => exact execKeyImport_within ..
  | keyGenerate => exact execKeyGenerate_within ..
  | keyDestroy => exact execKeyDestroy_within ..
  | extend => exact execExtend_within ..
  | kemRotate => exact execKemRotate_within ..
  | rollbackCommit => exact execRollbackCommit_within ..
  | officerEnroll => exact execOfficerEnroll_within ..
  | rootRevoke => exact execRootRevoke_within ..
  | zeroise => exact execZeroise_within ..
  | debugUnlock => exact execDebugUnlock_within ..
  | tamperTrigger => exact execTamperTrigger_within ..
  | sakRotate => exact execSakRotate_within ..
  | powerOnReset => exact execPowerOnReset_within ..
  | warmRestart => exact execWarmRestart_within ..
  | pldmColdRestart => exact execPldmColdRestart_within ..
  | readyWrite => exact execReadyWrite_within ..
  | partSvcDone => exact execPartSvcDone_within ..
  | norErase => exact execNorErase_within ..
  | norProgram => exact execNorProgram_within ..
  | norRead => exact execNorRead_within ..
  | pldmSensorUpdate => exact execPldmSensorUpdate_within ..
  | pldmReadEventLog => exact execPldmReadEventLog_within ..
  | evrRelease => exact execEvrRelease_within ..
  | evrRecRead => exact execEvrRecRead_within ..
  | evrFreezeWrite => exact execEvrFreezeWrite_within ..
  | freezeTimeout => exact execFreezeTimeout_within ..
  | evrMirror => exact execEvrMirror_within ..
  | opSecondsSave => exact execOpSecondsSave_within ..
  | reservedInstructionWord => exact execReservedInstructionWord_within ..

end Sys2Proof.Machine
end

