-- ==== Sys2Proof/Laws/Portions.lean ====
section
/-! SUPPORT. From what an operation can change (`Within`) to the portions that a statement names (`ChangesOnly`). -/

namespace Sys2Proof.Machine

set_option Elab.async false

/-- The bits of a mask that stand for a portion. -/
def Portion.bits : Portion → Nat
  | .regs b => 2 ^ b.ctorIdx
  | .allRegs => 0xFFFFFFFF
  | .free => 2 ^ 32 | .staged => 2 ^ 33 | .locks => 2 ^ 34 | .mem => 2 ^ 35 | .cores => 2 ^ 36 | .recorder => 2 ^ 37 | .dsp => 2 ^ 38
  | .tier => 2 ^ 39 | .ftb => 2 ^ 40 | .txu => 2 ^ 41 | .idx => 2 ^ 42 | .gen => 2 ^ 43 | .ras => 2 ^ 44 | .ktr => 2 ^ 45 | .geo => 2 ^ 46
  | .mgt => 2 ^ 47 | .pwr => 2 ^ 48 | .onx => 2 ^ 49 | .out => 2 ^ 50

/-- Every portion. -/
def Portion.every : List Portion :=
  [.regs .part, .regs .dsp, .regs .core, .regs .fct, .regs .mx, .regs .qnt, .regs .sel, .regs .mrg, .regs .mem, .regs .hbm, .regs .geo,
    .regs .csu, .regs .idx, .regs .ftb, .regs .txu, .regs .gen, .regs .ktr, .regs .shp, .regs .edg, .regs .pwr, .regs .ras, .regs .onx,
    .regs .lpe, .regs .evr, .regs .mgt, .allRegs, .free, .staged, .locks, .mem, .cores, .recorder, .dsp, .tier, .ftb, .txu, .idx, .gen, .ras,
    .ktr, .geo, .mgt, .pwr, .onx, .out]

theorem Portion.mem_every (p : Portion) : p ∈ Portion.every := by
  cases p with
  | regs b => cases b <;> decide
  | _ => decide

/-- The bits of every portion that is listed. -/
def portionBits : List Portion → Nat
  | [] => 0
  | p :: r => p.bits ||| portionBits r

/-- Whether a mask lies within the portions that are listed. -/
def covers (may : List Portion) (m : Nat) : Bool := m &&& portionBits may == m

theorem bits_disjoint : Portion.every.all (fun p => Portion.every.all (fun q => p.isIn [q] || (q.bits &&& p.bits == 0))) = true := by decide

theorem isIn_cons {p q : Portion} {r : List Portion} (h : p.isIn (q :: r) = false) : p.isIn [q] = false ∧ p.isIn r = false := by
  cases p <;> simp [Portion.isIn] at h ⊢ <;> tauto

theorem portionBits_disjoint {p : Portion} {may : List Portion} (h : p.isIn may = false) : portionBits may &&& p.bits = 0 := by
  induction may with
  | nil => exact Nat.zero_and _
  | cons q r ih =>
    obtain ⟨hq, hr⟩ := isIn_cons h
    have hb := List.all_eq_true.1 (List.all_eq_true.1 bits_disjoint p p.mem_every) q q.mem_every
    rw [hq, Bool.false_or, beq_iff_eq] at hb
    rw [portionBits, Nat.and_or_distrib_right, hb, ih hr]
    rfl

theorem testBit_of_and_two_pow {m i : Nat} (h : m &&& 2 ^ i = 0) : m.testBit i = false := by
  have := congrArg (fun n => n.testBit i) h
  simpa using this

theorem testBit_block {m : Nat} (h : m &&& 0xFFFFFFFF = 0) (k : Nat) : m.testBit (blockOf k) = false := by
  have := congrArg (fun n => n.testBit (blockOf k)) h
  simpa [every_block k] using this

theorem Within.changesOnly {m : Nat} {may : List Portion} {s t : State} (h : Within m s t) (hm : covers may m = true) : ChangesOnly may s t := by
  refine ⟨h.pending, fun p hp => ?_⟩
  have hb : m &&& p.bits = 0 := by
    rw [← beq_iff_eq.1 hm, Nat.and_assoc, portionBits_disjoint hp, Nat.and_zero]
  have key : ∀ {i : Nat} {q : Prop}, m &&& 2 ^ i = 0 → (m.testBit i = true ∨ q) → q := by
    intro i q hi hq
    rcases hq with hq | hq
    · rw [testBit_of_and_two_pow hi] at hq; cases hq
    · exact hq
  cases p with
  | regs b => exact fun f hf => h.get f (hf ▸ testBit_of_and_two_pow hb)
  | allRegs => exact fun f => h.get f (testBit_block hb _)
  | free => exact key hb h.free
  | staged => exact key hb h.staged
  | locks => exact key hb h.locks
  | mem => exact key hb h.mem
  | cores => exact key hb h.cores
  | recorder => exact key hb h.rec_
  | dsp => exact key hb h.dsp
  | tier => exact key hb h.tier
  | ftb => exact key hb h.ftb
  | txu => exact key hb h.txu
  | idx => exact key hb h.idx
  | gen => exact key hb h.gen
  | ras => exact key hb h.ras
  | ktr => exact key hb h.ktr
  | geo => exact key hb h.geo
  | mgt => exact key hb h.mgt
  | pwr => exact key hb h.pwr
  | onx => exact key hb h.onx
  | out => exact key hb h.out

/-- What an outcome leaves, when it is a next state. -/
theorem WithinRes.changesOnly {m : Nat} {may : List Portion} {s t : State} {r : Res} (h : WithinRes m s r) (hm : covers may m = true)
    (hr : r = .next t) : ChangesOnly may s t := (h.within t hr).changesOnly hm

end Sys2Proof.Machine
end

