-- ==== Sys2Proof/Laws/Running.lean ====
section
/-! SUPPORT. How an instruction leaves a core that takes it: one lemma for each way in which it can end. -/

namespace Sys2Proof.Machine

set_option Elab.async false

theorem State.Runs.takes {s : State} {c : Nat} {k : Core} (h : s.Runs c k) : k.takes = true := by
  unfold Core.takes
  rw [h.going, h.awake]
  rfl

/-- An instruction runs on a core that takes it. -/
theorem onCore_runs {s : State} {c : Nat} {k : Core} (h : s.Runs c k) (f : Nat → Core → KRes) :
    onCore c s f = .next (s.land c k (f k.draws k)) := by
  unfold onCore
  rw [h.core]
  simp only [h.takes, if_true]

theorem State.land_stop (s : State) (c : Nat) (k : Core) (x : Stop) : s.land c k (.stop x) = s.endedWith c k x.status x.detail x.code := rfl

/-- An instruction that counts nothing and falls through. -/
theorem State.land_go (s : State) (c : Nat) (k k' : Core) (h : k.pc + 1 < k.d.codeLen) :
    s.land c k (.go k') = s.completed c k' (k.pc + 1) := by
  have h1 : ¬ (((k.pc : Int) + 1) < 0 ∨ (k.d.codeLen : Int) ≤ (k.pc : Int) + 1) := by omega
  have h2 : ((k.pc : Int) + 1).toNat = k.pc + 1 := by omega
  unfold State.land KRes.go State.completed
  simp only [List.foldl_nil, Option.getD_none, h1, if_false, h2]

/-- An instruction that counts nothing and jumps inside the kernel. -/
theorem State.land_jump (s : State) (c : Nat) (k k' : Core) (t : Int) (n : Nat) (ht : t = n) (h : n < k.d.codeLen) :
    s.land c k (.ok k' [] (some t)) = s.completed c k' n := by
  subst ht
  have h1 : ¬ ((n : Int) < 0 ∨ (k.d.codeLen : Int) ≤ (n : Int)) := by omega
  unfold State.land State.completed
  simp only [List.foldl_nil, Option.getD_some, h1, if_false, Int.toNat_natCast]

/-- One whose next index lies outside the kernel (R67). -/
theorem State.land_out (s : State) (c : Nat) (k k' : Core) (j : Option Int) (h : j.getD (k.pc + 1) < 0 ∨ (k.d.codeLen : Int) ≤ j.getD (k.pc + 1)) :
    s.land c k (.ok k' [] j) = s.endedWith c k' 0x03 0x0301 0 := by
  unfold State.land
  simp only [List.foldl_nil, h, if_true]
  rfl

/-- An instruction that adds to counters and falls through: what the core holds then. -/
theorem State.land_ok (s : State) (c : Nat) (k k' : Core) (upd : List Upd) (h : k.pc + 1 < k.d.codeLen) :
    s.land c k (.ok k' upd none) = (upd.foldl State.update s).setCore c { k' with pc := k.pc + 1, opens := k'.opens + 1 } := by
  have h1 : ¬ (((k.pc : Int) + 1) < 0 ∨ (k.d.codeLen : Int) ≤ (k.pc : Int) + 1) := by omega
  have h2 : ((k.pc : Int) + 1).toNat = k.pc + 1 := by omega
  unfold State.land
  simp only [Option.getD_none, h1, if_false, h2]

/-- The core just set. -/
theorem State.core_setCore (s : State) (c : Nat) (k : Core) : (s.setCore c k).core c = some k := by
  unfold State.core State.setCore
  simp

/-- Every other core. -/
theorem State.core_setCore_ne (s : State) {c d : Nat} (k : Core) (h : d ≠ c) : (s.setCore c k).core d = s.core d := by
  unfold State.core State.setCore
  simp [Sparse.find_put, h]

end Sys2Proof.Machine
end

