-- ==== Sys2Proof/Laws/State.lean ====
section
/-! SUPPORT. What the updates of the state leave and give: one lemma for each field of the state and each update, and the reads of a register
after a write. -/

namespace Sys2Proof.Machine

set_option Elab.async false

theorem xor_xor_self (a b : Nat) : a ^^^ b ^^^ b = a := by rw [Nat.xor_assoc, Nat.xor_self, Nat.xor_zero]

/-- A field reads the value last put into it, in its own width. -/
theorem State.get_put (s : State) (f : RF) (v : Nat) (hw : f.w ≤ 64) (hr : f.rst < 2 ^ 64) : (s.put f v).get f = v % 2 ^ f.w := by
  have hv : v % 2 ^ f.w < 2 ^ 64 := Nat.lt_of_lt_of_le (Nat.mod_lt _ (by positivity)) (Nat.pow_le_pow_right (by decide) hw)
  have hx : (v % 2 ^ f.w) ^^^ f.rst < 2 ^ 64 := Nat.xor_lt_two_pow hv hr
  show (Sparse.get 0 (Sparse.set 0 s.regs f.id (BitVec.ofNat 64 (v % 2 ^ f.w ^^^ f.rst))) f.id).toNat ^^^ f.rst = v % 2 ^ f.w
  rw [Sparse.get_set_self, BitVec.toNat_ofNat, Nat.mod_eq_of_lt hx, xor_xor_self]

/-- A field keeps its value while another is written. -/
theorem State.get_put_ne (s : State) (f g : RF) (v : Nat) (h : f.id ≠ g.id) : (s.put f v).get g = s.get g := by
  show (Sparse.get 0 (Sparse.set 0 s.regs f.id _) g.id).toNat ^^^ g.rst = (Sparse.get 0 s.regs g.id).toNat ^^^ g.rst
  rw [Sparse.get_set_ne _ _ _ (Ne.symm h)]

/-! ### What each update leaves -/

@[simp] theorem State.put_pending (s : State) (f : RF) (v : Nat) : (s.put f v).pending = s.pending := rfl
@[simp] theorem State.put_free (s : State) (f : RF) (v : Nat) : (s.put f v).free = s.free := rfl
@[simp] theorem State.put_staged (s : State) (f : RF) (v : Nat) : (s.put f v).staged = s.staged := rfl
@[simp] theorem State.put_locks (s : State) (f : RF) (v : Nat) : (s.put f v).locks = s.locks := rfl
@[simp] theorem State.put_mem (s : State) (f : RF) (v : Nat) : (s.put f v).mem = s.mem := rfl
@[simp] theorem State.put_cores (s : State) (f : RF) (v : Nat) : (s.put f v).cores = s.cores := rfl
@[simp] theorem State.put_rec_ (s : State) (f : RF) (v : Nat) : (s.put f v).rec_ = s.rec_ := rfl
@[simp] theorem State.put_dsp (s : State) (f : RF) (v : Nat) : (s.put f v).dsp = s.dsp := rfl
@[simp] theorem State.put_tier (s : State) (f : RF) (v : Nat) : (s.put f v).tier = s.tier := rfl
@[simp] theorem State.put_ftb (s : State) (f : RF) (v : Nat) : (s.put f v).ftb = s.ftb := rfl
@[simp] theorem State.put_txu (s : State) (f : RF) (v : Nat) : (s.put f v).txu = s.txu := rfl
@[simp] theorem State.put_idx (s : State) (f : RF) (v : Nat) : (s.put f v).idx = s.idx := rfl
@[simp] theorem State.put_gen (s : State) (f : RF) (v : Nat) : (s.put f v).gen = s.gen := rfl
@[simp] theorem State.put_ras (s : State) (f : RF) (v : Nat) : (s.put f v).ras = s.ras := rfl
@[simp] theorem State.put_ktr (s : State) (f : RF) (v : Nat) : (s.put f v).ktr = s.ktr := rfl
@[simp] theorem State.put_geo (s : State) (f : RF) (v : Nat) : (s.put f v).geo = s.geo := rfl
@[simp] theorem State.put_mgt (s : State) (f : RF) (v : Nat) : (s.put f v).mgt = s.mgt := rfl
@[simp] theorem State.put_pwr (s : State) (f : RF) (v : Nat) : (s.put f v).pwr = s.pwr := rfl
@[simp] theorem State.put_onx (s : State) (f : RF) (v : Nat) : (s.put f v).onx = s.onx := rfl
@[simp] theorem State.put_out (s : State) (f : RF) (v : Nat) : (s.put f v).out = s.out := rfl

@[simp] theorem State.bump_pending (s : State) (f : RF) (n : Nat) : (s.bump f n).pending = s.pending := rfl
@[simp] theorem State.bump_free (s : State) (f : RF) (n : Nat) : (s.bump f n).free = s.free := rfl
@[simp] theorem State.bump_staged (s : State) (f : RF) (n : Nat) : (s.bump f n).staged = s.staged := rfl
@[simp] theorem State.bump_locks (s : State) (f : RF) (n : Nat) : (s.bump f n).locks = s.locks := rfl
@[simp] theorem State.bump_mem (s : State) (f : RF) (n : Nat) : (s.bump f n).mem = s.mem := rfl
@[simp] theorem State.bump_cores (s : State) (f : RF) (n : Nat) : (s.bump f n).cores = s.cores := rfl
@[simp] theorem State.bump_rec_ (s : State) (f : RF) (n : Nat) : (s.bump f n).rec_ = s.rec_ := rfl
@[simp] theorem State.bump_dsp (s : State) (f : RF) (n : Nat) : (s.bump f n).dsp = s.dsp := rfl
@[simp] theorem State.bump_tier (s : State) (f : RF) (n : Nat) : (s.bump f n).tier = s.tier := rfl
@[simp] theorem State.bump_ftb (s : State) (f : RF) (n : Nat) : (s.bump f n).ftb = s.ftb := rfl
@[simp] theorem State.bump_txu (s : State) (f : RF) (n : Nat) : (s.bump f n).txu = s.txu := rfl
@[simp] theorem State.bump_idx (s : State) (f : RF) (n : Nat) : (s.bump f n).idx = s.idx := rfl
@[simp] theorem State.bump_gen (s : State) (f : RF) (n : Nat) : (s.bump f n).gen = s.gen := rfl
@[simp] theorem State.bump_ras (s : State) (f : RF) (n : Nat) : (s.bump f n).ras = s.ras := rfl
@[simp] theorem State.bump_ktr (s : State) (f : RF) (n : Nat) : (s.bump f n).ktr = s.ktr := rfl
@[simp] theorem State.bump_geo (s : State) (f : RF) (n : Nat) : (s.bump f n).geo = s.geo := rfl
@[simp] theorem State.bump_mgt (s : State) (f : RF) (n : Nat) : (s.bump f n).mgt = s.mgt := rfl
@[simp] theorem State.bump_pwr (s : State) (f : RF) (n : Nat) : (s.bump f n).pwr = s.pwr := rfl
@[simp] theorem State.bump_onx (s : State) (f : RF) (n : Nat) : (s.bump f n).onx = s.onx := rfl
@[simp] theorem State.bump_out (s : State) (f : RF) (n : Nat) : (s.bump f n).out = s.out := rfl

@[simp] theorem State.bumpSat_pending (s : State) (f : RF) (n : Nat) : (s.bumpSat f n).pending = s.pending := rfl
@[simp] theorem State.bumpSat_free (s : State) (f : RF) (n : Nat) : (s.bumpSat f n).free = s.free := rfl
@[simp] theorem State.bumpSat_staged (s : State) (f : RF) (n : Nat) : (s.bumpSat f n).staged = s.staged := rfl
@[simp] theorem State.bumpSat_locks (s : State) (f : RF) (n : Nat) : (s.bumpSat f n).locks = s.locks := rfl
@[simp] theorem State.bumpSat_mem (s : State) (f : RF) (n : Nat) : (s.bumpSat f n).mem = s.mem := rfl
@[simp] theorem State.bumpSat_cores (s : State) (f : RF) (n : Nat) : (s.bumpSat f n).cores = s.cores := rfl
@[simp] theorem State.bumpSat_rec_ (s : State) (f : RF) (n : Nat) : (s.bumpSat f n).rec_ = s.rec_ := rfl
@[simp] theorem State.bumpSat_dsp (s : State) (f : RF) (n : Nat) : (s.bumpSat f n).dsp = s.dsp := rfl
@[simp] theorem State.bumpSat_tier (s : State) (f : RF) (n : Nat) : (s.bumpSat f n).tier = s.tier := rfl
@[simp] theorem State.bumpSat_ftb (s : State) (f : RF) (n : Nat) : (s.bumpSat f n).ftb = s.ftb := rfl
@[simp] theorem State.bumpSat_txu (s : State) (f : RF) (n : Nat) : (s.bumpSat f n).txu = s.txu := rfl
@[simp] theorem State.bumpSat_idx (s : State) (f : RF) (n : Nat) : (s.bumpSat f n).idx = s.idx := rfl
@[simp] theorem State.bumpSat_gen (s : State) (f : RF) (n : Nat) : (s.bumpSat f n).gen = s.gen := rfl
@[simp] theorem State.bumpSat_ras (s : State) (f : RF) (n : Nat) : (s.bumpSat f n).ras = s.ras := rfl
@[simp] theorem State.bumpSat_ktr (s : State) (f : RF) (n : Nat) : (s.bumpSat f n).ktr = s.ktr := rfl
@[simp] theorem State.bumpSat_geo (s : State) (f : RF) (n : Nat) : (s.bumpSat f n).geo = s.geo := rfl
@[simp] theorem State.bumpSat_mgt (s : State) (f : RF) (n : Nat) : (s.bumpSat f n).mgt = s.mgt := rfl
@[simp] theorem State.bumpSat_pwr (s : State) (f : RF) (n : Nat) : (s.bumpSat f n).pwr = s.pwr := rfl
@[simp] theorem State.bumpSat_onx (s : State) (f : RF) (n : Nat) : (s.bumpSat f n).onx = s.onx := rfl
@[simp] theorem State.bumpSat_out (s : State) (f : RF) (n : Nat) : (s.bumpSat f n).out = s.out := rfl

@[simp] theorem State.raise_pending (s : State) (f : RF) (n : Nat) : (s.raise f n).pending = s.pending := rfl
@[simp] theorem State.raise_free (s : State) (f : RF) (n : Nat) : (s.raise f n).free = s.free := rfl
@[simp] theorem State.raise_staged (s : State) (f : RF) (n : Nat) : (s.raise f n).staged = s.staged := rfl
@[simp] theorem State.raise_locks (s : State) (f : RF) (n : Nat) : (s.raise f n).locks = s.locks := rfl
@[simp] theorem State.raise_mem (s : State) (f : RF) (n : Nat) : (s.raise f n).mem = s.mem := rfl
@[simp] theorem State.raise_cores (s : State) (f : RF) (n : Nat) : (s.raise f n).cores = s.cores := rfl
@[simp] theorem State.raise_rec_ (s : State) (f : RF) (n : Nat) : (s.raise f n).rec_ = s.rec_ := rfl
@[simp] theorem State.raise_dsp (s : State) (f : RF) (n : Nat) : (s.raise f n).dsp = s.dsp := rfl
@[simp] theorem State.raise_tier (s : State) (f : RF) (n : Nat) : (s.raise f n).tier = s.tier := rfl
@[simp] theorem State.raise_ftb (s : State) (f : RF) (n : Nat) : (s.raise f n).ftb = s.ftb := rfl
@[simp] theorem State.raise_txu (s : State) (f : RF) (n : Nat) : (s.raise f n).txu = s.txu := rfl
@[simp] theorem State.raise_idx (s : State) (f : RF) (n : Nat) : (s.raise f n).idx = s.idx := rfl
@[simp] theorem State.raise_gen (s : State) (f : RF) (n : Nat) : (s.raise f n).gen = s.gen := rfl
@[simp] theorem State.raise_ras (s : State) (f : RF) (n : Nat) : (s.raise f n).ras = s.ras := rfl
@[simp] theorem State.raise_ktr (s : State) (f : RF) (n : Nat) : (s.raise f n).ktr = s.ktr := rfl
@[simp] theorem State.raise_geo (s : State) (f : RF) (n : Nat) : (s.raise f n).geo = s.geo := rfl
@[simp] theorem State.raise_mgt (s : State) (f : RF) (n : Nat) : (s.raise f n).mgt = s.mgt := rfl
@[simp] theorem State.raise_pwr (s : State) (f : RF) (n : Nat) : (s.raise f n).pwr = s.pwr := rfl
@[simp] theorem State.raise_onx (s : State) (f : RF) (n : Nat) : (s.raise f n).onx = s.onx := rfl
@[simp] theorem State.raise_out (s : State) (f : RF) (n : Nat) : (s.raise f n).out = s.out := rfl

@[simp] theorem State.drop_pending (s : State) (f : RF) (n : Nat) : (s.drop f n).pending = s.pending := rfl
@[simp] theorem State.drop_free (s : State) (f : RF) (n : Nat) : (s.drop f n).free = s.free := rfl
@[simp] theorem State.drop_staged (s : State) (f : RF) (n : Nat) : (s.drop f n).staged = s.staged := rfl
@[simp] theorem State.drop_locks (s : State) (f : RF) (n : Nat) : (s.drop f n).locks = s.locks := rfl
@[simp] theorem State.drop_mem (s : State) (f : RF) (n : Nat) : (s.drop f n).mem = s.mem := rfl
@[simp] theorem State.drop_cores (s : State) (f : RF) (n : Nat) : (s.drop f n).cores = s.cores := rfl
@[simp] theorem State.drop_rec_ (s : State) (f : RF) (n : Nat) : (s.drop f n).rec_ = s.rec_ := rfl
@[simp] theorem State.drop_dsp (s : State) (f : RF) (n : Nat) : (s.drop f n).dsp = s.dsp := rfl
@[simp] theorem State.drop_tier (s : State) (f : RF) (n : Nat) : (s.drop f n).tier = s.tier := rfl
@[simp] theorem State.drop_ftb (s : State) (f : RF) (n : Nat) : (s.drop f n).ftb = s.ftb := rfl
@[simp] theorem State.drop_txu (s : State) (f : RF) (n : Nat) : (s.drop f n).txu = s.txu := rfl
@[simp] theorem State.drop_idx (s : State) (f : RF) (n : Nat) : (s.drop f n).idx = s.idx := rfl
@[simp] theorem State.drop_gen (s : State) (f : RF) (n : Nat) : (s.drop f n).gen = s.gen := rfl
@[simp] theorem State.drop_ras (s : State) (f : RF) (n : Nat) : (s.drop f n).ras = s.ras := rfl
@[simp] theorem State.drop_ktr (s : State) (f : RF) (n : Nat) : (s.drop f n).ktr = s.ktr := rfl
@[simp] theorem State.drop_geo (s : State) (f : RF) (n : Nat) : (s.drop f n).geo = s.geo := rfl
@[simp] theorem State.drop_mgt (s : State) (f : RF) (n : Nat) : (s.drop f n).mgt = s.mgt := rfl
@[simp] theorem State.drop_pwr (s : State) (f : RF) (n : Nat) : (s.drop f n).pwr = s.pwr := rfl
@[simp] theorem State.drop_onx (s : State) (f : RF) (n : Nat) : (s.drop f n).onx = s.onx := rfl
@[simp] theorem State.drop_out (s : State) (f : RF) (n : Nat) : (s.drop f n).out = s.out := rfl

@[simp] theorem State.tick_pending (s : State) (n : Nat) : (s.tick n).pending = s.pending := rfl
@[simp] theorem State.tick_free (s : State) (n : Nat) : (s.tick n).free = s.free := rfl
@[simp] theorem State.tick_staged (s : State) (n : Nat) : (s.tick n).staged = s.staged := rfl
@[simp] theorem State.tick_locks (s : State) (n : Nat) : (s.tick n).locks = s.locks := rfl
@[simp] theorem State.tick_mem (s : State) (n : Nat) : (s.tick n).mem = s.mem := rfl
@[simp] theorem State.tick_cores (s : State) (n : Nat) : (s.tick n).cores = s.cores := rfl
@[simp] theorem State.tick_rec_ (s : State) (n : Nat) : (s.tick n).rec_ = s.rec_ := rfl
@[simp] theorem State.tick_dsp (s : State) (n : Nat) : (s.tick n).dsp = s.dsp := rfl
@[simp] theorem State.tick_tier (s : State) (n : Nat) : (s.tick n).tier = s.tier := rfl
@[simp] theorem State.tick_ftb (s : State) (n : Nat) : (s.tick n).ftb = s.ftb := rfl
@[simp] theorem State.tick_txu (s : State) (n : Nat) : (s.tick n).txu = s.txu := rfl
@[simp] theorem State.tick_idx (s : State) (n : Nat) : (s.tick n).idx = s.idx := rfl
@[simp] theorem State.tick_gen (s : State) (n : Nat) : (s.tick n).gen = s.gen := rfl
@[simp] theorem State.tick_ras (s : State) (n : Nat) : (s.tick n).ras = s.ras := rfl
@[simp] theorem State.tick_ktr (s : State) (n : Nat) : (s.tick n).ktr = s.ktr := rfl
@[simp] theorem State.tick_geo (s : State) (n : Nat) : (s.tick n).geo = s.geo := rfl
@[simp] theorem State.tick_mgt (s : State) (n : Nat) : (s.tick n).mgt = s.mgt := rfl
@[simp] theorem State.tick_pwr (s : State) (n : Nat) : (s.tick n).pwr = s.pwr := rfl
@[simp] theorem State.tick_onx (s : State) (n : Nat) : (s.tick n).onx = s.onx := rfl
@[simp] theorem State.tick_out (s : State) (n : Nat) : (s.tick n).out = s.out := rfl

@[simp] theorem State.setCore_pending (s : State) (c : Nat) (k : Core) : (s.setCore c k).pending = s.pending := rfl
@[simp] theorem State.setCore_free (s : State) (c : Nat) (k : Core) : (s.setCore c k).free = s.free := rfl
@[simp] theorem State.setCore_regs (s : State) (c : Nat) (k : Core) : (s.setCore c k).regs = s.regs := rfl
@[simp] theorem State.setCore_staged (s : State) (c : Nat) (k : Core) : (s.setCore c k).staged = s.staged := rfl
@[simp] theorem State.setCore_locks (s : State) (c : Nat) (k : Core) : (s.setCore c k).locks = s.locks := rfl
@[simp] theorem State.setCore_mem (s : State) (c : Nat) (k : Core) : (s.setCore c k).mem = s.mem := rfl
@[simp] theorem State.setCore_rec_ (s : State) (c : Nat) (k : Core) : (s.setCore c k).rec_ = s.rec_ := rfl
@[simp] theorem State.setCore_dsp (s : State) (c : Nat) (k : Core) : (s.setCore c k).dsp = s.dsp := rfl
@[simp] theorem State.setCore_tier (s : State) (c : Nat) (k : Core) : (s.setCore c k).tier = s.tier := rfl
@[simp] theorem State.setCore_ftb (s : State) (c : Nat) (k : Core) : (s.setCore c k).ftb = s.ftb := rfl
@[simp] theorem State.setCore_txu (s : State) (c : Nat) (k : Core) : (s.setCore c k).txu = s.txu := rfl
@[simp] theorem State.setCore_idx (s : State) (c : Nat) (k : Core) : (s.setCore c k).idx = s.idx := rfl
@[simp] theorem State.setCore_gen (s : State) (c : Nat) (k : Core) : (s.setCore c k).gen = s.gen := rfl
@[simp] theorem State.setCore_ras (s : State) (c : Nat) (k : Core) : (s.setCore c k).ras = s.ras := rfl
@[simp] theorem State.setCore_ktr (s : State) (c : Nat) (k : Core) : (s.setCore c k).ktr = s.ktr := rfl
@[simp] theorem State.setCore_geo (s : State) (c : Nat) (k : Core) : (s.setCore c k).geo = s.geo := rfl
@[simp] theorem State.setCore_mgt (s : State) (c : Nat) (k : Core) : (s.setCore c k).mgt = s.mgt := rfl
@[simp] theorem State.setCore_pwr (s : State) (c : Nat) (k : Core) : (s.setCore c k).pwr = s.pwr := rfl
@[simp] theorem State.setCore_onx (s : State) (c : Nat) (k : Core) : (s.setCore c k).onx = s.onx := rfl
@[simp] theorem State.setCore_out (s : State) (c : Nat) (k : Core) : (s.setCore c k).out = s.out := rfl

@[simp] theorem State.emit_pending (s : State) (o : Out) : (s.emit o).pending = s.pending := rfl
@[simp] theorem State.emit_free (s : State) (o : Out) : (s.emit o).free = s.free := rfl
@[simp] theorem State.emit_regs (s : State) (o : Out) : (s.emit o).regs = s.regs := rfl
@[simp] theorem State.emit_staged (s : State) (o : Out) : (s.emit o).staged = s.staged := rfl
@[simp] theorem State.emit_locks (s : State) (o : Out) : (s.emit o).locks = s.locks := rfl
@[simp] theorem State.emit_mem (s : State) (o : Out) : (s.emit o).mem = s.mem := rfl
@[simp] theorem State.emit_cores (s : State) (o : Out) : (s.emit o).cores = s.cores := rfl
@[simp] theorem State.emit_rec_ (s : State) (o : Out) : (s.emit o).rec_ = s.rec_ := rfl
@[simp] theorem State.emit_dsp (s : State) (o : Out) : (s.emit o).dsp = s.dsp := rfl
@[simp] theorem State.emit_tier (s : State) (o : Out) : (s.emit o).tier = s.tier := rfl
@[simp] theorem State.emit_ftb (s : State) (o : Out) : (s.emit o).ftb = s.ftb := rfl
@[simp] theorem State.emit_txu (s : State) (o : Out) : (s.emit o).txu = s.txu := rfl
@[simp] theorem State.emit_idx (s : State) (o : Out) : (s.emit o).idx = s.idx := rfl
@[simp] theorem State.emit_gen (s : State) (o : Out) : (s.emit o).gen = s.gen := rfl
@[simp] theorem State.emit_ras (s : State) (o : Out) : (s.emit o).ras = s.ras := rfl
@[simp] theorem State.emit_ktr (s : State) (o : Out) : (s.emit o).ktr = s.ktr := rfl
@[simp] theorem State.emit_geo (s : State) (o : Out) : (s.emit o).geo = s.geo := rfl
@[simp] theorem State.emit_mgt (s : State) (o : Out) : (s.emit o).mgt = s.mgt := rfl
@[simp] theorem State.emit_pwr (s : State) (o : Out) : (s.emit o).pwr = s.pwr := rfl
@[simp] theorem State.emit_onx (s : State) (o : Out) : (s.emit o).onx = s.onx := rfl

@[simp] theorem State.setCore_cores (s : State) (c : Nat) (k : Core) : (s.setCore c k).cores = Sparse.put s.cores c k := rfl
@[simp] theorem State.emit_out (s : State) (o : Out) : (s.emit o).out = s.out ++ [o] := rfl

end Sys2Proof.Machine
end

