-- ==== Sys2Proof/Machine/Views.lean ====
section
/-! DEFINITION. What software reads of the register space: fields that show what a unit holds are computed from it, and not stored a second
time (table "Access codes"; log entry 39: DESIGN CHOICE, unsafe). -/

namespace Sys2Proof.Machine

/-- A fold's state as IDX_STAT.FOLD shows it. -/
def State.foldCode (s : State) (f : Fold) : Nat :=
  let held := !s.on F.IDX_CTL_FOLD_EN || (match f.opId with
    | some id => (s.op 12 id).any (fun o => o.status == .suspended)
    | none => false)
  if held then 2 else if f.repair then 6 else if f.step = 3 then 3 else if f.step = 5 then 4 else 1

def Gen.records (g : Gen) : Nat := g.parts.foldl (fun n p => n + p.2.records) 0
def Gen.dead (g : Gen) : Nat := g.parts.foldl (fun n p => n + p.2.dead) 0

/-- IDX_ registers of an index, by offset and lowest bit. -/
def State.idxView (s : State) (i : Nat) (x : Index) (off lo : Nat) : Option Nat := match off, lo with
  | 40, 29 => some (match x.state with
    | .creating => 1
    | .ready => 2
    | .dropping => 3)
  | 40, 26 => some ((x.fold.map s.foldCode).getD 0)
  | 40, 25 => some (b2n (x.cur.parts.any (fun p => p.2.damaged)))
  | 40, 0 => some x.desc.tid
  | 48, 0 => some x.committed
  | 56, 32 => some x.cur.num
  | 56, 16 => some (s.pins i x.cur.num).length
  | 56, 0 => some (match x.prev with
    | some g => (s.pins i g.num).length
    | none => 0)
  | 64, 0 => some x.cur.point
  | 72, 32 => some x.side.length
  | 72, 0 => some (2 ^ x.desc.sideLog2)
  | 80, 0 => some x.cur.records
  | 88, 0 => some x.cur.dead
  | 96, 32 => some ((x.fold.map (fun f => f.total - f.todo.length)).getD 0)
  | 96, 0 => some ((x.fold.map (fun f => f.total)).getD 0)
  | _, _ => none

/-- FTB_ registers of a table. -/
def State.ftbView (s : State) (t : Table) (off j lo : Nat) : Option Nat := match off, lo with
  | 48, 30 => some (if t.dropping then 2 else 1)
  | 48, 29 => some (b2n t.desc.shared)
  | 48, 24 => some t.migs.length
  | 48, 0 => some (if t.desc.shared then 0 else t.desc.tid)
  | 56, 32 => some (t.desc.slots.getD j 0)
  | 56, 0 => some (s.usedSlots t (j + 1)).length
  | _, _ => none

def State.dictView (s : State) (n : Nat) (d : Dict) (lo : Nat) : Option Nat := match lo with
  | 62 => some (if d.unloading then 3 else 2)
  | 61 => some (b2n d.shared)
  | 51 => some (if d.shared then 0 else d.tid)
  | 32 => some d.vocab
  | _ => some (s.dictUsers n)

def State.gramView (s : State) (n : Nat) (g : Gram) (lo : Nat) : Option Nat := match lo with
  | 61 => some (match g.state with
    | .loading => 1
    | .ready => 2
    | .suspended => 3
    | .unloading => 4)
  | 60 => some (b2n g.shared)
  | 50 => some (if g.shared then 0 else g.tid)
  | 29 => some g.states
  | _ => some (s.gramUsers n)

def State.instView (s : State) (n : Nat) (x : Inst) (lo : Nat) : Option Nat := match lo with
  | 62 => some (if x.unloading then 2 else 1)
  | 52 => some x.tid
  | 32 => some (s.instUsers n)
  | _ => some (x.desc.kvPoolPages - x.used.length)

/-- FCT_STAT of a facet. -/
def State.facetView (s : State) (f lo : Nat) : Option Nat :=
  let mine := s.cores.filter (fun p => p.1 / 4 == f)
  match lo with
  | 31 => some (b2n (s.on (F.FCT_CTL_DRAIN f) && mine.isEmpty))
  | 16 => some (mine.foldl (fun n p => n + p.2.d.facetUnits) 0)
  | _ => some (mine.foldl (fun n p => n + 2 ^ (p.1 % 4)) 0)

/-- DSP_TNT_ registers of a tenant; CLASS itself shows the value pending (R15). -/
def State.tenantView (s : State) (t off lo : Nat) : Option Nat := match off, lo with
  | 80, 30 => (s.staged.filter (fun w => w.f.id == (F.DSP_TNT_CFG_CLASS t).id)).getLast?.map (fun w => w.v)
  | 104, 15 => some (s.get (F.DSP_TNT_CFG_CLASS t))
  | 104, 0 => some (s.dsp.reqs.filter (fun r => r.2.tid == t && r.2.state == .held && !r.2.ended)).length
  | 112, 32 => some (s.queueOf t).length
  | 112, 0 => some ((s.queueOf t).filter (fun i => s.ready i)).length
  | _, _ => none

/-- MEM_ registers that show use. -/
def State.memView (s : State) (inst off lo : Nat) : Option Nat := match off, lo with
  | 104, 56 => some (s.tier.used * 100 / journalBytes)
  | 104, 32 => some (s.tier.pubs.filter (fun p => p.journaled && !p.acked)).length
  | 144, 32 => some (s.pinnedOf inst)
  | 144, 0 => some (s.residentOf inst)
  | 168, 61 => some (match ((s.object inst).map (fun o => o.state)).getD ObjState.free with
    | .free => 0
    | .loading => 1
    | .ready => 2
    | .poisoned => 3
    | .retiring => 4)
  | 168, 32 => some (s.mapCount inst)
  | 168, 0 => some ((s.objPages inst).filter (fun k => (s.pte k).state == .resident)).length
  | _, _ => none

/-- What a field shows, where it is computed. -/
def State.view (s : State) (block inst off i j lo : Nat) : Option Nat := match block with
  | 1 => s.tenantView inst off lo
  | 3 => if off = 8 then s.facetView i lo else none
  | 7 => if off = 8 ∧ lo = 0 then some (s.idx.queries.filter (fun q => !q.2.lists.isEmpty)).length else none
  | 8 => s.memView inst off lo
  | 10 => if off = 24 then some (if lo = 32 then Config.geoUsable else Config.geoUsable - s.geo.pages.length - s.extents.foldl (fun n e => n + e.2.pages) 0) else none
  | 11 => if off = 4096 then
      let scans := (s.idx.queries.filter (fun q => q.2.step == .scanning)).length
      (if lo = 29 then some (if 8 * s.bays ≤ i then 0 else if 0 < scans then 2 else 1) else if lo = 25 then some (Nat.min scans 8) else none)
    else none
  | 12 => if off = 24 then some (s.idx.indices.foldl (fun n p => n + 2 ^ p.1) 0) else (s.index inst).bind (fun x => s.idxView inst x off lo)
  | 13 => (s.table inst).bind (fun t => s.ftbView t off i lo)
  | 14 => if off = 32 then some (if lo = 32 then s.txu.streams.length else s.txu.onHub)
    else if off = 112 then (s.dict inst).bind (fun d => s.dictView inst d lo)
    else if off = 128 then (s.gram inst).bind (fun g => s.gramView inst g lo)
    else none
  | 15 => if off = 64 then (s.inst inst).bind (fun x => s.instView inst x lo)
    else if off = 104 ∧ lo = 0 then
      let mine := (s.gen.reqs.map (fun g => g.2)).filter (fun g => g.blk.inst == inst)
      some (((mine.flatMap (fun g => g.blocks)).dedup).filter (fun b => decide (1 < (mine.filter (fun g => g.blocks.contains b)).length))).length
    else none
  | 18 => if off = 0x800 then some (s.beats i) else none
  | 23 => if off = 8 then some (if lo = 47 then (s.rec_.store.filter (fun r => !r.released)).length
      else if lo = 30 then (s.rec_.store.filter (fun r => r.released)).length else s.rec_.hold.length) else none
  | _ => (fun _ => none) j

/-- What a read of a field returns: a write-only field reads zero. -/
def State.readField (s : State) (a : RegAt) (block : Nat) (fd : FieldDesc) : Nat :=
  if fd.acc = .wo then 0 else (s.view block (a.key / 2 ^ 25) a.desc.off a.i a.j fd.lo).getD (s.get (a.field fd))

/-- What service software reads at an offset of a block in an access of a width (R4, R8, R463, R479). -/
def State.readReg (s : State) (block off width : Nat) : Nat := match s.selected (selAt off width (blockRegs block)) with
  | none => 0
  | some inst => match regAt block off width inst (blockRegs block) with
    | none => 0
    | some a => if s.unitHere block a.i a.desc then (a.desc.fields.map (fun fd => s.readField a block fd * 2 ^ fd.lo)).foldl (· + ·) 0 else 0

/-- What a read of a register by service software leaves: the fields that clear on a read have cleared, all of the register together (table
"Access codes"). No command of the table is a register read, so no step does this (log entry 39: DESIGN CHOICE, unsafe). -/
def State.afterRead (s : State) (block off width : Nat) : State := match s.selected (selAt off width (blockRegs block)) with
  | none => s
  | some inst => match regAt block off width inst (blockRegs block) with
    | none => s.badAccess block off
    | some a =>
      if s.unitHere block a.i a.desc then (a.desc.fields.filter (fun fd => fd.acc == .rc)).foldl (fun s fd => s.put (a.field fd) 0) s else s

end Sys2Proof.Machine
end

