-- ==== Sys2Proof/WellFormed.lean ====
section
/-! DEFINITION. The well-formed commands: every operand fits the field that the manual's tables give it, and a kernel instruction names
a core that a variant can have. A field marked zero may be non-zero: that is a reserved encoding with an effect of its own (R9, R66). -/

namespace Sys2Proof

/-- `v` fits in `n` bits. -/
def fits (n v : Nat) : Bool := decide (v < 2 ^ n)

/-- Every number of a list fits in `n` bits. -/
def allFit (n : Nat) (l : List Nat) : Bool := l.all (fits n)

/-- Cores are numbered 0 to 31 (table "Product variants"). -/
def coreFits (c : Nat) : Bool := fits 5 c

def Entry.wf (e : Entry) : Bool := fits 48 e.va && fits 8 e.kind && fits 40 e.length

def CmdDesc.wf (d : CmdDesc) : Bool :=
  fits 8 d.format && fits 10 d.tid && fits 32 d.cmdId && fits 64 d.reqHandle && fits 48 d.codeVa && fits 16 d.codeLen
    && fits 8 d.opnds.length && d.opnds.all Entry.wf && fits 8 d.outs.length && d.outs.all Entry.wf && fits 3 d.preds.length
    && allFit 32 d.preds && fits 8 d.facetUnits && d.args.length == 6

def ObjDesc.wf (d : ObjDesc) : Bool :=
  fits 12 d.objId && fits 6 d.keySlot && fits 32 d.pages && fits 16 d.altTimeout && fits 64 d.altAddr && fits 32 d.altKey

def TierOp.wf (o : TierOp) : Bool :=
  fits 1 o.cls && fits 2 o.home && fits 10 o.tid && fits 48 o.va && fits 32 o.pages && fits 64 o.arg && fits 64 o.opId
    && fits 48 o.completion && o.obj.wf

/-- A control entry names a block of 8 bits (table "Register blocks"). -/
def OpControl.wf (e : OpControl) : Bool := fits 8 e.block && fits 64 e.arg && fits 64 e.opId && fits 48 e.completion

def KHead.wf (h : KHead) : Bool :=
  fits 20 h.node && fits 32 h.epoch && fits 3 h.tc && fits 32 h.seq && fits 64 h.addr && fits 32 h.len && fits 32 h.key && fits 64 h.opId

def GatherDesc.wf (d : GatherDesc) : Bool :=
  fits 8 d.format && fits 8 d.table && fits 1 d.outFmt && fits 1 d.outMode && fits 32 d.cmdId && fits 64 d.reqHandle && fits 48 d.idxVa
    && fits 32 d.count && fits 48 d.outVa && fits 40 d.outLen && fits 2 d.preds.length && allFit 32 d.preds

def FtbDesc.wf (d : FtbDesc) : Bool :=
  fits 8 d.format && fits 8 d.table && fits 10 d.tid && fits 3 d.defaultWidth && fits 1 d.round && fits 13 d.dim && fits 32 d.rows
    && fits 48 d.dirVa && d.heapVa.length == 4 && allFit 48 d.heapVa && d.slots.length == 4 && allFit 32 d.slots && fits 8 d.promoteHits
    && fits 8 d.demoteHits && fits 16 d.decayMs

def FtbOp.wf (o : FtbOp) : Bool := fits 8 o.table && fits 3 o.width && fits 64 o.arg && o.desc.wf && fits 64 o.opId && fits 48 o.completion

def PackDesc.wf (d : PackDesc) : Bool :=
  fits 8 d.format && fits 16 d.maxPassages && fits 18 d.budget && allFit 48 [d.headVa, d.midVa, d.tailVa, d.preVa, d.postVa]
    && allFit 12 [d.headN, d.midN, d.tailN, d.preN, d.postN]

def TxuJob.wf (d : TxuJob) : Bool :=
  fits 8 d.format && fits 4 d.op && fits 2 d.stream && fits 16 d.dictId && fits 32 d.cmdId && fits 64 d.reqHandle && fits 48 d.inVa
    && fits 32 d.inLen && fits 48 d.outVa && fits 40 d.outLen && fits 2 d.preds.length && allFit 32 d.preds && d.pack.wf

def StopSet.wf (d : StopSet) : Bool := decide (d.strings.length ≤ 8) && d.strings.all (fun x => decide (1 ≤ x.length) && decide (x.length ≤ 64))

def TxuOp.wf (o : TxuOp) : Bool := fits 10 o.tid && fits 12 o.id && fits 64 o.arg && fits 64 o.opId && fits 48 o.completion

def FilterNode.wf (n : FilterNode) : Bool := fits 4 n.op && fits 2 n.attr && fits 3 n.cmp && fits 64 n.value

def SearchBlock.wf (b : SearchBlock) : Bool :=
  fits 6 b.index && fits 5 b.prog && allFit 13 [b.nprobe, b.maxProbes, b.cand, b.rescoreKeep] && fits 5 b.filter.length
    && b.filter.all FilterNode.wf && allFit 48 [b.qvecVa, b.tableAVa, b.tableBVa] && fits 64 b.resultAddr && b.q.length == 16

def UpdEntry.wf (e : UpdEntry) : Bool :=
  fits 40 e.item && fits 2 e.op && e.nums.length == 4 && allFit 32 e.nums && fits 16 e.textBytes && fits 16 e.tokens && fits 32 e.entryBytes
    && allFit 32 e.toks

def IdxDesc.wf (d : IdxDesc) : Bool :=
  fits 6 d.index && fits 10 d.tid && fits 2 d.codeBytes && fits 4 d.metric && fits 12 d.dim && d.numTypes.length == 4 && allFit 2 d.numTypes
    && fits 5 d.sideLog2 && fits 23 d.partitions && fits 40 d.idLimit && fits 8 d.autoFoldPct && fits 16 d.dictId
    && allFit 48 [d.regionVa, d.centVa, d.bookVa, d.memberVa, d.itemVa, d.passageVa] && allFit 16 [d.memberExt, d.itemExt, d.passageExt]
    && d.load.all UpdEntry.wf

def IdxOp.wf (o : IdxOp) : Bool := fits 6 o.index && o.desc.wf && fits 64 o.opId && fits 48 o.completion

def ModelHdr.wf (h : ModelHdr) : Bool :=
  fits 8 h.format && fits 8 h.layers && allFit 32 [h.vocab, h.maxContext, h.kvTokenBytes, h.sites] && fits 18 h.endToken && fits 64 h.imageId

def InstDesc.wf (d : InstDesc) : Bool :=
  allFit 48 [d.imageVa, d.kvPoolVa, d.siteVa] && fits 32 d.kvPoolPages && fits 16 d.dictId && allFit 11 [d.passRows, d.chunkMin, d.chunkRepro]
    && fits 2 d.passes

def GenOp.wf (o : GenOp) : Bool := fits 12 o.inst && fits 10 o.tid && o.desc.wf && o.hdr.wf && fits 64 o.opId && fits 48 o.completion

def GenBlock.wf (b : GenBlock) : Bool :=
  allFit 12 [b.inst, b.draftInst, b.grammar] && fits 2 b.draftMode && fits 5 b.draftMax && fits 32 b.maxNew && fits 10 b.topK
    && fits 48 b.stopVa && fits 64 b.shipAddr && fits 32 b.shipKey

def ShipRec.wf (r : ShipRec) : Bool :=
  fits 4 r.kind && fits 12 r.inst && fits 10 r.tid && fits 32 r.count && fits 64 r.shipId && fits 64 r.reply && fits 3 r.offsets.length
    && allFit 64 r.offsets

def Manifest.wf (m : Manifest) : Bool :=
  fits 8 m.format && fits 10 m.tid && allFit 64 m.pages && fits 32 m.firstToken && fits 64 m.imageId && fits 20 m.grammarState
    && decide (m.held.length ≤ 63) && m.gen.wf && m.stop.wf

def Job.wf : Job → Bool
  | .command d => d.wf
  | .gather d => d.wf
  | .txu d => d.wf
  | .reserved => true

def QEntry.wf (e : QEntry) : Bool := e.job.wf && fits 10 e.chargeTid && fits 64 e.reqHandle && fits 16 e.soloRatio
def SeqCall.wf (c : SeqCall) : Bool := fits 64 c.handle && c.items.all QEntry.wf

def ReqDesc.wf (d : ReqDesc) : Bool :=
  fits 8 d.format && fits 4 d.kind && fits 32 d.questionLen && fits 64 d.tag && fits 48 d.questionVa && fits 12 d.embedInst
    && fits 12 d.rerankInst && fits 64 d.target && fits 64 d.streamAddr && fits 32 d.streamKey && fits 8 d.streamLog2 && fits 6 d.index
    && decide (d.message.length ≤ 64) && d.search.wf && d.gen.wf && d.stop.wf && d.pack.wf && d.batch.all UpdEntry.wf

/-- A tenant has rings 0 to 3 (R364). -/
def RingRead.wf (x : RingRead) : Bool := fits 10 x.tid && fits 2 x.ring && x.d.wf

/-- An access of the register space is of 8 to 64 bits; of which widths it is accepted is R463. -/
def RegWrite.wf (w : RegWrite) : Bool := fits 8 w.block && fits 28 w.offset && [8, 16, 32, 64].contains w.width && fits w.width w.value

def OnxOp.wf (o : OnxOp) : Bool := fits 12 o.slot && fits 3 o.reg && fits 64 o.arg && fits 64 o.opId && fits 48 o.completion

/-- Whether the operands of a command fit the fields that carry them. -/
def Instr.wf : Instr → Bool
  | .regWrite w => w.wf
  | .add c .. | .sub c .. | .mul c .. | .mulhu c .. | .and c .. | .or c .. | .xor c .. | .sll c .. | .srl c .. | .sra c .. | .slt c .. | .sltu c ..
  | .min c .. | .max c .. | .fadd c .. | .fsub c .. | .fmul c .. | .fmin c .. | .fmax c .. | .fcvtF32I64 c .. | .fcvtI64F32 c .. | .li c .. | .lih c ..
  | .br c .. | .jl c .. | .jr c .. | .ld8 c .. | .ld16 c .. | .ld32 c .. | .ld64 c .. | .st8 c .. | .st16 c .. | .st32 c .. | .st64 c ..
  | .stage c .. | .nop c .. | .fence c .. | .commit c .. | .abort c .. | .mloadW c .. | .mrun c .. | .mdrain c .. | .mtov c ..
  | .vld c .. | .vst c .. | .vbcast c .. | .vchain c .. | .vred c .. | .vderiv c .. | .vmset c .. | .vmld c .. | .vmst c ..
  | .selk c .. | .selt c .. | .kput c .. | .geoProgram c .. | .reservedInstructionWord c .. => coreFits c
  | .commandDispatch _ core _ | .commandEnd core _ | .coreFault core .. | .externalOverrunTimeout core .. | .coreRetire core _ | .coreOffline core _
  | .sliceEnd core _ | .graceWindowEnd core .. => coreFits core
  | .facetDrain facet v => fits 3 facet && fits 64 v
  | .facetStoreUe facet unit _ => fits 3 facet && fits 9 unit
  | .placement _ | .periodBoundary _ | .loupeWindowEnd _ | .journalGroupFlush _ | .checkpoint _ | .patrolPeriodEnd _ | .refOscFault _ | .refOscReturn _
  | .rampDone _ | .flushComplete _ | .pldmSensorUpdate _ | .freezeTimeout _ | .evrMirror _ | .opSecondsSave _ | .pldmReadEventLog => true
  | .brxDoorbell tid ring tail _ => fits 10 tid && fits 2 ring && fits 32 tail
  | .hostRecordWrite _ | .hostHeadPoll .. => true
  | .tenantEnable tid v => fits 10 tid && fits 64 v
  | .dspPostTail tail entries => fits 16 tail && entries.all QEntry.wf
  | .opSuspend e | .opResume e | .opCancel e => e.wf
  | .reservationGrant .. | .pageBringUpDone .. | .writeBack .. | .writeBackDone .. | .pageEvict .. | .journalStripeAck .. => true
  | .hbmUeLine stack line _ => fits 4 stack && fits 30 line
  | .objPageRecovery obj .. | .altFetchTimeout obj _ => fits 12 obj
  | .map o | .unmap o | .setHome o _ | .prefetch o _ | .evict o _ | .pin o | .unpin o | .mapShared o | .objRegister o | .objSetAlt o | .objSeal o
  | .objRewrite o | .objRetire o => o.wf
  | .hbmRetire stack v => fits 4 stack && fits 64 v
  | .stackFail stack _ => fits 4 stack
  | .ftbCreate o | .ftbDrop o | .ftbMigrate o => o.wf
  | .gather .. | .open_ .. | .feed .. | .pack .. => true
  | .scatterAddApply table _ | .decayTick table _ => fits 8 table
  | .migrationStart table row | .migrationSwitch table row | .migrationFree table row => fits 8 table && fits 32 row
  | .contextEvict handle stream _ => fits 64 handle && fits 2 stream
  | .dictLoad o | .dictUnload o | .gramLoad o _ | .gramUnload o => o.wf
  | .idxCreate o | .idxDrop o | .idxFold o | .idxRepair o => o.wf
  | .itemCopyWrite index handle item => fits 6 index && fits 64 handle && fits 40 item
  | .foldPublish index _ | .foldReclaim index => fits 6 index
  | .idxCtlWrite v => fits 64 v
  | .probeOrder call emb => call.wf && fits 48 emb
  | .scanUnitScore handle part _ channel => fits 64 handle && fits 22 part && fits 6 channel
  | .probeDispatch call | .sideListSearch call | .rescore call => call.wf
  | .mergeStart handle | .candidateFetch handle | .passageFetch handle => fits 64 handle
  | .csuProgLoad slot addr => fits 4 slot && fits 48 addr
  | .genModelLoad o | .genModelUnload o => o.wf
  | .formPass inst items _ => fits 12 inst && items.all (fun e => e.1.wf)
  | .passCommit inst .. => fits 12 inst
  | .detokenise handle _ | .shipChunk handle _ => fits 64 handle
  | .heldRequestAdmit h _ => fits 64 h.handle && h.d.wf && h.items.all QEntry.wf
  | .grammarAdvance handle cmdId recVa _ => fits 64 handle && fits 32 cmdId && fits 48 recVa
  | .draftWalk handle drafts cmdId recVa _ => fits 64 handle && allFit 18 drafts && fits 32 cmdId && fits 48 recVa
  | .stageAdvance handle items _ => fits 64 handle && items.all QEntry.wf
  | .shipGrant h offsets _ => (h.record offsets).wf
  | .shipClaim r _ | .shipAck r _ | .shipNack r _ | .shipAbort r _ => r.wf
  | .shipManifest r m d _ => r.wf && m.wf && d.wf
  | .orphanMsExpiry tid shipId _ => fits 10 tid && fits 64 shipId
  | .indexUpdate x => x.read.wf && x.items.all QEntry.wf
  | .request x | .cancel x | .suspend x | .resume x | .service x => x.wf
  | .flashOpStart channel .. | .flashUnitRead channel .. | .channelUnanswered channel _ => fits 6 channel
  | .geoProgramAck .. | .garbageCollect .. | .patrolRead .. => true
  | .cartridgeInsert bay .. | .cartridgeRemoved bay _ | .bayReadyToPull bay _ | .rebuildStripe bay _ => fits 3 bay
  | .bayEject bay v | .bayAdmit bay v => fits 3 bay && fits 64 v
  | .load h _ => h.wf
  | .store h bytes _ | .put h bytes _ => h.wf && fits 32 bytes.length
  | .fadd64 h .. | .swap64 h .. | .cas64 h .. => h.wf
  | .ktrAck node tc ack _ epoch .. => fits 20 node && fits 3 tc && fits 32 ack && fits 32 epoch
  | .ktrResp id epoch _ => fits 64 id && fits 32 epoch
  | .ktrNack _ reason _ => fits 16 reason
  | .rtoExpiry node tc seq _ => fits 20 node && fits 3 tc && fits 32 seq
  | .unreachTimeout node _ => fits 20 node
  | .linkDrop port .. | .frameSend port .. | .frameReceive port .. | .gateSwitch port _ | .gateEntryEnd port _ | .ptpLock port .. | .ptpMasterLost port _
  | .queueSample port .. | .linkUp port _ | .sakRotate port => fits 4 port
  | .ktrWinSync v => fits 64 v
  | .gateGo port v _ => fits 4 port && fits 64 v
  | .islandClockStop i .. | .islandWake i .. | .islandResetExit i _ => fits 7 i
  | .islandReset i v .. => fits 7 i && fits 64 v
  | .targetWrite v _ => fits 64 v
  | .surgeEnter .. | .inputOver44V .. | .inputOver48V .. | .inputCurrentHigh .. | .dutyStep .. | .tjHot .. | .thermalStep .. | .tjTrip .. | .inputBelow18V .. =>
    true
  | .surgeLeave reason .. => fits 8 reason
  | .psmFault psm .. => fits 2 psm
  | .shedStepEnter step .. | .shedStepLeave step .. => fits 3 step
  | .d2dLinkFail link _ | .d2dRetrain link .. => fits 2 link
  | .scrubRead .. | .scrubPeriodEnd .. => true
  | .rasInjectWrite v .. | .rasRetireClr v => fits 64 v
  | .report o | .keyImport o .. | .keyGenerate o _ | .keyDestroy o _ | .extend o | .kemRotate o | .rollbackCommit o _ | .officerEnroll o .. | .rootRevoke o ..
  | .zeroise o .. | .debugUnlock o .. => o.wf
  | .tamperTrigger cause .. => fits 8 cause
  | .powerOnReset _ | .pldmColdRestart _ => true
  | .warmRestart cause v .. => fits 1 cause && fits 64 v
  | .readyWrite v | .partSvcDone v => fits 64 v
  | .norErase r | .norRead r => fits 28 r.addr && fits 24 r.length && fits 40 r.buf
  | .norProgram r _ => fits 28 r.addr && fits 24 r.length && fits 40 r.buf
  | .evrRelease seq => fits 64 seq
  | .evrRecRead w n => fits 1 w && fits 3 n
  | .evrFreezeWrite v _ => fits 64 v

end Sys2Proof
end

