-- ==== Sys2Proof/Tests/Slice0.lean ====
section
/-! SUPPORT. Tests of the model: ill-formed operands, words written out from the spec, and states that meet the hypotheses of the statements. -/

namespace Sys2Proof.Tests

open Sys2Proof Sys2Proof.Machine

set_option Elab.async false

/-! ### Base operands: every field fits -/

def cmd0 : CmdDesc := ⟨1, false, false, false, false, 5, 7, 5 * 2 ^ 48, 0, 3, [], [], [], 0, 0, 0, 0, [11, 12, 13, 14, 15, 16], false⟩
def obj0 : ObjDesc := ⟨9, false, 3, 2, 100, 0, 0, false⟩
def tier0 : TierOp := ⟨0, 0, false, true, 5, false, 0, 2, 0, 77, 4096, obj0, false⟩
def ctl0 : OpControl := ⟨8, 77, true, 78, 4096, false⟩
def head0 : KHead := ⟨3, 0, 0, 1, 0, 8, 0, 9, false, true, false⟩
def ftbd0 : FtbDesc := ⟨1, 2, 5, false, 1, 0, false, 64, 16, 0, 0, [0, 2 ^ 21, 0, 0], [0, 16, 0, 0], 0, 0, 0, false⟩
def ftb0 : FtbOp := ⟨2, 2, 3, ftbd0, 77, 4096, false⟩
def pack0 : PackDesc := ⟨1, false, false, 4, 100, 0, 0, 0, 0, 0, 0, 0, 0, 0, 0, false⟩
def txuj0 : TxuJob := ⟨1, 1, false, false, 0, 2, 7, 5 * 2 ^ 48, 0, 4, 4096, 4096, [], pack0, false⟩
def gather0 : GatherDesc := ⟨1, 2, 0, 0, 7, 5 * 2 ^ 48, 0, 4, 4096, 4096, [], false⟩
def stop0 : StopSet := ⟨false, [], false⟩
def txu0 : TxuOp := ⟨false, 5, 2, 0, 77, 4096, false⟩
def node0 : FilterNode := ⟨0, 0, 0, 0, false⟩
def search0 : SearchBlock := ⟨1, 0, false, true, false, 1, 1, 1, 0, [], 0, 0, 0, 0, 0, List.replicate 16 0, true, false⟩
def upd0 : UpdEntry := ⟨1, 1, 0, [0, 0, 0, 0], 0, 0, 64, [], [], [], false⟩
def idxd0 : IdxDesc := ⟨1, 5, false, false, 0, false, false, 0, 64, [0, 0, 0, 0], 10, 4, 0, 100, 50, 0xFFFF, 0, 0, 0, 0, 0, 0, 0, 0, 0, [], false⟩
def idx0 : IdxOp := ⟨1, idxd0, 77, 4096, false⟩
def hdr0 : ModelHdr := ⟨1, false, 1, 16, 4096, 64, 2, 0, 9, false⟩
def instd0 : InstDesc := ⟨0, 4096, 2 ^ 21, 4, 2, 0, 0, 64, 16, 16, 1, false⟩
def genop0 : GenOp := ⟨1, 5, instd0, hdr0, 77, 4096, false⟩
def gen0 : GenBlock := ⟨1, 0, 0, 0, false, 4, 0, 0, 0, 1, false, false, 0, false, 0, 0, 0, 0, false⟩
def ship0 : ShipRec := ⟨1, 1, 5, 1, 9, 0, [], false⟩
def mani0 : Manifest := ⟨1, false, 5, 16, [0], 3, 9, 0, 0, [], gen0, stop0, []⟩
def entry0 : QEntry := ⟨.command cmd0, 5, false, 5 * 2 ^ 48, 4096, false⟩
def desc0 : ReqDesc := ⟨1, 1, false, false, true, false, 4, 42, 0, 0, 0, 0, 0, 0, 8, 1, [], [], search0, gen0, stop0, pack0, [], false⟩
def read0 : RingRead := ⟨5, 0, 100, desc0⟩
def onx0 : OnxOp := ⟨3, 2, 4096, 77, 8192, false⟩
def nor0 : NorOp := ⟨0, 65536, 0, true, false⟩
def image0 : Image := ⟨true, 0, true, true, 3, true, []⟩
def boot0 : Boot := ⟨true, true, some image0, none, [], [], [], [], [], [], [], [], [], []⟩
def meas0 : Meas := ⟨24000, 1000, 200, 60, 60, 60⟩
def sample0 : Sample := ⟨100, 10, [0, 0, 0, 0], [], 0, 0, 0, []⟩

/-! ### Ill-formed operands are refused, one for each check of `Instr.wf` -/

theorem test_wf_accepts : [Instr.regWrite ⟨8, 0, 32, 5, false⟩, .add 31 1 2 (.imm 5), .map tier0, .opCancel ctl0, .load head0 0, .ftbCreate ftb0, .dictLoad txu0,
    .idxCreate idx0, .genModelLoad genop0, .shipManifest ship0 mani0 desc0 0, .dspPostTail 1 [entry0], .request read0, .report onx0, .norRead nor0].all
    (fun i => i.wf) = true := by decide +kernel

theorem test_wf_register_writes : [{ block := 256, offset := 0, width := 32, value := 0, tenant := false }, ⟨0, 2 ^ 28, 32, 0, false⟩, ⟨0, 0, 16 + 1, 0, false⟩,
    ⟨0, 0, 32, 2 ^ 32, false⟩].all (fun w => (Instr.regWrite w).wf == false) = true := by decide +kernel

theorem test_wf_cores : [Instr.add 32 1 2 (.imm 5), .reservedInstructionWord 32 0, .commandDispatch 1 32 0, .commandEnd 32 sample0, .coreRetire 32 1, .sliceEnd 32 0,
    .graceWindowEnd 32 0 sample0].all (fun i => i.wf == false) = true := by decide +kernel

theorem test_wf_commands : [{ cmd0 with format := 256 }, { cmd0 with tid := 1024 }, { cmd0 with cmdId := 2 ^ 32 }, { cmd0 with reqHandle := 2 ^ 64 },
    { cmd0 with codeVa := 2 ^ 48 }, { cmd0 with codeLen := 65536 }, { cmd0 with opnds := List.replicate 256 ⟨0, 0, 0⟩ }, { cmd0 with opnds := [⟨2 ^ 48, 0, 0⟩] },
    { cmd0 with outs := List.replicate 256 ⟨0, 0, 0⟩ }, { cmd0 with outs := [⟨0, 256, 0⟩] }, { cmd0 with outs := [⟨0, 0, 2 ^ 40⟩] },
    { cmd0 with preds := List.replicate 8 0 }, { cmd0 with preds := [2 ^ 32] }, { cmd0 with facetUnits := 256 }, { cmd0 with args := [] }].all
    (fun d => (Instr.dspPostTail 1 [{ entry0 with job := .command d }]).wf == false) = true := by decide +kernel

theorem test_wf_entries : [{ entry0 with chargeTid := 1024 }, { entry0 with reqHandle := 2 ^ 64 }, { entry0 with soloRatio := 65536 }].all
    (fun e => (Instr.dspPostTail 1 [e]).wf == false && (Instr.stageAdvance 0 [e] 0).wf == false && (Instr.formPass 1 [(e, none)] 0).wf == false) = true := by decide +kernel

theorem test_wf_tier : [{ tier0 with cls := 2 }, { tier0 with home := 4 }, { tier0 with tid := 1024 }, { tier0 with va := 2 ^ 48 }, { tier0 with pages := 2 ^ 32 },
    { tier0 with arg := 2 ^ 64 }, { tier0 with opId := 2 ^ 64 }, { tier0 with completion := 2 ^ 48 }, { tier0 with obj := { obj0 with objId := 4096 } },
    { tier0 with obj := { obj0 with keySlot := 64 } }, { tier0 with obj := { obj0 with pages := 2 ^ 32 } }, { tier0 with obj := { obj0 with altTimeout := 65536 } },
    { tier0 with obj := { obj0 with altAddr := 2 ^ 64 } }, { tier0 with obj := { obj0 with altKey := 2 ^ 32 } }].all
    (fun o => (Instr.map o).wf == false && (Instr.evict o 1).wf == false) = true := by decide +kernel

theorem test_wf_controls : [{ ctl0 with block := 256 }, { ctl0 with arg := 2 ^ 64 }, { ctl0 with opId := 2 ^ 64 }, { ctl0 with completion := 2 ^ 48 }].all
    (fun e => (Instr.opSuspend e).wf == false) = true := by decide +kernel

theorem test_wf_datagrams : [{ head0 with node := 2 ^ 20 }, { head0 with epoch := 2 ^ 32 }, { head0 with tc := 8 }, { head0 with seq := 2 ^ 32 }, { head0 with addr := 2 ^ 64 },
    { head0 with len := 2 ^ 32 }, { head0 with key := 2 ^ 32 }, { head0 with opId := 2 ^ 64 }].all
    (fun h => (Instr.load h 0).wf == false && (Instr.put h [] 0).wf == false) = true := by decide +kernel

theorem test_wf_gathers : [{ gather0 with format := 256 }, { gather0 with table := 256 }, { gather0 with outFmt := 2 }, { gather0 with outMode := 2 },
    { gather0 with cmdId := 2 ^ 32 }, { gather0 with reqHandle := 2 ^ 64 }, { gather0 with idxVa := 2 ^ 48 }, { gather0 with count := 2 ^ 32 }, { gather0 with outVa := 2 ^ 48 },
    { gather0 with outLen := 2 ^ 40 }, { gather0 with preds := [1, 2, 3, 4] }, { gather0 with preds := [2 ^ 32] }].all
    (fun d => (Instr.dspPostTail 1 [{ entry0 with job := .gather d }]).wf == false) = true := by decide +kernel

theorem test_wf_tables : [{ ftbd0 with format := 256 }, { ftbd0 with table := 256 }, { ftbd0 with tid := 1024 }, { ftbd0 with defaultWidth := 8 }, { ftbd0 with round := 2 },
    { ftbd0 with dim := 8192 }, { ftbd0 with rows := 2 ^ 32 }, { ftbd0 with dirVa := 2 ^ 48 }, { ftbd0 with heapVa := [] }, { ftbd0 with heapVa := [0, 0, 0, 2 ^ 48] },
    { ftbd0 with slots := [] }, { ftbd0 with slots := [0, 0, 0, 2 ^ 32] }, { ftbd0 with promoteHits := 256 }, { ftbd0 with demoteHits := 256 },
    { ftbd0 with decayMs := 65536 }].all (fun d => (Instr.ftbCreate { ftb0 with desc := d }).wf == false) = true ∧
  [{ ftb0 with table := 256 }, { ftb0 with width := 8 }, { ftb0 with arg := 2 ^ 64 }, { ftb0 with opId := 2 ^ 64 }, { ftb0 with completion := 2 ^ 48 }].all
    (fun o => (Instr.ftbMigrate o).wf == false) = true := by decide +kernel

theorem test_wf_token_jobs : [{ txuj0 with format := 256 }, { txuj0 with op := 16 }, { txuj0 with stream := 4 }, { txuj0 with dictId := 65536 }, { txuj0 with cmdId := 2 ^ 32 },
    { txuj0 with reqHandle := 2 ^ 64 }, { txuj0 with inVa := 2 ^ 48 }, { txuj0 with inLen := 2 ^ 32 }, { txuj0 with outVa := 2 ^ 48 }, { txuj0 with outLen := 2 ^ 40 },
    { txuj0 with preds := [1, 2, 3, 4] }, { txuj0 with preds := [2 ^ 32] }, { txuj0 with pack := { pack0 with format := 256 } },
    { txuj0 with pack := { pack0 with maxPassages := 65536 } }, { txuj0 with pack := { pack0 with budget := 2 ^ 18 } }, { txuj0 with pack := { pack0 with headVa := 2 ^ 48 } },
    { txuj0 with pack := { pack0 with postN := 4096 } }].all (fun d => (Instr.dspPostTail 1 [{ entry0 with job := .txu d }]).wf == false) = true ∧
  [{ txu0 with tid := 1024 }, { txu0 with id := 4096 }, { txu0 with arg := 2 ^ 64 }, { txu0 with opId := 2 ^ 64 }, { txu0 with completion := 2 ^ 48 }].all
    (fun o => (Instr.dictLoad o).wf == false && (Instr.gramLoad o 1).wf == false) = true := by decide +kernel

theorem test_wf_indices : [{ idxd0 with index := 64 }, { idxd0 with tid := 1024 }, { idxd0 with codeBytes := 4 }, { idxd0 with metric := 16 }, { idxd0 with dim := 4096 },
    { idxd0 with numTypes := [] }, { idxd0 with numTypes := [0, 0, 0, 4] }, { idxd0 with sideLog2 := 32 }, { idxd0 with partitions := 2 ^ 23 }, { idxd0 with idLimit := 2 ^ 40 },
    { idxd0 with autoFoldPct := 256 }, { idxd0 with dictId := 65536 }, { idxd0 with bookVa := 2 ^ 48 }, { idxd0 with passageExt := 65536 },
    { idxd0 with load := [{ upd0 with item := 2 ^ 40 }] }, { idxd0 with load := [{ upd0 with op := 4 }] }, { idxd0 with load := [{ upd0 with nums := [] }] },
    { idxd0 with load := [{ upd0 with nums := [0, 0, 0, 2 ^ 32] }] }, { idxd0 with load := [{ upd0 with textBytes := 65536 }] },
    { idxd0 with load := [{ upd0 with tokens := 65536 }] }, { idxd0 with load := [{ upd0 with entryBytes := 2 ^ 32 }] }, { idxd0 with load := [{ upd0 with toks := [2 ^ 32] }] }].all
    (fun d => (Instr.idxCreate { idx0 with desc := d }).wf == false) = true ∧
  [{ idx0 with index := 64 }, { idx0 with opId := 2 ^ 64 }, { idx0 with completion := 2 ^ 48 }].all (fun o => (Instr.idxDrop o).wf == false) = true := by decide +kernel

theorem test_wf_models : [{ hdr0 with format := 256 }, { hdr0 with layers := 256 }, { hdr0 with vocab := 2 ^ 32 }, { hdr0 with endToken := 2 ^ 18 }, { hdr0 with imageId := 2 ^ 64 }].all
    (fun h => (Instr.genModelLoad { genop0 with hdr := h }).wf == false) = true ∧
  [{ instd0 with siteVa := 2 ^ 48 }, { instd0 with kvPoolPages := 2 ^ 32 }, { instd0 with dictId := 65536 }, { instd0 with passRows := 2048 }, { instd0 with passes := 4 }].all
    (fun d => (Instr.genModelLoad { genop0 with desc := d }).wf == false) = true ∧
  [{ genop0 with inst := 4096 }, { genop0 with tid := 1024 }, { genop0 with opId := 2 ^ 64 }, { genop0 with completion := 2 ^ 48 }].all
    (fun o => (Instr.genModelUnload o).wf == false) = true := by decide +kernel

theorem test_wf_shipping : [{ ship0 with kind := 16 }, { ship0 with inst := 4096 }, { ship0 with tid := 1024 }, { ship0 with count := 2 ^ 32 }, { ship0 with shipId := 2 ^ 64 },
    { ship0 with reply := 2 ^ 64 }, { ship0 with offsets := List.replicate 8 0 }, { ship0 with offsets := [2 ^ 64] }].all (fun r => (Instr.shipClaim r 0).wf == false) = true ∧
  [{ mani0 with format := 256 }, { mani0 with tid := 1024 }, { mani0 with pages := [2 ^ 64] }, { mani0 with firstToken := 2 ^ 32 }, { mani0 with imageId := 2 ^ 64 },
    { mani0 with grammarState := 2 ^ 20 }, { mani0 with held := List.replicate 64 0 }, { mani0 with gen := { gen0 with inst := 4096 } },
    { mani0 with stop := { stop0 with strings := [[]] } }].all (fun m => (Instr.shipManifest ship0 m desc0 0).wf == false) = true := by decide +kernel

theorem test_wf_requests : [{ desc0 with format := 256 }, { desc0 with kind := 16 }, { desc0 with questionLen := 2 ^ 32 }, { desc0 with tag := 2 ^ 64 }, { desc0 with questionVa := 2 ^ 48 },
    { desc0 with embedInst := 4096 }, { desc0 with rerankInst := 4096 }, { desc0 with target := 2 ^ 64 }, { desc0 with streamAddr := 2 ^ 64 }, { desc0 with streamKey := 2 ^ 32 },
    { desc0 with streamLog2 := 256 }, { desc0 with index := 64 }, { desc0 with message := List.replicate 65 0 }, { desc0 with batch := [{ upd0 with op := 4 }] },
    { desc0 with pack := { pack0 with budget := 2 ^ 18 } }, { desc0 with gen := { gen0 with draftMode := 4 } }, { desc0 with gen := { gen0 with draftMax := 32 } },
    { desc0 with gen := { gen0 with maxNew := 2 ^ 32 } }, { desc0 with gen := { gen0 with topK := 1024 } }, { desc0 with gen := { gen0 with stopVa := 2 ^ 48 } },
    { desc0 with gen := { gen0 with shipAddr := 2 ^ 64 } }, { desc0 with gen := { gen0 with shipKey := 2 ^ 32 } }, { desc0 with stop := ⟨false, List.replicate 9 [1], false⟩ },
    { desc0 with stop := ⟨false, [List.replicate 65 1], false⟩ }].all (fun d => (Instr.request ⟨5, 0, 0, d⟩).wf == false) = true ∧
  [{ search0 with index := 64 }, { search0 with prog := 32 }, { search0 with cand := 8192 }, { search0 with filter := List.replicate 32 node0 },
    { search0 with filter := [{ node0 with op := 16 }] }, { search0 with filter := [{ node0 with attr := 4 }] }, { search0 with filter := [{ node0 with cmp := 8 }] },
    { search0 with filter := [{ node0 with value := 2 ^ 64 }] }, { search0 with tableBVa := 2 ^ 48 }, { search0 with resultAddr := 2 ^ 64 }, { search0 with q := [] }].all
    (fun b => (Instr.indexUpdate ⟨⟨5, 0, 0, { desc0 with search := b }⟩, []⟩).wf == false && (Instr.heldRequestAdmit ⟨0, { desc0 with search := b }, []⟩ 0).wf == false) = true ∧
  (Instr.cancel ⟨1024, 0, 0, desc0⟩).wf = false ∧ (Instr.cancel ⟨5, 4, 0, desc0⟩).wf = false := by decide +kernel

theorem test_wf_onyx : [{ onx0 with slot := 4096 }, { onx0 with reg := 8 }, { onx0 with arg := 2 ^ 64 }, { onx0 with opId := 2 ^ 64 }, { onx0 with completion := 2 ^ 48 }].all
    (fun o => (Instr.report o).wf == false && (Instr.zeroise o none boot0).wf == false) = true := by decide +kernel

theorem test_wf_numbers : [Instr.facetDrain 8 0, .facetStoreUe 0 512 0, .brxDoorbell 1024 0 0 0, .brxDoorbell 0 4 0 0, .tenantEnable 1024 1, .hbmUeLine 16 0 0, .objPageRecovery 4096 [] 0,
    .hbmRetire 16 1, .stackFail 16 0, .scatterAddApply 256 0, .migrationStart 0 (2 ^ 32), .contextEvict 0 4 0, .itemCopyWrite 64 0 0, .foldPublish 64 0, .idxCtlWrite (2 ^ 64),
    .probeOrder ⟨0, []⟩ (2 ^ 48), .scanUnitScore 0 0 0 64, .probeDispatch ⟨2 ^ 64, []⟩, .sideListSearch ⟨2 ^ 64, []⟩, .rescore ⟨2 ^ 64, []⟩, .csuProgLoad 16 0, .passCommit 4096 0 [] 0, .detokenise (2 ^ 64) 0, .grammarAdvance 0 (2 ^ 32) 0 0,
    .draftWalk 0 [2 ^ 18] 0 0 0, .orphanMsExpiry 1024 0 0, .flashUnitRead 64 ⟨0, 0, 0⟩ 0, .cartridgeRemoved 8 0, .bayEject 0 (2 ^ 64), .ktrAck 0 8 0 0 0 false 0, .ktrResp 0 (2 ^ 32) 0,
    .ktrNack (.op 0) 65536 0, .rtoExpiry (2 ^ 20) 0 0 0, .unreachTimeout (2 ^ 20) 0, .linkUp 16 0, .ktrWinSync (2 ^ 64), .gateGo 16 0 0, .islandWake 128 0 0, .islandReset 0 (2 ^ 64) [] 0,
    .targetWrite (2 ^ 64) 0, .surgeLeave 256 meas0 0, .psmFault 4 meas0 0, .shedStepEnter 8 meas0 0, .d2dLinkFail 4 0, .rasRetireClr (2 ^ 64), .tamperTrigger 256 boot0 0,
    .warmRestart 2 0 boot0 0, .readyWrite (2 ^ 64), .norErase { nor0 with addr := 2 ^ 28 }, .norRead { nor0 with length := 2 ^ 24 }, .norProgram { nor0 with buf := 2 ^ 40 } [],
    .evrRelease (2 ^ 64), .evrRecRead 2 0, .evrRecRead 0 8, .evrFreezeWrite (2 ^ 64) 0].all (fun i => i.wf == false) = true := by decide +kernel

/-! ### Words written out from the tables of spec/03, spec/04 and spec/06 -/

/-- ADD S3 = S1 + S2; LI S5 = -1; BR back by one when S1 = S2; LD64 S4 from S2 - 8; COMMIT; FENCE of SCOPE 1; VRED MAX of V2 under M1 into S9;
MDRAIN with CLEAR; class 0xA is reserved. -/
theorem test_words : decodeWord 7 0x0006110000000000 = some (.add 7 3 1 (.reg 2 0)) ∧
  decodeWord 7 0x180A0FFFFFFFFFFF = some (.li 7 5 0 (.imm (-1))) ∧
  decodeWord 7 0x2002200000FFFFFF = some (.br 7 1 2 0 0 (-1)) ∧
  decodeWord 7 0x30C8200000FFFFF8 = some (.ld64 7 4 2 0 (-8)) ∧
  decodeWord 7 0x8080000000000000 = some (.commit 7 0) ∧
  decodeWord 7 0x8040000000000001 = some (.fence 7 0 1) ∧
  decodeWord 7 0x6112224000000000 = some (.vred 7 9 2 1 1 0) ∧
  decodeWord 7 0x508622C000000000 = some (.mdrain 7 3 2 5 1 0) ∧
  decodeWord 7 0xA000000000000000 = none := by decide +kernel

/-- An instruction with a word, and the word that gives it back. -/
theorem test_witness_DecodeOfEncode : encode (.add 7 3 1 (.reg 2 0)) = some 0x0006110000000000 ∧ decodeWord 7 0x0006110000000000 = some (.add 7 3 1 (.reg 2 0)) := by decide +kernel

/-! ### States that meet the hypotheses of the statements

Each theorem below gives, for the hypotheses of the statement in its name, a state and operands that meet them, clause by clause where the
statement has several; a range is met at its ends. Where it costs little the outcome that the statement gives is shown with it. -/

/-- Whether a command answers a next state of which `p` holds. -/
def nx (i : Instr) (s : State) (p : State → Bool) : Bool := match exec i s with
  | .next t => p t
  | _ => false

/-- Whether a command answers a given next state. -/
def gives (i : Instr) (s t : State) : Bool := nx i s (fun u => decide (u = t))

theorem reset_inv : State.reset.Inv := ⟨⟨rfl, rfl, rfl, rfl⟩, ⟨Nat.zero_le _, Nat.zero_le _, Nat.zero_le _⟩, fun _ _ h => nomatch h⟩

/-- A core at the first of the four instructions of its kernel, with one unit of facet window. -/
def k0 : Core := ⟨{ cmd0 with external := true, codeLen := 4, facetUnits := 1 }, 1, 0, 0, [], [], [], 0, [], [], [], [], ⟨0, []⟩, false, ⟨0, []⟩, false, [], [], 0, 0, 0, 0, 0, 0, 0, [],
  [], false, none, 0⟩

/-- Core 0 runs `k` and nothing else is different from reset. -/
def run (k : Core) : State := { State.reset with cores := [(0, k)] }

def k0.goodAt (k : Core) : Bool := k.ended.isNone && !k.waiting && decide (k.pc + 1 < k.d.codeLen) && Sparse.wf 0 k.sregs && Sparse.wf 0 k.vregs && Sparse.wf 0 k.masks
  && Sparse.wf 0 k.acc && Sparse.wf 0 k.store

/-- Core 0 of `run k` takes a next instruction, that is not the last of its kernel, in a state that meets the invariant. -/
def Goes (k : Core) : Prop := (run k).Inv ∧ (run k).Runs 0 k ∧ k.pc + 1 < k.d.codeLen

theorem goes_of (k : Core) (h : k0.goodAt k = true) : Goes k := by
  simp only [k0.goodAt, Bool.and_eq_true, decide_eq_true_eq, Bool.not_eq_true', Option.isNone_iff_eq_none] at h
  obtain ⟨⟨⟨⟨⟨⟨⟨h1, h2⟩, h3⟩, h4⟩, h5⟩, h6⟩, h7⟩, h8⟩ := h
  refine ⟨⟨⟨rfl, rfl, rfl, rfl⟩, ⟨Nat.zero_le _, Nat.zero_le _, Nat.zero_le _⟩, ?_⟩, ⟨rfl, h1, h2⟩, h3⟩
  intro c x hx
  have hc : x = k := by
    simp only [State.core, run, Sparse.find] at hx
    split at hx
    · exact (Option.some.inj hx).symm
    · simp at hx
  subst hc
  exact ⟨h4, h5, h6, h7, h8⟩

/-- The core with values in S1 to S4. -/
def k0.with (k : Core) (a b c d : Nat) : Core := (((k.setS 1 (BitVec.ofNat 64 a)).setS 2 (BitVec.ofNat 64 b)).setS 3 (BitVec.ofNat 64 c)).setS 4 (BitVec.ofNat 64 d)

/-- The core with words in its store from an address on. -/
def k0.holding (k : Core) (a : Nat) (ws : List Nat) : Core := { k with store := Sparse.write 0 k.store a (ws.flatMap (leBytes 8)) }

def kA : Core := k0.with k0 0xFFFFFFFFFFFFFFFF 5 7 0x41200000

theorem test_witness_IntegerResults : Goes kA ∧ SourceB kA (.reg 2 0) 5 ∧ SourceB kA (.imm (-1)) 0xFFFFFFFFFFFFFFFF ∧
    gives (.add 0 3 1 (.reg 2 0)) (run kA) ((run kA).completed 0 (kA.setS 3 4) 1) = true ∧
    gives (.mulhu 0 0 1 (.reg 1 0)) (run kA) ((run kA).completed 0 kA 1) = true ∧
    gives (.sra 0 3 1 (.imm 63)) (run kA) ((run kA).completed 0 (kA.setS 3 0xFFFFFFFFFFFFFFFF) 1) = true :=
  ⟨goes_of _ (by decide +kernel), .inl ⟨2, rfl, by decide +kernel⟩, .inr ⟨-1, rfl, by decide +kernel⟩, by decide +kernel, by decide +kernel, by decide +kernel⟩

/-- 10.0 + 10.0 is 20.0, and the integer -1 is the value -1.0. -/
theorem test_witness_F32Results : Goes kA ∧ Fp.isNaN ((kA.s 4).setWidth 32) = false ∧ Fp.isNaN ((kA.s 1).setWidth 32) = true ∧
    gives (.fadd 0 3 4 (.reg 4 0)) (run kA) ((run kA).completed 0 (kA.setS 3 0x41A00000) 1) = true ∧
    gives (.fcvtF32I64 0 3 1 (.reg 0 0)) (run kA) ((run kA).completed 0 (kA.setS 3 0xBF800000) 1) = true :=
  ⟨goes_of _ (by decide +kernel), by decide +kernel, by decide +kernel, by decide +kernel, by decide +kernel⟩

/-- 10.0 gives 10; a NaN gives 0; -infinity gives the smallest value. -/
theorem test_witness_ConversionToInteger : Goes kA ∧
    gives (.fcvtI64F32 0 3 4 (.reg 0 0)) (run kA) ((run kA).completed 0 (kA.setS 3 10) 1) = true ∧
    gives (.fcvtI64F32 0 3 1 (.reg 0 0)) (run kA) ((run kA).completed 0 (kA.setS 3 0) 1) = true ∧
    gives (.fcvtI64F32 0 3 4 (.reg 0 0)) (run (k0.with k0 0 0 0 0xFF800000)) ((run (k0.with k0 0 0 0 0xFF800000)).completed 0 ((k0.with k0 0 0 0 0xFF800000).setS 3 0x8000000000000000) 1) = true :=
  ⟨goes_of _ (by decide +kernel), by decide +kernel, by decide +kernel, by decide +kernel⟩

theorem test_witness_CoreRegisters : kA.Canonical ∧ (5 : Reg5) ≠ 0 ∧ (6 : Reg5) ≠ 5 ∧ (List.replicate 512 (0 : F32)).length = 512 ∧ (7 : Reg3) ≠ 0 ∧ (1 : Reg3) ≠ 7 :=
  ⟨⟨by decide +kernel, by decide +kernel, by decide +kernel, by decide +kernel, by decide +kernel⟩, by decide +kernel, by decide +kernel, by decide +kernel, by decide +kernel,
    by decide +kernel⟩

theorem test_witness_ReservedScalarForms : Goes kA ∧ (1 : BitVec 39) ≠ 0 ∧ (1 : BitVec 17) ≠ 0 ∧ (5 : BitVec 3) ≠ 6 ∧
    gives (.sub 0 3 1 (.imm 0)) (run kA) ((run kA).endedWith 0 kA 0x0B 0 0) = true ∧ gives (.li 0 3 1 (.reg 2 0)) (run kA) ((run kA).endedWith 0 kA 0x0B 0 0) = true ∧
    gives (.jr 0 1 0 6 0 1) (run kA) ((run kA).endedWith 0 kA 0x0B 0 0) = true :=
  ⟨goes_of _ (by decide +kernel), by decide +kernel, by decide +kernel, by decide +kernel, by decide +kernel, by decide +kernel, by decide +kernel⟩

/-- Targets 3 and 0 are inside a kernel of four instructions, -1 and 4 outside it; the following instruction is outside at index 3. -/
theorem test_witness_BranchTargets : Goes kA ∧ (3 : Nat) < kA.d.codeLen ∧ (3 : Int) = kA.pc + (3 : BitVec 24).toInt ∧ kA.s 1 ≠ kA.s 2 ∧ (1 : Nat) = kA.pc + 1 ∧
    (3 : Int) = ((k0.with k0 3 0 0 0).s 1).toInt ∧ (-1 : Int) < 0 ∧ (-1 : Int) = kA.pc + (-1 : BitVec 24).toInt ∧ ((kA.d.codeLen : Int) ≤ 4 ∧ (4 : Int) = kA.pc + (4 : BitVec 24).toInt) ∧
    (-1 : Int) = (kA.s 1).toInt ∧ ((run { kA with pc := 3 }).Runs 0 { kA with pc := 3 } ∧ (4 : Int) = ({ kA with pc := 3 } : Core).pc + 1) ∧
    gives (.jl 0 3 0 6 0 3) (run kA) ((run kA).completed 0 (kA.setS 3 1) 3) = true ∧
    gives (.jr 0 1 0 6 0 0) (run kA) ((run kA).endedWith 0 kA 0x03 0x0301 0) = true :=
  ⟨goes_of _ (by decide +kernel), by decide +kernel, by decide +kernel, by decide +kernel, by decide +kernel, by decide +kernel, by decide +kernel, by decide +kernel, by decide +kernel,
    by decide +kernel, ⟨⟨rfl, rfl, rfl⟩, by decide +kernel⟩, by decide +kernel, by decide +kernel⟩

/-- The last address of the facet window, and the first of the store; a staged region elsewhere. -/
def kL : Core := { k0.holding (k0.with k0 (2 ^ 24 + 65536 - 8) 0 1 0) 0 [0x0807060504030201] with regions := [⟨4096, 4096, 1, 2, 1, 128, [], []⟩] }

theorem test_witness_LoadResults : Goes kL ∧ ((kL.s 1 + (0 : BitVec 24).signExtend 64).toNat % 8 = 0 ∧ (kL.s 1 + (0 : BitVec 24).signExtend 64).toNat + 8 = 2 ^ 24 + kL.d.facetUnits * 65536) ∧
    ((kL.s 2 + (0 : BitVec 24).signExtend 64).toNat % 8 = 0 ∧ ∀ r ∈ kL.regions, (kL.s 2 + (0 : BitVec 24).signExtend 64).toNat + 8 ≤ r.addr ∨
      r.addr + r.size ≤ (kL.s 2 + (0 : BitVec 24).signExtend 64).toNat) ∧
    gives (.ld32 0 5 2 0 4) (run kL) ((run kL).completed 0 (kL.setS 5 0x08070605) 1) = true :=
  ⟨goes_of _ (by decide +kernel), by decide +kernel, by decide +kernel, by decide +kernel⟩

theorem test_witness_StoreResults : Goes kL ∧ ((kL.s 1 + (0 : BitVec 24).signExtend 64).toNat % 8 = 0 ∧ (kL.s 1 + (0 : BitVec 24).signExtend 64).toNat + 8 = 2 ^ 24 + kL.d.facetUnits * 65536) ∧
    nx (.st16 0 3 1 0 6) (run kL) (fun t => (t.core 0).any (fun k => Sparse.get 0 k.store (2 ^ 24 + 65535) == 0 && Sparse.get 0 k.store (2 ^ 24 + 65534) == 1)) = true :=
  ⟨goes_of _ (by decide +kernel), by decide +kernel, by decide +kernel⟩

theorem test_witness_LoadStoreTraps : Goes kL ∧ (1 : BitVec 20) ≠ 0 ∧ (kL.s 1 + (1 : BitVec 24).signExtend 64).toNat % 2 ≠ 0 ∧
    ((kL.s 1 + (8 : BitVec 24).signExtend 64).toNat % 8 = 0 ∧ 2 ^ 24 + kL.d.facetUnits * 65536 < (kL.s 1 + (8 : BitVec 24).signExtend 64).toNat + 1) ∧
    gives (.ld16 0 5 1 0 1) (run kL) ((run kL).endedWith 0 kL 0x03 0x0302 0) = true ∧ gives (.st8 0 5 1 0 8) (run kL) ((run kL).endedWith 0 kL 0x03 0x0303 0) = true :=
  ⟨goes_of _ (by decide +kernel), by decide +kernel, by decide +kernel, by decide +kernel, by decide +kernel, by decide +kernel⟩

theorem test_witness_ControlOperations : Goes k0 ∧ decodeWord 0 0xA000000000000000 = none ∧ (1 : BitVec 54) ≠ 0 ∧ 2 ≤ (2 : BitVec 2).toNat ∧ (1 : BitVec 38) ≠ 0 ∧
    gives (.fence 0 0 1) (run { k0 with ext := [⟨1, false⟩], unfenced := [(0, 64)] }) ((run { k0 with ext := [⟨1, false⟩], unfenced := [(0, 64)] }).completed 0 { k0 with ext := [⟨1, false⟩], waiting := true } 1) = true ∧
    gives (.abort 0 0 7) (run k0) ((run k0).endedWith 0 k0 0x03 0x0307 7) = true :=
  ⟨goes_of _ (by decide +kernel), by decide +kernel, by decide +kernel, by decide +kernel, by decide +kernel, by decide +kernel, by decide +kernel⟩

/-- An S8 tile whose last byte is the last of the core store, and one channel-scale row. -/
def kM : Core := { k0.with k0 4096 8192 0 0 with activeFull := true, shadowFull := true }

theorem test_witness_TileLoads : Goes kM ∧ ∀ n ∈ List.range 6, ∃ p, pairingOf n = some p ∧ ((kM.s 1).toNat % 2 ^ 25 % 4096 = 0 ∧ (kM.s 1).toNat % 2 ^ 25 + tileBytes p ≤ 2 ^ 24 ∧
    (kM.s 2).toNat % 2 ^ 25 % 64 = 0 ∧ (kM.s 2).toNat % 2 ^ 25 + 512 ≤ 2 ^ 24 ∧
    0xFF ∉ (((kM.region kM.draws 2 p.wfmt 1 (p.wbytes + p.sbytes) 4096 (tileBytes p)).codesAs true p.wbytes p.sbytes).map (fun b => b.toNat))) := by
  refine ⟨goes_of _ (by decide +kernel), ?_⟩
  intro n hn
  have : n = 0 ∨ n = 1 ∨ n = 2 ∨ n = 3 ∨ n = 4 ∨ n = 5 := by simp only [List.mem_range] at hn; omega
  rcases this with rfl | rfl | rfl | rfl | rfl | rfl <;> exact ⟨_, rfl, by decide +kernel⟩

/-- With no row and with one row, swapping a full shadow tile in or not. -/
theorem test_witness_MatrixRuns : Goes kM ∧ ∃ p, pairingOf 0 = some p ∧ (0 : BitVec 2) ≠ 3 ∧ kM.shadowFull = true ∧ kM.activeFull = true ∧ kM.swap.active.pairing = 0 ∧ kM.active.pairing = 0 ∧
    512 / p.n - 1 < 512 / p.n ∧ (kM.s 0).toNat + (kM.s 0).toNat ≤ accRows (run kM).arrays ∧
    ((kM.setS 4 1).s 4).toNat = 1 ∧ (0 : Nat) + 1 ≤ accRows (run kM).arrays ∧ (4096 % 4096 = 0 ∧ 4096 + actBytes 1 (rowBytes p.afmt) ≤ 2 ^ 24 ∧ 8192 % 64 = 0 ∧ 8192 + 4 ≤ 2 ^ 24) ∧
    nx (.mrun 0 1 0 0 2 0 0 1 0 0 0) (run kM) (fun t => (t.core 0).any (fun k => k.activeFull && !k.shadowFull)) = true :=
  ⟨goes_of _ (by decide +kernel), _, rfl, by decide +kernel, by decide +kernel, by decide +kernel, by decide +kernel, by decide +kernel, by decide +kernel, by decide +kernel, by decide +kernel,
    by decide +kernel, by decide +kernel, by decide +kernel⟩

/-- The last accumulator row. -/
theorem test_witness_AccumulatorDrains : Goes (k0.with kM 64 1 (accRows (run kM).arrays - 1) 0) ∧
    ((k0.with kM 64 1 (accRows (run kM).arrays - 1) 0).s 3).toNat + 1 = accRows (run kM).arrays ∧ ((k0.with kM 64 1 (accRows (run kM).arrays - 1) 0).s 1).toNat % 2 ^ 25 % 64 = 0 ∧
    64 + 2048 * 1 ≤ 2 ^ 24 + kM.d.facetUnits * 65536 ∧
    nx (.mdrain 0 1 0 3 1 0) (run (k0.with kM 64 0 0 0)) (fun t => (t.core 0).any (fun k => k.pc == 1)) = true :=
  ⟨goes_of _ (by decide +kernel), by decide +kernel, by decide +kernel, by decide +kernel, by decide +kernel⟩

/-- The last 64 bytes of the facet window for masks, and an operand of each format at its start. -/
def kV : Core := k0.with k0 (2 ^ 24 + 65536 - 64) (2 ^ 24) 600 0

theorem test_witness_VectorLoads : Goes kV ∧ ((6 : BitVec 8).toNat ≤ 6 ∧ (kV.s 2).toNat % 2 ^ 25 % 64 = 0 ∧ (kV.s 2).toNat % 2 ^ 25 + 512 * Fmt.bits 6 / 8 ≤ 2 ^ 24 + kV.d.facetUnits * 65536) ∧
    (1 ≤ (5 : BitVec 8).toNat ∧ (5 : BitVec 8).toNat ≤ 5 ∧ (kV.s 2).toNat % 2 ^ 25 + 512 * Fmt.bits 5 / 8 ≤ 2 ^ 24 + kV.d.facetUnits * 65536) ∧ (1 : Reg3) ≠ 0 ∧
    ((kV.s 1).toNat % 2 ^ 25 % 64 = 0 ∧ (kV.s 1).toNat % 2 ^ 25 + 64 = 2 ^ 24 + kV.d.facetUnits * 65536) ∧
    nx (.vmset 0 1 3 0) (run kV) (fun t => (t.core 0).any (fun k => k.m 1 == BitVec.allOnes 512) && t.get (F.SEL_VEC_BEATS_BEATS 0) == 1) = true :=
  ⟨goes_of _ (by decide +kernel), by decide +kernel, by decide +kernel, by decide +kernel, by decide +kernel, by decide +kernel⟩

theorem test_witness_VectorStores : Goes kV ∧ ((6 : BitVec 8).toNat ≤ 6 ∧ (6 : BitVec 8).toNat ≠ 1 ∧ (kV.s 2).toNat % 2 ^ 25 % 64 = 0 ∧
      (kV.s 2).toNat % 2 ^ 25 + 512 * (Fmt.bits 6 / 8) ≤ 2 ^ 24 + kV.d.facetUnits * 65536) ∧
    ((1 : BitVec 8).toNat = 1 ∧ (kV.s 2).toNat % 2 ^ 25 + 256 ≤ 2 ^ 24 + kV.d.facetUnits * 65536) ∧ ((kV.s 1).toNat % 2 ^ 25 % 64 = 0 ∧ (kV.s 1).toNat % 2 ^ 25 + 64 = 2 ^ 24 + kV.d.facetUnits * 65536) ∧
    nx (.vmst 0 0 1 0) (run kV) (fun t => (t.core 0).any (fun k => Sparse.get 0 k.store (2 ^ 24 + 65535) == 0xFF)) = true :=
  ⟨goes_of _ (by decide +kernel), by decide +kernel, by decide +kernel, by decide +kernel, by decide +kernel⟩

/-- A mask with one lane on, and with none. -/
theorem test_witness_VectorReductions : Goes ({ kV with masks := [(2, BitVec.ofNat 512 (2 ^ 511)), (3, 1)] } : Core) ∧ (3 : BitVec 3).toNat ≤ 3 ∧
    (({ kV with masks := [(2, BitVec.ofNat 512 (2 ^ 511)), (3, 1)] } : Core).m 2 = BitVec.ofNat 512 (2 ^ 511) ∧ 511 < 512 ∧ Fp.isNaN ((kV.v 1).getD 511 0) = false) ∧ kV.m 1 = 0 :=
  ⟨goes_of _ (by decide +kernel), by decide +kernel, by decide +kernel, by decide +kernel⟩

/-- A chain of one stage, V2 + V3, into V1 at 0; a site of one channel at 128. -/
def kC : Core := k0.holding (k0.holding (k0.with k0 0 128 0 0) 0 [0x11, 0, 0x232201]) 128 [0x0000000100010101, 0, 0, 0, 0, 0, 0, 0]

theorem test_witness_ChainsAndDerivations : Goes kC ∧ (∃ ch st, (kC.s 1).toNat % 2 ^ 25 % 16 = 0 ∧ parseChain (kC.load 0 0 80) = some ch ∧ ch.stages = [st] ∧ ch.noWrite = false ∧ st.tap = 0 ∧
      st.a = 32 + (2 : Reg5).toNat ∧ st.b = 32 + (3 : Reg5).toNat ∧ st.opc = 1 ∧ ch.vd = 1) ∧
    (∃ site, (kC.s 2).toNat % 2 ^ 25 % 64 = 0 ∧ parseSite (kC.load 0 128 64) = some site ∧ 128 + 64 + site.w * site.slotBytes ≤ 2 ^ 24) :=
  ⟨goes_of _ (by decide +kernel), ⟨⟨1, 0, false, false, [⟨1, 34, 35, 0, 0, 0, 0, 0, 0⟩]⟩, ⟨1, 34, 35, 0, 0, 0, 0, 0, 0⟩, by decide +kernel⟩,
    ⟨⟨1, 0, 0, 1, 0, 1, 0, 0, 0, 0, 0, 0, 0, 0⟩, by decide +kernel⟩⟩

/-- A tile of another pairing, misaligned and out-of-range addresses, and rows past the last. -/
def kT : Core := { k0.with k0 (2 ^ 24) 65 (accRows (run k0).arrays) (2 ^ 24 - 64) with active := ⟨2, []⟩, activeFull := true }

theorem test_witness_EngineTraps : Goes kT ∧ Goes k0 ∧ (k0.shadowFull = false ∧ k0.activeFull = false) ∧ (kT.activeFull = true ∧ kT.active.pairing ≠ (0 : BitVec 4).toNat) ∧
    (∃ p, pairingOf (2 : BitVec 4).toNat = some p ∧ (0 : BitVec 2).toNat < 512 / p.n) ∧ (accRows (run kT).arrays < (kT.s 3).toNat + (kT.s 2).toNat ∧ accRows (run kT).arrays ≤ (kT.s 3).toNat) ∧
    (kT.s 2).toNat % 4096 ≠ 0 ∧ ((kT.s 1).toNat % 4096 = 0 ∧ 2 ^ 24 ≤ (kT.s 1).toNat % 2 ^ 25) ∧ (6 < (7 : BitVec 8).toNat ∧ 3 < (4 : BitVec 3).toNat) ∧ ((kT.s 2).toNat % 2 ^ 25 % 64 ≠ 0 ∧
      (kT.s 2).toNat % 2 ^ 25 % 16 ≠ 0) ∧ (((kT.setS 1 (2 ^ 24 + 65536)).s 1).toNat % 2 ^ 25 % 64 = 0 ∧ 2 ^ 24 + kT.d.facetUnits * 65536 < ((kT.setS 1 (2 ^ 24 + 65536)).s 1).toNat % 2 ^ 25 + 64) ∧
    ((kT.s 4).toNat % 2 ^ 25 % 16 = 0 ∧ 2 ^ 24 < (kT.s 4).toNat % 2 ^ 25 + 80) ∧
    gives (.mrun 0 1 0 0 2 0 0 0 0 0 0) (run kT) ((run kT).endedWith 0 kT 0x03 0x0401 0) = true ∧ gives (.mtov 0 1 3 0 0) (run kT) ((run kT).endedWith 0 kT 0x03 0x0402 0) = true ∧
    gives (.vmst 0 0 2 0) (run kT) ((run kT).endedWith 0 kT 0x03 0x0302 0) = true ∧ gives (.vchain 0 4 0) (run kT) ((run kT).endedWith 0 kT 0x03 0x0303 0) = true :=
  ⟨goes_of _ (by decide +kernel), goes_of _ (by decide +kernel), by decide +kernel, by decide +kernel, ⟨_, rfl, by decide +kernel⟩, by decide +kernel, by decide +kernel, by decide +kernel,
    by decide +kernel, by decide +kernel, by decide +kernel, by decide +kernel, by decide +kernel, by decide +kernel, by decide +kernel, by decide +kernel⟩

/-- Two F32 elements at 128 to records at 4096 and a result block at 8192: SELK keeps one; SELT takes those at or above 1.0. -/
def kS : Core := k0.holding (k0.holding (k0.holding (k0.with k0 0 64 0 0) 0 [0x0000000200050001, 0x0000000000000080, 0x0000200000001000, 1]) 64
  [0x0000000200050001, 0x0000000000000080, 0x0000200000001000, 2, 0x3F800000]) 128 [0x400000003F800000]

theorem test_witness_SelectBest : Goes kS ∧ (kS.s 1).toNat % 2 ^ 25 % 64 = 0 ∧ (parseSel false (kS.load 0 0 64)).any (fun d => selCheck false d kS == none && d.n == 2 && d.kCap == 1) = true := by
  exact ⟨goes_of _ (by decide +kernel), by decide +kernel, by decide +kernel⟩

theorem test_witness_SelectThreshold : Goes kS ∧ (kS.s 2).toNat % 2 ^ 25 % 64 = 0 ∧ (parseSel true (kS.load 0 64 64)).any (fun d => selCheck true d kS == none) = true ∧
    (run kS).hasSelt = true ∧ ((run kS).put F.PART_CAPS_SELT 0).hasSelt = false ∧ ((run kS).put F.PART_CAPS_SELT 0).Runs 0 kS :=
  ⟨goes_of _ (by decide +kernel), by decide +kernel, by decide +kernel, by decide +kernel, by decide +kernel, ⟨rfl, rfl, rfl⟩⟩



/-! #### The stager, COMMIT and external operations -/

/-- A STAGE of one row of 64 bytes, from the declared range at 2^21 into the store (descriptor at 0), inside the store (at 64) and into the declared output at 2^22 (at 128). -/
def kG : Core := { k0.holding (k0.holding (k0.holding (k0.with k0 0 64 128 3) 0 [0x0000000100000000, 2 ^ 21, 4096, 64]) 64 [0x0000000100000002, 4096, 2 ^ 24 + 65536 - 64, 64]) 128
  [0x0000000100000001, 4096, 2 ^ 22 + 65472, 64] with pins := [⟨2 ^ 21, 64, [(0, 7)], []⟩], outs := [⟨kFresh, 2 ^ 22, 65536, [], []⟩] }

theorem test_witness_StageTransfers : Goes kG ∧ kG.regions = [] ∧ (kG.rangeRead kG.fuel (2 ^ 21) 64).isSome = true ∧ kG.unfencedAt (2 ^ 21) 64 = false ∧
    (parseStager (kG.load 0 0 64)).any (fun d => d.layout == 0 && d.rows == 1 && d.dir == 0 && d.dst == 4096 && rowAddr d.src d.sstride 0 == some (2 ^ 21)) = true ∧
    (parseStager (kG.load 0 64 64)).any (fun d => d.layout == 0 && d.rows == 1 && d.dir == 2 && d.dst + d.rb == 2 ^ 24 + kG.d.facetUnits * 65536) = true ∧
    (parseStager (kG.load 0 128 64)).any (fun d => d.layout == 0 && d.rows == 1 && d.dir == 1 && kG.outCovers kG.fuel d.dst d.rb) = true ∧
    nx (.stage 0 1 0) (run kG) (fun t => (t.core 0).any (fun k => k.store == (kG.store ++ [(4096, 7)]) && k.pc == 1)) = true :=
  ⟨goes_of _ (by decide +kernel), by decide +kernel, by decide +kernel, by decide +kernel, by decide +kernel, by decide +kernel, by decide +kernel, by decide +kernel⟩

def item0 : QItem := ⟨1, entry0, false, 0, 1, true, 0, false, [], [], none, [], [], none⟩

/-- Core 0 runs the command of `item0`. -/
def busy (k : Core) : State := { run k with dsp := { State.reset.dsp with running := [(0, item0)] } }

theorem test_witness_Commits : (busy kG).Runs 0 kG ∧ Sparse.find (busy kG).dsp.running 0 = some item0 ∧ (busy kG).staged = [] ∧ (busy kG).stillMapped item0 = true ∧
    (busy kG).checkOuts item0.runCtx kG.d kG.outs = none ∧ (busy kG).journalHere = true ∧ (busy kG).tier.pubs = [] ∧ (∀ r, (busy kG).req kG.d.reqHandle = some r → r.ending = none ∧ r.ended = false) ∧
    (busy kG).journals item0.runCtx kG.outs = false ∧ (busy kG).journals item0.runCtx [⟨kDurable, 2 ^ 22, 65536, [], []⟩] = true ∧ (kG.outs.map (fun o => o.kind) = [kFresh] ∧ item0.fresh = []) ∧
    nx (.commit 0 0) (busy kG) (fun t => t.get (F.CORE_CMD_COUNT_COMMITS 0) == 1 && (t.core 0).any (fun k => k.ended == some ⟨0, 0, 0⟩)) = true :=
  ⟨⟨rfl, rfl, rfl⟩, rfl, rfl, by decide +kernel, by decide +kernel, by decide +kernel, rfl, (by intro r h; cases h), by decide +kernel, by decide +kernel, by decide +kernel, by decide +kernel⟩

/-- A page that is not mapped; an update block of no table; a durable output on a part with no journal. -/
def itemU : QItem := { item0 with serials := [(5, 1)] }
def kU : Core := { kG with outs := [⟨kScatter, 2 ^ 22, 65536, [(0, 1)], []⟩] }
def bare (s : State) : State := s.put F.PART_CAPS_GEODE_BAYS 0

theorem test_witness_StageAndCommitTraps : Goes kG ∧ (1 : BitVec 49) ≠ 0 ∧ ((kG.s 4).toNat % 64 ≠ 0) ∧ (((kG.setS 1 (2 ^ 25)).s 1).toNat % 64 = 0 ∧
      2 ^ 24 < ((kG.setS 1 (2 ^ 25)).s 1).toNat + 64) ∧
    parseStager (kG.load 0 4096 64) = none ∧ (({ kG with pins := [] } : Core).rangeRead kG.fuel (2 ^ 21) 64 = none) ∧ ({ kG with unfenced := [(2 ^ 21, 64)] } : Core).unfencedAt (2 ^ 21) 64 = true ∧
    (run kG).stillMapped itemU = false ∧ ((run kU).checkOuts svc kU.d kU.outs).isSome = true ∧ ((bare (run kG)).journals 5 [⟨kDurable, 2 ^ 22, 65536, [], []⟩] = true ∧ (bare (run kG)).journalHere = false) ∧
    gives (.stage 0 4 0) (run kG) ((run kG).endedWith 0 kG 0x03 0x0302 0) = true ∧
    gives (.stage 0 1 0) (run (kG.setS 1 (2 ^ 25))) ((run (kG.setS 1 (2 ^ 25))).endedWith 0 (kG.setS 1 (2 ^ 25)) 0x03 0x0303 0) = true :=
  ⟨goes_of _ (by decide +kernel), by decide +kernel, by decide +kernel, by decide +kernel, by decide +kernel, by decide +kernel, by decide +kernel, by decide +kernel, by decide +kernel,
    by decide +kernel, by decide +kernel, by decide +kernel⟩

/-- A put of 64 bytes through window 2 (descriptor at 0), a program of one unit to extent 1 (at 32), and one a window or an extent too far (at 64 and 96). -/
def kE : Core := { k0.holding (k0.with k0 0 32 64 96) 0 [0x0000004000020041, 4096, 2 ^ 21 - 64, 0, 0x0000007F00010140, 16384, 0, 0, 0x0000004000020041, 4096, 2 ^ 21, 0, 0x0000008000010140, 16384, 0, 0]
  with d := { cmd0 with external := true, tid := 1, codeLen := 4 } }

/-- Window 2 and extent 1, each of one page, of a tenant. -/
def ext0 (tid : Nat) : State :=
  let s := (run kE).put F.GEO_EXT_TABLE_SIZE 1
  { s with ktr := { s.ktr with map := [(2, ⟨0, 1, 9, tid, false, 0, true⟩)] }, mem := Sparse.write 0 [] (svc * 2 ^ 48 + 16) (leBytes 8 (2 ^ 63 + tid * 2 ^ 53 + 2 ^ 32)) }

def putAt (a : Nat) : PutOp := (parsePut (words 8 4 (kE.load 0 a 32))).getD ⟨0, 0, 0, 0, 0⟩
def progAt (a : Nat) : GeoOp := (parseGeo (words 8 4 (kE.load 0 a 32))).getD ⟨0, 0, 0, 0⟩

theorem test_witness_ExternalOperations : Goes kE ∧ (ext0 1).Runs 0 kE ∧ kE.d.external = true ∧ (parsePut (words 8 4 (kE.load 0 0 32)) = some (putAt 0) ∧ (putAt 0).window = 2 ∧
      (putAt 0).offset + (putAt 0).length = 2 ^ 21 ∧ (putAt 0).src % 64 = 0) ∧ (parsePut (words 8 4 (kE.load 0 64 32)) = some (putAt 64) ∧ 2 ^ 21 < (putAt 64).offset + (putAt 64).length) ∧
    (∀ w, Sparse.find (ext0 1).ktr.map 2 = some w → w.admits kE.ctx = true) ∧ (∀ w, Sparse.find (ext0 6).ktr.map 2 = some w → w.admits kE.ctx = false) ∧
    (ext0 1).extent 1 = some ⟨0, 1, 1, 0⟩ ∧ (ext0 6).extent 1 = some ⟨0, 1, 6, 0⟩ ∧ (parseGeo (words 8 4 (kE.load 0 32 32)) = some (progAt 32) ∧ (progAt 32).extent = 1 ∧
      (progAt 32).unit + (progAt 32).count = 128 ∧ (progAt 32).src % 4096 = 0) ∧ (parseGeo (words 8 4 (kE.load 0 96 32)) = some (progAt 96) ∧ 128 < (progAt 96).unit + (progAt 96).count) ∧
    nx (.kput 0 1 0) (ext0 1) (fun t => (t.core 0).any (fun k => k.ext == [⟨1, false⟩])) = true ∧ nx (.geoProgram 0 2 0) (ext0 1) (fun t => (t.core 0).any (fun k => k.ext == [⟨1, true⟩])) = true ∧
    gives (.kput 0 1 0) (ext0 6) ((ext0 6).endedWith 0 kE 0x03 0x0F01 0) = true ∧ gives (.geoProgram 0 4 0) (ext0 1) ((ext0 1).endedWith 0 kE 0x03 0x0802 0) = true := by
  refine ⟨goes_of _ (by decide +kernel), ⟨rfl, rfl, rfl⟩, rfl, by decide +kernel, by decide +kernel, ?_, ?_, by decide +kernel, by decide +kernel, by decide +kernel, by decide +kernel,
    by decide +kernel, by decide +kernel, by decide +kernel, by decide +kernel⟩ <;>
  · intro w h
    cases h
    rfl


/-! #### The dispatcher -/

def pte0 : Pte := ⟨.zero, .none, false, true, false, false, false, 0, 0, 0, 0, 0, 0, 0, 1, 0, 0, false⟩

/-- A page table entry by its page. -/
def page (k : Nat) (p : Pte) (s : State) : State := { s with tier := { s.tier with pages := Sparse.put s.tier.pages k p } }

/-- An idle part with one command in its queue, of tenant 5, that may run. -/
def queued : State := page (pageKey 5 0) pte0 { State.reset with dsp := { State.reset.dsp with items := [item0] } }

theorem test_witness_CommandsArePlaced : queued.dsp.items.find? (fun x => x.id == 1) = some item0 ∧ item0.e.job = .command cmd0 ∧ queued.window 31 cmd0.facetUnits = some 0 ∧ queued.ready item0 = true ∧
    queued.mayRun item0 = true ∧ 31 ∈ queued.coreSet item0.e.ctx ∧ queued.coreFree 31 = true ∧ queued.barred 31 item0.e.ctx = false ∧ queued.now ≤ 0 ∧ queued.staged = [] ∧ (queued.tick 0).reservedPlace 31 item0.e.ctx 0 = false ∧
    ((queued.put F.DSP_SLICE_SLICE_US 0).tick 0).reservedPlace 31 item0.e.ctx 0 = true ∧
    (State.reset.tick 0).noteEmpty.examineAll.markReady.choose = none ∧
    nx (.commandDispatch 1 31 0) queued (fun t => (t.core 31).any (fun k => k.s 6 == 16 && k.s 0 == 0 && k.d == cmd0) && t.dsp.items.isEmpty) = true := by
  refine ⟨rfl, rfl, ?_, ?_, ?_, ?_, ?_, ?_, ?_, ?_, ?_, ?_, ?_, ?_⟩ <;> decide +kernel

/-- Budget tenant 5 has credits; the lowest core of its set is core 0. -/
theorem test_witness_CommandsArePlaced_choice : (((queued.put (F.DSP_TNT_STAT_CREDITS 5) 1).tick 0).noteEmpty.examineAll.markReady.choose).map (fun x => (x.1, x.2.1.id, x.2.2)) = some (5, 1, 0) := by
  have h : ((queued.put (F.DSP_TNT_STAT_CREDITS 5) 1).tick 0).noteEmpty.examineAll.markReady.eligible = [(5, { item0 with readyAt := some 0 }, 0)] := by
    rw [State.eligible, show (List.map (fun i => i.e.ctx) ((queued.put (F.DSP_TNT_STAT_CREDITS 5) 1).tick 0).noteEmpty.examineAll.markReady.dsp.items).dedup = [5] by decide +kernel,
      List.mergeSort_singleton]
    decide +kernel
  rw [State.choose, h]
  decide +kernel

def ran (ended : Option Stop) (external yielded : Bool) : State :=
  let s := busy { k0 with d := { cmd0 with external := external }, ended := ended }
  { s with dsp := { s.dsp with occ := [(0, ⟨5, 0, 200000, 5000, yielded, 0⟩)] } }

theorem test_witness_RunsEnd : (ran (some ⟨0, 0, 0⟩) false false).staged = [] ∧ (0 : Nat) < 32 ∧ (ran none false true).now ≤ sample0.free ∧
    (∀ r, (ran none false true).req item0.e.job.handle = some r → r.ending = none ∧ r.ended = false) ∧
    nx (.commandEnd 0 sample0) (ran (some ⟨0, 0, 0⟩) false false) (fun t => (t.core 0).isNone) = true ∧
    nx (.graceWindowEnd 0 205000 { sample0 with free := 205000 }) (ran none false true) (fun t => (t.core 0).isNone && t.dsp.items.any (fun i => i.reruns == 1)) = true ∧
    nx (.graceWindowEnd 0 205000 { sample0 with free := 205000 }) (ran none true true) (fun t => (t.core 0).isSome) = true ∧
    nx (.externalOverrunTimeout 0 20000 { sample0 with free := 20000 }) (ran none true false) (fun t => (t.core 0).isNone) = true ∧
    nx (.coreFault 0 4 3 77 sample0) (ran none false false) (fun t => (t.core 0).isNone && t.get (F.CORE_FAULT_DETAIL 0) == 77 && t.on (F.CORE_CTL_RETIRE 0)) = true ∧
    (let s := (ran none false false).put (F.MX_CTL_COLCHK_EN 0) 1
     s.on (F.MX_CTL_COLCHK_EN 0) = true ∧ nx (.coreFault 0 5 2 1 sample0) s (fun t => t.get (F.CORE_FAULT_KIND 0) == 3) = true) := by
  refine ⟨rfl, ?_, ?_, (by intro r h; cases h), ?_, ?_, ?_, ?_, ?_, ?_⟩ <;> decide +kernel

/-- Another tenant's command waits. -/
def rival (s : State) : State := page (pageKey 5 0) pte0 { s with dsp := { s.dsp with items := [{ item0 with id := 2, e := { entry0 with chargeTid := 6 } }] } }

theorem test_witness_DispatcherControls : (31 < State.reset.cores_ ∧ State.reset.staged = []) ∧ ((F.CORE_CTL_RETIRE 31).id ∉ State.reset.locks ∧ (F.CORE_CTL_RETIRE 31).id ∈ [(F.CORE_CTL_RETIRE 31).id]) ∧
    (State.reset.core 31 = none ∧ State.reset.powered (31 / 4 + 1) = true ∧ State.reset.on (F.CORE_CTL_RETIRE 31) = false) ∧ ((ran none false false).core 0).isSome = true ∧ 28 % 4 = 0 ∧
    ((rival (ran none false false)).tick 200000).rivals 0 5 = true ∧ ((ran none false false).tick 200000).rivals 0 5 = false ∧
    (State.reset.dsp.periodAt + State.reset.get F.DSP_PERIOD_PERIOD_US * 100 ≤ 1000000 ∧ State.reset.weighted 1023 = false ∧ State.reset.get (F.DSP_TNT_BUDGET_CAP 1023) < 2 ^ 31) ∧
    (State.reset.get F.LPE_WINDOW_WINDOW + 1) * 10000000 ≤ 10000000 ∧
    nx (.coreRetire 31 1) State.reset (fun t => t.get (F.CORE_STAT_STATE 31) == 5) = true ∧ nx (.coreOffline 0 1) (ran none false false) (fun t => t.staged.length == 1) = true ∧
    nx (.facetDrain 7 1) State.reset (fun t => t.get (F.FCT_CTL_DRAIN 7) == 1) = true ∧
    nx (.sliceEnd 0 200000) (rival (ran none false false)) (fun t => t.get (F.CORE_STAT_YIELD_PENDING 0) == 1) = true ∧
    nx (.sliceEnd 0 200000) (ran none false false) (fun t => (Sparse.find t.dsp.occ 0).any (fun o => o.start == 200000)) = true ∧
    nx (.loupeWindowEnd 10000000) State.reset (fun t => t.get F.LPE_WINDOW_WINDOW == 1) = true := by
  refine ⟨?_, ?_, ?_, ?_, ?_, ?_, ?_, ?_, ?_, ?_, ?_, ?_, ?_, ?_, ?_⟩ <;> decide +kernel

/-- A completion ring of two slots of ring 0 of tenant 5, a record waiting for it; full when two records stand in it. -/
def tally0 : Tally := ⟨0, 0, 0, 0, 0, 0, 0, 0, 0, 0, 0, 0, 0, 0, 0, 0, 0, false, false, false, false, false⟩
def hosts (written : Nat) (r : HostRec) : State := { State.reset with dsp := { State.reset.dsp with hostRings := [⟨20, 0, 1, written, 0, [r]⟩] } }

theorem test_witness_HostRings :
    (let s := State.reset.put (F.DSP_RING_WIN_SIZE 4095) 4
     0 < s.get (F.DSP_RING_WIN_SIZE (1023 * 4 + 3)) ∧ (16 + 2 ^ 32 - s.get (F.DSP_RING_PTR_HEAD 4095)) % 2 ^ 32 ≤ 2 ^ 4 ∧ 2 ^ 4 < (17 + 2 ^ 32 - s.get (F.DSP_RING_PTR_HEAD 4095)) % 2 ^ 32 ∧
     nx (.brxDoorbell 1023 3 16 0) s (fun t => t.get (F.DSP_RING_PTR_TAIL 4095) == 16) = true ∧ nx (.brxDoorbell 1023 3 17 0) s (fun t => t.get (F.DSP_RING_PTR_TAIL 4095) == 0) = true) ∧
    nx (.hostRecordWrite 20) (hosts 1 (.completion ⟨0, 1, 0, 7, 42, 0, 0, tally0⟩)) (fun t => t.dsp.hostRings.any (fun g => g.written == 2 && g.queue.isEmpty)) = true ∧
    nx (.hostRecordWrite 20) (hosts 1 (.stream 7 0 true [1, 2])) (fun t => t.out.length == 1) = true ∧
    nx (.hostRecordWrite 20) (hosts 1 (.results 7 2 [])) (fun t => t.dsp.hostRings.any (fun g => g.written == 1 && g.queue.isEmpty)) = true ∧
    nx (.hostHeadPoll 20 1 0) (hosts 2 (.stream 7 0 true [1, 2])) (fun t => t.dsp.hostRings.any (fun g => g.head == 1)) = true ∧
    (let s := State.reset.put (F.ONX_SLOT_STAT_STATE 1023) 1
     s.on (F.DSP_TNT_CFG_ENABLED 1023) = false ∧ s.get (F.DSP_TNT_BUDGET_CAP 1023) < 2 ^ 31 ∧ nx (.tenantEnable 1023 1) s (fun t => t.get (F.DSP_TNT_CFG_ENABLED 1023) == 1) = true) ∧
    (State.reset.get (F.ONX_SLOT_STAT_STATE 0) ≠ 1 ∧ State.reset.heldOf 0 = []) ∧
    (let s := State.reset.put F.DSP_POST_RING_SIZE 8
     [entry0].length = (1 + 2 ^ 16 - s.dsp.postTail) % 2 ^ s.get F.DSP_POST_RING_SIZE ∧ s.queueRoom entry0.ctx 1 = true ∧
     nx (.dspPostTail 1 [entry0]) s (fun t => t.dsp.items.any (fun i => i.e == entry0 && i.posted)) = true) := by
  refine ⟨?_, ?_, ?_, ?_, ?_, ?_, ?_, ?_⟩ <;> decide +kernel


/-! #### The memory tiers -/

def away0 : Pte := { pte0 with state := .away, home := .geode }
def res0 : Pte := { pte0 with state := .resident, home := .geode, frame := 40000 }

/-- Page 1 of tenant 5 in each state, with one stack in service, and its operations (`tier0` is of tenant 5; here of the page at 2 MiB, ring 8). -/
def pageIs (p : Pte) : State := page (pageKey 5 1) p ({ State.reset with tier := { State.reset.tier with frames := [(40000, some (pageKey 5 1))] } }.put (F.HBM_STAT_STATE 1) 2)
def opT : TierOp := { tier0 with pages := 1, va := 2 ^ 21, home := 1, cls := 1 }

/-- Whether the operation of OP_ID 77 answered a status, with what stands in the page's entry after it. -/
def opEnds (block status : Nat) (t : State) : Bool := t.out.any (fun o => match o with
  | .opDone b id _ st _ _ _ => b == block && id == 77 && st == status
  | _ => false)
def after (status : Nat) (p : Pte → Bool) (t : State) : Bool := opEnds 8 status t && p (t.pte (pageKey 5 1))

theorem test_witness_TierOperationsOnPages : State.reset.op 8 opT.opId = none ∧ TierOp.bad opT = false ∧ TierOp.bad { opT with va := 2 ^ 48 - 2 ^ 21 } = false ∧ pageKey (TierOp.ctx opT) (opT.va / 2 ^ 21 + 0) = pageKey 5 1 ∧
    (State.reset.hasGeode = true ∧ State.reset.tierOffline = false ∧ opT.home ≤ 2) ∧ (State.reset.pte (pageKey 5 1)).state = .unmapped ∧
    nx (.map opT) State.reset (after 0 (fun p => p.state == .zero && p.durable && p.serial == 2)) = true ∧ nx (.map opT) (pageIs pte0) (after 3 (fun p => p == pte0)) = true ∧
    nx (.unmap opT) (pageIs pte0) (after 0 (fun p => p.state == .unmapped)) = true ∧ nx (.setHome { opT with home := 2 } 1) (pageIs res0) (after 0 (fun p => p.home == .fabric)) = true ∧
    (State.reset.on F.MEM_CTL_PREFETCH_EN = true ∧ (pageIs away0).frameRoom 5 1 = true ∧ ((pageIs away0).bringUp (pageKey 5 1)).isSome = true) ∧
    nx (.prefetch opT 1) (pageIs away0) (after 0 (fun p => p.state == .resident)) = true ∧ (pageIs { res0 with dirty := 1 }).evictable res0 = true ∧
    nx (.evict opT 1) (pageIs { res0 with dirty := 1 }) (after 0 (fun p => p.state == .away)) = true ∧
    (pageIs pte0).pinnedOf 5 + 1 ≤ (((pageIs pte0).put (F.MEM_TNT_QUOTA_PIN_MAX 5) 1).get (F.MEM_TNT_QUOTA_PIN_MAX 5)) ∧
    nx (.pin opT) ((pageIs pte0).put (F.MEM_TNT_QUOTA_PIN_MAX 5) 1) (after 0 (fun p => p.pinned)) = true ∧ nx (.unpin opT) (pageIs { pte0 with pinned := true }) (after 0 (fun p => !p.pinned)) = true := by
  refine ⟨?_, ?_, ?_, ?_, ?_, ?_, ?_, ?_, ?_, ?_, ?_, ?_, ?_, ?_, ?_, ?_, ?_⟩ <;> decide +kernel

/-- Object 4,095 of 100 pages under key slot 2. -/
def obj1 : Obj := ⟨.ready, false, 2, 0, 100, 50, 0, 0, 0, none, [], none⟩
def objIs (x : Obj) : State := { State.reset with tier := { State.reset.tier with objs := [(4095, x)] } }
def opO : TierOp := { opT with obj := ⟨4095, false, 2, 1, 60000, 8, 9, false⟩, arg := 4095 + 99 * 4096 }

theorem test_witness_ObjectOperations : State.reset.op 8 opO.opId = none ∧ TierOp.bad opO = false ∧ (State.reset.object 4095 = none ∧ ((State.reset.put (F.ONX_SLOT_STAT_STATE 1026) 1).get (F.ONX_SLOT_STAT_STATE 1026)) = 1) ∧
    nx (.objRegister opO) (State.reset.put (F.ONX_SLOT_STAT_STATE 1026) 1) (fun t => opEnds 8 0 t && (t.pte ((2048 + 4095) * 2 ^ 27)).state == .zero && (t.object 4095).any (fun x => x.state == .loading)) = true ∧
    nx (.objSetAlt opO) (objIs obj1) (fun t => (t.object 4095).any (fun x => x.altTimeout == 60000 && x.altAddr == 8 && x.altKey == 9)) = true ∧
    nx (.objSeal opO) (objIs { obj1 with state := .loading }) (fun t => t.object 4095 == some obj1) = true ∧
    nx (.objRewrite opO) (objIs { obj1 with state := .poisoned }) (fun t => (t.object 4095).any (fun x => x.state == .loading && x.gen == 1)) = true ∧
    ((objIs obj1).mapCount 4095 = 0 ∧ (page 7 { pte0 with state := .shared, loc := 4095 } (objIs obj1)).mapCount 4095 = 1) ∧ nx (.objRetire opO) (objIs obj1) (fun t => (t.object 4095).isNone) = true ∧
    nx (.objRetire opO) (page 7 { pte0 with state := .shared, loc := 4095 } (objIs obj1)) (fun t => (t.object 4095).any (fun x => x.state == .retiring)) = true ∧
    nx (.mapShared opO) (objIs obj1) (after 0 (fun p => p.state == .shared && p.page == 99)) = true := by
  refine ⟨?_, ?_, ?_, ?_, ?_, ?_, ?_, ?_, ?_, ?_, ?_⟩ <;> decide +kernel

/-- The item of tenant 5 waits for its reservation; its kernel is in page 1, which is AWAY. -/
def waits0 : QItem := { item0 with e := { entry0 with job := .command { cmd0 with codeVa := 2 ^ 21 } }, granted := false }
def waiting0 : State := let s := pageIs away0; { s with dsp := { s.dsp with items := [waits0] } }

theorem test_witness_PagesMove : ((waiting0.tick 0).examine waits0 = none ∧ waiting0.needTooLarge waits0 = false ∧ waiting0.heldMaxOk = true ∧ waiting0.get F.MEM_FRAMES_HELD + waiting0.heldNeed waits0 ≤ waiting0.heldMax ∧
      waiting0.frameRoom waits0.runCtx (waiting0.ownNeed waits0) = true ∧ ((waiting0.tick 0).grant waits0).isSome = true) ∧
    nx (.reservationGrant 1 0) waiting0 (fun t => t.dsp.items.any (fun x => x.granted && x.held == [pageKey 5 1])) = true ∧
    nx (.pageBringUpDone (pageKey 5 1) 0) (pageIs { res0 with state := .moving }) (fun t => (t.pte (pageKey 5 1)).state == .resident && t.get F.MEM_UP_GEODE_PAGES == 1) = true ∧
    (((pageIs { res0 with dirty := 3 }).tick 100000000).cleanDue (pageKey 5 1) { res0 with dirty := 3 } = true ∧ (pageIs res0).readingPage (pageKey 5 1) = false ∧
      (pageIs res0).writtenBack (pageKey 5 1) = true) ∧
    nx (.writeBack (pageKey 5 1) 100000000) (pageIs { res0 with dirty := 3 }) (fun t => (t.pte (pageKey 5 1)).cleaning && (t.pte (pageKey 5 1)).writing == 3) = true ∧
    nx (.writeBackDone (pageKey 5 1) true 0) (pageIs { res0 with dirty := 3, writing := 3, redirty := 2, cleaning := true }) (fun t => (t.pte (pageKey 5 1)).dirty == 2 && t.get F.MEM_WB_SUBPAGES == 2) = true ∧
    nx (.writeBackDone (pageKey 5 1) false 0) (pageIs { res0 with dirty := 3, writing := 3, cleaning := true, home := .fabric }) (fun t => (t.pte (pageKey 5 1)).homeLost && (t.pte (pageKey 5 1)).dirty == 3) = true ∧
    ((pageIs res0).tick 0).evictNext (pageKey 5 1) = true ∧ nx (.pageEvict (pageKey 5 1) 0) (pageIs res0) (fun t => t.pte (pageKey 5 1) == { away0 with stamp := 0 }) = true ∧
    (40000 = 1 * 32768 + 7232 ∧ 1 < State.reset.stacks ∧ State.reset.get F.RAS_CTL_STACK_UE_MAX ≠ 0) ∧
    nx (.hbmUeLine 1 (7232 * 32768 + 5) 0) ((pageIs { res0 with dirty := 3 }).put F.RAS_CTL_STACK_UE_MAX 0)
      (fun t => t.get (F.HBM_UE_COUNT 1) == 1 && (t.pte (pageKey 5 1)).state == .lost) = true ∧
    nx (.hbmUeLine 15 (2 ^ 30 - 1) 0) State.reset (fun t => t.get (F.HBM_ERR_ADDR_LINE 15) == 2 ^ 30 - 1) = true := by
  refine ⟨?_, ?_, ?_, ?_, ?_, ?_, ?_, ?_, ?_, ?_, ?_, ?_⟩ <;> decide +kernel

/-- Two records of publication 3, gathered, in a stripe, or acknowledged. -/
def rec1 : JRec := ⟨0, 1, 3, 5, 2 ^ 21, 1, 4096, false, []⟩
def rec2 : JRec := ⟨0, 2, 3, 5, 2 ^ 21, 2, 4096, true, []⟩
def pub1 : Pub := ⟨3, 5, cmd0, [], [], true, false, false, [], 0⟩
def journal (g : List JRec) (st : List (Nat × List JRec)) (pubs : List Pub) : State := { State.reset with tier := { State.reset.tier with gathered := g, stripes := st, pubs := pubs } }

theorem test_witness_JournalObjectsStacks : [rec1, rec2].foldl (fun n r => n + r.bytes) 0 = 8192 ∧ ((journal [] [] []).tier.used = 0 ∧ 256 * 2 ^ 30 < (journal [{ rec1 with bytes := 256 * 2 ^ 30 }, rec2] [] []).tier.used + (256 * 2 ^ 30 + 4096)) ∧
    nx (.journalGroupFlush 0) (journal [rec1, rec2] [] []) (fun t => t.tier.gathered.isEmpty && t.tier.stripes.flatMap (fun p => p.2) == [{ rec1 with stripe := t.tier.nextStripe - 1 }, { rec2 with stripe := t.tier.nextStripe - 1 }]) = true ∧
    nx (.journalGroupFlush 0) (journal [{ rec1 with bytes := 256 * 2 ^ 30 }, rec2] [] []) (fun t => t.tier.full && t.get F.MEM_JRN_STAT_FULL_EPISODES == 1) = true ∧
    (journal [] [(1, [rec1, rec2])] []).idx.indices = [] ∧ (journal [] [(1, [rec1, rec2])] []).journaling 1 = false ∧ nx (.journalStripeAck 1 0) (journal [] [(1, [rec1, rec2])] []) (fun t => t.tier.covered == [rec1, rec2] && t.get F.MEM_JRN_SEQ_JSEQ == 2) = true ∧
    nx (.journalStripeAck 1 0) (journal [] [(1, [rec1, rec2])] [pub1]) (fun t => t.tier.pubs.isEmpty) = true ∧
    State.reset.tier.ckptAt + State.reset.get F.MEM_JRN_CTL_CKPT_PERIOD * 100000000 ≤ 60 * 100000000 ∧
    nx (.checkpoint (60 * 100000000)) (pageIs { res0 with durable := true, dirty := 3 }) (fun t => (t.pte (pageKey 5 1)).dirty == 0 && t.tier.ckptAt == 60 * 100000000) = true ∧
    (let k := (2048 + 4095) * 2 ^ 27
     let s := fun (x : Obj) => page k { res0 with state := .moving } (objIs x)
     k / 2 ^ 27 = 2048 + 4095 ∧ nx (.objPageRecovery 4095 [(k, 1)] 0) (s obj1) (fun t => (t.pte k).state == .resident) = true ∧
     nx (.objPageRecovery 4095 [(k, 3)] 0) (s { obj1 with altAddr := 8 }) (fun t => (t.object 4095).any (fun y => y.altPages == [k] && y.altSince == some 0)) = true ∧
     nx (.objPageRecovery 4095 [(k, 4)] 0) (s obj1) (fun t => (t.object 4095).any (fun y => y.state == .poisoned)) = true ∧
     nx (.altFetchTimeout 4095 5000000) (s { obj1 with altPages := [k], altSince := some 0 }) (fun t => (t.object 4095).any (fun y => y.state == .poisoned)) = true) ∧
    (15 < State.reset.stacks ∧ (F.HBM_CTL_RETIRE 15).id ∉ State.reset.locks ∧ State.reset.on (F.HBM_CTL_RETIRE 15) = false ∧ State.reset.framesOf 15 = [] ∧ State.reset.get (F.HBM_STAT_STATE 15) ≠ 6) ∧
    nx (.hbmRetire 15 1) State.reset (fun t => t.get (F.HBM_STAT_STATE 15) == 5) = true ∧ nx (.stackFail 15 0) State.reset (fun t => t.get (F.HBM_STAT_STATE 15) == 6) = true := by
  refine ⟨?_, ?_, ?_, ?_, ?_, ?_, ?_, ?_, ?_, ?_, ?_, ?_, ?_, ?_⟩ <;> decide +kernel


/-! #### Feature tables and the token unit -/

/-- Table 2 of tenant 5: 16 rows of 64 elements, their directory in page 0, F32 slots in page 1 and B16 slots in page 2. -/
def ftbd1 : FtbDesc := { ftbd0 with heapVa := [2 ^ 21, 2 ^ 22, 0, 0], slots := [16, 16, 0, 0], decayMs := 1 }
def opF : FtbOp := { ftb0 with desc := ftbd1, arg := 15, width := 2 }
def tab0 : Table := ⟨ftbd1, 0, false, 0, [], [], [], 0⟩
def tabPages (s : State) : State := ([0, 1, 2] : List Nat).foldl (fun s k => page (pageKey 5 k) { pte0 with durable := true } s) (s.put (F.MEM_TNT_QUOTA_PIN_MAX 5) 3)

/-- The table, with row 15 in F32 slot 3. -/
def tabIs (t : Table) (s : State) : State := tabPages { s with ftb := { s.ftb with tables := [(2, t)] }, mem := Sparse.write 0 [] (5 * 2 ^ 48 + 8 * 15) (leBytes 8 (1 + 3 * 2 ^ 32)) }
def mig0 : Migration := ⟨15, 1, 2, 0, 3, 0, List.replicate 64 0, [], some 77, 4096, false, []⟩
def op13 (s : State) : State := { s with tier := { s.tier with ops := [⟨13, 77, true, .running, 0, 4096, 0, 5, 0, true, none⟩] } }

theorem test_witness_FeatureTables_operations : (State.reset.op 13 opF.opId = none ∧ opF.resv = false ∧ FtbDesc.reserved ftbd1 = false ∧ State.reset.table 2 = none) ∧
    (ftbd1.defaultWidth ∈ [1, 2] ∧ ([1, 2, 3, 4] : List Nat).filter (fun w => ftbd1.heapVa.getD (w - 1) 0 != 0 && ftbd1.slots.getD (w - 1) 0 != 0) = [1, 2] ∧
      ftbd1.rows + 16 ≤ (([1, 2] : List Nat).map (fun w => ftbd1.slots.getD (w - 1) 0)).foldl (· + ·) 0) ∧
    (tab0.keys = [pageKey 5 0, pageKey 5 1, pageKey 5 2] ∧ (∀ k ∈ tab0.keys, ((tabPages State.reset).pte ((tabPages State.reset).governing k)).state = .zero ∧ ((tabPages State.reset).pte k).durable = true ∧
      ((tabPages State.reset).pte k).state ≠ .shared) ∧ (tabPages State.reset).pinnedOf 5 + tab0.keys.length ≤ (tabPages State.reset).get (F.MEM_TNT_QUOTA_PIN_MAX 5)) ∧
    nx (.ftbCreate opF) (tabPages State.reset) (fun t => (t.table 2).any (fun x => x.desc == ftbd1) && (t.pte (pageKey 5 2)).pinned && opEnds 13 0 t) = true ∧
    nx (.ftbDrop opF) (tabIs tab0 State.reset) (fun t => (t.table 2).isNone && opEnds 13 0 t) = true ∧ ((tabIs tab0 State.reset).rowDesc tab0 15 = (1, 3) ∧ tab0.ladder = [1, 2]) ∧
    nx (.ftbMigrate opF) (tabIs tab0 State.reset) (fun t => (t.table 2).any (fun y => y.queued == [⟨15, 2, some 77, 4096⟩])) = true ∧
    nx (.ftbMigrate { opF with width := 1 }) (tabIs tab0 State.reset) (opEnds 13 0) = true := by
  refine ⟨?_, ?_, ?_, ?_, ?_, ?_, ?_, ?_⟩ <;> decide +kernel

/-- A gather of one index that is no row, as an item of tenant 5. -/
def gat0 : GatherDesc := { gather0 with table := 2, count := 1, outLen := 65536, outVa := 2 ^ 22, idxVa := 64 }
def itemG : QItem := { item0 with e := { entry0 with job := .gather gat0 }, fresh := [(pageKey 5 2, 40000)] }
def gathering : State := let s := tabIs tab0 State.reset; { s with mem := Sparse.write 0 s.mem (5 * 2 ^ 48 + 64) (leBytes 4 16), dsp := { s.dsp with items := [itemG] } }

theorem test_witness_FeatureTables_gather : gathering.dsp.items.find? (fun y => y.id == 1) = some itemG ∧ gathering.ready itemG = true ∧ gathering.mayRun itemG = true ∧ gathering.table 2 = some tab0 ∧
    gathering.readsTable tab0 itemG.runCtx = true ∧ words 4 1 ((gathering.tick 0).load itemG.runCtx 64 4) = [16] ∧ (gatherRows tab0.desc.rows [16]).length = 0 ∧ gatherSize 64 gat0 0 ≤ gat0.outLen ∧
    gathering.tier.pubs = [] := by
  refine ⟨?_, ?_, ?_, ?_, ?_, ?_, ?_, ?_, ?_⟩
  case refine_7 => simp [gatherRows, tab0, ftbd1, ftbd0]
  all_goals decide +kernel

theorem test_witness_FeatureTables_course :
    (let s := { tabIs tab0 State.reset with ftb := ⟨[(2, tab0)], [⟨3, 2, []⟩]⟩, tier := { (tabIs tab0 State.reset).tier with pubs := [{ pub1 with scatter := true }] } }
     s.tableBusyBut 3 tab0 = false ∧ s.tableAway tab0 = none ∧ s.tableBusy tab0 = false ∧ s.ftb.pending.find? (fun z => z.table == 2) = some ⟨3, 2, []⟩ ∧ (s.tier.pubs.find? (fun q => q.id == 3)).isSome = true) ∧
    (tab0.decayAt + tab0.desc.decayMs * 100000 ≤ 100000 ∧ nx (.decayTick 2 100000) (tabIs { tab0 with hits := [(3, 5), (4, 1)] } State.reset) (fun t => (t.table 2).any (fun y => y.hits == [(3, 2)] && y.decayAt == 100000)) = true) ∧
    (let x := { tab0 with queued := [⟨15, 2, some 77, 4096⟩] }
     let s := (op13 (tabIs x State.reset)).put F.FTB_CTL_MIG_EN 1
     s.migsRunning < 16 ∧ s.tableAway x = none ∧ s.opRuns 13 77 = true ∧ s.freeSlot x 2 = some 0 ∧ nx (.migrationStart 2 15) s (fun t => (t.table 2).any (fun y => y.migs == [mig0] && y.queued.isEmpty)) = true ∧
     nx (.migrationStart 2 15) ((op13 (tabIs { tab0 with queued := [⟨15, 1, none, 0⟩] } State.reset)).put F.FTB_CTL_MIG_EN 1) (fun t => (t.table 2).any (fun y => y.migs.isEmpty && y.queued.isEmpty)) = true) ∧
    (let x := { tab0 with migs := [mig0] }
     let s := op13 (tabIs x State.reset)
     s.tableBusy x = false ∧ s.tableAway x = none ∧ s.opRuns 13 77 = true ∧ nx (.migrationSwitch 2 15) s (fun t => (t.table 2).any (fun y => y.migs.any (fun z => z.switched)) && opEnds 13 0 t) = true) ∧
    nx (.migrationFree 2 15) (tabIs { tab0 with migs := [{ mig0 with switched := true }] } State.reset) (fun t => (t.table 2).any (fun y => y.migs.isEmpty)) = true := by
  refine ⟨?_, ?_, ?_, ?_, ?_⟩ <;> decide +kernel

/-- A dictionary of one node and byte tokens at page 1 of tenant 5, a stream of it, and a grammar of one final state. -/
def dict1 : Dict := ⟨false, false, 5, 5, 2 ^ 21, true, 512, 1, 0, 256, 0, 64, 72, 128, 128, 0⟩
def gram1 : Gram := ⟨.loading, false, 5, 5, 2 ^ 21, 512, 1, 0, 1, 0, 64, 80, 32768⟩
def stream1 : Stream := ⟨5, 5 * 2 ^ 48, 2, 4, false, [], [], 0, 0, 0, 0, 0, false, 0⟩
def itemX (d : TxuJob) : QItem := { item0 with e := { entry0 with job := .txu d }, fresh := [(pageKey 5 2, 40000)] }
def txuPart (d : TxuJob) (ss : List Stream) : State :=
  let s := tabPages State.reset
  { s with txu := { s.txu with dicts := [(4, dict1)], streams := ss }, dsp := { s.dsp with items := [itemX d] }, mem := Sparse.write 0 [] (5 * 2 ^ 48) [0x41] }
def jobO : TxuJob := { txuj0 with op := 1, dictId := 4, stream := 2 }
def jobF : TxuJob := { txuj0 with op := 2, dictId := 4, stream := 2, inVa := 0, inLen := 1, outVa := 2 ^ 22, outLen := 65536 }

theorem test_witness_TokenUnit_jobs : ((txuPart jobO []).txuItem 1 1 = some (itemX jobO, jobO) ∧ ((txuPart jobO []).tick 0).usableDict (itemX jobO).runCtx jobO.dictId = some dict1 ∧
      (txuPart jobO []).stream jobO.reqHandle jobO.stream = none ∧ (jobO.byteFallback = true → dict1.byteTokens = true)) ∧
    nx (.open_ 1 0) (txuPart jobO []) (fun t => t.txu.streams.any (fun y => y.num == 2 && y.dict == 4) && t.dsp.items.isEmpty) = true ∧
    ((txuPart jobF [stream1]).txuItem 1 2 = some (itemX jobF, jobF) ∧ (txuPart jobF [stream1]).stream jobF.reqHandle jobF.stream = some stream1 ∧ (txuPart jobF [stream1]).dict stream1.dict = some dict1) ∧
    nx (.feed 1 0) (txuPart jobF [stream1]) (fun t => t.get F.TXU_TOKENS_TOKENS == 1 && t.txu.streams.any (fun y => y.bytesIn == 1)) = true ∧
    nx (.feed 1 0) (txuPart { jobF with last := true } [stream1]) (fun t => t.txu.streams.isEmpty) = true ∧
    (let s := (txuPart jobO [stream1]).put F.TXU_IDLE_LIMIT_LIMIT_MS 1
     (s.tick 100000).idleStream stream1 = true ∧ nx (.contextEvict (5 * 2 ^ 48) 2 100000) s (fun t => t.txu.streams == [{ stream1 with evicted := true }]) = true) := by
  refine ⟨?_, ?_, ?_, ?_, ?_, ?_⟩ <;> decide +kernel

/-- Every context is in use, so that an OPEN waits. -/
theorem test_witness_TokenUnit_wait : 65536 ≤ (txuPart jobO (List.replicate 65536 { stream1 with handle := 0 })).txu.streams.length ∧ 1 ∉ (txuPart jobO []).txu.waited := by
  refine ⟨?_, by decide +kernel⟩
  rw [show (txuPart jobO (List.replicate 65536 { stream1 with handle := 0 })).txu.streams = List.replicate 65536 { stream1 with handle := 0 } from rfl, List.length_replicate]

def tally1 : Tally := tally0
def req0 : Req := ⟨5 * 2 ^ 48, 1, 5, 0, desc0, 0, .admitted, .tokenisation, false, none, false, none, [], 0, [(4, [1, 2, 3])], [], [], tally0⟩
def inst0 : Inst := ⟨5, instd0, hdr0, false, [], []⟩
def jobP : TxuJob := { jobF with op := 3, pack := pack0 }

theorem test_witness_TokenUnit_pack :
    (let s := txuPart jobP []
     let t := { s with dsp := { s.dsp with reqs := [(5 * 2 ^ 48, req0)] }, gen := { s.gen with insts := [(1, inst0)] } }
     t.txuItem 1 3 = some (itemX jobP, jobP) ∧ (t.req jobP.reqHandle).isSome = true ∧ (itemX jobP).posted = false ∧ PackDesc.bad pack0 = false ∧ (t.dict 4).isSome = true ∧ pack0.budget ≤ hdr0.maxContext ∧
     packPrompt pack0 [] [] [] [] [] [1, 2, 3] [] = some ([1, 2, 3], 0) ∧ 64 + 4 * 3 ≤ jobP.outLen ∧
     nx (.pack 1 0) t (fun u => (u.req jobP.reqHandle).any (fun r => r.prompt == [1, 2, 3]) && u.get F.TXU_PACK_PACKS == 1) = true) := by decide +kernel

/-- The image of `dict1`: a root without edges. That of `gram1`: one final state with no ranges. -/
def opX : TxuOp := { txu0 with arg := 2 ^ 21, id := 9 }
def imageOf (ws : List Nat) : State :=
  let s := tabPages State.reset
  { s with mem := Sparse.write 0 [] (5 * 2 ^ 48 + 2 ^ 21) (ws.flatMap (leBytes 8)) }
def dictImage : State := imageOf [0x20000000101, 0x1, 0x100, 0x4800000040, 0x8000000080, 0]
def gramImage : State := imageOf [0x20000000001, 0x1, 0x1, 0x0000005000000040, 0x8000, 0, 0, 0, 0x100000, 0]

theorem test_witness_TokenUnit_dictionary : dictImage.dictValid dict1 = true := by
  rw [State.dictValid, show (List.flatten _).map _ = [] from by decide +kernel, List.mergeSort_nil]
  decide +kernel

theorem test_witness_TokenUnit_images : (State.reset.op 14 opX.opId = none ∧ opX.resv = false ∧ State.reset.hasTxu = true ∧ opX.id < 1024 ∧ TxuOp.here opX dictImage = true ∧ dictImage.dict opX.id = none ∧
      dictImage.gram opX.id = none) ∧ dictImage.dictHeader false 5 (TxuOp.at_ opX).1 (TxuOp.at_ opX).2 = some dict1 ∧ (∀ k ∈ dict1.keys dictImage, (dictImage.pte k).state = .zero) ∧
      dictImage.imageStop false 5 (dict1.keys dictImage) = none ∧ gramImage.gramHeader false 5 (TxuOp.at_ opX).1 (TxuOp.at_ opX).2 = some gram1 ∧ (∀ k ∈ gram1.keys gramImage, (gramImage.pte k).state = .zero) ∧
      gramImage.imageStop false 5 (gram1.keys gramImage) = none ∧ gramImage.gramValid gram1 = true ∧
      nx (.gramLoad opX 1) gramImage (fun t => opEnds 14 0 t && (t.gram 9).any (fun g => g.state == .ready)) = true := by
  refine ⟨?_, ?_, ?_, ?_, ?_, ?_, ?_, ?_, ?_⟩ <;> decide +kernel

theorem test_witness_TokenUnit_unload : (opX.id < 1024 ∧ (State.reset.put F.PART_CAPS_TXU 0).hasTxu = false ∧ nx (.dictUnload opX) (State.reset.put F.PART_CAPS_TXU 0) (opEnds 14 10) = true) ∧
    (let s := { tabPages State.reset with txu := ⟨[(9, dict1)], [(9, { gram1 with state := .ready })], [], []⟩ }
     s.dictUsers 9 = 0 ∧ s.gramUsers 9 = 0 ∧ nx (.dictUnload opX) s (fun t => (t.dict 9).isNone && opEnds 14 0 t) = true ∧ nx (.gramUnload opX) s (fun t => (t.gram 9).isNone && opEnds 14 0 t) = true ∧
     0 < ({ s with txu := { s.txu with streams := [{ stream1 with dict := 9 }] } } : State).dictUsers 9) := by decide +kernel


/-! #### Indices and searches -/

/-- Index 1 of tenant 5, in mapped ranges, its region in page 0. -/
def idxd1 : IdxDesc := { idxd0 with ranges := true, memberVa := 2 ^ 30, itemVa := 2 ^ 31, passageVa := 2 ^ 32, index := 1 }
def opI : IdxOp := { idx0 with desc := idxd1 }
def region0 : State := page (pageKey 5 0) { pte0 with durable := true, pinned := true } State.reset
def gen1 : Gen := ⟨1, 0, [(0, ⟨0, 8, 1, 0, false, [⟨3, false, [⟨7, false, 1, 0, [0, 0, 0, 0], List.replicate 8 0⟩]⟩]⟩)]⟩
def index1 : Index := ⟨idxd1, .ready, none, 0, 1, gen1, none, 0, [(0, ⟨7, false, .alive⟩)], [], [], [], 0, 0, [], [], none⟩
def idxPart (x : Index) : State := { State.reset with idx := { State.reset.idx with indices := [(1, x)] } }
def fold1 : Fold := ⟨false, 2, 0, 0, [0], 1, [], [], [], 0, none, 0, none, []⟩
def update1 : Update := ⟨42, [], [], [7], 0, [], none, 0⟩

theorem test_witness_IndexOperations : (State.reset.op 12 opI.opId = none ∧ opI.resv = false ∧ IdxDesc.reserved idxd1 = false ∧ idxd1.load = [] ∧ region0.badSchema idxd1 = false) ∧
    nx (.idxCreate opI) region0 (fun t => (t.index 1).any (fun y => y.state == .creating && y.cur == ⟨1, 0, []⟩ && y.creating == some (1, 77, 4096))) = true ∧
    nx (.idxDrop opI) (idxPart index1) (fun t => (t.index 1).isNone && opEnds 12 0 t) = true ∧
    nx (.idxFold opI) (idxPart index1) (fun t => (t.index 1).any (fun y => y.fold.any (fun f => !f.repair && f.step == 2 && f.opId == some 77))) = true ∧
    nx (.idxRepair opI) (idxPart { index1 with cur := { gen1 with parts := [(0, ⟨0, 8, 1, 0, true, []⟩)] } }) (fun t => (t.index 1).any (fun y => y.fold.any (fun f => f.repair && f.todo == [0]))) = true ∧
    nx (.idxFold opI) (idxPart { index1 with fold := some fold1 }) (opEnds 12 3) = true ∧
    (let x := { index1 with updates := [{ update1 with waits := [7, 8] }] }
     (idxPart x).copyWaits x 7 = false ∧ nx (.itemCopyWrite 1 42 7) (idxPart x) (fun t => (t.index 1).any (fun y => y.updates == [{ update1 with waits := [8] }])) = true) ∧
    ((idxPart { index1 with fold := some fold1 }).foldGoes fold1 = true ∧ nx (.foldPublish 1 1) (idxPart { index1 with fold := some fold1 }) (fun t =>
      (t.index 1).any (fun y => y.fold.any (fun f => f.todo.isEmpty && f.step == 2) && y.cur == gen1)) = true) ∧
    ((idxPart index1).pins 1 (index1.cur.num - 1) = [] ∧ nx (.foldPublish 1 1) (idxPart { index1 with fold := some { fold1 with todo := [] } }) (fun t =>
      (t.index 1).any (fun y => y.fold.any (fun f => f.step == 4 && f.pub == some 1))) = true) ∧
    nx (.idxCtlWrite (2 ^ 31)) State.reset (fun t => t.get F.IDX_CTL_FOLD_EN == 1) = true := by
  refine ⟨?_, ?_, ?_, ?_, ?_, ?_, ?_, ?_, ?_, ?_⟩ <;> decide +kernel

theorem test_witness_IndexOperations_reclaim :
    (let x := { index1 with fold := some { fold1 with step := 5, todo := [] } }
     (idxPart x).foldGoes { fold1 with step := 5, todo := [] } = true ∧ (idxPart x).pins 1 (x.cur.num - 1) = [] ∧ x.state = .ready ∧ x.updates = [] ∧
     (idxPart x).get (F.IDX_TUNE_AUTO_FOLD_PCT 1) = 0 ∧ nx (.foldReclaim 1) (idxPart x) (fun t => (t.index 1).any (fun y => y.fold == none && y.side.isEmpty)) = true) := by decide +kernel

/-- A fold's partition has room; its publications have taken effect, and no program of it is outstanding; a compaction target out of its range. -/
theorem test_witness_IndexOperations_rooms : ((idxPart index1).foldOne ((idxPart index1).readIndex index1) fold1 0).isSome = true ∧ (idxPart index1).programming (.fold 1) = false ∧
    (∀ p ∈ fold1.pubs, ∀ q ∈ (idxPart index1).tier.pubs, q.id ≠ p) ∧ State.reset.compactOk 1 = true ∧ (State.reset.put (F.IDX_TUNE_COMPACT_PCT 1) 101).compactOk 1 = false ∧
    index1.updates = [] ∧ index1.creating = none ∧ (idxPart { index1 with fold := some fold1 }).idxUsers 1 = [] ∧ index1.desc.index = 1 := by
  refine ⟨?_, ?_, ?_, ?_, ?_, ?_, ?_, ?_, ?_⟩ <;> decide +kernel

/-- A request of tenant 5 with a search of index 1, before a stage; its query. -/
def searching : ReqDesc := { desc0 with retrieve := true, generate := true, search := { search0 with index := 1, nprobe := 1, maxProbes := 1, cand := 1 } }
def reqAt (st : Stage) : Req := { req0 with d := searching, stage := st, state := .retrieving }
def query0 : Query := ⟨5 * 2 ^ 48, 1, searching.search, 1, 0, 1, 0, true, false, 1, 1, .order, [], 0, [], [], [], [0], 0, 1, 0, [], [], [], false, 0, 0, [], 0, 0, 0, [], [], false, false, false, [], none⟩
def searchPart (st : Stage) (q : Query) : State :=
  let s := idxPart index1
  { s with idx := { s.idx with queries := [(5 * 2 ^ 48, q)] }, dsp := { s.dsp with reqs := [(5 * 2 ^ 48, reqAt st)] } }
def scanning (q : Query) : Query := { q with step := .scanning, rounds := 1 }

theorem test_witness_SearchSteps_scan : ((searchPart .scan { query0 with step := .dispatch }).contexts.length < 8 ∧
      nx (.probeDispatch ⟨5 * 2 ^ 48, []⟩) (searchPart .scan { query0 with step := .dispatch }) (fun t => (t.query (5 * 2 ^ 48)).any (fun y => y.step == .scanning && y.upto == 1)) = true) ∧
    (searchPart .scan query0).hasGeode = true ∧ (∀ p ∈ (searchPart .scan query0).idx.queries, p.2.handle = p.1) ∧ (searchPart .scan query0).idx.queries.Pairwise (fun a b => a.1 < b.1) ∧
    (∀ u ∈ ((searchPart .scan (scanning query0)).sharers index1 (scanning query0) 0 0).flatMap (fun y => (searchPart .scan (scanning query0)).scanReads index1 y ⟨3, false, []⟩), u ∈ State.reset.idx.read) ∧
    (searchPart .scan (scanning query0)).mergesNext { scanning query0 with arrived := some 0 } = true ∧ ((0, 0) ∈ index1.unread (scanning query0) ∧ (searchPart .scan (scanning query0)).groupChannel index1 ⟨3, false, []⟩ = some 3 ∧ 3 < 8 * State.reset.bays) ∧
    (let x := { index1 with cur := { gen1 with parts := [(0, ⟨0, 8, 1, 0, true, [⟨3, true, []⟩]⟩)] } }
     nx (.scanUnitScore (5 * 2 ^ 48) 0 0 3) { searchPart .scan (scanning query0) with idx := ⟨[(1, x)], [(5 * 2 ^ 48, scanning query0)], [], 0, []⟩ } (fun t =>
       (t.query (5 * 2 ^ 48)).any (fun y => y.damaged && y.seen == [(0, 0)])) = true) ∧
    ((searchPart .scan (scanning query0)).atStage (5 * 2 ^ 48) .scan).isSome = true ∧ (scanning query0).sideDone = false ∧
    index1.unread { scanning query0 with seen := [(0, 0)], sideDone := true } = [] := by
  refine ⟨?_, ?_, ?_, ?_, ?_, ?_, ?_, ?_, ?_, ?_, ?_⟩ <;> decide +kernel

/-- A sequencer command of the request; the part once it has committed. -/
def seq0 : QEntry := { entry0 with job := .command { cmd0 with repro := true, roundNe := true } }
def jobRan (s : State) : State := { s with dsp := { s.dsp with jobs := [⟨5 * 2 ^ 48, 7, .committed⟩] } }
def noGeode (s : State) : State := s.put F.PART_CAPS_GEODE_BAYS 0

/-- The commands of the steps are queued; once all have committed the step's result stands. -/
theorem test_witness_SearchSteps_commands : (let s := searchPart .coarse query0
      (s.atStage (5 * 2 ^ 48) .coarse).any (fun r => r.tid == 5) = true ∧ s.seqItems (5 * 2 ^ 48) 5 [seq0] = true ∧ seq0.resv = false ∧ s.get F.MEM_CTL_MIG_AHEAD ≠ 0 ∧
      s.checkItem ⟨s.dsp.nextItem, seq0, false, 0, 0, false, 0, false, [], [], none, [], [], none⟩ = none ∧ query0.jobsOf .order = none ∧
      nx (.probeOrder ⟨5 * 2 ^ 48, [seq0]⟩ 0) s (fun t => (t.query (5 * 2 ^ 48)).any (fun y => y.jobs == [(.order, [7])]) && t.dsp.items.any (fun i => i.e == seq0 && !i.posted)) = true) ∧
    (jobRan (searchPart .coarse query0)).jobsDone { query0 with jobs := [(.order, [7])] } .order = true ∧ (jobRan (searchPart .scan (scanning query0))).jobsDone { scanning query0 with jobs := [(.side, [7])] } .side = true ∧
    (noGeode (searchPart .scan query0)).hasGeode = false ∧ ((searchPart .scan (scanning query0)).put F.CSU_CTL_SHARE_EN 0).on F.CSU_CTL_SHARE_EN = false ∧ 3 < 8 * State.reset.bays ∧ nx (.probeDispatch ⟨5 * 2 ^ 48, [seq0]⟩) (noGeode (searchPart .scan { query0 with step := .dispatch })) (fun t =>
      (t.query (5 * 2 ^ 48)).any (fun y => y.step == .scanning && y.jobs == [(.scan, [7])])) = true := by
  refine ⟨?_, ?_, ?_, ?_, ?_, ?_, ?_⟩ <;> decide +kernel

/-- The query vector, the probe order and a scan with a score. -/
theorem test_witness_SearchSteps_order : ((searchPart .coarse query0).atStage (5 * 2 ^ 48) .coarse).isSome = true ∧ (searchPart .coarse query0).badTiles index1.desc = false ∧ query0.step = .order ∧
    nx (.sideListSearch ⟨5 * 2 ^ 48, []⟩) (jobRan (searchPart .scan { scanning query0 with jobs := [(.side, [7])] })) (fun t => (t.query (5 * 2 ^ 48)).any (fun y => y.sideDone)) = true ∧
    nx (.scanUnitScore (5 * 2 ^ 48) 0 0 3) (searchPart .scan (scanning query0)) (fun t => t.get (F.CSU_RECORDS_RECORDS 3) + t.get (F.CSU_HIDDEN_RECORDS 3) == 1) = true := by
  refine ⟨?_, ?_, ?_, ?_, ?_⟩ <;> decide +kernel

theorem test_witness_SearchSteps_merge : (nextStage searching .merge).isSome = true ∧ (nextStage { searching with search := { searching.search with rescoreKeep := 1 } } .rescoring).isSome = true ∧
    ({ scanning query0 with seen := [(0, 0)], sideDone := true }.maxProbes ≤ { scanning query0 with seen := [(0, 0)], sideDone := true }.upto) ∧
    ((mergeLists searching.search.cand []).2.2 < searching.search.cand ∧ (1 : Nat) < { query0 with maxProbes := 2 }.maxProbes) ∧
    ((searchPart .rescoring { query0 with step := .merged }).atStage (5 * 2 ^ 48) .rescoring).isSome = true ∧
    nx (.candidateFetch (5 * 2 ^ 48)) (searchPart .rescoring { query0 with step := .merged }) (fun t => (t.query (5 * 2 ^ 48)).any (fun y => y.fetched && y.cands.isEmpty)) = true ∧
    nx (.passageFetch (5 * 2 ^ 48)) (searchPart .passageFetch { query0 with step := .merged }) (fun t => (t.query (5 * 2 ^ 48)).any (fun y => y.step == .done && !y.pinned)) = true := by
  refine ⟨?_, ?_, ?_, ?_, ?_, ?_, ?_⟩ <;> decide +kernel

/-- Slot 15 takes an image of one legal word; a reserved slot and an address that is not aligned are refused. -/
def progImage : State := { State.reset with mem := Sparse.write 0 [] (svc * 2 ^ 48 + 64) (leBytes 8 0x101) }

theorem test_witness_SearchSteps_programs : (searchPart .scan { query0 with blk := { query0.blk with prog := 5 } }).slotUsed 5 = true ∧ State.reset.slotUsed 15 = false ∧
    nx (.csuProgLoad 4 64) State.reset (fun t => t.get F.CSU_PROG_STAT_RESULT == 3) = true ∧ nx (.csuProgLoad 5 65) State.reset (fun t => t.get F.CSU_PROG_STAT_RESULT == 2) = true ∧
    parseImage (State.reset.load svc 64 144) = none ∧ nx (.csuProgLoad 15 64) progImage (fun t => t.get F.CSU_PROG_STAT_RESULT == 1 && Sparse.find t.idx.progs 15 == some [⟨0, 0, 0, 0, 0⟩]) = true := by
  refine ⟨?_, ?_, ?_, ?_, ?_, ?_⟩ <;> decide +kernel


/-! #### Generation and shipping -/

/-- An instance of 4 KV pages with a dictionary of as many tokens, and a request of three prompt tokens in it. -/
def opM : GenOp := { genop0 with inst := 9, desc := { instd0 with imageVa := 0, kvPoolVa := 2 ^ 21, siteVa := 2 ^ 22, dictId := 4, imageLen := 4096 }, hdr := { hdr0 with vocab := 512, kvTokenBytes := 4096, maxContext := 16, sites := 1 } }
def inst1 : Inst := ⟨5, opM.desc, opM.hdr, false, [], []⟩
def greq0 : GenReq := ⟨5 * 2 ^ 48, 5, 1, { gen0 with inst := 9 }, stop0, [1, 2, 3], [], 0, [], 0, 0, 0, 0, [], 0, 0, [], 0, 0, false, true, false, [], false, 0, [], [], [], 0, none, false⟩
def member0 : PassMember := ⟨5 * 2 ^ 48, .chunk, 2, [], []⟩
def genPart (x : Inst) (g : List GenReq) : State :=
  let s := tabPages State.reset
  { s with txu := { s.txu with dicts := [(4, dict1)] }, gen := { s.gen with insts := [(9, x)], reqs := g.map (fun y => (y.handle, y)) }, dsp := { s.dsp with reqs := [(5 * 2 ^ 48, reqAt .prefill)] } }

theorem test_witness_GenerationPasses_instances : (State.reset.op 15 opM.opId = none ∧ opM.resv = false ∧ InstDesc.bad opM.desc = false) ∧
    (let s := { genPart inst1 [] with gen := State.reset.gen }
     s.modelInvalid opM = false ∧ nx (.genModelLoad opM) s (fun t => t.inst 9 == some inst1 && opEnds 15 0 t) = true) ∧
    ((genPart inst1 []).modelInvalid opM = true ∧ nx (.genModelLoad opM) (genPart inst1 []) (opEnds 15 3) = true) ∧
    (let s := { genPart inst1 [] with dsp := State.reset.dsp }
     s.instUsers 9 = 0 ∧ nx (.genModelUnload opM) s (fun t => (t.inst 9).isNone && opEnds 15 0 t) = true) ∧
    0 < ({ genPart inst1 [] with dsp := { State.reset.dsp with reqs := [(5 * 2 ^ 48, { reqAt .prefill with d := { searching with gen := { gen0 with inst := 9 } } })] } } : State).instUsers 9 := by
  refine ⟨?_, ?_, ?_, ?_, ?_⟩ <;> decide +kernel

/-- An encoder instance, and one input of three rows of the request for it. -/
def encoder1 : Inst := { inst1 with hdr := { opM.hdr with encoder := true, kvTokenBytes := 0 } }
def reqE : Req := { reqAt .embedding with d := { searching with embedInst := 9 }, begun := some [], inputs := [(0, 3)] }
def encPart : State := { genPart encoder1 [] with dsp := { State.reset.dsp with reqs := [(5 * 2 ^ 48, reqE)] } }
def passItem0 : QEntry × Option Nat := ({ entry0 with job := .command { cmd0 with reqHandle := 7 } }, none)

theorem test_witness_GenerationPasses_form : encoder1.passes.length < encoder1.desc.passes ∧ ((encPart.tick 0).formEncoder 9 encoder1).1.members = [⟨5 * 2 ^ 48, .input, 3, [], [0]⟩] ∧
    [passItem0].all ((encPart.tick 0).passItem encoder1 [⟨5 * 2 ^ 48, .input, 3, [], [0]⟩]) = true ∧ ((encPart.tick 0).formEncoder 9 encoder1).2.queueRoom 5 1 = true := by
  have h : (encPart.tick 0).encoders 9 = [reqE] := by
    rw [State.encoders, show List.filter _ (encPart.tick 0).liveReqs = [reqE] by decide +kernel, List.mergeSort_singleton]
  refine ⟨by decide +kernel, ?_, by decide +kernel, ?_⟩ <;> (rw [State.formEncoder, h]; decide +kernel)

theorem test_witness_GenerationPasses_commit :
    (let x := { inst1 with passes := [⟨4, [member0], [⟨5 * 2 ^ 48, 8, none, false⟩]⟩] }
     let s := genPart x [{ greq0 with inPass := true }]
     let s := { s with dsp := { s.dsp with jobs := [⟨5 * 2 ^ 48, 8, .committed⟩] } }
     s.passDone ⟨4, [member0], [⟨5 * 2 ^ 48, 8, none, false⟩]⟩ = true ∧ s.isPrefill = false ∧ greq0.ran + member0.rows < greq0.prompt.length ∧
     nx (.passCommit 9 4 [⟨[], []⟩] 0) s (fun t => (t.greq (5 * 2 ^ 48)).any (fun g => g.ran == 2 && g.kvLen == 2 && !g.inPass) && t.get (F.GEN_ROWS_PREFILL 9) == 2) = true) ∧
    nx (.detokenise (5 * 2 ^ 48) 0) (genPart inst1 [{ greq0 with out := [0x41], text := [0x41] }]) (fun t => (t.greq (5 * 2 ^ 48)).any (fun g => g.delivered == 1 && g.numbered == 1)) = true ∧
    (let g := { greq0 with prefill := false, out := [5], blk := { gen0 with inst := 9, draftMode := 1, draftMax := 2 } }
     nx (.draftWalk (5 * 2 ^ 48) [7, 8] 0 0 0) (genPart inst1 [g]) (fun t => (t.greq (5 * 2 ^ 48)).any (fun y => y.drafts == [7, 8])) = true) ∧
    lookupDrafts 2 [1, 2, 3, 9, 1, 2, 3] = [9, 1] := by
  refine ⟨?_, ?_, ?_, ?_⟩ <;> decide +kernel

/-- A request in reproducible mode runs in commands of its own, with its seed and position; a member's stream ring has room. -/
def ownItem : QEntry × Option Nat := ({ entry0 with job := .command { cmd0 with reqHandle := 5 * 2 ^ 48, repro := true, roundNe := true } }, some (5 * 2 ^ 48))

theorem test_witness_GenerationPasses_own : (genPart inst1 [{ greq0 with blk := { gen0 with repro := true } }]).reproApart [member0] [ownItem] = true ∧
    (genPart inst1 [{ greq0 with blk := { gen0 with repro := true } }]).reproApart [member0] [passItem0] = false ∧ (genPart inst1 [greq0]).reproApart [member0] [passItem0] = true ∧
    (genPart inst1 [{ greq0 with blk := { gen0 with repro := true } }]).passItem inst1 [member0] ownItem = true ∧ (genPart inst1 []).holdsBack (streamKey (5 * 2 ^ 48)) = false ∧
    (encPart.tick 0).reproApart [⟨5 * 2 ^ 48, .input, 3, [], [0]⟩] [passItem0] = true := by
  refine ⟨?_, ?_, ?_, ?_, ?_, ?_⟩ <;> decide +kernel

/-- A grammar that allows token 65 in its only state, and a request that has committed one. -/
def gramGo : State :=
  let s := imageOf [0x20000000001, 0x1, 0x100000001, 0x0000005000000040, 0x8000, 0, 0, 0, 0x100000, 0x100000000, 65 + 65 * 2 ^ 18]
  { s with txu := { s.txu with grams := [(2, { gram1 with state := .ready, ranges := 1 })] }, gen := { s.gen with reqs := [(5 * 2 ^ 48, { greq0 with out := [65], blk := { gen0 with grammarEn := true, grammar := 2 } })] } }

theorem test_witness_GenerationPasses_grammar : (gramGo.greq (5 * 2 ^ 48)).any (fun g => (gramGo.gramOf g).isSome && gramGo.gramNow g == some 0 && decide (g.advanced < g.out.length) && gramGo.recordHere g 3 (2 ^ 22) 16) = true ∧
    nx (.grammarAdvance (5 * 2 ^ 48) 3 (2 ^ 22) 0) gramGo (fun t => (t.greq (5 * 2 ^ 48)).any (fun g => g.advanced == 1) && t.get F.TXU_MASK_ADVANCES == 1) = true := by
  refine ⟨?_, ?_⟩ <;> decide +kernel

def pathPart (r : Req) : State := { genPart inst1 [] with dsp := { State.reset.dsp with reqs := [(5 * 2 ^ 48, r)] } }
def reqT : Req := { req0 with d := { desc0 with questionLen := 1, generate := true, gen := { gen0 with inst := 9 } } }
def openItem : QEntry := { entry0 with job := .txu { jobO with cmdId := 6 } }
def feedItem : QEntry := { entry0 with job := .txu { jobF with outVa := 2 ^ 24, last := true } }
def packItem : QEntry := { entry0 with job := .txu { jobF with op := 3, outVa := 2 ^ 24 } }
def fits (s : State) (e : QEntry) : Bool := e.job.handle == 5 * 2 ^ 48 && e.chargeTid == 5 && !e.svcCharge && !e.resv &&
  s.checkItem ⟨s.dsp.nextItem, e, false, 0, 0, false, 0, false, [], [], none, [], [], none⟩ == none

theorem test_witness_StagesAdvance : ((pathPart reqT).atStage (5 * 2 ^ 48) reqT.stage = some reqT ∧ (pathPart reqT).greq (5 * 2 ^ 48) = none ∧ reqT.begun = none ∧ reqT.stage = .tokenisation ∧
      (pathPart reqT).reqDicts reqT ≠ [] ∧ (pathPart reqT).tokenises reqT [openItem, feedItem] = true ∧ (pathPart reqT).queueRoom 5 2 = true ∧ State.reset.get F.MEM_CTL_MIG_AHEAD ≠ 0 ∧
      ([openItem, feedItem].map (fun e => e.job.cmdId)).Nodup ∧ [openItem, feedItem].all (fits (pathPart reqT)) = true ∧
      nx (.stageAdvance (5 * 2 ^ 48) [openItem, feedItem] 0) (pathPart reqT) (fun t => t.dsp.items.length == 2) = true) ∧
    ((pathPart { reqT with stage := .packing }).packs { reqT with stage := .packing } [packItem] = true ∧ fits (pathPart { reqT with stage := .packing }) packItem = true ∧
      nx (.stageAdvance (5 * 2 ^ 48) [packItem] 0) (pathPart { reqT with stage := .packing }) (fun t => t.dsp.items.length == 1) = true) ∧
    (pathPart { reqT with d := { desc0 with retrieve := true, generate := false, search := { search0 with qvecGiven := true } } }).reqDicts { reqT with d := { desc0 with retrieve := true, generate := false, search := { search0 with qvecGiven := true } } } = [] ∧
    (pathPart { reqT with d := { reqT.d with retrieve := true, embedInst := 9 }, stage := .embedding }).encoderRows { reqT with d := { reqT.d with retrieve := true, embedInst := 9 }, stage := .embedding } .embedding ≠ [] ∧
    nx (.stageAdvance (5 * 2 ^ 48) [] 0) (pathPart { reqT with d := { reqT.d with retrieve := true, embedInst := 9 }, stage := .embedding }) (fun t =>
      (t.req (5 * 2 ^ 48)).any (fun y => y.inputs == [(0, 3)] && y.begun == some [])) = true ∧
    ((pathPart { reqT with stage := .prefill, prompt := [1] }).promptStop { reqT with stage := .prefill, prompt := [1] } = none ∧
      nx (.stageAdvance (5 * 2 ^ 48) [] 0) (pathPart { reqT with stage := .prefill, prompt := [1] }) (fun t => (t.greq (5 * 2 ^ 48)).any (fun g => g.prompt == [1] && g.prefill))) = true ∧
    (let r := { reqT with d := { reqT.d with retrieve := true, search := { search0 with qvecGiven := true } }, begun := some [3] }
     let s := pathPart r
     let s := { s with dsp := { s.dsp with jobs := [⟨5 * 2 ^ 48, 3, .committed⟩] } }
     nextStage r.d r.stage = some .coarse ∧ nx (.stageAdvance (5 * 2 ^ 48) [] 0) s (fun t => (t.req (5 * 2 ^ 48)).any (fun y => y.stage == .coarse && y.begun == none)) = true) := by
  refine ⟨?_, ?_, ?_, ?_, ?_, ?_, ?_⟩ <;> decide +kernel

/-- A DECODE part that has granted pages 0 and 1 of instance 9 to SHIP_ID 7 of tenant 5; a PREFILL part with one committed chunk of one page. -/
def ship1 : ShipRec := { ship0 with inst := 9, shipId := 7, count := 2, tid := 5 }
def decodePart (x : Inst) (g : List Grant) : State := { (genPart x []).put F.GEN_ROLE_ROLE 2 with gen := { State.reset.gen with insts := [(9, x)], grants := g } }
def grant0 : Grant := ⟨5, 7, 9, 0, [0, 1], 0⟩
def prefillReq : GenReq := { greq0 with handle := 5 * 2 ^ 48 + 7, claimed := 2, grants := [65536], toShip := [[0]], prefill := false, out := [5] }
def prefillPart (g : GenReq) : State := (genPart inst1 [g]).put F.GEN_ROLE_ROLE 1

theorem test_witness_ShippingRecords_decode : (decodePart inst1 []).isDecode = true ∧ takePages inst1 2 = some ([0, 1], { inst1 with used := [0, 1] }) ∧ takePages inst1 5 = none ∧
    nx (.shipClaim ship1 0) (decodePart inst1 []) (fun t => (t.grantOf 5 7).any (fun g => g.pages == [0, 1]) && t.gen.claims.isEmpty) = true ∧
    nx (.shipClaim { ship1 with count := 5 } 0) (decodePart inst1 []) (fun t => t.get F.GEN_SHIP_CLAIMS_HELD == 1) = true ∧
    (let m := { mani0 with pages := [], kvLen := 3, firstToken := 65, imageId := inst1.hdr.imageId, gen := { gen0 with inst := 9 } }
     let s := decodePart { inst1 with used := [0, 1] } [grant0]
     s.req (5 * 2 ^ 48 + 7) = none ∧ m.pages.mapM (fun p => grant0.page p) = some [] ∧
     nx (.shipManifest { ship1 with kind := 2 } m desc0 0) s (fun t => (t.greq (5 * 2 ^ 48 + 7)).any (fun g => g.out == [65] && g.kvLen == 3)) = true ∧
     nx (.shipManifest { ship1 with kind := 2 } { m with imageId := 1 } desc0 0) s (fun t => t.get F.GEN_SHIP_REFUSED == 1) = true) ∧
    nx (.shipAbort { ship1 with kind := 3 } 0) (decodePart { inst1 with used := [0, 1] } [grant0]) (fun t => (t.grantOf 5 7).isNone && t.inst 9 == some inst1) = true ∧
    (let s := (decodePart { inst1 with used := [0, 1] } [grant0]).put F.GEN_SHIP_WIN_ORPHAN_MS 1
     grant0.seen + s.get F.GEN_SHIP_WIN_ORPHAN_MS * 100000 ≤ 100000 ∧ nx (.orphanMsExpiry 5 7 100000) s (fun t => t.get F.GEN_SHIP_ORPHANS == 1) = true) := by
  refine ⟨?_, ?_, ?_, ?_, ?_, ?_, ?_, ?_⟩ <;> decide +kernel

theorem test_witness_ShippingRecords_prefill : ((prefillPart prefillReq).tick 0).shipReq { ship1 with kind := 8, count := 1 } = some prefillReq ∧ (∀ p ∈ (prefillPart prefillReq).gen.reqs, p.1 = p.2.handle) ∧
    (State.reset.tick 0).shipReq ship1 = none ∧ prefillReq.manifestPages = none ∧
    nx (.shipGrant { ship1.head with kind := 8, count := 1 } [131072] 0) (prefillPart prefillReq) (fun t => (t.greq (5 * 2 ^ 48 + 7)).any (fun g => g.grants == [65536, 131072])) = true ∧
    ((prefillPart prefillReq).greq prefillReq.handle = some prefillReq ∧ (prefillPart prefillReq).isPrefill = true ∧ ([0] : List Nat).length ≤ prefillReq.grants.length) ∧
    nx (.shipAck { ship1 with kind := 9 } 0) (prefillPart prefillReq) (fun t => (t.greq (5 * 2 ^ 48 + 7)).isNone) = true ∧
    nx (.shipNack { ship1 with kind := 10 } 0) State.reset (fun t => t.get F.GEN_SHIP_REFUSED == 1) = true := by
  refine ⟨?_, ?_, ?_, ?_, ?_, ?_, ?_, ?_⟩ <;> decide +kernel


/-! #### Tenant rings and control entries -/

/-- Ring 0 of tenant 5 holds one descriptor that nobody has read; the tenant is enabled and has credits. -/
def rings (s : State) : State :=
  let k := completionKey 5 0
  let s := { s with dsp := { s.dsp with counts := [(5, 1)] } }
  (((((s.put F.PART_STAT_READY 1).put (F.DSP_RING_WIN_SIZE k) 4).put (F.DSP_RING_PTR_TAIL k) 1).put (F.DSP_TNT_CFG_ENABLED 5) 1).setCredits 5 5)
def handle1 : Nat := 5 * 2 ^ 48 + 1
def done1 (h status detail : Nat) (t : State) : Bool := t.dsp.hostRings.any (fun g => g.queue.any (fun r => match r with
  | .completion c => c.handle == h && c.status == status && c.detail == detail
  | _ => false))
def asks (d : ReqDesc) : RingRead := ⟨5, 0, 100, d⟩
def genAsk : ReqDesc := { desc0 with questionLen := 1, generate := true, gen := { gen0 with inst := 9, topP := 0x3F800000 } }
/-- A descriptor is read and passes its checks. -/
def readsOk (s : State) (d : ReqDesc) : Bool := s.readable (asks d) && ((s.readDesc (asks d)).2.descStop (asks d)).isNone

theorem test_witness_DescriptorsTaken_request :
    (let s := rings (genPart inst1 [])
     let p := s.readDesc (asks genAsk)
     readsOk s genAsk = true ∧ 0 < p.2.credits 5 ∧ p.2.holds 5 = false ∧ p.2.heldOf 5 = [] ∧ p.2.admitStop p.1 = none ∧
     nx (.request (asks genAsk)) s (fun t => (t.req handle1).any (fun r => r.state == .admitted && r.stage == .tokenisation && !r.ended)) = true) ∧
    (let s := rings (genPart inst1 [])
     nx (.request (asks { genAsk with format := 2 })) s (done1 handle1 0x0B 0) = true) ∧
    (let s := (rings (genPart inst1 [])).put F.DSP_CTL_ADMIT_EN 0
     (s.readDesc (asks genAsk)).2.holds 5 = true ∧ readsOk s genAsk = true ∧ nx (.request (asks genAsk)) s (fun t => (t.req handle1).any (fun r => r.state == .held)) = true) ∧
    (let d := { desc0 with retrieve := true, rerank := false, generate := false, search := { search0 with index := 1, nprobe := 1, maxProbes := 0, cand := 1, qvecGiven := true, resultAddr := 64 } }
     let s := rings (idxPart index1)
     let p := s.readDesc (asks d)
     readsOk s d = true ∧ p.2.admitStop p.1 = none ∧ nx (.request (asks d)) s (fun t => (t.query handle1).any (fun q => q.snap == 0 && q.pinned)) = true) := by
  refine ⟨?_, ?_, ?_, ?_⟩ <;> decide +kernel

def svcAsk : ReqDesc := { desc0 with kind := 6, message := [1, 2] }
def batch1 : ReqDesc := { desc0 with kind := 2, index := 1, batch := [{ upd0 with op := 2, item := 100, entryBytes := 64 }] }

theorem test_witness_DescriptorsTaken_others :
    (let s := rings State.reset
     s.dsp.svcWaiting = [] ∧ readsOk s svcAsk = true ∧ nx (.service (asks svcAsk)) s (fun t => t.dsp.svcOpen.contains handle1 && (t.req handle1).any (fun r => r.state == .admitted)) = true) ∧
    (let s := { rings (genPart inst1 []) with dsp := { (rings (genPart inst1 [])).dsp with reqs := [(handle1, { req0 with handle := handle1, d := genAsk, state := .held })] } }
     s.holds 5 = false ∧ (s.tick 100).admitStop { req0 with handle := handle1, d := genAsk, state := .held } = none ∧
     nx (.heldRequestAdmit ⟨handle1, genAsk, []⟩ 100) s (fun t => (t.req handle1).any (fun r => r.state == .admitted)) = true) ∧
    (let s := rings (idxPart index1)
     let p := s.readDesc (asks batch1)
     readsOk s batch1 = true ∧ index1.state = .ready ∧ p.2.checkBatch index1 batch1.batch = .error 0x0902 ∧
     nx (.indexUpdate ⟨asks batch1, []⟩) s (done1 handle1 3 0x0902) = true) := by
  refine ⟨?_, ?_, ?_⟩ <;> decide +kernel

/-- An insert of an item into an index of one partition; the part that reads its descriptor. -/
def ins1 : UpdEntry := { upd0 with op := 1, item := 7, entryBytes := 128 }
def index2 : Index := { index1 with desc := { idxd1 with dim := 1, partitions := 1 }, items := [(7, { ItemCopy.empty with version := 4 }, { ItemCopy.empty with version := 6 })] }
def insPart : State :=
  let s := rings (idxPart index2)
  { s with idx := { s.idx with queries := [(5 * 2 ^ 48, { query0 with snap := 5, pinned := true })] } }
def insAsk : RingRead := asks { batch1 with batch := [ins1] }
def seq1 : QEntry := { seq0 with job := .command { cmd0 with repro := true, roundNe := true, reqHandle := handle1 } }

/-- The batch passes its checks, its command is queued, and it waits, its copy write too, for a live query that reads the old copy. -/
theorem test_witness_DescriptorsTaken_update : insPart.readable insAsk = true ∧ (insPart.readDesc insAsk).2.descStop insAsk = none ∧ badBatch index2.desc [ins1] = false ∧
    (insPart.readDesc insAsk).2.copyWaits index2 7 = true ∧ (∃ ps, (insPart.readDesc insAsk).2.checkBatch index2 [ins1] = .ok ps) ∧
    updateItems index2.desc handle1 5 [ins1] [seq1] = true ∧ (insPart.readDesc insAsk).2.queueRoom 5 1 = true ∧ index2.updates = [] ∧ insPart.get F.MEM_CTL_MIG_AHEAD ≠ 0 ∧ seq1.resv = false ∧
    insPart.checkItem ⟨insPart.dsp.nextItem, seq1, false, 0, 0, false, 0, false, [], [], none, [], [], none⟩ = none := by
  refine ⟨by decide +kernel, by decide +kernel, by decide +kernel, by decide +kernel, ⟨[(insPart.readDesc insAsk).2.prepare index2.desc ins1], ?_⟩, ?_⟩
  · have h : ∀ p, index2.overfull [p] = false := by
      intro p
      have c : ∀ q, index2.partCount q ≤ 1 := by
        intro q
        by_cases hq : 0 = q
        · subst hq; decide
        · simp [Index.partCount, index2, index1, Gen.part, gen1, Sparse.find, hq, Machine.Part.none]
      have n : ∀ (l : List Nat) (q : Nat), l.length ≤ 2 → ¬ maxRecords < index2.partCount q + l.count q := by
        intro l q hl
        have := c q; have := l.count_le_length (a := q); simp only [maxRecords]; omega
      simp only [Index.overfull, List.any_eq_false, decide_eq_true_eq]
      intro q _
      apply n
      by_cases h1 : p.e.op = 1 <;> by_cases h2 : p.border <;> simp [h1, h2]
    have k : ∀ (u : State) (d : IdxDesc), (u.prepare d ins1).toks = (u.tokenForm d ins1).getD [] := fun _ _ => rfl
    rw [State.checkBatch, if_neg (by decide), if_neg (by decide), if_neg (by decide), if_neg (by decide), List.map_singleton]
    dsimp only
    rw [h, if_neg (by decide), if_neg (by decide +kernel), if_neg]
    rw [List.any_cons, k]
    decide +kernel
  · refine ⟨?_, ?_, ?_, ?_, ?_, ?_⟩ <;> decide +kernel



/-- A request of the same tenant whose ring holds a control descriptor of a KIND that names it. -/
def ctlAsk (kind : Nat) : RingRead := asks { desc0 with kind := kind, target := 5 * 2 ^ 48 }
def target1 : Req := { req0 with d := genAsk }
def ctlPart (l : List Req) : State :=
  let s := rings State.reset
  { s with dsp := { s.dsp with reqs := l.map (fun r => (r.handle, r)) } }

theorem test_witness_ControlDescriptors :
    [3, 4, 5].all (fun k => readsOk (ctlPart [target1]) (ctlAsk k).d) = true ∧
    ((ctlPart []).isDecode = false ∧ nx (.suspend (ctlAsk 4)) (ctlPart []) (done1 handle1 3 0x0E01) = true) ∧
    nx (.resume (ctlAsk 5)) (ctlPart [{ target1 with ended := true }]) (done1 handle1 2 0) = true ∧
    nx (.suspend (ctlAsk 4)) (ctlPart [{ target1 with d := svcAsk }]) (done1 handle1 3 0x0E02) = true ∧
    ((ctlPart [target1]).runs (5 * 2 ^ 48) = false ∧ (ctlPart [target1]).greq (5 * 2 ^ 48) = none ∧
      nx (.cancel (ctlAsk 3)) (ctlPart [target1]) (fun t => done1 handle1 0 0 t && done1 (5 * 2 ^ 48) 1 0 t && (t.req (5 * 2 ^ 48)).any (fun r => r.ended)) = true) ∧
    nx (.suspend (ctlAsk 4)) (ctlPart [target1]) (fun t => done1 handle1 0 0 t && t.req (5 * 2 ^ 48) == some { target1 with suspended := true }) = true ∧
    nx (.resume (ctlAsk 5)) (ctlPart [{ target1 with suspended := true }]) (fun t => done1 handle1 0 0 t && t.req (5 * 2 ^ 48) == some target1) = true := by
  refine ⟨?_, ?_, ?_, ?_, ?_, ?_, ?_⟩ <;> decide +kernel

/-- An operation 78 of the tier ring, and the control entry 77 that names it. -/
def op78 (st : OpStatus) (begun : Bool) : State := { State.reset with tier := { State.reset.tier with ops := [⟨8, 78, true, st, 3, 8192, 0, 5, 0, begun, none⟩] } }
def opC : OpControl := { ctl0 with arg := 78, opId := 77 }
def opNow (st : OpStatus) (t : State) : Bool := (t.op 8 78).any (fun o => o.status == st)

theorem test_witness_OperationControl : ((opRing 8).isSome = true ∧ opC.arg ≠ opC.opId ∧ (op78 .running true).op 8 77 = none) ∧
    nx (.opSuspend opC) State.reset (fun t => opEnds 8 0 t && opNow .suspended t) = true ∧ nx (.opResume opC) State.reset (opEnds 8 0) = true ∧
    nx (.opCancel opC) State.reset (fun t => opEnds 8 0 t && opNow .cancelled t) = true ∧ nx (.opCancel { opC with long := false }) State.reset (opEnds 8 3) = true ∧
    nx (.opSuspend opC) (op78 .ended true) (opEnds 8 2) = true ∧ nx (.opSuspend opC) (op78 .running true) (fun t => opEnds 8 0 t && opNow .suspended t) = true ∧
    nx (.opResume opC) (op78 .suspended false) (fun t => opEnds 8 0 t && opNow .waiting t) = true ∧
    nx (.opCancel opC) (op78 .running false) (fun t => opEnds 8 0 t && opNow .cancelled t) = true ∧
    nx (.opCancel opC) (op78 .running true) (fun t => opEnds 8 0 t && opNow .ended t && t.out.any (fun o => match o with
      | .opDone b id c st _ pos _ => b == 8 && id == 78 && c == 8192 && st == 1 && pos == 3
      | _ => false)) = true := by
  refine ⟨?_, ?_, ?_, ?_, ?_, ?_, ?_, ?_, ?_, ?_⟩ <;> decide +kernel


/-! #### The Geode tier -/

/-- A tier of 8 bays in service, of which bay 1 may be in another state; stripe 1 holds logical unit 5 in bay 2, and its parity in bays 0 and 1. -/
def tierUp (st : Nat) : State := ((List.range 8).foldl (fun s b => s.put (F.GEO_BAY_STAT_STATE b) 4) State.reset).put (F.GEO_BAY_STAT_STATE 1) st
def withGeo (s : State) (f : Geo → Geo) : State := { s with geo := f s.geo }
def stripe1 : GStripe := ⟨0, 0, [5], false, [], none, none⟩
def striped (st : Nat) : State := withGeo (tierUp st) (fun g => { g with stripes := [(1, stripe1)], nextStripe := 2, map := [(5, 1, 0)] })
/-- Channel 8 is the first of bay 1, channel 16 of bay 2. -/
def onChan (c : Nat) (x : Chan) : State := withGeo (striped 4) (fun g => { g with chans := [(c, x)] })
def rebuilt : FlashOp := ⟨2, .reconstruct 1 0, 1, 7, 0⟩
def scans (slot : Nat) : FlashOp := ⟨2, .scan, 1, slot, 0⟩
def moves (kind : Nat) : FlashOp := ⟨kind, .collect, 1, 7, 0⟩
def since (o : FlashOp) : FlashOp := { o with started := 5 }

theorem test_witness_FlashChannels_start : (tierUp 4).written 1 = true ∧ (tierUp 4).on (F.EDG_ISL_STAT_IN_RESET (32 + 8)) = false ∧ (tierUp 4).staged = [] ∧ [scans 7, moves 3].all ((striped 4).opFits 8) = true ∧
    (tierUp 4).idx.indices = [] ∧ [moves 3, moves 4, scans 7, rebuilt].map FlashOp.cls = [3, 3, 2, 1] ∧
    nx (.flashOpStart 8 false [] 5) (tierUp 4) (fun t => t.get (F.GEO_CH_STAT_STATE 8) == 1) = true ∧
    nx (.flashOpStart 8 true [moves 3, scans 7, scans 7] 5) (onChan 8 ⟨some (moves 4), none, [moves 4]⟩) (fun t => t.chan 8 == ⟨some (since (scans 7)), none, [moves 4, moves 3, scans 7]⟩ &&
      t.get (F.GEO_CH_STAT_STATE 8) == 2 && t.get (F.GEO_CH_STAT_Q2 8) == 1 && t.get (F.GEO_CH_STAT_Q3 8) == 2) = true ∧
    nx (.flashOpStart 8 false [] 5) (onChan 8 ⟨some (moves 3), none, [moves 4, rebuilt]⟩) (fun t => t.chan 8 == ⟨some (since rebuilt), some (moves 3), [moves 4]⟩ &&
      t.get (F.GEO_CH_STAT_STATE 8) == 5) = true ∧
    nx (.flashOpStart 8 false [] 5) (onChan 8 ⟨some (moves 4), none, [rebuilt]⟩) (fun t => t.chan 8 == ⟨some (moves 4), none, [rebuilt]⟩) = true ∧
    nx (.flashOpStart 8 false [] 5) (onChan 8 ⟨none, some (moves 3), [moves 4]⟩) (fun t => t.chan 8 == ⟨some (since (moves 3)), none, [moves 4]⟩ && t.get (F.GEO_CH_STAT_Q3 8) == 1) = true ∧
    nx (.flashOpStart 8 false [] 5) (onChan 8 ⟨none, some (moves 3), [rebuilt]⟩) (fun t => t.chan 8 == ⟨some (since rebuilt), some (moves 3), []⟩) = true ∧
    nx (.flashOpStart 8 false [] 5) (onChan 8 ⟨some rebuilt, some (moves 3), [scans 7]⟩) (fun t => t.chan 8 == ⟨some rebuilt, some (moves 3), [scans 7]⟩) = true := by
  refine ⟨?_, ?_, ?_, ?_, ?_, ?_, ?_, ?_, ?_, ?_, ?_, ?_, ?_⟩ <;> decide +kernel

def patrolling (f : Geo → Geo) : State := withGeo ((striped 4).put F.GEO_CTL_PATROL_EN 1) f

theorem test_witness_FlashChannels_units :
    ((onChan 16 ⟨some (scans 0), some (moves 3), []⟩).stripe 1 = some stripe1 ∧ (onChan 16 ⟨some (scans 0), some (moves 3), []⟩).canRead stripe1 2 ⟨9, 2, 1⟩ = true ∧ stripe1.bayOf 8 6 0 = 2 ∧
      nx (.flashUnitRead 16 ⟨9, 2, 1⟩ 5) (onChan 16 ⟨some (scans 0), some (moves 3), []⟩) (fun t =>
        t.chan 16 == ⟨some (since (moves 3)), none, []⟩ && t.get (F.GEO_BAY_LDPC_SOFT 2) == 2 && t.get (F.GEO_BAY_LDPC_FAILED 2) == 1 && t.idx.read == [5]) = true) ∧
    (let s := withGeo { tierUp 4 with cores := [(0, { k0 with ext := [⟨6, true⟩], waiting := true })] } (fun g => { g with
       progs := [⟨3, 6, 5, 7, 0, []⟩], stripes := [(1, { stripe1 with slots := [7], work := some (.program 3 6) })] })
     s.tierOffline = false ∧ s.programming (.program 3 6) = false ∧ nx (.geoProgramAck 3 6 5) s (fun t => t.geo.progs.isEmpty && Sparse.find t.geo.map 7 == some (1, 0) &&
       (t.core 0).any (fun k => k.ext.isEmpty && !k.waiting)) = true) ∧
    ((striped 4).collectable [1] = true ∧ (striped 4).unitValid 1 0 5 = true ∧ 1 < (striped 4).geo.nextStripe ∧ 3 ≤ (striped 4).bays ∧ (striped 4).tierOffline = false ∧
      nx (.garbageCollect [1] true [(1, 50, 90)] 5) (striped 4) (fun t => t.geo.stripes.map (fun p => p.1) == [2] && Sparse.find t.geo.map 5 == some (2, 0) &&
        t.get (F.GEO_BAY_WEAR_SPARE_PCT 1) == 90) = true) ∧
    (((patrolling id).tick 5).openPass.patrolUnits (0, 0) 2 = [(1, 0), (1, 6), (1, 7)] ∧ ((patrolling id).tick 5).openPass.canRead stripe1 2 ⟨0, 0, 0⟩ = true ∧
      nx (.patrolRead ⟨0, 0, 0⟩ 5) (patrolling id) (fun t => t.geo.patrolPos == 1 && t.geo.patrolNext == (1, 1) && t.get F.GEO_PATROL_PASSES == 0) = true) ∧
    nx (.patrolRead ⟨0, 0, 0⟩ 5) (patrolling (fun g => { g with patrolPos := 2, patrolNext := (1, 7), patrolTop := 2 })) (fun t => t.geo.patrolPos == 0 && t.get F.GEO_PATROL_PASSES == 1) = true ∧
    nx (.patrolPeriodEnd (365 * dayTicks)) (patrolling id) (fun t => t.geo.patrolLate) = true := by
  refine ⟨?_, ?_, ?_, ?_, ?_, ?_⟩ <;> decide +kernel

/-- The identity block of a cartridge: SERIAL 0xC0FFEE, 100 TB, and its CRC-32C; and a cartridge of it with a member record, found in bay 1. -/
def idBody : List Byte := List.replicate 8 0 ++ leBytes 8 0xC0FFEE ++ leBytes 4 100 ++ List.replicate 228 0
def cart1 (m : Option MemberRec) : CartInfo := ⟨idBody ++ leBytes 4 0x3250AC81 ++ List.replicate 4 0, true, m, 0, 0, 100⟩

theorem idBody_crc : crc32c idBody = 0x3250AC81 := by
  have h : idBody = (idBody.take 31) ++ (List.replicate 31 0 ++ (List.replicate 31 0 ++ (List.replicate 31 0 ++ (List.replicate 31 0 ++ (List.replicate 31 0 ++
    (List.replicate 31 0 ++ List.replicate 31 0)))))) := by decide +kernel
  rw [crc32c, h]
  simp only [List.foldl_append]
  rw [show (idBody.take 31).foldl crcByte (BitVec.allOnes 32) = 0x14781982 by decide +kernel, show (List.replicate 31 (0 : Byte)).foldl crcByte 0x14781982 = 0x4b01e9fd by decide +kernel,
    show (List.replicate 31 (0 : Byte)).foldl crcByte 0x4b01e9fd = 0xa92e3760 by decide +kernel, show (List.replicate 31 (0 : Byte)).foldl crcByte 0xa92e3760 = 0x620466e5 by decide +kernel,
    show (List.replicate 31 (0 : Byte)).foldl crcByte 0x620466e5 = 0x409020d6 by decide +kernel, show (List.replicate 31 (0 : Byte)).foldl crcByte 0x409020d6 = 0xf89dc325 by decide +kernel,
    show (List.replicate 31 (0 : Byte)).foldl crcByte 0xf89dc325 = 0xa94947e8 by decide +kernel, show (List.replicate 31 (0 : Byte)).foldl crcByte 0xa94947e8 = 0xcdaf537e by decide +kernel]
  decide

theorem cart1_crcOk (m : Option MemberRec) : CartInfo.crcOk (cart1 m) = true := by
  have h : (cart1 m).identity.take 0xF8 = idBody := by simp only [cart1]; decide +kernel
  rw [CartInfo.crcOk, h, idBody_crc]
  simp only [cart1]
  decide +kernel

/-- What the table "Admission of a cartridge" gives for one in bay 1. -/
def admits (c : CartInfo) (st reason : Nat) : Prop := (tierUp 0).admission 1 c = (st, reason)

theorem test_witness_Bays_insert : (1 < (tierUp 0).bays ∧ (tierUp 0).bayState 1 = 0) ∧ CartInfo.crcOk { cart1 none with identity := [] } = false ∧ (∀ m, CartInfo.crcOk (cart1 m) = true) ∧
    admits { cart1 none with identity := [] } 2 1 ∧ admits { cart1 none with certOk := false } 2 2 ∧
    admits (cart1 none) (if (tierUp 0).on F.GEO_CTL_AUTO_REBUILD then 6 else 3) 0 ∧ admits (cart1 (some ⟨false, 1, 0⟩)) 3 0 ∧
    admits (cart1 (some ⟨true, 2, 0⟩)) 2 3 ∧ admits (cart1 (some ⟨true, 1, 0⟩)) 4 0 ∧ admits (cart1 (some ⟨true, 1, 9⟩)) 5 0 := by
  refine ⟨by decide +kernel, by decide +kernel, cart1_crcOk, by unfold admits; decide +kernel, ?_, ?_, ?_, ?_, ?_, ?_⟩ <;> rw [admits, State.admission]
  · rw [show CartInfo.crcOk { cart1 none with certOk := false } = true from cart1_crcOk none]; decide +kernel
  all_goals rw [cart1_crcOk]; decide +kernel

def inBay (st : Nat) (m : Option MemberRec) : State := (withGeo (tierUp st) (fun g => { g with bays := [(1, ⟨some (CartInfo.cart (cart1 m)), [], false, 0, 0, 0⟩)] })).put (F.GEO_BAY_STAT_PRESENT 1) 1

theorem test_witness_Bays_leave :
    nx (.cartridgeRemoved 1 5) (inBay 4 none) (fun t => t.bayState 1 == 0 && t.get F.GEO_TIER_GEN == 1 && (t.bay 1).cart.isNone) = true ∧
    nx (.channelUnanswered 8 500000) (onChan 8 ⟨some rebuilt, none, []⟩) (fun t => t.bayState 1 == 9) = true ∧
    gives (.bayEject 1 0) (tierUp 4) (tierUp 4) = true ∧ nx (.bayEject 1 (2 ^ 31)) (tierUp 4) (fun t => t.bayState 1 == 7 && t.get F.GEO_TIER_GEN == 1) = true ∧
    nx (.bayEject 2 (2 ^ 31)) (tierUp 6) (fun t => t.bayState 2 == 4) = true ∧ nx (.bayEject 2 (2 ^ 31 + 2 ^ 30)) (tierUp 6) (fun t => t.bayState 2 == 7) = true ∧
    (tierUp 7).bayOps 1 = [] ∧ nx (.bayReadyToPull 1 5) (tierUp 7) (fun t => t.bayState 1 == 8 && t.out.contains (.indicator 1)) = true := by
  refine ⟨?_, ?_, ?_, ?_, ?_, ?_, ?_, ?_⟩ <;> decide +kernel

theorem test_witness_Bays_join :
    gives (.bayAdmit 1 0) (inBay 3 none) (inBay 3 none) = true ∧ nx (.bayAdmit 1 (2 ^ 29)) (inBay 3 none) (fun t => t.bayState 1 == 6) = true ∧
    nx (.bayAdmit 1 (2 ^ 29)) (inBay 3 (some ⟨false, 1, 0⟩)) (fun t => t.bayState 1 == 3) = true ∧
    nx (.bayAdmit 1 (2 ^ 29 + 2 ^ 28)) (inBay 3 (some ⟨false, 1, 0⟩)) (fun t => t.bayState 1 == 6) = true ∧
    (let s := withGeo (tierUp 6) (fun g => { g with stripes := [(1, { stripe1 with missing := [1] }), (2, { stripe1 with missing := [1] })], rebuild := some (1, [1, 2]) })
     s.canRebuild { stripe1 with missing := [1] } 1 = true ∧ nx (.rebuildStripe 1 5) s (fun t => t.geo.rebuild == some (1, [2]) && t.geo.stripes == [(1, stripe1), (2, { stripe1 with missing := [1] })]) = true) ∧
    nx (.rebuildStripe 1 5) (withGeo (tierUp 6) (fun g => { g with stripes := [(2, { stripe1 with missing := [1] })], rebuild := some (1, [2]) })) (fun t => t.bayState 1 == 4) = true ∧
    nx (.rebuildStripe 1 5) (withGeo (tierUp 6) (fun g => { g with rebuild := some (1, []) })) (fun t => t.bayState 1 == 4) = true := by
  refine ⟨?_, ?_, ?_, ?_, ?_, ?_, ?_⟩ <;> decide +kernel


/-! #### Keator -/

/-- A window of node 2 over the first page of tenant 5, for node 3; and datagrams to it. -/
def win1 : ExpWin := ⟨0, 5, false, false, true, true, true, true, 0, 4, 7, 3, 0xFFFFF, 0⟩
def withKtr (s : State) (f : Ktr → Ktr) : State := { s with ktr := f s.ktr }
def node2 (p : Pte) : State := withKtr ((page (pageKey 5 0) p State.reset).put F.KTR_NODE_NODE 2) (fun k => { k with exp := [(0, win1)] })
def dgram (off len : Nat) : KHead := { head0 with node := 3, seq := 0, addr := 2 * 2 ^ 44 + off, len := len, key := 7 }
def answered (bs : List Byte) (t : State) : Bool := t.out.any (fun o => o == .resp 3 9 bs)
def refused (reason : Nat) (t : State) : Bool := t.out.any (fun o => o == .nack 3 9 reason) && t.get F.KTR_DENIED_LAST_REASON == reason && t.get F.KTR_DENIED_COUNT == 1

theorem test_witness_KeatorReceives_admitted : gives (.load (dgram 64 8) 5) State.reset (State.reset.tick 5).markReady = true ∧
    ((node2 res0).get F.KTR_NODE_NODE ≠ 0 ∧ (node2 res0).inFlow 3 0 = none ∧ (node2 res0).tailWords 5 = [] ∧ (node2 res0).ktr.epochs = []) ∧
    nx (.load (dgram 64 8) 5) (node2 res0) (answered (List.replicate 8 0)) = true ∧
    nx (.store (dgram 65 2) [1, 2] 5) (node2 res0) (fun t => answered [] t && t.word 5 64 4 == 0x020100) = true ∧
    nx (.put (dgram 64 64) (List.replicate 64 9) 5) (node2 res0) (fun t => answered [] t && t.word 5 120 8 == 0x0909090909090909) = true ∧
    nx (.fadd64 (dgram 64 8) 6 5) (node2 res0) (fun t => answered (leBytes 8 0) t && t.word 5 64 8 == 6) = true ∧
    nx (.swap64 (dgram 64 8) 6 5) ((node2 res0).store 5 64 [4]) (fun t => answered (leBytes 8 4) t && t.word 5 64 8 == 6) = true ∧
    nx (.cas64 (dgram 64 8) 4 6 5) ((node2 res0).store 5 64 [4]) (fun t => answered (leBytes 8 4) t && t.word 5 64 8 == 6) = true ∧
    nx (.cas64 (dgram 64 8) 5 6 5) ((node2 res0).store 5 64 [4]) (fun t => answered (leBytes 8 4) t && t.word 5 64 8 == 4) = true := by
  refine ⟨?_, ?_, ?_, ?_, ?_, ?_, ?_, ?_, ?_⟩ <;> decide +kernel

theorem test_witness_KeatorReceives_refused : nx (.load { dgram 64 8 with resv := true } 5) (node2 res0) (refused 7) = true ∧ nx (.load (dgram 65 8) 5) (node2 res0) (refused 7) = true ∧
    nx (.load (dgram (4 * pageBytes) 8) 5) (node2 res0) (refused 1) = true ∧ nx (.load { dgram 64 8 with key := 6 } 5) (node2 res0) (refused 2) = true ∧
    nx (.store (dgram regBase 1) [1] 5) (node2 res0) (refused 3) = true ∧ nx (.load { dgram 64 8 with node := 4 } 5) (node2 res0) (fun t => t.get F.KTR_DENIED_LAST_REASON == 4) = true ∧
    (let s := withKtr (node2 res0) (fun k => { k with inFlows := [⟨3, 0, 0, 2, [], 2, [], [(1, 44)], []⟩] })
     nx (.load { dgram 64 8 with epoch := 1 } 5) s (fun t => t.out.any (fun o => o == .nack 3 9 6)) = true ∧
     nx (.fadd64 { dgram 64 8 with seq := 1 } 6 5) s (fun t => answered (leBytes 8 44) t && t.mem == s.mem) = true) := by
  refine ⟨?_, ?_, ?_, ?_, ?_, ?_, ?_⟩ <;> decide +kernel

/-- The part has an operation 1 outstanding to node 3: a put of core 0, in one datagram on port 2. -/
def kop1 (i : Issuer) : KOp := ⟨1, 3, 0, i, false, 64, 0⟩
def flow1 : FlowOut := ⟨3, 0, 8, 65536, 100, 0, [⟨6, 1, 64, 2, 0, 0⟩, ⟨7, 1, 64, 2, 0, 0⟩]⟩
def sending : State := withKtr ((run { k0 with ext := [⟨6, false⟩], waiting := true }).put F.KTR_NODE_NODE 2) (fun k => { k with ops := [kop1 (.kernel 0 6)], flows := [flow1] })

theorem test_witness_KeatorSends_answers :
    nx (.ktrAck 3 0 6 100 0 false 200) sending (fun t => t.ktr.flows.any (fun g => g.dgrams.length == 1 && g.window == 73728)) = true ∧
    nx (.ktrAck 3 0 7 100 0 true 200) sending (fun t => t.ktr.flows.any (fun g => g.dgrams.isEmpty && g.window == 32768)) = true ∧
    nx (.ktrResp 1 0 5) sending (fun t => t.ktr.ops.isEmpty && (t.core 0).any (fun k => k.ext.isEmpty && !k.waiting)) = true ∧
    nx (.ktrNack (.op 1) 3 5) sending (fun t => (t.core 0).any (fun k => k.ended.any (fun x => x.status == 3 && x.detail == 0x0F03))) = true ∧
    nx (.ktrNack (.bringUp (pageKey 5 0)) 1 5) (page (pageKey 5 0) { res0 with state := .moving, home := .fabric } State.reset) (fun t => (t.pte (pageKey 5 0)).homeLost) = true ∧
    nx (.ktrNack (.writeBack (pageKey 5 0)) 1 5) (page (pageKey 5 0) { res0 with cleaning := true, home := .fabric } State.reset) (fun t =>
      (t.pte (pageKey 5 0)).homeLost && !(t.pte (pageKey 5 0)).cleaning) = true ∧
    nx (.ktrNack (.alternate 4095) 1 5) (objIs { obj1 with altPages := [0] }) (fun t => (t.object 4095).any (fun x => x.state == .poisoned)) = true := by
  refine ⟨?_, ?_, ?_, ?_, ?_, ?_, ?_⟩ <;> decide +kernel

/-- A refused put of a write-back leaves its page dirty. -/
theorem test_witness_KeatorSends_writeBack :
    nx (.ktrNack (.op 1) 1 5) (withKtr (page (pageKey 5 0) { res0 with cleaning := true, home := .fabric } State.reset) (fun k => { k with ops := [kop1 (.tier (pageKey 5 0))] })) (fun t =>
      (t.pte (pageKey 5 0)).homeLost && !(t.pte (pageKey 5 0)).cleaning) = true := by decide +kernel

def linkUp2 : State := sending.put (F.KTR_PORT_STAT_LINK 2) 2

theorem test_witness_KeatorSends_links :
    (flow1.dgrams.find? (fun d => d.seq == 7) = some ⟨7, 1, 64, 2, 0, 0⟩ ∧ nx (.rtoExpiry 3 0 7 100000) sending (fun t =>
      t.ktr.flows.any (fun g => g.dgrams.any (fun d => d.seq == 7 && d.losses == 1 && d.sentAt == 100000)))) = true ∧
    (let time := sending.get F.KTR_CFG_UNREACH_MS * 100000
     nx (.unreachTimeout 3 time) sending (fun t => t.ktr.silent == [3] && t.get F.KTR_UNREACH_EPISODES == 1 && t.get F.KTR_UNREACH_LAST_NODE == 3)) = true ∧
    nx (.linkDrop 2 false 5) linkUp2 (fun t => t.get (F.KTR_PORT_STAT_LINK 2) == 3) = true ∧ nx (.linkDrop 2 true 5) linkUp2 (fun t => t.get (F.KTR_PORT_STAT_LINK 2) == 4) = true ∧
    gives (.ktrWinSync (2 ^ 30)) State.reset State.reset = true ∧
    (let s := (page (pageKey svc 0) res0 sending).put F.KTR_MAP_TABLE_SIZE 2
     let s := s.store svc 32 (leBytes 8 (3 * 2 ^ 44) ++ leBytes 8 4 ++ leBytes 8 (5 + 2 ^ 15) ++ leBytes 8 0)
     nx (.ktrWinSync (2 ^ 31 + 2 ^ 30 + 1)) s (fun t => Sparse.find t.ktr.map 1 == some ⟨3 * 2 ^ 44, 4, 0, 5, false, 0, true⟩)) = true ∧
    (let s := (page (pageKey svc 0) res0 sending).put F.KTR_EXP_TABLE_SIZE 2
     let s := s.store svc 32 (leBytes 8 (5 * 2 ^ 48 + 5 * 2 ^ 61) ++ leBytes 8 0 ++ leBytes 8 4 ++ leBytes 8 0)
     nx (.ktrWinSync (2 ^ 31 + 1)) s (fun t => (Sparse.find t.ktr.exp 1).any (fun w => w.valid && w.tid == 5 && w.pages == 4 && w.write && !w.read))) = true := by
  refine ⟨?_, ?_, ?_, ?_, ?_, ?_, ?_⟩ <;> decide +kernel


/-! #### Ports -/

def portUp : State := (State.reset.put (F.KTR_PORT_STAT_LINK 2) 2).put (F.KTR_PORT_STAT_MACSEC_UP 2) 1
def frame1 : Frame := ⟨3, 5, 1500, 0⟩
/-- Port 2 with two entries in its list: class 3 open for 1,000 ns, then shut for 1,000 ns. -/
def gated : State := (((((portUp.put (F.SHP_GATE_ACTIVE_COUNT 2) 2).put (F.SHP_GATE_ENTRY_ACTIVE_GATES 2 0) 8).put (F.SHP_GATE_ENTRY_ACTIVE_INTERVAL 2 0) 1000)).put (F.SHP_GATE_ENTRY_ACTIVE_INTERVAL 2 1) 1000).put (F.SHP_GATE_ENTRY_ACTIVE_GATES 2 1) 0
def rx1 : RxFrame := ⟨1500, true, false, true, some 5, 1400, 0, 0⟩

theorem test_witness_PortsAndGates_frames : portUp.canSend 2 = true ∧ gives (.frameSend 2 7 [] false) portUp (portUp.portTick 2 7) = true ∧
    ((portUp.portTick 2 7).gateOpen 2 3 1500 7 = true ∧ portUp.get (F.SHP_SHAPE_RATE 5) = 0 ∧ nx (.frameSend 2 7 [frame1] true) portUp (fun t =>
      t.get (F.KTR_TX_BYTES_BYTES 2) == 1500 && Sparse.get 0 (t.port 2).sent 3 == 1500 && !t.canSend 2) = true) ∧
    nx (.frameSend 2 7 [{ frame1 with ctx := 6 }, { frame1 with tc := 5 }] false) portUp (fun t => Sparse.get 0 (t.port 2).sent 5 == 1500) = true ∧
    (gated.gateOpen 2 3 1500 7 = true ∧ gated.gateOpen 2 3 1500 990 = false ∧ gated.gateOpen 2 3 1500 1007 = false) ∧
    nx (.frameReceive 2 7 { rx1 with intact := false }) portUp (fun t => t.get (F.KTR_LINK_ERR_MACSEC_DROP 2) == 1 && t.get (F.KTR_RX_BYTES_BYTES 2) == 1500) = true ∧
    nx (.frameReceive 2 7 { rx1 with ctx := none }) portUp (fun t => t.get (F.KTR_LINK_ERR_MACSEC_DROP 2) == 0) = true ∧
    ((portUp.put (F.SHP_POLICE_CTL_EN 5) 1).put (F.SHP_POLICE_PIR_SIZE 5) 1000).policeBad 5 rx1 = false ∧ ((portUp.put (F.SHP_POLICE_CIR_RATE 5) 1).put (F.SHP_POLICE_PIR_RATE 5) 0).policeBad 5 rx1 = true ∧
    nx (.frameReceive 2 7 rx1) (((portUp.put (F.SHP_POLICE_CIR_RATE 5) 1).put (F.SHP_POLICE_PIR_RATE 5) 0).put (F.SHP_POLICE_CTL_EN 5) 1) (fun t => t.get F.SHP_POLICE_CNT_RED == 0) = true ∧
    nx (.frameReceive 2 7 rx1) ((portUp.put (F.SHP_POLICE_CTL_EN 5) 1).put (F.SHP_POLICE_PIR_SIZE 5) 1000) (fun t => t.get F.SHP_POLICE_CNT_RED == 1) = true := by
  refine ⟨?_, ?_, ?_, ?_, ?_, ?_, ?_, ?_, ?_, ?_, ?_⟩ <;> decide +kernel

theorem test_witness_PortsAndGates_gates : nx (.gateGo 2 3 7) portUp (fun t => t.get (F.SHP_GATE_CTL_COUNT 2) == 3 && t.ktr == portUp.ktr) = true ∧
    nx (.gateGo 2 (2 ^ 31 + 1) 7) (portUp.put (F.SHP_GATE_SWITCH_SWITCH_TIME 2) 99) (fun t => (t.port 2).gates == some 99 && t.get (F.SHP_GATE_CTL_PENDING 2) == 1) = true ∧
    nx (.gateGo 2 (2 ^ 31 + 1) 7) portUp (fun t => t.get (F.SHP_GATE_ACTIVE_COUNT 2) == 1 && t.get (F.SHP_GATE_BASE_BASE_TIME 2) == 7) = true ∧
    (let s := ((portUp.setPort 2 { Port.reset with gates := some 99 }).put (F.SHP_GATE_CTL_COUNT 2) 1).put (F.SHP_GATE_ENTRY_GATES 2 0) 8
     s.pendingList 2 = some [(8, s.get (F.SHP_GATE_ENTRY_INTERVAL 2 0))] ∧ nx (.gateSwitch 2 100) s (fun t =>
      t.get (F.SHP_GATE_ENTRY_ACTIVE_GATES 2 0) == 8 && t.get (F.SHP_GATE_BASE_BASE_TIME 2) == 99 && (t.port 2).gates.isNone) = true) ∧
    (gated.gateList 2 ≠ [] ∧ nx (.gateEntryEnd 2 1000) gated (fun t => (t.port 2).entry == 1 && t.get (F.KTR_PORT_TIME_NS 2) == 1000) = true) ∧
    nx (.ptpLock 2 500 (2 ^ 32 - 4) 30) (portUp.put (F.KTR_PTP_CTL_EN 2) 1) (fun t => t.get (F.KTR_PORT_TIME_NS 2) == 500 && t.on (F.KTR_PORT_STAT_PTP_LOCKED 2)) = true ∧
    nx (.ptpMasterLost 2 500) (portUp.put (F.KTR_PORT_STAT_PTP_LOCKED 2) 1) (fun t => t.get (F.KTR_PORT_TIME_NS 2) == 500 && !t.on (F.KTR_PORT_STAT_PTP_LOCKED 2)) = true ∧
    nx (.queueSample 2 5000000 []) ((portUp.put F.SHP_SAMPLE_CTL_SAMPLE_EN 1).put F.SHP_SAMPLE_RING_SIZE 4) (fun t => t.get F.SHP_SAMPLE_PTR_TAIL == 8 && (t.port 2).sampledAt == 5000000) = true := by
  refine ⟨?_, ?_, ?_, ?_, ?_, ?_, ?_, ?_⟩ <;> decide +kernel


/-! #### Time, edge islands, errors and power -/

def stoppedAt (i : Nat) : State := (State.reset.put (F.EDG_ISL_STAT_STATE i) 2).put (F.EDG_ISL_STAT_CLK_RUN i) 0

theorem test_witness_EdgesAndErrors_islands :
    nx (.refOscFault 5) (State.reset.put F.EDG_REF_STAT_REF_OK 1) (fun t => t.on F.EDG_REF_STAT_ON_FALLBACK && !t.on F.EDG_REF_STAT_REF_OK && t.get F.EDG_REF_STAT_LOST_COUNT == 1) = true ∧
    nx (.refOscReturn 5) (State.reset.put F.EDG_REF_STAT_REF_OK 0) (fun t => t.on F.EDG_REF_STAT_REF_OK) = true ∧
    (let s := (((State.reset.put (F.EDG_ISL_CTL_STOP_EN 1) 1).put (F.EDG_ISL_CTL_IDLE_TIME 1) 10).put (F.HBM_STAT_STATE 1) 2).put (F.EDG_ISL_STAT_STATE 1) 0
     s.islandHere 1 = true ∧ nx (.islandClockStop 1 10 5) s (fun t => t.get (F.EDG_ISL_STAT_STATE 1) == 2 && t.get (F.HBM_STAT_STATE 1) == 3)) = true ∧
    nx (.islandWake 33 9 5) (stoppedAt 33) (fun t => t.get (F.EDG_ISL_STAT_STATE 33) == 0 && t.get (F.EDG_ISL_STAT_WAKE_COUNT 33) == 1 && t.get (F.EDG_ISL_STAT_WAKE_MAX 33) == 9) = true ∧
    nx (.islandReset 96 1 [] 5) State.reset (fun t => t.get (F.EDG_ISL_STAT_IN_RESET 96) == State.reset.get (F.EDG_ISL_STAT_IN_RESET 96)) = true ∧
    nx (.islandReset 18 1 [] 5) portUp (fun t => t.get (F.EDG_ISL_STAT_IN_RESET 18) == 1 && t.get (F.KTR_PORT_STAT_LINK 2) == 3) = true ∧
    nx (.islandResetExit 18 5) ((portUp.put (F.KTR_PORT_STAT_LINK 2) 3).put (F.EDG_ISL_STAT_IN_RESET 18) 1) (fun t => t.get (F.EDG_ISL_STAT_IN_RESET 18) == 0 && t.get (F.KTR_PORT_STAT_LINK 2) == 1) = true ∧
    gives (.islandReset 18 0 [] 5) portUp portUp = true ∧
    nx (.linkUp 2 5) ((portUp.put (F.KTR_PORT_STAT_LINK 2) 1).put (F.KTR_PORT_CTL_EN 2) 1) (fun t => t.get (F.KTR_PORT_STAT_LINK 2) == 2) = true := by
  refine ⟨?_, ?_, ?_, ?_, ?_, ?_, ?_, ?_, ?_⟩ <;> decide +kernel

theorem test_witness_EdgesAndErrors_units :
    (let s := (((tierUp 4).put (F.EDG_ISL_CTL_STOP_EN 40) 1).put (F.EDG_ISL_CTL_IDLE_TIME 40) 10).put (F.EDG_ISL_STAT_STATE 40) 0
     s.islandHere 40 = true ∧ s.islandIdle 40 = true ∧ s.staged = [] ∧ nx (.islandClockStop 40 10 5) s (fun t => t.get (F.EDG_ISL_STAT_STATE 40) == 2) = true) ∧
    (onChan 8 ⟨some rebuilt, none, []⟩).islandIdle 40 = false ∧
    ((∀ o ∈ ((onChan 8 ⟨some (moves 3), none, []⟩).chan 8).ops, o.kind ≠ 2) ∧ nx (.islandReset 40 1 [] 5) (onChan 8 ⟨some (moves 3), none, []⟩) (fun t =>
      t.get (F.EDG_ISL_STAT_IN_RESET 40) == 1 && t.get (F.GEO_CH_STAT_STATE 8) == 0) = true) ∧
    (portUp.modeOk 2 = true ∧ (portUp.put (F.KTR_PORT_CTL_MODE 2) 2).modeOk 2 = false) ∧
    nx (.scrubRead (.demand 4 3) 5) State.reset (fun t => t.get (F.RAS_COUNT_CE 4) == 1 && t.get (F.HBM_CE_COUNT 3) == 1) = true ∧
    nx (.scrubRead (.demand 1 0) 5) State.reset (fun t => t.get (F.RAS_COUNT_CE 1) == 1) = true := by
  refine ⟨?_, ?_, ?_, ?_, ?_, ?_⟩ <;> decide +kernel

def withRas (s : State) (f : Ras → Ras) : State := { s with ras := f s.ras }
/-- A write of RAS_INJECT that names a source and a unit. -/
def injects (source unit : Nat) : Nat := 2 ^ 63 + source * 2 ^ 59 + unit * 2 ^ 53

theorem test_witness_EdgesAndErrors_errors :
    nx (.facetStoreUe 7 511 5) State.reset (fun t => t.ras.units == [7 * 512 + 511] && t.get (F.RAS_COUNT_UE 1) == 1) = true ∧
    (State.reset.linkHere 2 = true ∧ nx (.d2dRetrain 2 3 true true 5) State.reset (fun t => t.get (F.RAS_D2D_RETRIES 2) == 3 && Sparse.get [] t.ras.d2d 2 == [5])) = true ∧
    nx (.d2dLinkFail 2 100) (withRas State.reset (fun r => { r with d2d := [(2, [5, 4, 3])] })) (fun t => t.get (F.RAS_D2D_STATE 2) == 2) = true ∧
    (let s := State.reset.put F.RAS_CTL_SCRUB_EN 1
     nx (.scrubRead (.hbm 1) 5) s (fun t => t.ras.scrubLine == 1 && t.get (F.HBM_CE_COUNT 0) == 1 && t.get (F.RAS_COUNT_CE 4) == 1) = true ∧
     nx (.scrubRead (.sram 1 sample0) 5) s (fun t => t.ras.scrubWord == 1 && t.get (F.RAS_COUNT_CE 0) == 1) = true ∧
     nx (.scrubPeriodEnd true (s.get F.RAS_SCRUB_HBM_HOURS * hourUnits + 1)) s (fun t => t.ras.hbmLate) = true ∧
     nx (.scrubPeriodEnd false (s.get F.RAS_SCRUB_STORE_S * 100000000 + 1)) s (fun t => t.ras.storeLate) = true) ∧
    nx (.rasInjectWrite (injects 5 0) sample0 5) State.reset (fun t => t.get F.RAS_INJECT_ARM == 0 && t.get F.RAS_INJECT_INJECTED == 0) = true ∧
    nx (.rasInjectWrite (injects 1 63) sample0 5) State.reset (fun t => t.get F.RAS_INJECT_ARM == 1) = true ∧
    nx (.rasInjectWrite (injects 2 31) sample0 5) State.reset (fun t => t.get F.RAS_INJECT_INJECTED == 1 && t.get (F.RAS_COUNT_CE 2) == 1) = true ∧
    nx (.rasRetireClr (2 ^ 31 + 2 ^ 30 + 7 * 2 ^ 18 + 511 * 2 ^ 9)) State.reset (fun t => t.ras.clear == [64 + 7 * 512 + 511]) = true := by
  refine ⟨?_, ?_, ?_, ?_, ?_, ?_, ?_, ?_⟩ <;> decide +kernel

def m37 : Meas := { meas0 with vin := 37000 }
def withPwr (s : State) (f : Pwr → Pwr) : State := { s with pwr := f s.pwr }
def surging : State := withPwr (State.reset.put F.PWR_CTL_TARGET 2) (fun p => { p with goal := 2 })
def heated (n : Nat) : State := withPwr State.reset (fun p => { p with heat := n, heatDuty := n - 2 })

theorem test_witness_PowerSupervisor_points :
    nx (.targetWrite 3 5) State.reset (fun t => t.get F.PWR_CTL_TARGET == 1) = true ∧ nx (.targetWrite 0 5) State.reset (fun t => t.get F.PWR_CTL_TARGET == 0 && t.pwr.goal == 0) = true ∧
    nx (.targetWrite 1 5) surging (fun t => t.pwr.goal == 1 && t.get F.PWR_STAT_EXIT_REASON == 6) = true ∧
    nx (.rampDone 5) (surging.put F.PWR_STAT_RAMPING 1) (fun t => t.get F.PWR_STAT_POINT == 2 && t.get F.PWR_STAT_RAMPING == 0) = true ∧
    nx (.surgeEnter m37 5) (State.reset.put F.PWR_CTL_TARGET 2) (fun t => t.pwr.goal == 2) = true ∧
    nx (.surgeLeave 3 { m37 with iin := 7500 } 5) surging (fun t => t.pwr.goal == 1 && t.get F.PWR_STAT_EXIT_REASON == 3 && t.get F.PWR_EVENTS_SURGE_EXITS == 1) = true ∧
    nx (.inputOver44V { m37 with vin := 44001 } 5) State.reset (fun t => t.pwr.high && t.get F.PWR_INPUT_VIN_MV == 44001) = true ∧
    nx (.inputOver48V { m37 with vin := 48001 } 5) (run k0) (fun t => t.pwr.off && t.cores.isEmpty) = true ∧
    nx (.inputBelow18V { m37 with vin := 17999 } 5) (run k0) (fun t => t.pwr.off && t.cores.isEmpty) = true ∧
    nx (.psmFault 3 m37 5) surging (fun t => t.get F.PWR_STAT_PSM_OK == 7 && t.pwr.goal == 1) = true := by
  refine ⟨?_, ?_, ?_, ?_, ?_, ?_, ?_, ?_, ?_, ?_⟩ <;> decide +kernel

theorem test_witness_PowerSupervisor_throttle :
    nx (.inputCurrentHigh { m37 with iin := 8000 } 5) State.reset (fun t => t.pwr.limited && t.get F.PWR_STAT_DUTY == 1) = true ∧
    nx (.dutyStep { m37 with iin := 8000 } 5000) (withPwr State.reset (fun p => { p with limited := true, limitDuty := 1 })) (fun t => t.pwr.limitDuty == 2) = true ∧
    nx (.dutyStep m37 100000) (withPwr State.reset (fun p => { p with limited := true, limitDuty := 1 })) (fun t => t.pwr.limitDuty == 0 && !t.pwr.limited) = true ∧
    nx (.tjHot { m37 with tj1 := 100 } 5) State.reset (fun t => t.pwr.heat == 1 && t.get F.PWR_EVENTS_THERMAL == 1) = true ∧
    nx (.thermalStep { m37 with tj1 := 100 } 1000000) (heated 1) (fun t => t.pwr.heat == 2 && t.pwr.goal == 0) = true ∧
    nx (.thermalStep { m37 with tj1 := 96 } 1000000) (heated 3) (fun t => t.pwr.heat == 2 && t.pwr.heatDuty == 0) = true ∧
    nx (.tjTrip { m37 with tjh := 105 } 5) State.reset (fun t => t.pwr.tripped && t.get F.PWR_STAT_SHED == 6 && t.pwr.flushing) = true := by
  refine ⟨?_, ?_, ?_, ?_, ?_, ?_, ?_⟩ <;> decide +kernel

def shedding (n : Nat) : State := (run k0).put F.PWR_STAT_SHED n

theorem test_witness_PowerSupervisor_shedding :
    nx (.shedStepEnter 3 { m37 with vin := 34499 } 5) (shedding 2) (fun t => t.get F.PWR_STAT_SHED == 3 && !t.on F.DSP_CTL_ADMIT_EN && t.pwr.cleared.contains F.DSP_CTL_ADMIT_EN.id) = true ∧
    nx (.shedStepEnter 5 { m37 with vin := 32999 } 5) (shedding 4) (fun t => t.get (F.KTR_PORT_STAT_LINK 15) == 4) = true ∧
    nx (.shedStepEnter 7 { m37 with vin := 23999 } 5) (shedding 6) (fun t => t.cores.isEmpty) = true ∧
    nx (.shedStepLeave 3 { m37 with vin := 35001 } boot0 5) (withPwr ((shedding 3).put F.DSP_CTL_ADMIT_EN 0) (fun p => { p with cleared := [F.DSP_CTL_ADMIT_EN.id] })) (fun t =>
      t.get F.PWR_STAT_SHED == 2 && t.on F.DSP_CTL_ADMIT_EN) = true ∧
    nx (.flushComplete 5) (withPwr (shedding 6) (fun p => { p with flushing := true })) (fun t => t.get F.PWR_STAT_SHED == 7 && t.cores.isEmpty && !t.pwr.flushing) = true := by
  refine ⟨?_, ?_, ?_, ?_, ?_⟩ <;> decide +kernel


/-! #### Onyx -/

/-- Onyx is ready; officer 1 may be enrolled, with a last counter of 4. -/
def onyxUp (officers : Bool) : State :=
  let s := State.reset.put F.ONX_STAT_STATE 1
  { s with onx := { s.onx with officers := if officers then [(1, List.replicate 48 0, 4)] else [], running := true, runSvn := 3, runRoot := 0 } }
def byOfficer (counter : Nat) : Option Envelope := some ⟨1, counter, true⟩
def endsWith (status detail : Nat) (t : State) : Bool := t.out.any (fun o => match o with
  | .opDone b id _ st d _ _ => b == 21 && id == 77 && st == status && d == detail
  | _ => false)
def onx1 (slot : Nat) : OnxOp := { onx0 with slot := slot }

theorem test_witness_OnyxCommands_keys : ((onyxUp false).get F.ONX_STAT_STATE = 1 ∧ (onyxUp false).op 21 77 = none) ∧
    nx (.report (onx1 1024)) (onyxUp false) (endsWith 0x0B 0) = true ∧ nx (.report (onx1 1023)) (onyxUp false) (endsWith 0 0) = true ∧
    nx (.keyImport (onx1 5) none none) (onyxUp false) (fun t => endsWith 3 0x1203 t && t.get F.ONX_EVENTS_IMPORT_FAIL == 1) = true ∧
    (let s := (page (pageKey svc 0) res0 (onyxUp false)).store svc 4096 (leBytes 8 (1 + 2 ^ 8 + 5 * 2 ^ 16) ++ leBytes 8 0 ++ leBytes 8 0xABC)
     s.importStops (onx1 5) (some 0xABC) = none ∧ nx (.keyImport (onx1 5) (some 0xABC) none) s (fun t => endsWith 0 0 t && t.slotState 5 == 1 && t.get (F.ONX_SLOT_KCV_KCV 5) == 0xABC)) = true ∧
    (onyxUp false).slotState 5 = 0 ∧
    nx (.keyGenerate (onx1 5) none) ((onyxUp false).put (F.ONX_SLOT_STAT_STATE 5) 1) (endsWith 3 0x1202) = true ∧
    ((onyxUp false).tenantBusy 5 = false ∧ nx (.keyDestroy (onx1 5) none) ((onyxUp false).put (F.ONX_SLOT_STAT_STATE 5) 1) (fun t => endsWith 0 0 t && t.slotState 5 == 0) = true) ∧
    (((onyxUp false).put (F.DSP_TNT_CFG_ENABLED 5) 1).tenantBusy 5 = true ∧ nx (.keyDestroy (onx1 5) none) ((onyxUp false).put (F.DSP_TNT_CFG_ENABLED 5) 1) (endsWith 3 0x1202) = true) ∧
    nx (.extend { onx0 with reg := 1 }) (onyxUp false) (endsWith 3 0x1206) = true ∧ nx (.extend { onx0 with reg := 2 }) (onyxUp false) (endsWith 0 0) = true ∧
    nx (.kemRotate onx0) (onyxUp false) (fun t => endsWith 0 0 t && t.onx.kemGen == 1) = true := by
  refine ⟨?_, ?_, ?_, ?_, ?_, ?_, ?_, ?_, ?_, ?_, ?_, ?_⟩ <;> decide +kernel

theorem test_witness_OnyxCommands_officers : ((onyxUp true).officer none = none ∧ (onyxUp true).officer (byOfficer 4) = none ∧ ((onyxUp true).officer (byOfficer 5)).isSome = true) ∧
    nx (.officerEnroll onx0 1 (List.replicate 48 0) none) (onyxUp false) (fun t => endsWith 0 0 t && t.get F.ONX_STAT_OFFICERS == 1) = true ∧
    nx (.officerEnroll onx0 2 (List.replicate 48 0) (byOfficer 4)) (onyxUp true) (fun t => endsWith 3 0x1201 t && t.get F.ONX_EVENTS_AUTH_FAIL == 1) = true ∧
    nx (.officerEnroll onx0 4 (List.replicate 48 0) (byOfficer 5)) (onyxUp true) (endsWith 0x0B 0) = true ∧
    nx (.rollbackCommit onx0 (byOfficer 4)) (onyxUp true) (endsWith 3 0x1201) = true ∧ nx (.rollbackCommit onx0 (byOfficer 5)) (onyxUp true) (fun t => endsWith 0 0 t && t.get F.ONX_STAT_SVN_FLOOR == 3) = true ∧
    nx (.rollbackCommit onx0 (byOfficer 5)) ((onyxUp true).put F.ONX_STAT_SVN_FLOOR 3) (endsWith 3 0x1205) = true ∧
    nx (.rootRevoke onx0 0 (byOfficer 5)) (onyxUp true) (endsWith 3 0x1207) = true ∧ nx (.rootRevoke onx0 3 (byOfficer 5)) (onyxUp true) (fun t => endsWith 0 0 t && t.get F.ONX_STAT_ROOTS_REVOKED == 8) = true ∧
    (let s := (onyxUp true).put F.ONX_STAT_EPOCH 15
     let gone := fun (cause : Nat) (t : State) => t.get F.ONX_STAT_STATE == 4 && t.get F.ONX_TAMPER_CAUSE == cause && t.get F.PWR_STAT_SHED == 7 && t.onx.officers.isEmpty
     nx (.zeroise onx0 (byOfficer 5) boot0) s (gone 1) = true ∧ nx (.zeroise onx0 none boot0) s (endsWith 3 0x1201) = true ∧
     nx (.debugUnlock onx0 (byOfficer 5) boot0) s (fun t => gone 2 t && t.on F.ONX_STAT_DEBUG) = true ∧ nx (.tamperTrigger 3 boot0 5) s (gone 3) = true) ∧
    nx (.sakRotate 15) ((onyxUp true).put (F.ONX_SLOT_STAT_STATE 1103) 1) (fun t => t.onx.saks == [15] && t.get (F.KTR_PORT_STAT_MACSEC_UP 15) == 1) = true := by
  refine ⟨?_, ?_, ?_, ?_, ?_, ?_, ?_, ?_, ?_, ?_, ?_⟩ <;> decide +kernel


/-! #### Start-up, management, the recorder and register writes -/

/-- What start-up finds when Onyx fails its tests, and when no image is accepted. -/
def deadBoot : Boot := { boot0 with onyx := false }
def noBoot : Boot := { boot0 with imageA := none }
def norIs (result : Nat) (t : State) : Bool := t.get F.MGT_NOR_CTL_RESULT == result && t.get F.MGT_NOR_CTL_BUSY == 0

theorem test_witness_StartAndManagement_start :
    nx (.powerOnReset deadBoot) State.reset (fun t => t.get F.PART_STAT_STAGE == 2 && t.get F.ONX_STAT_STATE == 3 && t.get F.EVR_CYCLES_POWER_CYCLES == 1) = true ∧
    nx (.pldmColdRestart deadBoot) (run k0) (fun t => t.cores.isEmpty && t.get F.EVR_CYCLES_POWER_CYCLES == 1) = true ∧
    (State.reset.bootImage noBoot = none ∧ State.reset.bootImage boot0 = some (image0, false)) ∧
    gives (.warmRestart 0 0 boot0 5) State.reset State.reset = true ∧
    (let s := withPwr State.reset (fun p => { p with tripped := true })
     gives (.warmRestart 1 0 boot0 5) s (s.account_ 5)) = true ∧
    nx (.warmRestart 0 1 noBoot 5) (run k0) (fun t => t.cores.isEmpty && t.get F.PART_STAT_STAGE == 3 && t.get F.ONX_STAT_STATE == 2 && t.get F.EVR_CYCLES_POWER_CYCLES == 0) = true ∧
    nx (.readyWrite 1) State.reset (fun t => t.get F.PART_STAT_READY == 1 && t.get F.PART_STAT_STAGE == 10 && t.locks == [F.PART_STAT_READY.id]) = true ∧
    nx (.readyWrite 1) { State.reset with locks := [F.PART_STAT_READY.id] } (fun t => t.get F.PART_STAT_READY == 0) = true := by
  refine ⟨?_, ?_, ?_, ?_, ?_, ?_, ?_, ?_⟩ <;> decide +kernel

theorem test_witness_StartAndManagement_manage :
    gives (.partSvcDone 0) State.reset State.reset = true ∧
    (let s := (ctlPart [{ target1 with d := svcAsk }]).put F.PART_SVC_DONE_H_REQ_HANDLE (5 * 2 ^ 48)
     let s := { s with dsp := { s.dsp with svcOpen := [5 * 2 ^ 48, 1] } }
     nx (.partSvcDone (2 ^ 31 + 3 * 2 ^ 16 + 0x0E01)) s (fun t => t.dsp.svcOpen == [1] && done1 (5 * 2 ^ 48) 3 0x0E01 t)) = true ∧
    nx (.norErase { nor0 with addr := 1 }) State.reset (norIs 2) = true ∧ nx (.norErase { nor0 with addr := 0x8200000 }) State.reset (norIs 2) = true ∧
    nx (.norErase { nor0 with broken := true }) State.reset (norIs 3) = true ∧ (State.reset.norAllows 0 65536 true = true ∧ (onyxUp true).norAllows 0 65536 false = false) ∧
    nx (.norErase nor0) State.reset (norIs 1) = true ∧
    nx (.norProgram { nor0 with length := 2, addr := 1 } [1, 0xFF]) State.reset (fun t => norIs 1 t && t.mgt.nor == [(1, 1)]) = true ∧
    nx (.norRead { nor0 with length := 2 }) State.reset (fun t => norIs 1 t && t.mgt.bezel == [(0, 0xFF), (1, 0xFF)]) = true ∧
    nx (.pldmSensorUpdate 10000000) State.reset (fun t => t.mgt.sensedAt == 10000000 && t.mgt.sensors.length == 27) = true ∧
    nx .pldmReadEventLog State.reset (fun t => t.out == [.eventLog (List.replicate 64 0)]) = true := by
  refine ⟨?_, ?_, ?_, ?_, ?_, ?_, ?_, ?_, ?_, ?_, ?_⟩ <;> decide +kernel

def rec7 (seq : Nat) : EvRec := ⟨.warning, 0x13, none, false, 0, 0, seq, 0, 0, 0, false, false⟩
def recording (l hold : List EvRec) : State := { State.reset with rec_ := { State.reset.rec_ with store := l, hold := hold } }

theorem test_witness_EventRecorder :
    nx (.evrRelease 7) (recording [rec7 7, rec7 8] []) (fun t => t.rec_.store == [{ rec7 7 with released := true }, rec7 8]) = true ∧
    nx (.evrRecRead 1 0) (recording [rec7 7] []) (fun t => t.rec_.latch 1 == some (rec7 7) && t.get (F.EVR_REC_WORD 1 3) == 7) = true ∧
    gives (.evrRecRead 1 6) State.reset State.reset = true ∧ gives (.evrRecRead 1 7) State.reset State.reset = true ∧
    (let s := recording [rec7 7] []
     let s := { s with rec_ := { s.rec_ with latch1 := some (rec7 7) } }
     nx (.evrRecRead 1 7) s (fun t => t.get (F.EVR_CURSOR_SEQ 1) == 8)) = true ∧
    nx (.evrFreezeWrite 1 5) State.reset (fun t => t.get F.EVR_CTL_FREEZE == 1 && t.rec_.frozenAt == 5) = true ∧
    nx (.evrFreezeWrite 0 5) ((recording [] [rec7 0]).put F.EVR_CTL_FREEZE 1) (fun t => t.rec_.store.length == 1 && t.rec_.hold.isEmpty && t.get F.EVR_SEQ_NEXT == 1) = true ∧
    nx (.freezeTimeout 1000000000) ((recording [] []).put F.EVR_CTL_FREEZE 1) (fun t => t.rec_.store.length == 1 && t.get F.EVR_CTL_FREEZE == 0) = true ∧
    nx (.evrMirror 5) (recording [rec7 7] []) (fun t => t.rec_.mirror == [{ rec7 7 with mirrored := true }]) = true ∧
    nx (.opSecondsSave 6000000000) State.reset (fun t => t.rec_.savedSeconds == 60) = true := by
  refine ⟨?_, ?_, ?_, ?_, ?_, ?_, ?_, ?_, ?_, ?_⟩ <;> decide +kernel

/-- A register of a write, where one is there and selected. -/
def reaches (s : State) (w : RegWrite) : Bool := !w.tenant && (match regAt w.block w.offset w.width 0 (blockRegs w.block) with
  | none => false
  | some r => s.unitHere w.block r.i r.desc && (match s.selected r.desc.sel with
    | none => false
    | some i => (regAt w.block w.offset w.width i (blockRegs w.block)).isSome))

theorem test_witness_RegisterWrites :
    (regAt 8 4 32 0 (blockRegs 8) = none ∧ gives (.regWrite ⟨8, 4, 32, 1, false⟩) State.reset (State.reset.badAccess 8 4) = true) ∧
    (let s := State.reset.put F.PART_CAPS_HBM_STACKS 8
     gives (.regWrite ⟨9, 15 * 4096, 32, 1, false⟩) s s = true ∧ reaches s ⟨9, 15 * 4096, 32, 1, false⟩ = false) ∧
    nx (.regWrite ⟨9, 0, 32, 1, true⟩) State.reset (fun t => t.get (F.HBM_CTL_REFRESH 0) == 0) = true ∧
    (reaches State.reset ⟨0, 8, 32, 1, false⟩ = true ∧ gives (.regWrite ⟨0, 8, 32, 1, false⟩) State.reset State.reset.markReady = true) ∧
    (reaches State.reset ⟨8, 24, 32, 77, false⟩ = true ∧ nx (.regWrite ⟨8, 24, 32, 77, false⟩) State.reset (fun t => t.get F.MEM_CLEAN_CLEAN_AGE == 77) = true) ∧
    nx (.regWrite ⟨16, 0, 32, 2, false⟩) State.reset (fun t => t.get F.KTR_NODE_NODE == 2 && t.locks == [F.KTR_NODE_NODE.id]) = true ∧
    nx (.regWrite ⟨16, 0, 32, 2, false⟩) { State.reset with locks := [F.KTR_NODE_NODE.id] } (fun t => t.get F.KTR_NODE_NODE == 0) = true ∧
    nx (.regWrite ⟨1, 96, 64, 5, false⟩) State.reset (fun t => t.staged.any (fun w => w.f == F.DSP_TNT_BUDGET_REFILL 0 && w.v == 5) && t.get (F.DSP_TNT_BUDGET_REFILL 0) == 10000) = true ∧
    (sending.blockBusy 16 16 0 0 = true ∧ nx (.regWrite ⟨16, 16, 64, 5, false⟩) sending (fun t => t.get F.KTR_NODE_TABLE_BASE == 0) = true) := by
  refine ⟨?_, ?_, ?_, ?_, ?_, ?_, ?_, ?_, ?_⟩ <;> decide +kernel


/-! #### The queue and the instruction words -/

theorem test_witness_StepRunsFront :
    (let s := { State.reset with pending := [.readyWrite 1, .pldmReadEventLog] }
     (match step s with
      | .next t => t.pending == [.pldmReadEventLog] && t.get F.PART_STAT_READY == 1
      | _ => false) = true) ∧ State.reset.pending = [] := by
  refine ⟨?_, ?_⟩ <;> decide +kernel

theorem test_witness_CommandsChangeOnlyTheirPortions : nx (.readyWrite 1) State.reset (fun t => t.mem == [] && t.pending == []) = true := by decide +kernel

theorem test_witness_StepKeepsInvariant : State.reset.Inv ∧ step State.reset = .next State.reset := ⟨reset_inv, rfl⟩

end Sys2Proof.Tests
end

/-! ### Ranges of a sparse table

What a range of a table reads, key by key, and after a range has been written. -/

namespace Sys2Proof.Sparse

variable {α : Type}

/-- The value at a key of a slice is that of the table, inside the slice. -/
theorem get_slice (d : α) (l : List (Nat × α)) (lo n j : Nat) : get d (slice l lo n) j = if j < n then get d l (lo + j) else d := by
  unfold slice
  induction l with
  | nil => simp [get]
  | cons c t ih =>
    by_cases hin : lo ≤ c.1 ∧ c.1 < lo + n
    · have hkey : c.1 - lo = j ↔ c.1 = lo + j := by omega
      by_cases hj : c.1 = lo + j
      · have hlt : j < n := by omega
        simp [get, hj, hlt]
      · simp [hin, get, hkey, hj, ih]
    · by_cases hj : j < n
      · have hne : c.1 ≠ lo + j := by omega
        simpa [hin, get, hj, hne] using ih
      · simpa [hin, get, hj] using ih

@[simp] theorem length_read (d : α) (l : List (Nat × α)) (lo n : Nat) : (read d l lo n).length = n := length_fill d n 0 _

variable [DecidableEq α] {d : α} {l : List (Nat × α)}

/-- Reading a range of a canonical table reads each of its keys. -/
theorem getElem?_read (h : wf d l = true) (lo n j : Nat) (hj : j < n) : (read d l lo n)[j]? = some (get d l (lo + j)) := by
  have hfill := getElem?_fill d n 0 j (slice l lo n) (wf_slice lo n h) hj
  rw [get_slice, Nat.zero_add, if_pos hj] at hfill
  exact hfill

/-- A range read is any list of its length with the same values. -/
theorem read_eq_of_get (h : wf d l = true) {lo n : Nat} {vs : List α} (hlen : vs.length = n)
    (hget : ∀ j, (hj : j < vs.length) → get d l (lo + j) = vs[j]) : read d l lo n = vs := by
  apply List.ext_getElem?
  intro j
  by_cases hj : j < n
  · have hvs : j < vs.length := by omega
    rw [getElem?_read h lo n j hj, hget j hvs, List.getElem?_eq_getElem hvs]
  · rw [List.getElem?_eq_none (by simpa using hj), List.getElem?_eq_none (by omega)]

/-- A range just written reads back. -/
theorem read_write_same (h : wf d l = true) (lo : Nat) (vs : List α) : read d (write d l lo vs) lo vs.length = vs := by
  refine read_eq_of_get (wf_write h) rfl (fun j hj => ?_)
  rw [get_write, if_pos (by omega), Nat.add_sub_cancel_left, List.getElem?_eq_getElem hj, Option.getD_some]

/-- A range that a write does not meet reads as before. -/
theorem read_write_disjoint (h : wf d l = true) (lo n lo' : Nat) (vs : List α) (hdis : lo + n ≤ lo' ∨ lo' + vs.length ≤ lo) :
    read d (write d l lo' vs) lo n = read d l lo n := by
  refine read_eq_of_get (wf_write h) (by simp) (fun j hj => ?_)
  have hjn : j < n := by simpa using hj
  rw [get_write, if_neg (by omega)]
  exact (Option.some.inj ((List.getElem?_eq_getElem hj).symm.trans (getElem?_read h lo n j hjn))).symm

end Sys2Proof.Sparse

/-! ### The registers of a core (spec/03, spec/06) -/

namespace Sys2Proof.Machine

@[simp] theorem Core.s_zero (k : Core) : k.s 0 = 0 := rfl

@[simp] theorem Core.setS_zero (k : Core) (v : Word64) : k.setS 0 v = k := rfl

theorem Core.setS_of_ne_zero (k : Core) {r : Reg5} (v : Word64) (h : r ≠ 0) :
    k.setS r v = { k with sregs := Sparse.set 0 k.sregs r.toNat v } := if_neg h

theorem Core.s_of_ne_zero (k : Core) {r : Reg5} (h : r ≠ 0) : k.s r = Sparse.get 0 k.sregs r.toNat := if_neg h

theorem Core.s_setS_same (k : Core) {r : Reg5} (v : Word64) (h : r ≠ 0) : (k.setS r v).s r = v := by
  rw [Core.s_of_ne_zero _ h, Core.setS_of_ne_zero k v h]
  exact Sparse.get_set_self 0 k.sregs r.toNat v

theorem Core.s_setS_ne (k : Core) {r q : Reg5} (v : Word64) (h : q ≠ r) : (k.setS r v).s q = k.s q := by
  by_cases hr : r = 0
  · rw [hr, Core.setS_zero]
  by_cases hq : q = 0
  · rw [hq, Core.s_zero, Core.s_zero]
  have hkey : q.toNat ≠ r.toNat := fun e => h (BitVec.eq_of_toNat_eq e)
  rw [Core.s_of_ne_zero _ hq, Core.s_of_ne_zero _ hq, Core.setS_of_ne_zero k v hr]
  exact Sparse.get_set_ne 0 k.sregs v hkey

/-- A scalar write changes the scalar registers alone. -/
theorem Core.setS_frame (k : Core) (r : Reg5) (v : Word64) : { k.setS r v with sregs := k.sregs } = k := by
  by_cases hr : r = 0
  · rw [hr, Core.setS_zero]
  · rw [Core.setS_of_ne_zero k v hr]

@[simp] theorem Core.length_v (k : Core) (r : Reg5) : (k.v r).length = 512 := Sparse.length_read 0 k.vregs (r.toNat * 512) 512

/-- A write of all 512 lanes writes the list as it is. -/
theorem Core.setV_full (k : Core) (r : Reg5) {l : List F32} (hl : l.length = 512) :
    k.setV r l = { k with vregs := Sparse.write 0 k.vregs (r.toNat * 512) l } := by
  unfold Core.setV
  rw [List.take_of_length_le hl.le]

theorem Core.v_setV_same {k : Core} (hk : k.Canonical) (r : Reg5) {l : List F32} (hl : l.length = 512) : (k.setV r l).v r = l := by
  have hread := Sparse.read_write_same hk.vregs (r.toNat * 512) l
  rw [hl] at hread
  rw [Core.setV_full k r hl]
  exact hread

/-- The lanes of two registers lie in ranges of 512 keys that do not meet. -/
theorem Core.v_setV_ne {k : Core} (hk : k.Canonical) {r q : Reg5} {l : List F32} (hl : l.length = 512) (h : q ≠ r) :
    (k.setV r l).v q = k.v q := by
  have hkey : q.toNat ≠ r.toNat := fun e => h (BitVec.eq_of_toNat_eq e)
  rw [Core.setV_full k r hl]
  exact Sparse.read_write_disjoint hk.vregs (q.toNat * 512) 512 (r.toNat * 512) l (by omega)

/-- A vector write changes the vector registers alone. -/
theorem Core.setV_frame (k : Core) (r : Reg5) (l : List F32) : { k.setV r l with vregs := k.vregs } = k := rfl

@[simp] theorem Core.m_zero (k : Core) : k.m 0 = BitVec.allOnes 512 := rfl

@[simp] theorem Core.setM_zero (k : Core) (b : BitVec 512) : k.setM 0 b = k := rfl

theorem Core.m_of_ne_zero (k : Core) {r : Reg3} (h : r ≠ 0) : k.m r = Sparse.get 0 k.masks r.toNat := if_neg h

theorem Core.setM_of_ne_zero (k : Core) {r : Reg3} (b : BitVec 512) (h : r ≠ 0) :
    k.setM r b = { k with masks := Sparse.set 0 k.masks r.toNat b } := if_neg h

theorem Core.m_setM_same (k : Core) {r : Reg3} (b : BitVec 512) (h : r ≠ 0) : (k.setM r b).m r = b := by
  rw [Core.m_of_ne_zero _ h, Core.setM_of_ne_zero k b h]
  exact Sparse.get_set_self 0 k.masks r.toNat b

theorem Core.m_setM_ne (k : Core) {r q : Reg3} (b : BitVec 512) (h : q ≠ r) : (k.setM r b).m q = k.m q := by
  by_cases hr : r = 0
  · rw [hr, Core.setM_zero]
  by_cases hq : q = 0
  · rw [hq, Core.m_zero, Core.m_zero]
  have hkey : q.toNat ≠ r.toNat := fun e => h (BitVec.eq_of_toNat_eq e)
  rw [Core.m_of_ne_zero _ hq, Core.m_of_ne_zero _ hq, Core.setM_of_ne_zero k b hr]
  exact Sparse.get_set_ne 0 k.masks b hkey

/-- Settles O11: each clause is a rule of the registers above. -/
theorem coreRegisters : Obligations.CoreRegisters := by
  intro k r q v m n l b hk
  exact ⟨k.s_zero, k.setS_zero v, k.s_setS_same v, k.s_setS_ne v, k.setS_frame r v,
    k.length_v r, fun hl => ⟨Core.v_setV_same hk r hl, Core.v_setV_ne hk hl⟩, k.setV_frame r l,
    k.m_zero, k.m_setM_same b, k.m_setM_ne b, k.setM_zero b⟩

end Sys2Proof.Machine

/-! ### Traps of scalar loads and stores (R66, R68) -/

namespace Sys2Proof.Machine

section Access

variable {s : State} {c : Nat} {k : Core}

/-- An instruction that stops ends the command with the status of its stop. -/
theorem onCore_stop (h : s.Runs c k) {f : Nat → Core → KRes} {x : Stop} (hf : f k.draws k = .stop x) :
    onCore c s f = .next (s.endedWith c k x.status x.detail x.code) := by
  rw [onCore_runs h, hf, State.land_stop]

theorem Core.check_of_misaligned {a n align : Nat} (h : a % align ≠ 0) : k.check a n align = some (.failed dMisaligned) := if_pos h

theorem Core.check_of_beyond {a n align : Nat} (ha : a % align = 0) (h : k.limit < a + n) :
    k.check a n align = some (.failed dStoreRange) := by
  have hout : k.inStore a n = false := decide_eq_false (by omega)
  unfold Core.check
  rw [if_neg (not_not.mpr ha), hout]
  rfl

theorem scalarLoad_of_zero_ne (n : Nat) (sd sa : Reg5) {zero : BitVec 20} (off : BitVec 24) (free : Nat) (h : zero ≠ 0) :
    scalarLoad n sd sa zero off free k = .stop .invalid := if_pos h

theorem scalarStore_of_zero_ne (n : Nat) (ss sa : Reg5) {zero : BitVec 20} (off : BitVec 24) (h : zero ≠ 0) :
    scalarStore n ss sa zero off k = .stop .invalid := if_pos h

theorem scalarLoad_of_check {n : Nat} (sd : Reg5) {sa : Reg5} {off : BitVec 24} (free : Nat) {x : Stop}
    (h : k.check (scalarAddr k sa off) n n = some x) : scalarLoad n sd sa 0 off free k = .stop x := by
  simp [scalarLoad, h]

theorem scalarStore_of_check {n : Nat} (ss : Reg5) {sa : Reg5} {off : BitVec 24} {x : Stop}
    (h : k.check (scalarAddr k sa off) n n = some x) : scalarStore n ss sa 0 off k = .stop x := by
  simp [scalarStore, h]

/-- How R66 and R68 end an access of `n` bytes at SA + OFFSET, `run` being its outcome for each value of the field marked zero: that field,
then the alignment, then the range. -/
def AccessTraps (s : State) (c : Nat) (k : Core) (n : Nat) (sa : Reg5) (off : BitVec 24) (run : BitVec 20 → Res) (zero : BitVec 20) : Prop :=
  (zero ≠ 0 → run zero = .next (s.endedWith c k 0x0B 0 0)) ∧
  (scalarAddr k sa off % n ≠ 0 → run 0 = .next (s.endedWith c k 0x03 0x0302 0)) ∧
  (scalarAddr k sa off % n = 0 → k.limit < scalarAddr k sa off + n → run 0 = .next (s.endedWith c k 0x03 0x0303 0))

/-- An operation has the traps when it tests the field marked zero, and then the address as `Core.check` does. -/
theorem onCore_accessTraps (h : s.Runs c k) (n : Nat) (sa : Reg5) (off : BitVec 24) (op : BitVec 20 → Nat → Core → KRes)
    (hzero : ∀ z, z ≠ 0 → op z k.draws k = .stop .invalid)
    (hcheck : ∀ x, k.check (scalarAddr k sa off) n n = some x → op 0 k.draws k = .stop x) (zero : BitVec 20) :
    AccessTraps s c k n sa off (fun z => onCore c s (op z)) zero :=
  ⟨fun hz => onCore_stop h (hzero zero hz),
   fun ha => onCore_stop h (hcheck _ (Core.check_of_misaligned ha)),
   fun ha hr => onCore_stop h (hcheck _ (Core.check_of_beyond ha hr))⟩

theorem scalarLoad_accessTraps (h : s.Runs c k) (n : Nat) (sd sa : Reg5) (off : BitVec 24) (zero : BitVec 20) :
    AccessTraps s c k n sa off (fun z => onCore c s (scalarLoad n sd sa z off)) zero :=
  onCore_accessTraps h n sa off (fun z => scalarLoad n sd sa z off)
    (fun _ hz => scalarLoad_of_zero_ne n sd sa off k.draws hz) (fun _ hx => scalarLoad_of_check sd k.draws hx) zero

theorem scalarStore_accessTraps (h : s.Runs c k) (n : Nat) (ss sa : Reg5) (off : BitVec 24) (zero : BitVec 20) :
    AccessTraps s c k n sa off (fun z => onCore c s (fun _ => scalarStore n ss sa z off)) zero :=
  onCore_accessTraps h n sa off (fun z _ => scalarStore n ss sa z off)
    (fun _ hz => scalarStore_of_zero_ne n ss sa off hz) (fun _ hx => scalarStore_of_check ss hx) zero

end Access

/-- Settles O16: each width's load is `scalarLoad` of its bytes and each store `scalarStore`. -/
theorem loadStoreTraps : Obligations.LoadStoreTraps := by
  intro s c k r sa zero off h
  exact ⟨scalarLoad_accessTraps h 1 r sa off zero, scalarLoad_accessTraps h 2 r sa off zero,
    scalarLoad_accessTraps h 4 r sa off zero, scalarLoad_accessTraps h 8 r sa off zero,
    scalarStore_accessTraps h 1 r sa off zero, scalarStore_accessTraps h 2 r sa off zero,
    scalarStore_accessTraps h 4 r sa off zero, scalarStore_accessTraps h 8 r sa off zero⟩

end Sys2Proof.Machine

/-! ### F32 to integer (R65) -/

namespace Sys2Proof.Fp

/-- An integer limited to the signed 64-bit range. -/
def saturate64 (x : Int) : Int := max (-2 ^ 63) (min x (2 ^ 63 - 1))

/-- The magnitude of a finite value, rounded toward zero. -/
def truncMag (v : F32) : Nat := if 0 ≤ expo v then mant v * 2 ^ (expo v).toNat else mant v / 2 ^ (-expo v).toNat

/-- A finite value rounded toward zero: R65 before it saturates. -/
def truncInt (v : F32) : Int := (if sign v then -1 else 1) * (truncMag v : Int)

/-- The same as the integer expression of its significand and exponent. -/
theorem truncMag_cast (v : F32) :
    (truncMag v : Int) = if 0 ≤ expo v then (mant v : Int) * 2 ^ (expo v).toNat else (mant v : Int) / 2 ^ (-expo v).toNat := by
  unfold truncMag
  split <;> push_cast <;> rfl

/-- The word of a sign and a magnitude, saturated: the last two branches of `toInt64`. -/
def signedWord (neg : Bool) (mag : Nat) : BitVec 64 :=
  if neg then (if mag ≥ 2 ^ 63 then BitVec.ofNat 64 (2 ^ 63) else BitVec.ofInt 64 (-(mag : Int)))
  else (if mag ≥ 2 ^ 63 then BitVec.ofNat 64 (2 ^ 63 - 1) else BitVec.ofNat 64 mag)

/-- The magnitude that `toInt64` saturates: exponents above 64 count as 64. -/
def convMag (v : F32) : Nat :=
  if isInf v then 2 ^ 64
  else if expo v ≥ 0 then mant v * 2 ^ (min (expo v) 64).toNat
  else mant v / 2 ^ (-expo v).toNat

theorem toInt64_of_isNaN {v : F32} (h : isNaN v = true) : toInt64 v = 0#64 := if_pos h

theorem toInt64_of_not_isNaN {v : F32} (h : ¬ isNaN v = true) : toInt64 v = signedWord (sign v) (convMag v) := if_neg h

theorem signedWord_of_ge {mag : Nat} (neg : Bool) (h : 2 ^ 63 ≤ mag) :
    signedWord neg mag = BitVec.ofInt 64 (if neg then -2 ^ 63 else 2 ^ 63 - 1) := by
  cases neg <;> simp only [signedWord, ge_iff_le, h, if_true] <;> rfl

theorem signedWord_of_lt {mag : Nat} (neg : Bool) (h : mag < 2 ^ 63) :
    signedWord neg mag = BitVec.ofInt 64 ((if neg then -1 else 1) * (mag : Int)) := by
  have hge : ¬ 2 ^ 63 ≤ mag := Nat.not_le.mpr h
  cases neg
  · rw [signedWord, if_neg Bool.false_ne_true, if_neg hge, if_neg Bool.false_ne_true, one_mul, BitVec.ofInt_natCast]
  · rw [signedWord, if_pos rfl, if_neg hge, if_pos rfl, neg_one_mul]

theorem saturate64_of_ge {mag : Nat} (neg : Bool) (h : 2 ^ 63 ≤ mag) :
    saturate64 ((if neg then -1 else 1) * (mag : Int)) = if neg then -2 ^ 63 else 2 ^ 63 - 1 := by
  cases neg <;> simp [saturate64] <;> omega

theorem saturate64_of_lt {mag : Nat} (neg : Bool) (h : mag < 2 ^ 63) :
    saturate64 ((if neg then -1 else 1) * (mag : Int)) = (if neg then -1 else 1) * (mag : Int) := by
  cases neg <;> simp [saturate64] <;> omega

/-- Magnitudes that are equal, or both beyond the range, give one word: the saturated integer of either. -/
theorem signedWord_eq_saturate64 {mag mag' : Nat} (neg : Bool) (h : mag = mag' ∨ (2 ^ 63 ≤ mag ∧ 2 ^ 63 ≤ mag')) :
    signedWord neg mag = BitVec.ofInt 64 (saturate64 ((if neg then -1 else 1) * (mag' : Int))) := by
  by_cases hbig : 2 ^ 63 ≤ mag
  · have hbig' : 2 ^ 63 ≤ mag' := by omega
    rw [signedWord_of_ge neg hbig, saturate64_of_ge neg hbig']
  · have heq : mag = mag' := by omega
    rw [← heq, signedWord_of_lt neg (by omega), saturate64_of_lt neg (by omega)]

/-- A value with a non-negative exponent is normal, so its significand has its leading bit. -/
theorem mant_ge_of_expo_nonneg {v : F32} (h : 0 ≤ expo v) : 2 ^ 23 ≤ mant v := by
  have hnormal : expField v ≠ 0 := by
    intro h0
    simp [expo, h0] at h
  rw [mant, if_neg hnormal]
  exact Nat.le_add_left _ _

/-- Counting exponents above 64 as 64 changes no magnitude that saturation keeps. -/
theorem convMag_agrees {v : F32} (h : ¬ isInf v = true) :
    convMag v = truncMag v ∨ (2 ^ 63 ≤ convMag v ∧ 2 ^ 63 ≤ truncMag v) := by
  by_cases he : 0 ≤ expo v
  · by_cases hsmall : expo v ≤ 64
    · left
      simp [convMag, truncMag, h, he, min_eq_left hsmall]
    · right
      have hbeyond : ∀ e : Nat, 64 ≤ e → 2 ^ 63 ≤ mant v * 2 ^ e := fun e hle =>
        calc 2 ^ 63 ≤ 1 * 2 ^ e := by
              rw [one_mul]
              exact Nat.pow_le_pow_right (by decide) (by omega)
          _ ≤ mant v * 2 ^ e := Nat.mul_le_mul_right _ (le_trans (by decide) (mant_ge_of_expo_nonneg he))
      simp only [convMag, truncMag, h, he, if_true, if_false, Bool.false_eq_true]
      exact ⟨hbeyond _ (by omega), hbeyond _ (by omega)⟩
  · left
    simp [convMag, truncMag, h, he]

theorem toInt64_of_isInf {v : F32} (hnan : ¬ isNaN v = true) (hinf : isInf v = true) :
    toInt64 v = BitVec.ofInt 64 (if sign v then -2 ^ 63 else 2 ^ 63 - 1) := by
  have hmag : convMag v = 2 ^ 64 := if_pos hinf
  rw [toInt64_of_not_isNaN hnan, hmag, signedWord_of_ge _ (by decide)]

theorem toInt64_of_finite {v : F32} (hnan : ¬ isNaN v = true) (hinf : ¬ isInf v = true) :
    toInt64 v = BitVec.ofInt 64 (saturate64 (truncInt v)) := by
  rw [toInt64_of_not_isNaN hnan, signedWord_eq_saturate64 _ (convMag_agrees hinf), truncInt]

end Sys2Proof.Fp

namespace Sys2Proof.Machine

/-- A scalar operation that has the register form completes with its value in SD. -/
theorem onCore_scalarOp_reg {s : State} {c : Nat} {k : Core} (h : s.Runs c k) (hpc : k.pc + 1 < k.d.codeLen)
    (f : Word64 → Word64 → Word64) (hasImm : Bool) (sd sa sb : Reg5) :
    onCore c s (fun _ => scalarOp f true hasImm sd sa (.reg sb 0)) =
      .next (s.completed c (k.setS sd (f (k.s sa) (k.s sb))) (k.pc + 1)) := by
  have hop : scalarOp f true hasImm sd sa (.reg sb 0) k = .go (k.setS sd (f (k.s sa) (k.s sb))) := rfl
  rw [onCore_runs h, hop, State.land_go s c k _ hpc]

theorem exec_fcvtI64F32 {s : State} {c : Nat} {k : Core} (h : s.Runs c k) (hpc : k.pc + 1 < k.d.codeLen) (sd sa sb : Reg5) :
    exec (.fcvtI64F32 c sd sa (.reg sb 0)) s =
      .next (s.completed c (k.setS sd (Fp.toInt64 (f32Of (k.s sa)))) (k.pc + 1)) :=
  onCore_scalarOp_reg h hpc fcvtI64F32Word false sd sa sb

/-- Settles O10, by the three kinds of source: a NaN, an infinity, a finite value. -/
theorem conversionToInteger : Obligations.ConversionToInteger := by
  intro s c k sd sa sb h hpc a gives clamp sign magnitude
  rw [exec_fcvtI64F32 h hpc]
  have hsource : f32Of (k.s sa) = a := rfl
  by_cases hnan : Fp.isNaN a = true
  · rw [if_pos hnan, hsource, Fp.toInt64_of_isNaN hnan]
    rfl
  by_cases hinf : Fp.isInf a = true
  · rw [if_neg hnan, if_pos hinf, hsource, Fp.toInt64_of_isInf hnan hinf]
    split <;> rfl
  · rw [if_neg hnan, if_neg hinf, hsource, Fp.toInt64_of_finite hnan hinf, Fp.truncInt, Fp.truncMag_cast]
    rfl

end Sys2Proof.Machine

/-! ### Loads of vector and mask registers (R142, R144, R146, R147) -/

namespace Sys2Proof.Machine

/-- An instruction of the vector engine has completed on core `c`: it leaves the registers of `k'`, and the engine has counted `beats`. -/
def CompletesVector (s : State) (c : Nat) (k k' : Core) (beats : Nat) (r : Res) : Prop :=
  ∃ t, r = .next t ∧ Completes s c { k' with pc := k.pc + 1, opens := k.opens + 1 } t ∧
    t.get (F.SEL_VEC_BEATS_BEATS c) = (s.get (F.SEL_VEC_BEATS_BEATS c) + beats) % 2 ^ 64

theorem State.get_setCore (s : State) (c : Nat) (k : Core) (f : RF) : (s.setCore c k).get f = s.get f := rfl

/-- A counter reads the sum, wrapped at its width. -/
theorem State.get_bump (s : State) (f : RF) (n : Nat) (hw : f.w ≤ 64) (hr : f.rst < 2 ^ 64) :
    (s.bump f n).get f = (s.get f + n) % 2 ^ f.w := State.get_put s f _ hw hr

section VectorEngine

variable {s : State} {c : Nat} {k : Core}

/-- An instruction whose operation answers `k'`, which has drawn no open value itself, and counts nothing but its beats. -/
theorem exec_completesVector (h : s.Runs c k) (hpc : k.pc + 1 < k.d.codeLen) {i : Instr} {f : Nat → Core → KRes}
    (hi : exec i s = onCore c s f) (hmask : execMask i = 0x1000000078) {k' : Core} {beats : Nat}
    (hf : f k.draws k = .ok k' (vecBeats c beats) none) (hopens : k'.opens = k.opens) :
    CompletesVector s c k k' beats (exec i s) := by
  have hnext : exec i s = .next ((s.bump (F.SEL_VEC_BEATS_BEATS c) beats).setCore c { k' with pc := k.pc + 1, opens := k.opens + 1 }) := by
    rw [hi, onCore_runs h, hf, State.land_ok s c k k' _ hpc, hopens]
    rfl
  have hframe : covers [.regs .fct, .regs .mx, .regs .qnt, .regs .sel, .cores] (execMask i) = true := by
    rw [hmask]
    decide
  refine ⟨_, hnext, ⟨State.core_setCore _ c _, fun d hd => ?_, (exec_within i s).changesOnly hframe hnext⟩, ?_⟩
  · exact State.core_setCore_ne (s.bump (F.SEL_VEC_BEATS_BEATS c) beats) _ hd
  · rw [State.get_setCore]
    exact State.get_bump s (F.SEL_VEC_BEATS_BEATS c) beats le_rfl (Nat.two_pow_pos 64)

theorem Core.check_of_fits {a n align : Nat} (ha : a % align = 0) (h : a + n ≤ k.limit) : k.check a n align = none := by
  have hin : k.inStore a n = true := decide_eq_true h
  rw [Core.check, if_neg (not_not.mpr ha), if_pos hin]

theorem Core.setM_opens (k : Core) {r : Reg3} (b : BitVec 512) : (k.setM r b).opens = k.opens := by
  by_cases hr : r = 0
  · rw [hr, Core.setM_zero]
  · rw [Core.setM_of_ne_zero k b hr]

/-- What VLD makes of an element's code: its F32 value with WIDEN, else the code zero-extended (R144, R146). -/
def vldLane (widen : BitVec 1) (e : Nat) : Nat → F32 := if widen = 1 then Fmt.widen e else BitVec.ofNat 32

/-- An F32 code is its own value, so that VLD need not tell F32 with WIDEN from F32 without. -/
theorem widen_f32 : Fmt.widen Fmt.f32 = BitVec.ofNat 32 := rfl

/-- The lanes that VLD writes, by the two branches of its definition. -/
theorem map_vldLane (widen : BitVec 1) (e : Nat) (codes : List Nat) :
    (if widen = 1 ∧ e ≠ Fmt.f32 then codes.map (Fmt.widen e) else codes.map (BitVec.ofNat 32)) = codes.map (vldLane widen e) := by
  by_cases hw : widen = 1
  · by_cases hf : e = Fmt.f32
    · rw [if_neg (fun h => h.2 hf), vldLane, if_pos hw, hf, widen_f32]
    · rw [if_pos ⟨hw, hf⟩, vldLane, if_pos hw]
  · rw [if_neg (fun h => hw h.1), vldLane, if_neg hw]

theorem vldOp_of_check (vd : Reg5) {sa : Reg5} {elem : BitVec 8} {widen : BitVec 1} (free : Nat) (he : elem.toNat ≤ 6)
    (hwiden : widen = 1 → 1 ≤ elem.toNat ∧ elem.toNat ≤ 5) (hc : k.check (k.at_ sa) (lanesBytes elem.toNat) 64 = none) :
    vldOp c vd sa elem widen 0 free k =
      .ok (k.setV vd ((elemCodes elem.toNat 512 (k.load free (k.at_ sa) (lanesBytes elem.toNat))).map (vldLane widen elem.toNat)))
        (vecBeats c (if elem.toNat = 5 then 2 else 1)) none := by
  have hlegal : ¬ ((0 : BitVec 35) ≠ 0 ∨ Fmt.reserved elem.toNat = true ∨ (widen = 1 ∧ (elem.toNat = Fmt.raw ∨ elem.toNat = Fmt.s8))) := by
    rintro (hz | hres | ⟨hw, hfmt⟩)
    · exact hz rfl
    · have hres' : elem.toNat > 6 := of_decide_eq_true hres
      omega
    · have hrange := hwiden hw
      simp only [Fmt.raw, Fmt.s8] at hfmt
      omega
  simp only [vldOp, if_neg hlegal, hc, map_vldLane]
  rfl

theorem vmsetOp_of_ne_zero {md : Reg3} (sa : Reg5) (h : md ≠ 0) :
    vmsetOp c md sa 0 k = .ok (k.setM md (BitVec.ofNat 512 (2 ^ min (k.s sa).toNat 512 - 1))) (vecBeats c 1) none :=
  if_neg (not_or.mpr ⟨not_not.mpr rfl, h⟩)

theorem vmldOp_of_check {md : Reg3} {sa : Reg5} (free : Nat) (h : md ≠ 0) (hc : k.check (k.at_ sa) 64 64 = none) :
    vmldOp c md sa 0 free k = .ok (k.setM md (BitVec.ofNat 512 (leNat (k.load free (k.at_ sa) 64)))) (vecBeats c 1) none := by
  rw [vmldOp, if_neg (not_or.mpr ⟨not_not.mpr rfl, h⟩), hc]

/-- VLD completes at an aligned address in the store, on a format that it takes. -/
theorem exec_vld (h : s.Runs c k) (hpc : k.pc + 1 < k.d.codeLen) (vd : Reg5) {sa : Reg5} {elem : BitVec 8} {widen : BitVec 1}
    (he : elem.toNat ≤ 6) (hwiden : widen = 1 → 1 ≤ elem.toNat ∧ elem.toNat ≤ 5)
    (ha : k.at_ sa % 64 = 0) (hr : k.at_ sa + lanesBytes elem.toNat ≤ k.limit) :
    CompletesVector s c k (k.setV vd ((elemCodes elem.toNat 512 (k.load k.draws (k.at_ sa) (lanesBytes elem.toNat))).map (vldLane widen elem.toNat)))
      (if elem.toNat = 5 then 2 else 1) (exec (.vld c vd sa elem widen 0) s) :=
  exec_completesVector h hpc rfl rfl (vldOp_of_check vd k.draws he hwiden (Core.check_of_fits ha hr)) rfl

end VectorEngine

/-- Settles O21: each operation answers the core with its one register written, and the beats it counts. -/
theorem vectorLoads : Obligations.VectorLoads := by
  intro s c k vd sa md elem h hpc a limit gives e codes
  refine ⟨fun he ha hr => ?vld, fun hlo hhi ha hr => ?widened, ?vbcast, fun hmd => ?vmset, fun hmd ha hr => ?vmld⟩
  case vld => exact exec_vld (widen := 0) h hpc vd he (fun hw => absurd hw (by decide)) ha hr
  case widened => exact exec_vld (widen := 1) h hpc vd (Nat.le_succ_of_le hhi) (fun _ => ⟨hlo, hhi⟩) ha hr
  case vbcast => exact exec_completesVector (f := fun _ => vbcastOp c vd sa 0) h hpc rfl rfl rfl rfl
  case vmset => exact exec_completesVector (f := fun _ => vmsetOp c md sa 0) h hpc rfl rfl (vmsetOp_of_ne_zero sa hmd) (k.setM_opens _)
  case vmld => exact exec_completesVector h hpc rfl rfl (vmldOp_of_check k.draws hmd (Core.check_of_fits ha hr)) (k.setM_opens _)

end Sys2Proof.Machine

/-! ### The event recorder (R472 to R478) -/

namespace Sys2Proof.Machine

/-- The number of a list of bytes lies below 256 to the list's length. -/
theorem leNat_lt (bs : List Byte) : leNat bs < 256 ^ bs.length := by
  induction bs with
  | nil => exact Nat.one_pos
  | cons b r ih =>
    have hb : b.toNat < 256 := b.isLt
    rw [leNat, List.length_cons, Nat.pow_succ']
    omega

theorem State.get_lt (s : State) (f : RF) (hr : f.rst < 2 ^ 64) : s.get f < 2 ^ 64 := Nat.xor_lt_two_pow (BitVec.isLt _) hr

theorem State.get_of_on {s : State} {f : RF} (h : s.on f = true) : s.get f = 1 := eq_of_beq h

/-- Time running on changes the time and the operating seconds alone. -/
theorem State.get_tick_ne (s : State) (time : Nat) {f : RF} (hnow : f.id ≠ F.DSP_TIME_NOW.id) (hsec : f.id ≠ F.EVR_TIME_OP_SECONDS.id) :
    (s.tick time).get f = s.get f :=
  (State.get_put_ne _ _ f _ hsec.symm).trans (State.get_put_ne s _ f _ hnow.symm)

/-! #### Registers written one after another -/

section PutAll

variable {f : Nat → RF} (v : Nat → Nat)

theorem State.rec_foldl_put (l : List Nat) (s : State) : (l.foldl (fun t n => t.put (f n) (v n)) s).rec_ = s.rec_ := by
  induction l generalizing s with
  | nil => rfl
  | cons n l ih => exact ih _

theorem State.get_foldl_put_ne {l : List Nat} {g : RF} (h : ∀ n ∈ l, (f n).id ≠ g.id) (s : State) :
    (l.foldl (fun t n => t.put (f n) (v n)) s).get g = s.get g := by
  induction l generalizing s with
  | nil => rfl
  | cons n l ih =>
    obtain ⟨hn, hl⟩ := List.forall_mem_cons.mp h
    exact (ih hl _).trans (State.get_put_ne s (f n) g _ hn)

/-- Of registers with different identities, each holds its own value after all are written. -/
theorem State.get_foldl_put {l : List Nat} (hl : l.Pairwise fun m n => (f n).id ≠ (f m).id) {k : Nat} (hk : k ∈ l)
    (hw : (f k).w ≤ 64) (hr : (f k).rst < 2 ^ 64) (s : State) :
    (l.foldl (fun t n => t.put (f n) (v n)) s).get (f k) = v k % 2 ^ (f k).w := by
  induction l generalizing s with
  | nil => exact absurd hk List.not_mem_nil
  | cons n l ih =>
    obtain ⟨hn, hl⟩ := List.pairwise_cons.mp hl
    rcases List.mem_cons.mp hk with rfl | hk
    · exact (State.get_foldl_put_ne v hn _).trans (State.get_put s _ _ hw hr)
    · exact ih hl hk _

end PutAll

/-! #### The windows (R475) -/

/-- Word `k` of a window that shows `r`: eight bytes of the record, and zero where there is none. -/
def shownWord (r : Option EvRec) (k : Nat) : Nat := match r with
  | some r => leNat ((r.bytes.drop (8 * k)).take 8)
  | none => 0

theorem shownWord_lt (r : Option EvRec) (k : Nat) : shownWord r k < 2 ^ 64 := by
  cases r with
  | none => exact Nat.two_pow_pos 64
  | some r => exact (leNat_lt _).trans_le (Nat.pow_le_pow_right (by decide) (List.length_take_le 8 _))

/-- The recorder with the copy of window `w` replaced. -/
def Recorder.setLatch (x : Recorder) (w : Nat) (r : Option EvRec) : Recorder :=
  if w = 0 then { x with latch0 := r } else { x with latch1 := r }

theorem Recorder.latch_setLatch (x : Recorder) (w : Nat) (r : Option EvRec) : (x.setLatch w r).latch w = r := by
  by_cases hw : w = 0 <;> simp [Recorder.setLatch, Recorder.latch, hw]

theorem Recorder.store_setLatch (x : Recorder) (w : Nat) (r : Option EvRec) : (x.setLatch w r).store = x.store := by
  by_cases hw : w = 0 <;> simp [Recorder.setLatch, hw]

/-- A latch replaces the window's copy and writes the eight words of the record. -/
theorem State.latch_eq (s : State) (w : Nat) :
    s.latch w = (List.range 8).foldl (fun t n => t.put (F.EVR_REC_WORD w n) (shownWord (s.recordFrom (s.get (F.EVR_CURSOR_SEQ w))) n))
      { s with rec_ := s.rec_.setLatch w (s.recordFrom (s.get (F.EVR_CURSOR_SEQ w))) } := by
  unfold State.latch
  cases s.recordFrom (s.get (F.EVR_CURSOR_SEQ w)) <;> rfl

theorem State.rec_latch (s : State) (w : Nat) :
    (s.latch w).rec_ = s.rec_.setLatch w (s.recordFrom (s.get (F.EVR_CURSOR_SEQ w))) := by
  rw [State.latch_eq, State.rec_foldl_put]

theorem F.EVR_REC_WORD_ne_cursor (w n : Nat) : (F.EVR_REC_WORD w n).id ≠ (F.EVR_CURSOR_SEQ w).id := by
  simp only [F.EVR_REC_WORD, F.EVR_CURSOR_SEQ]
  omega

theorem F.EVR_REC_WORD_pairwise (w : Nat) : (List.range 8).Pairwise fun m n => (F.EVR_REC_WORD w n).id ≠ (F.EVR_REC_WORD w m).id := by
  refine List.pairwise_lt_range.imp_of_mem fun {m n} hm hn hmn => ?_
  simp only [List.mem_range] at hm hn
  simp only [F.EVR_REC_WORD]
  omega

theorem State.cursor_latch (s : State) (w : Nat) : (s.latch w).get (F.EVR_CURSOR_SEQ w) = s.get (F.EVR_CURSOR_SEQ w) := by
  rw [State.latch_eq, State.get_foldl_put_ne _ (fun n _ => F.EVR_REC_WORD_ne_cursor w n)]
  rfl

theorem State.word_latch (s : State) (w : Nat) {k : Nat} (hk : k < 8) :
    (s.latch w).get (F.EVR_REC_WORD w k) = shownWord (s.recordFrom (s.get (F.EVR_CURSOR_SEQ w))) k := by
  rw [State.latch_eq, State.get_foldl_put _ (F.EVR_REC_WORD_pairwise w) (List.mem_range.mpr hk) le_rfl (Nat.two_pow_pos 64)]
  exact Nat.mod_eq_of_lt (shownWord_lt _ k)

theorem State.advance_of_none {s : State} {w : Nat} (h : s.rec_.latch w = none) : s.advance w = s := by
  rw [State.advance, h]

theorem State.advance_of_some {s : State} {w : Nat} {r : EvRec} (h : s.rec_.latch w = some r) :
    s.advance w = s.put (F.EVR_CURSOR_SEQ w) (r.seq + 1) := by
  rw [State.advance, h]

theorem execEvrRecRead_of_absent {w n : Nat} (s : State) (h : 2 ≤ w ∨ 8 ≤ n) : execEvrRecRead w n s = .next s := if_pos h

theorem execEvrRecRead_zero {w : Nat} (s : State) (hw : w < 2) : execEvrRecRead w 0 s = .next (s.latch w) := by
  have hhere : ¬ (2 ≤ w ∨ 8 ≤ 0) := by omega
  rw [execEvrRecRead, if_neg hhere, if_pos rfl]

theorem execEvrRecRead_seven {w : Nat} (s : State) (hw : w < 2) : execEvrRecRead w 7 s = .next (s.advance w) := by
  have hhere : ¬ (2 ≤ w ∨ 8 ≤ 7) := by omega
  rw [execEvrRecRead, if_neg hhere, if_neg (by decide), if_pos rfl]

theorem execEvrRecRead_between {w n : Nat} (s : State) (hw : w < 2) (hpos : 0 < n) (hlt : n < 7) : execEvrRecRead w n s = .next s := by
  have hhere : ¬ (2 ≤ w ∨ 8 ≤ n) := by omega
  rw [execEvrRecRead, if_neg hhere, if_neg hpos.ne', if_neg hlt.ne]

/-! #### Records that enter the store (R472, R473, R476) -/

/-- A record that enters changes the store and the next SEQ; one that is dropped is counted. -/
theorem State.enter_cases (s : State) (r : EvRec) :
    (∃ l, s.enter r = ({ s with rec_ := { s.rec_ with store := l } }).put F.EVR_SEQ_NEXT (s.get F.EVR_SEQ_NEXT + 1)) ∨
      s.enter r = s.bumpSat F.EVR_DROPPED_DROPPED 1 := by
  unfold State.enter
  dsimp only
  split
  · exact .inl ⟨_, rfl⟩
  · split
    · exact .inl ⟨_, rfl⟩
    · split
      · exact .inl ⟨_, rfl⟩
      · exact .inr rfl

/-- With a free slot, a record goes to the end of the store with the next SEQ. -/
theorem State.enter_of_free {s : State} (r : EvRec) (h : s.rec_.store.length < storeSlots) :
    s.enter r = ({ s with rec_ := { s.rec_ with store := s.rec_.store ++ [{ r with seq := s.get F.EVR_SEQ_NEXT }] } }).put F.EVR_SEQ_NEXT
      (s.get F.EVR_SEQ_NEXT + 1) := if_pos h

@[simp] theorem State.hold_enter (s : State) (r : EvRec) : (s.enter r).rec_.hold = s.rec_.hold := by
  obtain ⟨l, h⟩ | h := s.enter_cases r <;> rw [h] <;> rfl

@[simp] theorem State.freeze_enter (s : State) (r : EvRec) : (s.enter r).get F.EVR_CTL_FREEZE = s.get F.EVR_CTL_FREEZE := by
  obtain ⟨l, h⟩ | h := s.enter_cases r <;> rw [h] <;> exact State.get_put_ne _ _ _ _ (by decide)

/-- Records that enter the store one after another. -/
def State.enterAll (s : State) (l : List EvRec) : State := l.foldl (fun t r => t.enter r) s

theorem State.enterAll_concat (s : State) (l : List EvRec) (r : EvRec) : s.enterAll (l ++ [r]) = (s.enterAll l).enter r :=
  List.foldl_concat ..

@[simp] theorem State.hold_enterAll (s : State) (l : List EvRec) : (s.enterAll l).rec_.hold = s.rec_.hold := by
  induction l generalizing s with
  | nil => rfl
  | cons r l ih => exact (ih _).trans (s.hold_enter r)

@[simp] theorem State.freeze_enterAll (s : State) (l : List EvRec) : (s.enterAll l).get F.EVR_CTL_FREEZE = s.get F.EVR_CTL_FREEZE := by
  induction l generalizing s with
  | nil => rfl
  | cons r l ih => exact (ih _).trans (s.freeze_enter r)

/-- Records for which slots are free go to the end of the store, each with the next SEQ. -/
theorem State.enterAll_of_free {s : State} {l : List EvRec} (h : s.rec_.store.length + l.length ≤ storeSlots) :
    s.rec_.store <+: (s.enterAll l).rec_.store ∧ (s.enterAll l).rec_.store.length = s.rec_.store.length + l.length ∧
      (s.enterAll l).get F.EVR_SEQ_NEXT = (s.get F.EVR_SEQ_NEXT + l.length) % 2 ^ 64 := by
  induction l generalizing s with
  | nil => exact ⟨List.prefix_rfl, rfl, (Nat.mod_eq_of_lt (s.get_lt _ (by decide))).symm⟩
  | cons r l ih =>
    rw [List.length_cons] at h ⊢
    have henter := s.enter_of_free r (by omega)
    have hstore : (s.enter r).rec_.store = s.rec_.store ++ [{ r with seq := s.get F.EVR_SEQ_NEXT }] := by rw [henter]; rfl
    have hlen : (s.enter r).rec_.store.length = s.rec_.store.length + 1 := by rw [hstore, List.length_append]; rfl
    have hseq : (s.enter r).get F.EVR_SEQ_NEXT = (s.get F.EVR_SEQ_NEXT + 1) % 2 ^ 64 := by
      rw [henter]
      exact State.get_put _ _ _ (by decide) (by decide)
    obtain ⟨hpre, hlen', hseq'⟩ := ih (s := s.enter r) (by omega)
    refine ⟨(hstore ▸ List.prefix_append _ _ : s.rec_.store <+: (s.enter r).rec_.store).trans hpre, ?_, ?_⟩
    · exact hlen'.trans (by omega)
    · exact hseq'.trans (by omega)

/-- The recorder once FREEZE is cleared at `time`, the hold buffer emptied and none of its records entered yet. -/
def State.opened (s : State) (time : Nat) : State :=
  let t := (s.tick time).put F.EVR_CTL_FREEZE 0
  { t with rec_ := { t.rec_ with hold := [] } }

theorem State.thaw_opened (s : State) (time : Nat) :
    ((s.tick time).put F.EVR_CTL_FREEZE 0).thaw = (s.opened time).enterAll s.rec_.hold := rfl

theorem State.freeze_opened (s : State) (time : Nat) : (s.opened time).get F.EVR_CTL_FREEZE = 0 :=
  State.get_put (s.tick time) F.EVR_CTL_FREEZE 0 (by decide) (by decide)

theorem State.seq_opened (s : State) (time : Nat) : (s.opened time).get F.EVR_SEQ_NEXT = s.get F.EVR_SEQ_NEXT :=
  (State.get_put_ne (s.tick time) F.EVR_CTL_FREEZE F.EVR_SEQ_NEXT 0 (by decide)).trans (s.get_tick_ne time (by decide) (by decide))

/-- FREEZE is cleared and the hold buffer let go: what the store held stays at its front where slots are free for all `l`. -/
theorem State.enterAll_opened (s : State) (time : Nat) (l : List EvRec) :
    ((s.opened time).enterAll l).get F.EVR_CTL_FREEZE = 0 ∧ ((s.opened time).enterAll l).rec_.hold = [] ∧
      (s.rec_.store.length + l.length ≤ storeSlots → ((s.opened time).enterAll l).rec_.store.take s.rec_.store.length = s.rec_.store) := by
  refine ⟨(State.freeze_enterAll ..).trans (s.freeze_opened time), State.hold_enterAll .., fun h => ?_⟩
  obtain ⟨hpre, -, -⟩ := State.enterAll_of_free (s := s.opened time) h
  exact (List.prefix_iff_eq_take.mp hpre).symm

/-- An event outside FREEZE is a record of its code and severity that enters the store. -/
theorem State.event_of_not_frozen {s : State} (h : s.get F.EVR_CTL_FREEZE = 0) (code : Nat) (sev : Sev) (ctx : Option Nat) (arg0 arg1 : Nat) :
    ∃ r : EvRec, r.code = code ∧ r.sev = sev ∧ s.event code sev ctx arg0 arg1 = s.enter r := by
  have hoff : ¬ s.on F.EVR_CTL_FREEZE = true := by simp [State.on, h]
  exact ⟨_, rfl, rfl, if_neg hoff⟩

theorem State.getLast?_enter_of_free {s : State} {r : EvRec} (h : s.rec_.store.length < storeSlots) :
    (s.enter r).rec_.store.getLast? = some { r with seq := s.get F.EVR_SEQ_NEXT } := by
  rw [State.enter_of_free r h]
  exact List.getLast?_concat

/-! #### FREEZE (R476, R477) -/

section Freeze

variable {s : State} {time : Nat}

theorem execEvrFreezeWrite_clear {v : Nat} (ht : s.now ≤ time) (hv : v % 2 = 0) :
    execEvrFreezeWrite v time s = .next ((s.opened time).enterAll s.rec_.hold) := by
  have hclear : ¬ v % 2 = 1 := by omega
  rw [execEvrFreezeWrite, if_neg (Nat.not_lt.mpr ht)]
  exact if_neg hclear

theorem execEvrFreezeWrite_set {v : Nat} (ht : s.now ≤ time) (hv : v % 2 = 1) :
    ∃ t, execEvrFreezeWrite v time s = .next t ∧ t.get F.EVR_CTL_FREEZE = 1 ∧ t.rec_.store = s.rec_.store ∧ t.rec_.hold = s.rec_.hold := by
  have hnext := (if_neg (Nat.not_lt.mpr ht) : execEvrFreezeWrite v time s = _).trans (if_pos hv)
  refine ⟨_, hnext, ?_⟩
  split
  · exact ⟨State.get_of_on ‹_›, rfl, rfl⟩
  · exact ⟨State.get_put _ F.EVR_CTL_FREEZE 1 (by decide) (by decide), rfl, rfl⟩

/-- After 10 s the hold buffer enters the store, and then a record of the timeout. -/
theorem execFreezeTimeout_due (ht : s.now ≤ time) (hon : s.on F.EVR_CTL_FREEZE = true) (hdue : s.rec_.frozenAt + 1000000000 ≤ time) :
    ∃ r : EvRec, r.code = evEvrFreezeTimeout ∧ r.sev = .warning ∧
      execFreezeTimeout time s = .next ((s.opened time).enterAll (s.rec_.hold ++ [r])) := by
  have hoff : ((s.opened time).enterAll s.rec_.hold).get F.EVR_CTL_FREEZE = 0 := (State.freeze_enterAll ..).trans (s.freeze_opened time)
  obtain ⟨r, hcode, hsev, hevent⟩ := State.event_of_not_frozen hoff evEvrFreezeTimeout .warning none 0 0
  refine ⟨r, hcode, hsev, ?_⟩
  rw [execFreezeTimeout, if_pos ⟨hon, hdue, ht⟩, State.thaw_opened, hevent, State.enterAll_concat]

end Freeze

/-! #### The mirror and the saved seconds (R472, R478) -/

/-- The records that the next batch copies. -/
def Recorder.batch (x : Recorder) : List EvRec := (x.store.filter (fun r => !r.mirrored)).take 64

/-- A record of the store once `batch` has been copied. -/
def EvRec.after (batch : List EvRec) (r : EvRec) : EvRec := if batch.any (fun b => b.seq == r.seq) then { r with mirrored := true } else r

theorem EvRec.after_seq (batch : List EvRec) (r : EvRec) : (r.after batch).seq = r.seq := by
  unfold EvRec.after
  split <;> rfl

theorem EvRec.after_mirrored {batch : List EvRec} {r : EvRec} (h : batch.any (fun b => b.seq == r.seq) = true) :
    (r.after batch).mirrored = true := by
  rw [EvRec.after, if_pos h]

/-- While the mirror has room, a batch goes to its end. -/
theorem mirrorBatch_of_room (store : List EvRec) {mirror batch : List EvRec} (h : mirror.length + batch.length ≤ storeSlots) :
    mirrorBatch store mirror batch = mirror ++ batch := by
  have hextra : mirror.length + batch.length - storeSlots = 0 := Nat.sub_eq_zero_of_le h
  simp only [mirrorBatch, List.length_append, hextra, List.take_zero, List.any_nil, Bool.not_false, List.filter_true, List.drop_zero]

/-- The recorder once the next batch has been copied to the mirror. -/
def Recorder.copied (x : Recorder) : Recorder :=
  { x with
    store := x.store.map (EvRec.after x.batch)
    mirror := mirrorBatch (x.store.map (EvRec.after x.batch)) x.mirror (x.batch.map (fun r => { r with mirrored := true })) }

theorem Recorder.mirrored_of_mem_copied {x : Recorder} {r : EvRec} (hr : r ∈ x.copied.store)
    (hin : x.batch.any (fun b => b.seq == r.seq) = true) : r.mirrored = true := by
  obtain ⟨q, -, rfl⟩ := List.mem_map.mp hr
  rw [EvRec.after_seq] at hin
  exact EvRec.after_mirrored hin

theorem Recorder.seqs_copied (x : Recorder) : x.copied.store.map (fun r => r.seq) = x.store.map (fun r => r.seq) :=
  List.map_map.trans (List.map_congr_left fun r _ => EvRec.after_seq x.batch r)

theorem Recorder.mirror_copied {x : Recorder} (h : x.mirror.length + x.batch.length ≤ storeSlots) :
    x.copied.mirror = x.mirror ++ x.batch.map (fun r => { r with mirrored := true }) := by
  rw [Recorder.copied, mirrorBatch_of_room _ (by rwa [List.length_map])]

theorem execEvrMirror_of_batch {s : State} {time : Nat} (ht : s.now ≤ time) (hb : s.rec_.batch ≠ []) :
    execEvrMirror time s = .next { s.tick time with rec_ := s.rec_.copied } := if_pos ⟨ht, hb⟩

theorem execOpSecondsSave_due {s : State} {time : Nat} (ht : s.now ≤ time)
    (hdue : s.rec_.savedSeconds + 60 ≤ (s.tick time).get F.EVR_TIME_OP_SECONDS) :
    execOpSecondsSave time s =
      .next { s.tick time with rec_ := { s.rec_ with savedSeconds := (s.tick time).get F.EVR_TIME_OP_SECONDS } } := by
  rw [execOpSecondsSave, if_pos ht]
  exact if_pos hdue

/-- Settles O59: each clause is the rule of its command above; clearing FREEZE and its timeout are both records that enter an opened recorder. -/
theorem eventRecorder : Obligations.EventRecorder := by
  intro s seq w n v time x cursor word batch thawed
  refine ⟨⟨_, rfl, rfl, rfl⟩, execEvrRecRead_of_absent s, fun hw => ?latches, execEvrRecRead_between s, fun hw => ⟨fun hnone => ?stays, fun r hr => ?advances⟩,
    fun ht => ⟨fun hv => execEvrFreezeWrite_set ht hv, fun hv => ?clear, fun hon hdue => ?timeout, fun hb => ?mirror,
      fun hdue => ⟨_, execOpSecondsSave_due ht hdue, rfl, rfl⟩⟩⟩
  case latches =>
    have hword : ∀ r k, word r k = shownWord r k := fun r k => by cases r <;> rfl
    refine ⟨_, execEvrRecRead_zero s hw, ?_, s.cursor_latch w, ?_, fun k hk => (s.word_latch w hk).trans (hword _ k).symm⟩
    · rw [State.rec_latch, Recorder.latch_setLatch]
    · rw [State.rec_latch, Recorder.store_setLatch]
  case stays => exact (execEvrRecRead_seven s hw).trans (congrArg _ (State.advance_of_none hnone))
  case advances =>
    exact ⟨_, (execEvrRecRead_seven s hw).trans (congrArg _ (State.advance_of_some hr)), State.get_put s cursor _ le_rfl (Nat.two_pow_pos 64), rfl⟩
  case clear =>
    refine ⟨_, execEvrFreezeWrite_clear ht hv, s.enterAll_opened time x.hold, fun hfree => ?_⟩
    obtain ⟨-, hlen, hseq⟩ := State.enterAll_of_free (s := s.opened time) hfree
    exact ⟨hlen, hseq.trans (by rw [State.seq_opened])⟩
  case timeout =>
    obtain ⟨r, hcode, hsev, hnext⟩ := execFreezeTimeout_due ht hon hdue
    have hthawed := s.enterAll_opened time (x.hold ++ [r])
    rw [List.length_append, ← Nat.add_assoc] at hthawed
    refine ⟨_, hnext, hthawed, fun hfree => ?_⟩
    obtain ⟨-, hlen, -⟩ := State.enterAll_of_free (s := s.opened time) hfree.le
    rw [State.enterAll_concat]
    exact ⟨_, State.getLast?_enter_of_free (hlen.trans_lt hfree), hcode, hsev⟩
  case mirror =>
    exact ⟨_, execEvrMirror_of_batch ht hb, fun r hr hin => Recorder.mirrored_of_mem_copied hr hin, x.seqs_copied, Recorder.mirror_copied⟩

end Sys2Proof.Machine
